-- ==== Sys2Proof/Word.lean ====
section
/-! DEFINITION. The byte, the only word type of the part: ports, frames, chains and sectors are made of bytes
(00_scope.md, Sizes). -/

namespace Sys2Proof

/-- One byte (00_scope.md, Sizes). -/
abbrev Byte := BitVec 8

end Sys2Proof
end

