-- ==== Sys2Proof/Syntax.lean ====
section
/-! DEFINITION. The commands: one constructor per row of spec/opcode_table.json, with the row's operands. -/

namespace Sys2Proof

/-- A card slot (R120). -/
inductive SlotId | a | b
  deriving DecidableEq, Repr

/-- A release line (R27). -/
inductive LineId | s1 | s2
  deriving DecidableEq, Repr

/-- The kind of a sensor frame (03 section 3.1). -/
inductive FrameKind | view | capture
  deriving DecidableEq, Repr

/-- One zone of an AF block: 64 samples L and 64 samples R of 12 bits (R57). -/
structure AfZone where
  l : List (BitVec 12)
  r : List (BitVec 12)
  deriving DecidableEq, Repr

/-- What an answer of a card says of itself: the slot it comes from, and whether it is late, so that the run or read it
answers has ended, at the expiry of its timer or otherwise (R133, R140, log entry 54). -/
structure CardAnswer where
  slot : SlotId
  late : Bool
  deriving DecidableEq, Repr

/-- What a desk frame carries before its kind: destination, source and EtherType (10, section 10.4). Byte 0 of an
address is bits 7..0, byte 5 is bits 47..40. -/
structure DeskHead where
  dst : BitVec 48
  src : BitVec 48
  etherType : BitVec 16
  deriving DecidableEq, Repr

/-- The commands of the part. A request carries its tag and its payload bytes (R175, R197); a desk frame its head and
the fields of its kind; every other command what its message or input carries. -/
inductive Instr where
  -- requests of the host (08 section 8.7)
  | identify (tag : Byte) (payload : List Byte)
  | portStatus (tag : Byte) (payload : List Byte)
  | noticeMaskSet (tag : Byte) (payload : List Byte)
  | resetPartAll (tag : Byte) (payload : List Byte)
  | resetPartTether (tag : Byte) (payload : List Byte)
  | powerSetRun (tag : Byte) (payload : List Byte)
  | powerSetQuiet (tag : Byte) (payload : List Byte)
  | powerSetHalt (tag : Byte) (payload : List Byte)
  | driveSet (tag : Byte) (payload : List Byte)
  | releaseLinesSet (tag : Byte) (payload : List Byte)
  | remoteRelease (tag : Byte) (payload : List Byte)
  | driveStatus (tag : Byte) (payload : List Byte)
  | shotNumberSet (tag : Byte) (payload : List Byte)
  | sensorRestart (tag : Byte) (payload : List Byte)
  | lensAttach (tag : Byte) (payload : List Byte)
  | lensDetach (tag : Byte) (payload : List Byte)
  | afSet (tag : Byte) (payload : List Byte)
  | focusStatus (tag : Byte) (payload : List Byte)
  | lensMove (tag : Byte) (payload : List Byte)
  | lensHalt (tag : Byte) (payload : List Byte)
  | zoneReport (tag : Byte) (payload : List Byte)
  | poolStatus (tag : Byte) (payload : List Byte)
  | poolSet (tag : Byte) (payload : List Byte)
  | shotGet (tag : Byte) (payload : List Byte)
  | shotList (tag : Byte) (payload : List Byte)
  | shotProtect (tag : Byte) (payload : List Byte)
  | shotDiscard (tag : Byte) (payload : List Byte)
  | shotCollect (tag : Byte) (payload : List Byte)
  | lookSet (tag : Byte) (payload : List Byte)
  | lookGet (tag : Byte) (payload : List Byte)
  | develop (tag : Byte) (payload : List Byte)
  | developCancel (tag : Byte) (payload : List Byte)
  | developStatus (tag : Byte) (payload : List Byte)
  | histogramGet (tag : Byte) (payload : List Byte)
  | developAutoSet (tag : Byte) (payload : List Byte)
  | slotAttach (tag : Byte) (payload : List Byte)
  | slotDetach (tag : Byte) (payload : List Byte)
  | extentAdd (tag : Byte) (payload : List Byte)
  | extentFlush (tag : Byte) (payload : List Byte)
  | recordingSet (tag : Byte) (payload : List Byte)
  | slotStatus (tag : Byte) (payload : List Byte)
  | tetherSet (tag : Byte) (payload : List Byte)
  | tetherEnableOn (tag : Byte) (payload : List Byte)
  | tetherEnableOff (tag : Byte) (payload : List Byte)
  | send (tag : Byte) (payload : List Byte)
  | sendStored (tag : Byte) (payload : List Byte)
  | sendCancel (tag : Byte) (payload : List Byte)
  | tetherStatus (tag : Byte) (payload : List Byte)
  | tetherStats (tag : Byte) (payload : List Byte)
  | autoSendSet (tag : Byte) (payload : List Byte)
  -- the rest of the control port (R175 to R182)
  | unknownKind (kind tag : Byte) (payload : List Byte)
  | requestDropped (kind tag : Byte) (payload : List Byte)
  | garbledFrame (bytes : List Byte)
  | chipSelectRise
  | outboundFirstByte
  | outboundFrameLeft
  -- reset pin and supply warning (R192, R194)
  | resetPin
  | supplyWarning (asserted : Bool)
  -- release and drive (R27, R31, R36)
  | releaseLineLevel (line : LineId) (high : Bool)
  | frameTimerExpiry
  | focusWaitExpiry
  -- sensor readout (R53 to R60)
  | viewTimerExpiry
  | frameStart (kind : FrameKind) (frameId : BitVec 16) (flashReady : Bool)
  | afBlock (zones : List AfZone)
  | imageLine (samples : List Byte) (crc : BitVec 16)
  | frameEnd (lineCount : BitVec 16)
  | startTimerExpiry
  | endTimerExpiry
  -- the lens (R68, R69)
  | pos (position : BitVec 16) (moving : Bool)
  | answerTimerExpiry
  | arrived (position : BitVec 16)
  | moveTimerExpiry
  -- development (R102, R111)
  | proofRowWritten
  | deReadError
  -- the cards (R121, R133 to R140)
  | runOk (answer : CardAnswer)
  | runFail (answer : CardAnswer)
  | runTimerExpiry (slot : SlotId)
  | cwReadError (slot : SlotId)
  | readOk (answer : CardAnswer) (data : List Byte)
  | readFail (answer : CardAnswer)
  | readTimerExpiry (slot : SlotId)
  | cardLineLevel (slot : SlotId) (inserted : Bool)
  | lockLineLevel (slot : SlotId) (on : Bool)
  -- the tether (R149 to R168)
  | phyLinkUp
  | phyLinkDown
  | deskFrameDropped (frame : List Byte)
  | bind (head : DeskHead)
  | ping (head : DeskHead)
  | ack (head : DeskHead) (transfer : BitVec 16) (offset : BitVec 32)
  | finack (head : DeskHead) (transfer : BitVec 16) (result : Byte)
  | request (head : DeskHead) (number : BitVec 24) (chain : Byte)
  | remote (head : DeskHead) (count : Byte)
  | dataSend
  | tuReadError
  | helloTimerExpiry
  | deskLossTimerExpiry
  | ackTimerExpiry
  | underrunTimerExpiry
  deriving DecidableEq, Repr

end Sys2Proof
end

