-- ==== Sys2Proof/Config.lean ====
section
/-! DEFINITION. The figures the spec fixes for the part, and the free values it leaves open. -/

namespace Sys2Proof.Config

/-- Pages of the pool (R1). -/
def poolPages : Nat := 4000
/-- Bytes of a page (R1). -/
def pageBytes : Nat := 1048576
/-- Rows of the shot table (R7). -/
def tableRows : Nat := 128
/-- Pages and byte length of a raw chain (R2). -/
def rawPages : Nat := 41
def rawLength : Nat := 42000064
/-- Pages and byte length of a proof chain (R2). -/
def proofPages : Nat := 12
def proofLength : Nat := 12000064
/-- Bytes of the chain header (R2). -/
def headerBytes : Nat := 64
/-- The largest shot number (R12). -/
def maxShot : Nat := 16777215
/-- Bytes, samples and lines of a capture frame (03 section 3.1). -/
def lineBytes : Nat := 10500
def frameLines : Nat := 4000
/-- Rows and bytes per row of a proof, and pixels per row (R102, R107). -/
def proofRows : Nat := 2000
def proofRowBytes : Nat := 6000
def proofPixels : Nat := 3000
/-- Bytes of a sector; the sector needs of the chains (R131). -/
def sectorBytes : Nat := 512
/-- Sectors below which EXTENTS_LOW is raised (R126). -/
def extentsLow : Nat := 164064
/-- Sectors of one run (R133) and of one read (R140). -/
def runSectors : Nat := 256
def readSectors : Nat := 128
/-- Payload bytes of a full DATA frame (R158). -/
def dataBytes : Nat := 1408
/-- Entries of the send queue (R152). -/
def sendEntries : Nat := 64
/-- Replies the outbound queue holds (R180). -/
def maxReplies : Nat := 8
/-- The largest payload of a control frame (R175). -/
def maxPayload : Nat := 512

/-- FREE VALUE: the count a 16-bit burst count takes when it should pass 65535, which R40 and R198 do not state.
The argument is the index of the draw (State.freeUsed). DESIGN CHOICE, log entry 8. -/
opaque freeCount : Nat → BitVec 16

/-- FREE VALUE: the quotient of R74 when the measured duration is 0 us, for a given distance; R74 states no result
there. DESIGN CHOICE, log entry 9. -/
opaque speedOverZero : Nat → BitVec 32

/-- FREE VALUE: the clock after 2^64 - 1 us, which the spec does not state. The argument is the index of the draw.
DESIGN CHOICE, log entry 10. -/
opaque clockWrap : Nat → BitVec 64

end Sys2Proof.Config
end

