-- ==== Sys2Proof/Machine/State.lean ====
section
/-! DEFINITION. The state of the part, block by block, as plain data, and the state after reset. Every structure
names the rule of spec/ that gives it. -/

namespace Sys2Proof.Machine

/-- The faults that stop the machine. The part has none: sensor, lens and slot faults are states of their blocks. -/
inductive Fault where
  /-- An access outside the 4000 pages of the pool. No command names an address and every access goes through a chain,
  so nothing raises it (safe). -/
  | outsideFrameMemory
  deriving DecidableEq, Repr

/-- The refusals of the machine. -/
inductive Refusal where
  /-- Raised by an arm of exec whose command has no meaning yet (safe). Every command has one. -/
  | notModelled (mnemonic : String)
  deriving DecidableEq, Repr

/-! ### Shots, pages and the shot table (BM) -/

/-- The life of a row (R8). -/
inductive Life | exposing | pre | held | settled | void
  deriving DecidableEq, Repr

/-- The ring mark of an EXPOSING precapture row (R8, R14). -/
inductive RingMark | opened | promoted | dropped
  deriving DecidableEq, Repr

/-- The origin of a capture (R8). -/
inductive Origin | release | remoteHost | remoteDesk | precapture
  deriving DecidableEq, Repr

/-- The two kinds of chain (R2). -/
inductive Chain | raw | proof
  deriving DecidableEq, Repr

/-- The focus state (R83). -/
inductive FocusState | noLens | idle | seeking | locked | tracking | lost | noTarget | fault
  deriving DecidableEq, Repr

/-- The gate outcome of a burst (R35, R36). -/
inductive GateOutcome | focused | waitExpired | releasePriority | noLens
  deriving DecidableEq, Repr

/-- The flash field of a row (R46). -/
inductive Flash | fired | notFired | notReady
  deriving DecidableEq, Repr

/-- The recording policy (R127). -/
inductive Policy | mirror | overflow | split | singleA | singleB
  deriving DecidableEq, Repr

/-- The outcome of a SETTLED or VOID row (R8). -/
inductive ShotOutcome
  | complete | singleCopy | noCopy | discarded | noFrame | readoutTimeout | shortFrame | power
  deriving DecidableEq, Repr

/-- The state of the develop duty (R8). -/
inductive DevelopState | absent | pending | running | done | failed | cancelled
  deriving DecidableEq, Repr

/-- The class of a develop duty (R97). -/
inductive DevelopClass | urgent | normal
  deriving DecidableEq, Repr

/-- The state of a card duty (R9). -/
inductive CardState | waitingSource | waitingSlot | waitingExtents | pending | writing | done | failed
  deriving DecidableEq, Repr

/-- The cause of a FAILED card duty (R9). -/
inductive CardCause | write | locked | fault | removed | detached | discarded | sourceLost | power
  deriving DecidableEq, Repr

/-- The state of a tether duty (R9). -/
inductive TetherState | pending | sending | done | failed | cancelled
  deriving DecidableEq, Repr

/-- Where a send reads its chain (R9, R152). -/
inductive Source | buffer | card
  deriving DecidableEq, Repr

/-- The cause of a FAILED tether duty (R9). -/
inductive TetherCause | rejected | sourceLost | full | reset
  deriving DecidableEq, Repr

/-- A piece of a card copy, or an extent: start sector and sector count (R9, R120). -/
structure Piece where
  start : Nat
  count : Nat
  deriving DecidableEq, Repr

/-- The focus record of a shot (R8, R61); zone and both flags are absent when FU held no published estimate (log entry
49). -/
structure FocusRecord where
  position : Nat
  moving : Bool
  state : FocusState
  zone : Option (Nat × Nat)
  inFocus : Option Bool
  predicted : Option Bool
  gate : GateOutcome
  deriving DecidableEq, Repr

/-- A raw chain: its pages in order and its byte length (R2). -/
structure RawChain where
  pages : List Nat
  length : Nat
  deriving DecidableEq, Repr

/-- A proof chain: its pages in order, its byte length and its frontier (R2, R8). -/
structure ProofChain where
  pages : List Nat
  length : Nat
  frontier : Nat
  deriving DecidableEq, Repr

/-- A card duty of a row (R9). -/
structure CardDuty where
  slot : SlotId
  chain : Chain
  state : CardState
  pieces : List Piece
  spoiled : Bool
  cause : Option CardCause
  reassigned : Bool
  deriving DecidableEq, Repr

/-- A tether duty of a row (R9). -/
structure TetherDuty where
  chain : Chain
  state : TetherState
  source : Source
  prio : Nat
  early : Bool
  cause : Option TetherCause
  deriving DecidableEq, Repr

/-- A row of the shot table: one shot record (R8). -/
structure Row where
  index : Nat
  number : Option Nat
  life : Life
  precapture : Bool
  mark : Option RingMark
  origin : Origin
  burst : Nat
  timestamp : Nat
  protect : Bool
  discarding : Bool
  damage : Nat
  focus : Option FocusRecord
  flash : Flash
  look : Nat
  raw : Option RawChain
  proof : Option ProofChain
  develop : DevelopState
  cls : DevelopClass
  cards : List CardDuty
  tethers : List TetherDuty
  policy : Option Policy
  outcome : Option ShotOutcome
  deriving DecidableEq, Repr

/-- The Buffer Manager (R1, R6, R7, R12). -/
structure Bm where
  /-- The free set, in ascending order; the free count is its length (R1). -/
  free : List Nat
  /-- The rows in use, in allocation order (R7). -/
  rows : List Row
  nextNumber : Nat
  reserve : Nat
  threshold : Nat
  deriving DecidableEq, Repr

/-- BM after reset (R25). -/
def Bm.reset : Bm :=
  { free := List.range Config.poolPages, rows := [], nextNumber := 1, reserve := 120, threshold := 200 }

/-- Frame memory: address and byte pairs, addresses strictly rising, none equal to what an unlisted address reads as
(log entry 5). -/
abbrev Memory := List Host.Cell

/-! ### Release and drive (RDU) -/

inductive Polarity | low | high
  deriving DecidableEq, Repr

/-- A release line (R27, R28); `active` is the debounced level. -/
structure Line where
  polarity : Polarity
  active : Bool
  armed : Bool
  held : Bool
  deriving DecidableEq, Repr

inductive DriveMode | single | burst | precapture
  deriving DecidableEq, Repr

inductive Priority | focus | release
  deriving DecidableEq, Repr

inductive FlashMode | off | front | alternate
  deriving DecidableEq, Repr

/-- The drive settings (R29). -/
structure DriveSettings where
  mode : DriveMode
  rate : Nat
  limit : Nat
  depth : Nat
  priority : Priority
  wait : Nat
  flash : FlashMode
  look : Nat
  deriving DecidableEq, Repr

def DriveSettings.defaults : DriveSettings :=
  { mode := .single, rate := 10, limit := 0, depth := 10, priority := .focus, wait := 200, flash := .off, look := 0 }

/-- The drive state (02 section 2.4); STALLED notes the state it came from (R38). -/
inductive Drive | idle | ready | precapturing | waitingFocus | firing | stalledFiring | stalledPrecapturing
  deriving DecidableEq, Repr

/-- The end cause of a burst record (R40). -/
inductive EndCause | opened | s2Up | limit | remoteDone | power
  deriving DecidableEq, Repr

/-- The cause of a skipped attempt (R38). -/
inductive SkipCause | busy | buffer | table
  deriving DecidableEq, Repr

/-- The burst record (R40). -/
structure BurstRecord where
  id : Nat
  firstShot : Nat
  captured : Nat
  skipBusy : Nat
  skipBuffer : Nat
  skipTable : Nat
  cause : EndCause
  deriving DecidableEq, Repr

/-- The release that runs, from the opening of its burst to its close (R34, R35, R37, R40). -/
structure Release where
  single : Bool
  origin : Origin
  gate : GateOutcome
  granted : Bool
  ending : Option EndCause
  deriving DecidableEq, Repr

/-- A capture readout that RDU started and that has not ended (R37). -/
structure Capture where
  row : Nat
  ofBurst : Bool
  deriving DecidableEq, Repr

/-- The Release and Drive Unit (02). -/
structure Rdu where
  s1 : Line
  s2 : Line
  active : DriveSettings
  pending : Option DriveSettings
  drive : Drive
  timer : Bool
  focusWait : Bool
  waiter : Option Origin
  ring : List Nat
  openRow : Option Nat
  counter : Nat
  remoteCount : Nat
  nextBurst : Nat
  burstId : Nat
  release : Option Release
  capture : Option Capture
  record : Option BurstRecord
  /-- Flash phase: true is FIRE (R46). -/
  phaseFire : Bool
  viewOn : Bool
  halfPress : Bool
  deriving DecidableEq, Repr

/-- A line after reset: LOW, disarmed, not held (R27, R28); the level until it is judged: log entry 6. -/
def Line.reset : Line := { polarity := .low, active := false, armed := false, held := false }

/-- RDU after reset (R48). -/
def Rdu.reset : Rdu :=
  { s1 := Line.reset, s2 := Line.reset, active := DriveSettings.defaults, pending := none, drive := .idle,
    timer := false, focusWait := false, waiter := none, ring := [], openRow := none, counter := 0, remoteCount := 0,
    nextBurst := 0, burstId := 0, release := none, capture := none, record := none, phaseFire := true,
    viewOn := false, halfPress := false }

/-! ### Sensor readout (SRU) -/

/-- The readout in flight (R51); `reading` is its phase. -/
structure Readout where
  kind : FrameKind
  reading : Bool
  row : Nat
  gate : GateOutcome
  frameId : Option Nat
  timestamp : Nat
  focusAt : FocusState
  afTaken : Bool
  lines : Nat
  bad : Nat
  deriving DecidableEq, Repr

/-- The Sensor Readout Unit (R51, R52, R53). -/
structure Sru where
  readout : Option Readout
  waiting : Option (Nat × GateOutcome)
  startTimer : Bool
  endTimer : Bool
  viewTimer : Bool
  fault : Bool
  running : Bool
  missed : Nat
  deriving DecidableEq, Repr

/-- SRU after reset (R66). -/
def Sru.reset : Sru :=
  { readout := none, waiting := none, startTimer := false, endTimer := false, viewTimer := false, fault := false,
    running := true, missed := 0 }

/-! ### Focus (FU) -/

/-- The lens descriptor (R72). -/
structure Descriptor where
  lensMax : Nat
  k16 : Nat
  tolerance : Nat
  timeout : Nat
  deriving DecidableEq, Repr

inductive AfMode | manual | single | continuous
  deriving DecidableEq, Repr

inductive AfArea | spot | group | track
  deriving DecidableEq, Repr

/-- The AF settings (R75). -/
structure AfSettings where
  mode : AfMode
  area : AfArea
  startCol : Nat
  startRow : Nat
  prediction : Bool
  cMin : Nat
  dMin : Nat
  deriving DecidableEq, Repr

def AfSettings.defaults : AfSettings :=
  { mode := .single, area := .spot, startCol := 6, startRow := 4, prediction := true, cMin := 600, dMin := 64 }

inductive MoveOrigin | af | host
  deriving DecidableEq, Repr

/-- The move record (R69). -/
structure MoveRecord where
  target : Nat
  origin : MoveOrigin
  startPos : Nat
  startTime : Nat
  halted : Bool
  deriving DecidableEq, Repr

/-- The validity of a zone (R78). -/
inductive Validity | valid | outOfRange | lowContrast | flat
  deriving DecidableEq, Repr

/-- The first half of a zone estimate: what the samples alone give (R77, R78). -/
structure ZoneShape where
  validity : Validity
  p16 : Int
  c : Nat
  d : Nat
  deriving DecidableEq, Repr

/-- A zone estimate of the array (R79). -/
structure ZoneEstimate where
  validity : Validity
  steps : Int
  target : Option Nat
  c : Nat
  d : Nat
  deriving DecidableEq, Repr

/-- The frame record (R68). -/
structure FrameRecord where
  frameId : Nat
  kind : FrameKind
  timestamp : Nat
  settled : Bool
  position : Option Nat
  moving : Bool
  formed : Option (List ZoneShape)
  deriving DecidableEq, Repr

/-- The zone estimate array with its frame identification (R79, R89). -/
structure ZoneArray where
  frameId : Nat
  kind : FrameKind
  timestamp : Nat
  position : Option Nat
  zones : List ZoneEstimate
  deriving DecidableEq, Repr

/-- A selected estimate (R80). -/
structure Estimate where
  frameId : Nat
  timestamp : Nat
  position : Option Nat
  valid : Bool
  zone : Option (Nat × Nat)
  steps : Int
  target : Nat
  moveTarget : Nat
  predicted : Bool
  inFocus : Bool
  deriving DecidableEq, Repr

/-- The tracking record (R81). -/
structure Tracking where
  col : Nat
  row : Nat
  held : Option Nat
  run : Nat
  deriving DecidableEq, Repr

/-- The Focus Unit (04). `query` is the outstanding QUERY, whose answer timer runs exactly while it is on (R67);
`bare` says that it is a lens's first QUERY and no frame has started since it was sent (R72). -/
structure Fu where
  descriptor : Option Descriptor
  position : Nat
  known : Bool
  moving : Bool
  query : Bool
  bare : Bool
  missing : Nat
  firstQuery : Bool
  move : Option MoveRecord
  moveTimer : Bool
  frame : Option FrameRecord
  speed : Nat
  active : AfSettings
  requested : Option AfSettings
  array : Option ZoneArray
  current : Option Estimate
  previous : Option Estimate
  published : Option Estimate
  tracking : Tracking
  seek : Nat
  state : FocusState
  halfPress : Bool
  deriving DecidableEq, Repr

/-- FU after reset (R92). -/
def Fu.reset : Fu :=
  { descriptor := none, position := 0, known := false, moving := false, query := false, bare := false,
    missing := 0, firstQuery := false, move := none, moveTimer := false, frame := none, speed := 20,
    active := AfSettings.defaults, requested := none, array := none, current := none, previous := none,
    published := none, tracking := { col := 6, row := 4, held := none, run := 0 }, seek := 0, state := .noLens,
    halfPress := false }

/-! ### Development (DE) -/

/-- A look (R94). -/
structure Look where
  bl : Nat
  gR : Nat
  gG : Nat
  gB : Nat
  w : Nat
  tone : List Nat
  deriving DecidableEq, Repr

/-- The default look (R94). -/
def Look.defaults : Look :=
  { bl := 512, gR := 1024, gG := 1024, gB := 1024, w := 16383, tone := (List.range 33).map fun k => min 255 (8 * k) }

/-- The engine state (R93). -/
inductive Engine | idle | starved | running | stopped
  deriving DecidableEq, Repr

/-- The running job: its row, its look slot, its copy of the look, its working counts and the stops asked
(R97, R100, R108, R110, R113). -/
structure Job where
  row : Nat
  slot : Nat
  look : Look
  bins : List Nat
  clip : Nat
  cancel : Bool
  discard : Bool
  deriving DecidableEq, Repr

/-- The published histogram (R108). -/
structure Histogram where
  shot : Nat
  bins : List Nat
  clip : Nat
  deriving DecidableEq, Repr

/-- The Development Engine (05). -/
structure De where
  engine : Engine
  looks : List Look
  urgent : List Nat
  normal : List Nat
  job : Option Job
  histogram : Option Histogram
  auto : Bool
  failedJobs : Nat
  lastFailed : Option Nat
  deriving DecidableEq, Repr

/-- DE after reset (R119). -/
def De.reset : De :=
  { engine := .idle, looks := List.replicate 8 Look.defaults, urgent := [], normal := [], job := none,
    histogram := none, auto := false, failedJobs := 0, lastFailed := none }

/-! ### Card recording (CW) -/

/-- The slot state (R120). -/
inductive SlotState | absent | present | ready | writing | suspended | locked | fault
  deriving DecidableEq, Repr

/-- A card duty, named by its row index and its place in the row's card duty list. -/
structure DutyRef where
  row : Nat
  place : Nat
  deriving DecidableEq, Repr

/-- The writing duty (R120). -/
structure Writing where
  duty : DutyRef
  written : Nat
  deriving DecidableEq, Repr

/-- A cause for which the writing duty is asked to stop (R135). -/
inductive Stop | discarded | locked | detached | power
  deriving DecidableEq, Repr

/-- A read request of TU (R140). -/
structure ReadRequest where
  start : Nat
  count : Nat
  buffer : Nat
  deriving DecidableEq, Repr

/-- The operation on a slot's card channel (R133, R140). A run holds its start sector, its sector count and its data;
`wanted` says that TU still waits for the read (R146, R147). -/
inductive ChannelOp where
  | idle
  | run (start count : Nat) (data : List Byte)
  | read (request : ReadRequest) (wanted : Bool)
  deriving DecidableEq, Repr

/-- The kind of the last failure (R120). -/
inductive FailKind | runFail | timeout
  deriving DecidableEq, Repr

/-- The record of one slot (R120). -/
structure Slot where
  state : SlotState
  cardIn : Bool
  lockOn : Bool
  capacity : Option Nat
  range : Option Piece
  extents : List Piece
  writeQ : List DutyRef
  waitQ : List DutyRef
  writing : Option Writing
  stops : List Stop
  op : ChannelOp
  reads : List ReadRequest
  served : Nat
  runsSince : Nat
  failRun : Nat
  lastFail : Option FailKind
  deriving DecidableEq, Repr

/-- A slot after reset (R147, R194); the lines until they are judged: log entry 7. -/
def Slot.reset : Slot :=
  { state := .absent, cardIn := false, lockOn := false, capacity := none, range := none, extents := [], writeQ := [],
    waitQ := [], writing := none, stops := [], op := .idle, reads := [], served := 0, runsSince := 0, failRun := 0,
    lastFail := none }

/-- The Card Writer (06). `proofs` is proofs-to-card WITH_RAW (R127). -/
structure Cw where
  a : Slot
  b : Slot
  policy : Policy
  proofs : Bool
  stopped : Bool
  deriving DecidableEq, Repr

/-- CW after reset (R147). -/
def Cw.reset : Cw :=
  { a := Slot.reset, b := Slot.reset, policy := .overflow, proofs := false, stopped := false }

/-! ### Tether (TU) -/

/-- The tether settings (R148); a desk MAC of 0 is ANY. -/
structure TetherSettings where
  ownMac : Option (BitVec 48)
  deskMac : BitVec 48
  etherType : BitVec 16
  name : List Byte
  window : Nat
  ackTimeout : Nat
  remote : Bool
  deriving DecidableEq, Repr

def TetherSettings.defaults : TetherSettings :=
  { ownMac := none, deskMac := 0, etherType := 0x88B5, name := List.replicate 16 0x20, window := 32,
    ackTimeout := 200, remote := false }

/-- The auto-send setting (R169). -/
inductive AutoSend | off | allProofs | protectedProofs
  deriving DecidableEq, Repr

/-- The link state (R149). -/
inductive Link | off | down | unbound | boundIdle | sending | finishing
  deriving DecidableEq, Repr

/-- The kind of a send entry (R152). -/
inductive EntryKind | duty | copy | stored
  deriving DecidableEq, Repr

/-- A card copy (R152). -/
structure CardCopy where
  slot : SlotId
  pieces : List Piece
  length : Nat
  deriving DecidableEq, Repr

/-- An entry of the send queue (R152); `row` is kept by a DUTY entry. -/
structure Entry where
  number : Nat
  chain : Chain
  kind : EntryKind
  row : Option Nat
  sending : Bool
  source : Source
  copy : Option CardCopy
  prio : Nat
  early : Bool
  deriving DecidableEq, Repr

/-- The transfer record (R157); the entry is named by its number and chain. `nextSector` is the next chain sector a
card-sourced transfer asks for (R165). -/
structure Transfer where
  id : Nat
  number : Nat
  chain : Chain
  length : Nat
  next : Nat
  high : Nat
  acked : Nat
  timeouts : Nat
  bad : Nat
  window : Nat
  ackTimeout : Nat
  crc : BitVec 32
  nextSector : Nat
  deriving DecidableEq, Repr

/-- A segment buffer (R165): free; asked for chain sectors, `stale` when the transfer it was asked for has ended or
restarted; or full with their data. -/
inductive Buffer where
  | free
  | asked (sector count : Nat) (stale : Bool)
  | full (sector count : Nat) (data : List Byte)
  deriving DecidableEq, Repr

/-- The five counters (R170). -/
structure Counters where
  ackTimeouts : Nat
  restarted : Nat
  underruns : Nat
  dropped : Nat
  failed : Nat
  deriving DecidableEq, Repr

def Counters.zero : Counters := { ackTimeouts := 0, restarted := 0, underruns := 0, dropped := 0, failed := 0 }

/-- The Tether Unit (07). -/
structure Tu where
  settings : TetherSettings
  auto : AutoSend
  link : Link
  bound : Option (BitVec 48)
  helloTimer : Bool
  deskTimer : Bool
  queue : List Entry
  transfer : Option Transfer
  ackTimer : Bool
  underTimer : Bool
  buffers : List Buffer
  nextId : Nat
  counters : Counters
  stopped : Bool
  reclaim : Bool
  deriving DecidableEq, Repr

/-- TU after reset (R174). -/
def Tu.reset : Tu :=
  { settings := TetherSettings.defaults, auto := .off, link := .off, bound := none, helloTimer := false,
    deskTimer := false, queue := [], transfer := none, ackTimer := false, underTimer := false,
    buffers := List.replicate 8 .free, nextId := 0, counters := Counters.zero, stopped := false, reclaim := false }

/-! ### Control port (CP) -/

/-- The 19 notice kinds, in catalogue order (08 section 8.5). -/
inductive Notice
  | ready | shotHeld | shotSettled | burstEnd | bufferFull | focusState | lensFault | sensorFault | developDone
  | extentsLow | slotChange | storeFailed | tetherChange | sendDone | sendFailed | deskRequest | counterHigh
  | powerWarn | wake
  deriving DecidableEq, Repr

/-- The latch of a notice kind (R181). -/
structure Latch where
  count : Nat
  snapshot : Option (List Byte)
  deriving DecidableEq, Repr

/-- A frame of the outbound queue (R180). -/
inductive OutFrame where
  | reply (kind tag : Byte) (payload : List Byte)
  | notice (kind : Notice) (count : Nat) (snapshot : List Byte)
  deriving DecidableEq, Repr

/-- The receiver (R175): its state, with what it has taken of the frame. `body need got` has taken `got` of the
`need` bytes of kind, tag, payload and CRC. -/
inductive Receiver where
  | hunt
  | header (got : List Byte)
  | body (need : Nat) (got : List Byte)
  | discard
  deriving DecidableEq, Repr

/-- The reset cause (R184). -/
inductive ResetCause | pin | port
  deriving DecidableEq, Repr

/-- A request held in HALT (R186). -/
structure HeldRequest where
  kind : Byte
  tag : Byte
  payload : List Byte
  deriving DecidableEq, Repr

/-- The Control Port (08). `fixed` says that the head frame is in progress (its content is fixed), `place` how many of
its bytes have gone out in this transaction; `busy` that bytes of a transaction have been seen, `muted` that the
rest of a transaction is ignored (R187). -/
structure Cp where
  rx : Receiver
  strays : Bool
  busy : Bool
  muted : Bool
  queue : List OutFrame
  fixed : Bool
  place : Nat
  latches : List Latch
  enabled : List Bool
  garbled : Nat
  overrun : Nat
  cause : ResetCause
  held : List HeldRequest
  deriving DecidableEq, Repr

/-- The READY snapshot (10 section 10.2) of a part in RUN with the given reset cause byte. -/
def readySnapshot (cause : Byte) : List Byte :=
  [0x57, 0x0E, 0xE4, 0x02, 1, 1, 0x00, 0x02, 0xA0, 0x0F, 0x80, cause, 0]

/-- CP while the reset pin is asserted: READY is not posted yet, and no frame holds the attention line up (R194). -/
def Cp.asserted : Cp :=
  { rx := .hunt, strays := false, busy := false, muted := false, queue := [], fixed := false, place := 0,
    latches := List.replicate 19 { count := 0, snapshot := none }, enabled := true :: List.replicate 18 false,
    garbled := 0, overrun := 0, cause := .pin, held := [] }

/-- CP after the reset pin (R187). -/
def Cp.reset : Cp :=
  { rx := .hunt, strays := false, busy := false, muted := false,
    queue := [.notice .ready 1 (readySnapshot 0)], fixed := false, place := 0,
    latches := { count := 1, snapshot := some (readySnapshot 0) } ::
      List.replicate 18 { count := 0, snapshot := none },
    enabled := true :: List.replicate 18 false, garbled := 0, overrun := 0, cause := .pin, held := [] }

/-! ### Power control (PWC) -/

/-- The power state (R188). -/
inductive Power | run | quiet | halt | failsafe
  deriving DecidableEq, Repr

/-- The warning responses: true is done (R188). -/
structure Responses where
  rdu : Bool
  sru : Bool
  fu : Bool
  de : Bool
  cw : Bool
  tu : Bool
  deriving DecidableEq, Repr

/-- Power Control (R188). -/
structure Pwc where
  power : Power
  latched : Bool
  responses : Option Responses
  deriving DecidableEq, Repr

/-- PWC after reset (R188). -/
def Pwc.reset : Pwc := { power := .run, latched := false, responses := none }

/-! ### The whole part -/

/-- Levels outside the part that no reset changes: the supply warning input (R192, R194) and the PHY's link
indication (R149). Log entries 25 and 45. -/
structure Pins where
  warning : Bool
  phyUp : Bool
  deriving DecidableEq, Repr

/-- A message the part puts on one of its outputs (04 section 4.1, 03 section 3.1, 07 section 7.2, R46, R58), or a byte it
shifts out on the control port (R177). -/
inductive Output where
  | frameRequest (kind : FrameKind)
  | lensMove (target : Nat)
  | lensHalt
  | lensQuery
  | flashPulse
  | viewLine (samples : List Byte) (crc : BitVec 16)
  | desk (frame : List Byte)
  | port (b : Byte)
  deriving DecidableEq, Repr

/-- The state of the part. `now` is the clock in us (log entry 1), `sent` the output log, newest first (log entry 4),
`freeUsed` the number of free values drawn (log entry 8), `pending` the queue of commands. -/
structure State where
  cp : Cp
  pwc : Pwc
  rdu : Rdu
  sru : Sru
  fu : Fu
  bm : Bm
  mem : Memory
  de : De
  cw : Cw
  tu : Tu
  pins : Pins
  now : Nat
  sent : List Output
  freeUsed : Nat
  pending : List Instr
  deriving DecidableEq, Repr

/-- The part right after reset (R194). -/
def State.reset : State :=
  { cp := Cp.reset, pwc := Pwc.reset, rdu := Rdu.reset, sru := Sru.reset, fu := Fu.reset, bm := Bm.reset, mem := [],
    de := De.reset, cw := Cw.reset, tu := Tu.reset, pins := { warning := false, phyUp := false }, now := 0,
    sent := [], freeUsed := 0, pending := [] }

end Sys2Proof.Machine
end

