-- ==== Sys2Proof/Machine/Ops.lean ====
section
/-! DEFINITION. The operations every block shares: bytes, frame memory, the CRCs, notices and replies of the Control
Port, the output log, and the reports blocks post to each other inside one step. -/

namespace Sys2Proof.Machine

/-! ### Bytes -/

/-- The `k` low bytes of a number, low byte first (10). -/
def leBytes : Nat → Nat → List Byte
  | 0, _ => []
  | k + 1, n => BitVec.ofNat 8 n :: leBytes k (n / 256)

/-- The number that bytes give, low byte first. -/
def leNat : List Byte → Nat
  | [] => 0
  | b :: bs => b.toNat + 256 * leNat bs

/-- A field of `k` bytes at offset `o`, read low byte first. -/
def fieldAt (p : List Byte) (o k : Nat) : Nat := leNat ((p.drop o).take k)

/-- `k` bytes of FFh: an absent value (R196). -/
def absentBytes (k : Nat) : List Byte := List.replicate k 0xFF

/-- A number of `k` bytes, or FFh in every byte when it is absent (R196). -/
def optBytes (k : Nat) : Option Nat → List Byte
  | some n => leBytes k n
  | none => absentBytes k

/-- A flag byte (R196). -/
def flagByte (b : Bool) : Byte := if b then 1 else 0

/-- A signed number of 2 bytes, two's complement (R196). -/
def signedBytes2 (i : Int) : List Byte := leBytes 2 (i % 65536).toNat

/-! ### CRCs -/

/-- One bit of the CRC-16 with polynomial 1021h, most significant bit first (R58, R175). -/
def crc16Bit (c : BitVec 16) : BitVec 16 := if c.getLsbD 15 then (c <<< 1) ^^^ 0x1021#16 else c <<< 1

/-- `k` bits of the CRC-16. -/
def crc16Bits : Nat → BitVec 16 → BitVec 16
  | 0, c => c
  | k + 1, c => crc16Bits k (crc16Bit c)

/-- The CRC-16 folds one byte in. -/
def crc16Byte (c : BitVec 16) (b : Byte) : BitVec 16 := crc16Bits 8 (c ^^^ (b.zeroExtend 16 <<< 8))

/-- The CRC-16: initial value FFFFh, no reflection, no final inversion (R58, R175). -/
def crc16 (bytes : List Byte) : BitVec 16 := bytes.foldl crc16Byte 0xFFFF#16

/-- One bit of the CRC-32 with polynomial 04C11DB7h in reflected order (R161). -/
def crc32Bit (c : BitVec 32) : BitVec 32 := if c.getLsbD 0 then (c >>> 1) ^^^ 0xEDB88320#32 else c >>> 1

/-- `k` bits of the CRC-32. -/
def crc32Bits : Nat → BitVec 32 → BitVec 32
  | 0, c => c
  | k + 1, c => crc32Bits k (crc32Bit c)

/-- The CRC-32 folds one byte in, least significant bit first (R161). -/
def crc32Byte (c : BitVec 32) (b : Byte) : BitVec 32 := crc32Bits 8 (c ^^^ b.zeroExtend 32)

/-- The CRC-32 folds bytes into a running value; it starts from `crc32Init` (R161). -/
def crc32Fold (c : BitVec 32) (bytes : List Byte) : BitVec 32 := bytes.foldl crc32Byte c

def crc32Init : BitVec 32 := 0xFFFFFFFF#32

/-- The CRC-32 of bytes, inverted at the end (R161). -/
def crc32 (bytes : List Byte) : BitVec 32 := ~~~ crc32Fold crc32Init bytes

/-! ### Arithmetic the spec names -/

/-- `x` clamped to lo..hi (00_scope.md, Arithmetic). -/
def clampNat (lo hi x : Nat) : Nat := min hi (max lo x)

def clampInt (lo hi x : Int) : Int := min hi (max lo x)

/-- n / d rounded to nearest, halves away from zero (00_scope.md, Arithmetic), for d above 0. -/
def roundAway (n : Int) (d : Nat) : Int :=
  if 0 ≤ n then ((2 * n.natAbs + d) / (2 * d) : Nat) else -((2 * n.natAbs + d) / (2 * d) : Nat)

/-- The least multiple count: n / d rounded up (00_scope.md, Arithmetic), for d above 0. -/
def ceilDiv (n d : Nat) : Nat := (n + d - 1) / d

/-- A count that saturates at `top` (R170, R176, R181). -/
def satSucc (top n : Nat) : Nat := min top (n + 1)

/-! ### Frame memory (R2, log entry 5) -/

/-- The byte at an address; an unlisted address reads as 0. -/
def Memory.read : Memory → Nat → Byte
  | [], _ => 0
  | (b, v) :: m, a => if b = a then v else Memory.read m a

/-- The memory with one byte written, in the canonical form. -/
def Memory.write : Memory → Nat → Byte → Memory
  | [], a, v => if v = 0 then [] else [(a, v)]
  | (b, x) :: m, a, v =>
    if b < a then (b, x) :: Memory.write m a v
    else if b = a then (if v = 0 then m else (a, v) :: m)
    else if v = 0 then (b, x) :: m else (a, v) :: (b, x) :: m

/-- The canonical form: addresses above `low` and strictly rising, no listed byte 0. -/
def Memory.wfFrom : Nat → Memory → Bool
  | _, [] => true
  | low, (a, v) :: m => decide (low ≤ a) && decide (v ≠ 0) && Memory.wfFrom (a + 1) m

/-- The canonical form of frame memory. -/
def Memory.wf (m : Memory) : Bool := Memory.wfFrom 0 m

/-- The address of chain byte `o` in a chain's pages (R2), or none past the last page. -/
def chainAddr (pages : List Nat) (o : Nat) : Option Nat :=
  (pages[o / Config.pageBytes]?).map fun p => p * Config.pageBytes + o % Config.pageBytes

/-- Chain byte `o`. -/
def chainByte (m : Memory) (pages : List Nat) (o : Nat) : Byte :=
  match chainAddr pages o with
  | some a => Memory.read m a
  | none => 0

/-- `n` chain bytes from offset `o`. -/
def chainRead (m : Memory) (pages : List Nat) (o n : Nat) : List Byte :=
  (List.range n).map fun i => chainByte m pages (o + i)

/-- Bytes written into a chain from offset `o`. -/
def chainWrite (m : Memory) (pages : List Nat) (o : Nat) : List Byte → Memory
  | [] => m
  | b :: bs =>
    let m' := match chainAddr pages o with
      | some a => Memory.write m a b
      | none => m
    chainWrite m' pages (o + 1) bs

/-! ### Reports between blocks

Blocks report to each other and the reports may be taken in any order the rules allow (00_scope.md, Events). Inside
one step they are taken first in, first out (log entry 3). -/

/-- A report one block posts to another. -/
inductive Report where
  /-- BM to DE: pages have been freed, or DE has a reason to look at its head (R4, R93, R101). -/
  | deLook
  /-- BM to TU: the reclaim signal as BM evaluated it when the free count or the threshold changed (R5). -/
  | reclaim (up : Bool)
  /-- CW to TU: a read ended, with its data, or with SOURCE_LOST (R140). -/
  | readEnded (buffer : Nat) (data : Option (List Byte))
  /-- BM to TU: a card duty of the row's chain became DONE (R166). -/
  | cardDone (row : Nat) (chain : Chain)
  /-- BM to TU: the row's develop duty changed (R156, R164). -/
  | developChanged (row : Nat)
  /-- DE to TU: the frontier of the row's proof was raised (R163). -/
  | frontier (row : Nat)
  /-- BM to TU: the proof of the row is lost (R112). -/
  | proofLost (row : Nat)
  /-- TU to itself: a moment at which it makes a selection (R156). -/
  | select
  /-- FU to RDU: the published values changed, with what the gate makes of them (R35, R36, R86). -/
  | focus (gate : Option GateOutcome)
  /-- BM to RDU: a row it allocated left EXPOSING, with its new life (none when removed) and number (R39). -/
  | rowEnded (row : Nat) (life : Option Life) (number : Option Nat)
  deriving DecidableEq, Repr

/-- A step at work: the state and the reports not yet taken. -/
structure Work extends State where
  bus : List Report
  deriving DecidableEq, Repr

/-- Post a report. -/
def Work.post (r : Report) (w : Work) : Work := { w with bus := w.bus ++ [r] }

/-- Put a message on an output (log entry 4). -/
def Work.emit (o : Output) (w : Work) : Work := { w with sent := o :: w.sent }

/-! ### The Control Port's queue and latches -/

/-- The place of a notice kind in the catalogue (08 section 8.5). -/
def Notice.index : Notice → Nat
  | .ready => 0 | .shotHeld => 1 | .shotSettled => 2 | .burstEnd => 3 | .bufferFull => 4 | .focusState => 5
  | .lensFault => 6 | .sensorFault => 7 | .developDone => 8 | .extentsLow => 9 | .slotChange => 10
  | .storeFailed => 11 | .tetherChange => 12 | .sendDone => 13 | .sendFailed => 14 | .deskRequest => 15
  | .counterHigh => 16 | .powerWarn => 17 | .wake => 18

/-- Every notice kind in catalogue order. -/
def Notice.all : List Notice :=
  [.ready, .shotHeld, .shotSettled, .burstEnd, .bufferFull, .focusState, .lensFault, .sensorFault, .developDone,
   .extentsLow, .slotChange, .storeFailed, .tetherChange, .sendDone, .sendFailed, .deskRequest, .counterHigh,
   .powerWarn, .wake]

/-- The latch of a kind. -/
def Cp.latch (c : Cp) (k : Notice) : Latch := c.latches.getD k.index { count := 0, snapshot := none }

/-- The latches with one kind's latch set. -/
def Cp.setLatch (c : Cp) (k : Notice) (l : Latch) : Cp := { c with latches := c.latches.set k.index l }

/-- A kind is enabled (R183). -/
def Cp.isEnabled (c : Cp) (k : Notice) : Bool := c.enabled.getD k.index false

/-- The frame is a notice entry of the kind. -/
def OutFrame.isNotice (k : Notice) : OutFrame → Bool
  | .notice k' _ _ => decide (k' = k)
  | .reply _ _ _ => false

/-- The frame is a reply. -/
def OutFrame.isReply : OutFrame → Bool
  | .reply _ _ _ => true
  | .notice _ _ _ => false

/-- The kind has an entry in the outbound queue. -/
def Cp.hasEntry (c : Cp) (k : Notice) : Bool := c.queue.any (OutFrame.isNotice k)

/-- The kind's entry is in progress: it is the head and its content is fixed (R180). -/
def Cp.entryFixed (c : Cp) (k : Notice) : Bool :=
  c.fixed && (match c.queue with
    | f :: _ => f.isNotice k
    | [] => false)

/-- A frame joins the tail of the outbound queue (R180). -/
def Cp.append (c : Cp) (f : OutFrame) : Cp := { c with queue := c.queue ++ [f] }

/-- The entry of a kind updated in place (R181, step 3). -/
def Cp.update (c : Cp) (k : Notice) (n : Nat) (s : List Byte) : Cp :=
  { c with queue := c.queue.map fun f => if f.isNotice k then .notice k n s else f }

/-- A block raises an occurrence (R181). -/
def Cp.raise (c : Cp) (k : Notice) (s : List Byte) : Cp :=
  let n := satSucc 255 (c.latch k).count
  let c' := c.setLatch k { count := n, snapshot := some s }
  if c.isEnabled k then
    if c.entryFixed k then c'
    else if c.hasEntry k then c'.update k n s
    else c'.append (.notice k n s)
  else c'

/-- A block raises an occurrence at CP (R181). -/
def Work.raise (k : Notice) (s : List Byte) (w : Work) : Work := { w with cp := w.cp.raise k s }

/-- CP posts a reply (R180). -/
def Work.reply (kind tag : Byte) (payload : List Byte) (w : Work) : Work :=
  { w with cp := w.cp.append (.reply kind tag payload) }

/-- Replies outstanding: in the queue, or owed to requests held in HALT (R178, R186). -/
def Cp.outstanding (c : Cp) : Nat := (c.queue.filter OutFrame.isReply).length + c.held.length

/-! ### The shot table -/

/-- The row with an index. -/
def Bm.row? (b : Bm) (i : Nat) : Option Row := b.rows.find? fun r => r.index = i

/-- The row that carries a shot number (R12). -/
def Bm.numbered? (b : Bm) (n : Nat) : Option Row := b.rows.find? fun r => decide (r.number = some n)

/-- Change the row with an index. -/
def Bm.mapRow (b : Bm) (i : Nat) (f : Row → Row) : Bm :=
  { b with rows := b.rows.map fun r => if r.index = i then f r else r }

/-- Remove the row with an index; the order of the others stands (R7). -/
def Bm.remove (b : Bm) (i : Nat) : Bm := { b with rows := b.rows.filter fun r => !(r.index == i) }

/-- Change a row of the table. -/
def Work.mapRow (i : Nat) (f : Row → Row) (w : Work) : Work := { w with bm := w.bm.mapRow i f }

/-- The shot number of a row, 0 when it has none (R196). -/
def Work.shotOf (w : Work) (i : Nat) : Nat := ((w.bm.row? i).bind (·.number)).getD 0

end Sys2Proof.Machine
end

