-- ==== Sys2Proof/Machine/Flags.lean ====
section
/-! DEFINITION. The signals the blocks publish to each other, each computed from the state of the block that owns it. -/

namespace Sys2Proof.Machine

/-- The attention line: asserted while the outbound queue holds a frame (R180). -/
def State.attention (s : State) : Bool := !s.cp.queue.isEmpty

/-- Frame memory is in self-refresh exactly in HALT (R190, R191, R192). -/
def State.selfRefresh (s : State) : Bool := decide (s.pwc.power = .halt)

/-- The free count (R1). -/
def Bm.freeCount (b : Bm) : Nat := b.free.length

/-- The reclaim signal: up while the free count is below the threshold (R5). -/
def Bm.reclaimSignal (b : Bm) : Bool := decide (b.freeCount < b.threshold)

/-- The frame timer's reload value for a rate: round(10000 / rate) - 1, halves rounded up (R31). -/
def reloadOf (rate : Nat) : Nat := (20000 + rate) / (2 * rate) - 1

/-- The frame period RDU publishes, in us (R31). -/
def Rdu.period (r : Rdu) : Nat := (reloadOf r.active.rate + 1) * 100

/-- Captures are running: PRECAPTURING, FIRING or STALLED (R31). -/
def Rdu.capturing (r : Rdu) : Bool := match r.drive with
  | .precapturing | .firing | .stalledFiring | .stalledPrecapturing => true
  | .idle | .ready | .waitingFocus => false

/-- A remote origin (R44, R45). -/
def Origin.isRemote : Origin → Bool
  | .remoteHost | .remoteDesk => true
  | .release | .precapture => false

/-- A remote release is in progress: it waits for focus or its burst is open (R44). -/
def Rdu.remoteRuns (r : Rdu) : Bool :=
  (r.waiter.any Origin.isRemote) || (r.release.any fun x => x.origin.isRemote)

/-- The view stream as the drive state asks for it (R32). -/
def Rdu.wantsView (r : Rdu) : Bool := match r.drive with
  | .ready | .waitingFocus => true
  | .idle | .precapturing | .firing | .stalledFiring | .stalledPrecapturing => false

/-- The half-press signal as R32 gives it, before the supply warning. -/
def Rdu.wantsFocus (r : Rdu) : Bool :=
  r.s1.held || r.remoteRuns || (match r.drive with
    | .firing | .stalledFiring => true
    | .idle | .ready | .waitingFocus | .precapturing | .stalledPrecapturing => false)

/-- A final duty state (00_scope.md, Final states). -/
def CardState.isFinal : CardState → Bool
  | .done | .failed => true
  | .waitingSource | .waitingSlot | .waitingExtents | .pending | .writing => false

def TetherState.isFinal : TetherState → Bool
  | .done | .failed | .cancelled => true
  | .pending | .sending => false

/-- A develop duty of NONE counts as final for the settle check (R17) and is not counted for HALT (R189). -/
def DevelopState.isFinal : DevelopState → Bool
  | .absent | .done | .failed | .cancelled => true
  | .pending | .running => false

/-- The duties of a row that are not final. -/
def Row.openDuties (r : Row) : Nat :=
  (if r.develop.isFinal then 0 else 1) + (r.cards.filter fun d => !d.state.isFinal).length +
    (r.tethers.filter fun d => !d.state.isFinal).length

/-- The number of non-final duties BM publishes for the HALT conditions (R189). -/
def Bm.openDuties (b : Bm) : Nat := (b.rows.map Row.openDuties).sum

/-- The duties of a row that are still stopping after a discard: a RUNNING develop duty, WRITING card duties and
SENDING tether duties (R19). -/
def Row.stopping (r : Row) : Nat :=
  (if r.develop = .running then 1 else 0) + (r.cards.filter fun d => d.state = .writing).length +
    (r.tethers.filter fun d => d.state = .sending).length

/-- A raw chain's readers (R16). -/
def Row.rawRead (r : Row) : Bool :=
  (r.cards.any fun d => decide (d.chain = .raw) && !d.state.isFinal) || !r.develop.isFinal ||
    (r.tethers.any fun d => decide (d.chain = .raw) && !d.state.isFinal && decide (d.source = .buffer))

/-- A proof chain's holders (R16): while the job runs, DE; once DONE, the open card PROOF duties and the open tether
PROOF duty with source BUFFER; once given up, an early transfer that is SENDING on it. -/
def Row.proofRead (r : Row) : Bool := match r.develop with
  | .running => true
  | .done =>
    (r.cards.any fun d => decide (d.chain = .proof) && !d.state.isFinal) ||
      (r.tethers.any fun d => decide (d.chain = .proof) && !d.state.isFinal && decide (d.source = .buffer))
  | .absent | .pending | .failed | .cancelled =>
    r.tethers.any fun d => decide (d.chain = .proof) && decide (d.state = .sending) && decide (d.source = .buffer)

/-- The sectors in a slot's extent queue (R120). -/
def Slot.queued (s : Slot) : Nat := (s.extents.map Piece.count).sum

/-- A slot is attached (R120). -/
def Slot.attached (s : Slot) : Bool := match s.state with
  | .ready | .writing | .suspended | .locked | .fault => true
  | .absent | .present => false

/-- A slot is writable (R120). -/
def Slot.writable (s : Slot) : Bool := match s.state with
  | .ready | .writing | .suspended => true
  | .absent | .present | .locked | .fault => false

/-- No slot has a writing duty (R192). -/
def Cw.quiet (c : Cw) : Bool := c.a.writing.isNone && c.b.writing.isNone

end Sys2Proof.Machine
end

