-- ==== Sys2Proof/Machine/Operands.lean ====
section
/-! DEFINITION. Reading the operands of commands: flag and enumerated bytes (R196), the places of fields in request
payloads (R197), and the packed samples of an image line (R58). -/

namespace Sys2Proof.Machine

/-- Byte `o` of a payload. -/
def byteAt (p : List Byte) (o : Nat) : Byte := p.getD o 0

/-- A flag byte: 0 off, 1 on, anything else out of range (R196). -/
def flagOf (b : Byte) : Option Bool := match b.toNat with
  | 0 => some false | 1 => some true | _ => none

/-- An OFF/ON byte is a flag byte with the same values (R196). -/
def slotOf (b : Byte) : Option SlotId := match b.toNat with
  | 0 => some .a | 1 => some .b | _ => none

def chainOf (b : Byte) : Option Chain := match b.toNat with
  | 0 => some .raw | 1 => some .proof | _ => none

def driveModeOf (b : Byte) : Option DriveMode := match b.toNat with
  | 0 => some .single | 1 => some .burst | 2 => some .precapture | _ => none

def priorityOf (b : Byte) : Option Priority := match b.toNat with
  | 0 => some .focus | 1 => some .release | _ => none

def flashModeOf (b : Byte) : Option FlashMode := match b.toNat with
  | 0 => some .off | 1 => some .front | 2 => some .alternate | _ => none

def polarityOf (b : Byte) : Option Polarity := match b.toNat with
  | 0 => some .low | 1 => some .high | _ => none

def afModeOf (b : Byte) : Option AfMode := match b.toNat with
  | 0 => some .manual | 1 => some .single | 2 => some .continuous | _ => none

def afAreaOf (b : Byte) : Option AfArea := match b.toNat with
  | 0 => some .spot | 1 => some .group | 2 => some .track | _ => none

def policyOf (b : Byte) : Option Policy := match b.toNat with
  | 0 => some .mirror | 1 => some .overflow | 2 => some .split | 3 => some .singleA | 4 => some .singleB | _ => none

def autoSendOf (b : Byte) : Option AutoSend := match b.toNat with
  | 0 => some .off | 1 => some .allProofs | 2 => some .protectedProofs | _ => none

/-- The flag bytes of a list, or none when one is out of range (R196). -/
def flagsOf : List Byte → Option (List Bool)
  | [] => some []
  | b :: bs => match flagOf b, flagsOf bs with
    | some f, some fs => some (f :: fs)
    | _, _ => none

/-- The pieces of SEND_STORED, 8 bytes each (R197). -/
def piecesOf : Nat → List Byte → List Piece
  | 0, _ => []
  | k + 1, p => { start := fieldAt p 0 4, count := fieldAt p 4 4 } :: piecesOf k (p.drop 8)

/-- The DRIVE_SET payload (R29, R197), with rate, depth and focus wait clamped; none when mode, priority, flash or
look slot is out of range. -/
def driveSettingsOf (p : List Byte) : Option DriveSettings :=
  match driveModeOf (byteAt p 0), priorityOf (byteAt p 4), flashModeOf (byteAt p 7) with
  | some m, some pr, some f =>
    if (byteAt p 8).toNat ≤ 7 then
      some { mode := m, rate := clampNat 1 30 (byteAt p 1).toNat, limit := (byteAt p 2).toNat,
             depth := clampNat 1 20 (byteAt p 3).toNat, priority := pr, wait := clampNat 50 1000 (fieldAt p 5 2),
             flash := f, look := (byteAt p 8).toNat }
    else none
  | _, _, _ => none

/-- The AF_SET payload (R75, R197), with C_MIN and D_MIN clamped; none when an enumerated value is out of range. -/
def afSettingsOf (p : List Byte) : Option AfSettings :=
  match afModeOf (byteAt p 0), afAreaOf (byteAt p 1), flagOf (byteAt p 4) with
  | some m, some a, some pr =>
    if (byteAt p 2).toNat ≤ 12 ∧ (byteAt p 3).toNat ≤ 8 then
      some { mode := m, area := a, startCol := (byteAt p 2).toNat, startRow := (byteAt p 3).toNat, prediction := pr,
             cMin := clampNat 0 131040 (fieldAt p 5 4), dMin := clampNat 0 262080 (fieldAt p 9 4) }
    else none
  | _, _, _ => none

/-- The LENS_ATTACH payload (R72, R197), with the move timeout clamped (0 selects 300); none when an enumerated value
is out of range. -/
def descriptorOf (p : List Byte) : Option Descriptor :=
  let m := fieldAt p 0 2
  let k := fieldAt p 2 2
  let t := (byteAt p 4).toNat
  let o := fieldAt p 5 2
  if 1 ≤ m ∧ m ≤ 32767 ∧ 1 ≤ k ∧ k ≤ 32767 ∧ 1 ≤ t then
    some { lensMax := m, k16 := k, tolerance := t, timeout := if o = 0 then 300 else clampNat 50 2000 o }
  else none

/-- A tone curve is non-decreasing (R94; its entries are bytes, so none is above 255). -/
def nonDecreasing : List Nat → Bool
  | [] => true
  | [_] => true
  | a :: b :: l => decide (a ≤ b) && nonDecreasing (b :: l)

/-- The LOOK_SET parameters (R95, R197) with the gains clamped; none when BL, W or the curve is out of range. -/
def lookOf (p : List Byte) : Option Look :=
  let bl := fieldAt p 1 2
  let w := fieldAt p 9 2
  let tone := ((p.drop 11).take 33).map fun b => b.toNat
  if bl ≤ 4095 ∧ 1024 ≤ w ∧ w ≤ 16383 ∧ bl < w ∧ nonDecreasing tone = true then
    some { bl := bl, gR := clampNat 1024 8191 (fieldAt p 3 2), gG := clampNat 1024 8191 (fieldAt p 5 2),
           gB := clampNat 1024 8191 (fieldAt p 7 2), w := w, tone := tone }
  else none

/-- An address is individual: the least significant bit of its first byte is 0 and it is not all zero (R148). -/
def individual (m : BitVec 48) : Bool := !m.getLsbD 0 && decide (m ≠ 0)

/-- The TETHER_SET payload (R148, R197), with window and ack timeout clamped; none when an enumerated value is out of
range. -/
def tetherSettingsOf (p : List Byte) : Option TetherSettings :=
  let own : BitVec 48 := BitVec.ofNat 48 (fieldAt p 0 6)
  let desk : BitVec 48 := BitVec.ofNat 48 (fieldAt p 6 6)
  let ety := fieldAt p 12 2
  let name := (p.drop 14).take 16
  match flagOf (byteAt p 33) with
  | some r =>
    if individual own = true ∧ (desk = 0 ∨ individual desk = true) ∧ 0x600 ≤ ety ∧
        (name.all fun b => decide (0x20 ≤ b.toNat) && decide (b.toNat ≤ 0x7E)) = true then
      some { ownMac := some own, deskMac := desk, etherType := BitVec.ofNat 16 ety, name := name,
             window := clampNat 16 64 (byteAt p 30).toNat, ackTimeout := clampNat 50 2000 (fieldAt p 31 2), remote := r }
    else none
  | none => none

/-- Sample `s` of a packed line: bits 14s to 14s + 13 of its bit stream (R58). The 14 bits lie in at most 3 bytes. -/
def sampleAt (line : List Byte) (s : Nat) : Nat :=
  let o := 14 * s / 8
  (leNat [byteAt line o, byteAt line (o + 1), byteAt line (o + 2)] / 2 ^ (14 * s % 8)) % 16384

/-- Every sample of a packed line, four samples to seven bytes (R58): sample 4k + j starts at bit 14j of byte 7k. -/
def unpackSamples : List Byte → List Nat
  | b0 :: b1 :: b2 :: b3 :: b4 :: b5 :: b6 :: rest =>
    let n := leNat [b0, b1, b2, b3, b4, b5, b6]
    n % 16384 :: n / 2 ^ 14 % 16384 :: n / 2 ^ 28 % 16384 :: n / 2 ^ 42 % 16384 :: unpackSamples rest
  | _ => []

end Sys2Proof.Machine
end

