-- ==== Sys2Proof/Machine/Layout.lean ====
section
/-! DEFINITION. The byte layouts of 10_record_and_frame_layouts.md: enumeration values (R196), the chain header, the
desk frames, and the records and groups that replies and notices carry (R198). -/

namespace Sys2Proof.Machine

/-! ### Enumerations (R196): the value of a name is its place in the list. -/

def Chain.byte : Chain → Byte | .raw => 0 | .proof => 1
def slotByte : SlotId → Byte | .a => 0 | .b => 1
def Life.byte : Life → Byte | .exposing => 0 | .pre => 1 | .held => 2 | .settled => 3 | .void => 4
def Origin.byte : Origin → Byte | .release => 0 | .remoteHost => 1 | .remoteDesk => 2 | .precapture => 3
def FocusState.byte : FocusState → Byte
  | .noLens => 0 | .idle => 1 | .seeking => 2 | .locked => 3 | .tracking => 4 | .lost => 5 | .noTarget => 6 | .fault => 7
def Flash.byte : Flash → Byte | .fired => 0 | .notFired => 1 | .notReady => 2
def GateOutcome.byte : GateOutcome → Byte | .focused => 0 | .waitExpired => 1 | .releasePriority => 2 | .noLens => 3
def Policy.byte : Policy → Byte | .mirror => 0 | .overflow => 1 | .split => 2 | .singleA => 3 | .singleB => 4
def ShotOutcome.byte : ShotOutcome → Byte
  | .complete => 0 | .singleCopy => 1 | .noCopy => 2 | .discarded => 3 | .noFrame => 4 | .readoutTimeout => 5
  | .shortFrame => 6 | .power => 7
def DevelopState.byte : DevelopState → Byte
  | .absent => 0 | .pending => 1 | .running => 2 | .done => 3 | .failed => 4 | .cancelled => 5
def DevelopClass.byte : DevelopClass → Byte | .urgent => 0 | .normal => 1
def CardState.byte : CardState → Byte
  | .waitingSource => 0 | .waitingSlot => 1 | .waitingExtents => 2 | .pending => 3 | .writing => 4 | .done => 5
  | .failed => 6
def CardCause.byte : CardCause → Byte
  | .write => 0 | .locked => 1 | .fault => 2 | .removed => 3 | .detached => 4 | .discarded => 5 | .sourceLost => 6
  | .power => 7
def TetherState.byte : TetherState → Byte
  | .pending => 0 | .sending => 1 | .done => 2 | .failed => 3 | .cancelled => 4
def Source.byte : Source → Byte | .buffer => 0 | .card => 1
def TetherCause.byte : TetherCause → Byte | .rejected => 0 | .sourceLost => 1 | .full => 2 | .reset => 3
def EndCause.byte : EndCause → Byte | .opened => 0 | .s2Up => 1 | .limit => 2 | .remoteDone => 3 | .power => 4
def SkipCause.byte : SkipCause → Byte | .busy => 0 | .buffer => 1 | .table => 2
def Validity.byte : Validity → Byte | .valid => 0 | .outOfRange => 1 | .lowContrast => 2 | .flat => 3
def SlotState.byte : SlotState → Byte
  | .absent => 0 | .present => 1 | .ready => 2 | .writing => 3 | .suspended => 4 | .locked => 5 | .fault => 6
def Link.byte : Link → Byte
  | .off => 0 | .down => 1 | .unbound => 2 | .boundIdle => 3 | .sending => 4 | .finishing => 5
def Power.byte : Power → Byte | .run => 0 | .quiet => 1 | .halt => 2 | .failsafe => 3
def ResetCause.byte : ResetCause → Byte | .pin => 0 | .port => 1
def DriveMode.byte : DriveMode → Byte | .single => 0 | .burst => 1 | .precapture => 2
def Priority.byte : Priority → Byte | .focus => 0 | .release => 1
def FlashMode.byte : FlashMode → Byte | .off => 0 | .front => 1 | .alternate => 2
def Polarity.byte : Polarity → Byte | .low => 0 | .high => 1
/-- The drive state; both STALLED states are 5 (R47 gives the state it came from beside it). -/
def Drive.byte : Drive → Byte
  | .idle => 0 | .ready => 1 | .precapturing => 2 | .waitingFocus => 3 | .firing => 4 | .stalledFiring => 5
  | .stalledPrecapturing => 5
/-- The state STALLED came from; FFh when the drive is not STALLED. -/
def Drive.fromByte : Drive → Byte
  | .stalledFiring => 4 | .stalledPrecapturing => 2
  | .idle | .ready | .precapturing | .waitingFocus | .firing => 0xFF
def AfMode.byte : AfMode → Byte | .manual => 0 | .single => 1 | .continuous => 2
def AfArea.byte : AfArea → Byte | .spot => 0 | .group => 1 | .track => 2
def MoveOrigin.byte : MoveOrigin → Byte | .af => 0 | .host => 1
def frameKindByte : FrameKind → Byte | .view => 0 | .capture => 1
def Engine.byte : Engine → Byte | .idle => 0 | .starved => 1 | .running => 2 | .stopped => 3
def FailKind.byte : FailKind → Byte | .runFail => 0 | .timeout => 1
def AutoSend.byte : AutoSend → Byte | .off => 0 | .allProofs => 1 | .protectedProofs => 2
def EntryKind.byte : EntryKind → Byte | .duty => 0 | .copy => 1 | .stored => 2
/-- A stop's cause as a card cause (R135). -/
def Stop.cause : Stop → CardCause
  | .discarded => .discarded | .locked => .locked | .detached => .detached | .power => .power
/-- A history entry: EMPTY, INVALID, VALID (R88, R196). -/
def historyByte : Option Estimate → Byte
  | none => 0
  | some e => if e.valid then 2 else 1

/-- An optional byte; FFh when absent (R196). -/
def optByte : Option Byte → Byte
  | some b => b
  | none => 0xFF

/-- A zone (column, row); FFh FFh when absent. -/
def zoneBytes : Option (Nat × Nat) → List Byte
  | some (c, r) => [BitVec.ofNat 8 c, BitVec.ofNat 8 r]
  | none => [0xFF, 0xFF]

/-! ### Result codes (R179) -/

inductive Result
  | ok | unknownKind | badLength | badArg | noSuchShot | protect | busy | inUse | state | full | conflict | noSource
  | lensBusy | notReady
  deriving DecidableEq, Repr

def Result.byte : Result → Byte
  | .ok => 0 | .unknownKind => 1 | .badLength => 2 | .badArg => 3 | .noSuchShot => 4 | .protect => 5 | .busy => 6
  | .inUse => 7 | .state => 8 | .full => 9 | .conflict => 0x0A | .noSource => 0x0B | .lensBusy => 0x0C
  | .notReady => 0x0D

/-! ### The chain header (10 section 10.3) -/

/-- The 64-byte header of a raw chain (R61): shot number 0 until BM fills it. -/
def headerBytesOf (r : Row) (position : Nat) (moving : Bool) (focus : FocusState) : List Byte :=
  [Chain.raw.byte, 1] ++ leBytes 3 0 ++ [0] ++ leBytes 8 r.timestamp ++ leBytes 2 r.damage ++ leBytes 2 position ++
    [flagByte moving, focus.byte, r.flash.byte, BitVec.ofNat 8 r.look] ++ leBytes 2 r.burst ++ List.replicate 40 0

/-! ### Desk frames (10 section 10.4) -/

/-- A frame on the wire: addresses byte 0 first, EtherType high byte first, the kind and its fields, zeros up to 60
bytes, and the frame check low byte first. -/
def wireFrame (dst src : BitVec 48) (etherType : BitVec 16) (kind : Byte) (fields : List Byte) : List Byte :=
  let head := leBytes 6 dst.toNat ++ leBytes 6 src.toNat ++
    [BitVec.ofNat 8 (etherType.toNat / 256), BitVec.ofNat 8 etherType.toNat, kind] ++ fields
  let body := head ++ List.replicate (60 - head.length) 0
  body ++ leBytes 4 (crc32 body).toNat

/-! ### Records and groups (R198, 10 sections 10.2 to 10.7) -/

def identityBytes (cause : ResetCause) (power : Power) : List Byte :=
  leBytes 2 0x0E57 ++ leBytes 2 740 ++ [1, 1] ++ leBytes 2 512 ++ leBytes 2 4000 ++ [128, cause.byte, power.byte]

def BurstRecord.bytes (r : BurstRecord) : List Byte :=
  leBytes 2 r.id ++ leBytes 3 r.firstShot ++ leBytes 2 r.captured ++ leBytes 2 r.skipBusy ++ leBytes 2 r.skipBuffer ++
    leBytes 2 r.skipTable ++ [r.cause.byte] ++ [0, 0]

def DriveSettings.bytes (s : DriveSettings) : List Byte :=
  [s.mode.byte, BitVec.ofNat 8 s.rate, BitVec.ofNat 8 s.limit, BitVec.ofNat 8 s.depth, s.priority.byte] ++
    leBytes 2 s.wait ++ [s.flash.byte, BitVec.ofNat 8 s.look]

def AfSettings.bytes (s : AfSettings) : List Byte :=
  [s.mode.byte, s.area.byte, BitVec.ofNat 8 s.startCol, BitVec.ofNat 8 s.startRow, flagByte s.prediction] ++
    leBytes 4 s.cMin ++ leBytes 4 s.dMin

def Descriptor.bytes (d : Descriptor) : List Byte :=
  leBytes 2 d.lensMax ++ leBytes 2 d.k16 ++ [BitVec.ofNat 8 d.tolerance] ++ leBytes 2 d.timeout

def Look.bytes (l : Look) : List Byte :=
  leBytes 2 l.bl ++ leBytes 2 l.gR ++ leBytes 2 l.gG ++ leBytes 2 l.gB ++ leBytes 2 l.w ++
    l.tone.map (BitVec.ofNat 8)

def TetherSettings.bytes (s : TetherSettings) : List Byte :=
  (match s.ownMac with
    | some m => leBytes 6 m.toNat
    | none => absentBytes 6) ++ leBytes 6 s.deskMac.toNat ++ leBytes 2 s.etherType.toNat ++ s.name ++
    [BitVec.ofNat 8 s.window] ++ leBytes 2 s.ackTimeout ++ [flagByte s.remote]

def Piece.bytes (p : Piece) : List Byte := leBytes 4 p.start ++ leBytes 4 p.count

def CardDuty.bytes (d : CardDuty) : List Byte :=
  [slotByte d.slot, d.chain.byte, d.state.byte, optByte (d.cause.map CardCause.byte), flagByte d.spoiled,
    flagByte d.reassigned, BitVec.ofNat 8 d.pieces.length, 0] ++
    (d.pieces.map Piece.bytes).flatten ++ List.replicate (64 - 8 * d.pieces.length) 0

def TetherDuty.bytes (d : TetherDuty) : List Byte :=
  [d.chain.byte, d.state.byte, d.source.byte, BitVec.ofNat 8 d.prio, flagByte d.early,
    optByte (d.cause.map TetherCause.byte), 0, 0]

/-- The focus part of a shot record: bytes 22 to 30 (10 section 10.5). -/
def focusBytes : Option FocusRecord → List Byte
  | some f => leBytes 2 f.position ++ [flagByte f.moving, f.state.byte] ++ zoneBytes f.zone ++
      [optByte (f.inFocus.map flagByte), optByte (f.predicted.map flagByte), f.gate.byte]
  | none => absentBytes 9

/-- The shot record (10 section 10.5). -/
def Row.bytes (r : Row) : List Byte :=
  [BitVec.ofNat 8 r.index] ++ leBytes 3 (r.number.getD 0) ++ [r.life.byte, flagByte r.precapture, r.origin.byte,
    flagByte r.protect, flagByte r.discarding, 0] ++ leBytes 2 r.burst ++ leBytes 8 r.timestamp ++
    leBytes 2 r.damage ++ focusBytes r.focus ++ [r.flash.byte, BitVec.ofNat 8 r.look,
    optByte (r.policy.map Policy.byte), optByte (r.outcome.map ShotOutcome.byte), flagByte r.raw.isSome,
    flagByte r.proof.isSome] ++ optBytes 2 (r.proof.map ProofChain.frontier) ++ [r.develop.byte,
    if r.develop = .absent then 0xFF else r.cls.byte, BitVec.ofNat 8 r.cards.length,
    BitVec.ofNat 8 r.tethers.length, 0] ++ (r.cards.map CardDuty.bytes).flatten ++
    (r.tethers.map TetherDuty.bytes).flatten

/-- One entry of a zone report (10 section 10.6). -/
def ZoneEstimate.bytes (z : ZoneEstimate) : List Byte :=
  [z.validity.byte, 0] ++ signedBytes2 z.steps ++ leBytes 4 z.c ++ leBytes 4 z.d

/-- The zone report of one zone row (10 section 10.6). -/
def zoneReportBytes (row : Nat) : Option ZoneArray → List Byte
  | some a => [BitVec.ofNat 8 row, 1] ++ leBytes 2 a.frameId ++ [frameKindByte a.kind] ++ leBytes 8 a.timestamp ++
      optBytes 2 a.position ++ [13] ++ (((a.zones.drop (13 * row)).take 13).map ZoneEstimate.bytes).flatten
  | none => [BitVec.ofNat 8 row, 0] ++ absentBytes 13 ++ [0]

def Line.bytes (l : Line) : List Byte := [l.polarity.byte, flagByte l.active, flagByte l.armed, flagByte l.held]

/-- A list in a reply: its one-byte count and its entries (R198). -/
def listBytes (entries : List (List Byte)) : List Byte := BitVec.ofNat 8 entries.length :: entries.flatten

end Sys2Proof.Machine
end

