-- ==== Sys2Proof/Machine/Buffer.lean ====
section
/-! DEFINITION. The Buffer Manager (01_shots_pages_and_the_shot_table.md): the page pool, the rows of the shot table,
the release and settle checks, numbering, and the ends of an EXPOSING or PRE row. -/

namespace Sys2Proof.Machine

/-! ### The page pool -/

/-- A page put in its place in an ascending list. -/
def insertPage (p : Nat) : List Nat → List Nat
  | [] => [p]
  | q :: l => if p < q then p :: q :: l else q :: insertPage p l

/-- Pages return to the free set: BM signals DE and re-evaluates the reclaim signal (R1, R4, R5, R16). -/
def Work.freePages (pages : List Nat) (w : Work) : Work :=
  let bm : Bm := { w.bm with free := pages.foldr insertPage w.bm.free }
  (({ w with bm := bm } : Work).post .deLook).post (.reclaim bm.reclaimSignal)

/-- The lowest `n` free pages leave the free set (R2) and the reclaim signal is re-evaluated (R5). -/
def Work.takePages (n : Nat) (w : Work) : Work :=
  let bm : Bm := { w.bm with free := w.bm.free.drop n }
  ({ w with bm := bm } : Work).post (.reclaim bm.reclaimSignal)

/-- The lowest row index that is not in use (R7). -/
def Bm.freeIndex (b : Bm) : Nat :=
  ((List.range Config.tableRows).find? fun i => (b.row? i).isNone).getD 0

/-- A row as its raw allocation creates it (R8). -/
def Row.fresh (i : Nat) (origin : Origin) (burst : Nat) (ring : Bool) (look : Nat) (pages : List Nat) : Row :=
  { index := i, number := none, life := .exposing, precapture := ring, mark := if ring then some .opened else none,
    origin := origin, burst := burst, timestamp := 0, protect := false, discarding := false, damage := 0,
    focus := none, flash := .notFired, look := look, raw := some { pages := pages, length := Config.rawLength },
    proof := none, develop := .absent, cls := .normal, cards := [], tethers := [], policy := none, outcome := none }

/-- BM's answer to a raw allocation (R3). -/
inductive RawAnswer where
  | granted (row : Nat)
  | denied (cause : SkipCause)
  deriving DecidableEq, Repr

/-- How BM judges a raw allocation: the three checks of R3 in their order, or the row index it grants. -/
def Work.judgeRaw (w : Work) : RawAnswer :=
  if Config.tableRows ≤ w.bm.rows.length then .denied .table
  else if w.bm.freeCount < Config.rawPages + w.bm.reserve then .denied .buffer
  else if w.pwc.latched then .denied .buffer
  else .granted w.bm.freeIndex

/-- A granted raw allocation: 41 pages leave the pool and the row joins the end of the order (R3, R7). -/
def Work.createRow (i : Nat) (origin : Origin) (burst : Nat) (ring : Bool) (look : Nat) (w : Work) : Work :=
  let row := Row.fresh i origin burst ring look (w.bm.free.take Config.rawPages)
  let w1 := w.takePages Config.rawPages
  { w1 with bm := { w1.bm with rows := w1.bm.rows ++ [row] } }

/-- A proof allocation for a row (R4): none is a denial, which changes nothing. -/
def Work.proofAlloc (i : Nat) (w : Work) : Option Work :=
  if Config.proofPages ≤ w.bm.freeCount ∧ w.pwc.latched = false then
    let chain : ProofChain :=
      { pages := w.bm.free.take Config.proofPages, length := Config.proofLength, frontier := 0 }
    some ((w.takePages Config.proofPages).mapRow i fun r => { r with proof := some chain })
  else none

/-! ### Releasing chains and settling rows -/

/-- The raw chain of a row is released, if it is present (R16). -/
def Work.releaseRaw (i : Nat) (w : Work) : Work :=
  match (w.bm.row? i).bind (·.raw) with
  | some c => (w.mapRow i fun r => { r with raw := none }).freePages c.pages
  | none => w

/-- The proof chain of a row is released, if it is present (R16). -/
def Work.releaseProof (i : Nat) (w : Work) : Work :=
  match (w.bm.row? i).bind (·.proof) with
  | some c => (w.mapRow i fun r => { r with proof := none }).freePages c.pages
  | none => w

/-- The release check of a HELD row: a present chain without a reader is released (R16). -/
def Work.releaseCheck (i : Nat) (w : Work) : Work :=
  match w.bm.row? i with
  | some r =>
    if r.life = .held then
      let w1 := if r.rawRead then w else w.releaseRaw i
      if r.proofRead then w1 else w1.releaseProof i
    else w
  | none => w

/-- The card RAW duties of a row that are DONE. -/
def Row.rawCopies (r : Row) : Nat :=
  (r.cards.filter fun d => decide (d.chain = .raw) && decide (d.state = .done)).length

/-- The outcome of a settling row: the first case of R17 that applies. -/
def Row.settledOutcome (r : Row) : ShotOutcome :=
  if r.discarding then .discarded
  else if r.rawCopies = 0 then .noCopy
  else if r.policy = some .mirror ∧ r.rawCopies = 1 then .singleCopy
  else .complete

/-- A HELD row settles when every duty is final and neither chain is present (R17). -/
def Row.settles (r : Row) : Bool :=
  decide (r.life = .held) && decide (r.openDuties = 0) && r.raw.isNone && r.proof.isNone

/-- The settle check of a row (R17). -/
def Work.settleCheck (i : Nat) (w : Work) : Work :=
  match w.bm.row? i with
  | some r =>
    if r.settles then
      (w.mapRow i fun x => { x with life := .settled, outcome := some r.settledOutcome }).raise .shotSettled
        (leBytes 3 (r.number.getD 0))
    else w
  | none => w

/-- The release check and then the settle check (R9, R16, R17). -/
def Work.check (i : Nat) (w : Work) : Work := (w.releaseCheck i).settleCheck i

/-- The row leaves the table (R7). -/
def Work.removeRow (i : Nat) (w : Work) : Work := { w with bm := w.bm.remove i }

/-! ### Numbering (R12) -/

/-- The number after `n`. -/
def numberAfter (n : Nat) : Nat := if n = Config.maxShot then 1 else n + 1

/-- The first number from `n` on that no row carries, within the given steps. -/
def Bm.freeNumber (b : Bm) : Nat → Nat → Nat
  | 0, n => n
  | k + 1, n => if (b.numbered? n).isSome then b.freeNumber k (numberAfter n) else n

/-- The number the next row takes. -/
def Bm.pickNumber (b : Bm) : Nat := b.freeNumber 129 b.nextNumber

/-- The row takes the next number, which BM also writes into bytes 2 to 4 of its chain header (R12, R14, 10.3). -/
def Work.numberRow (i : Nat) (w : Work) : Work :=
  let n := w.bm.pickNumber
  let pages := (((w.bm.row? i).bind (·.raw)).map RawChain.pages).getD []
  let w1 := w.mapRow i fun r => { r with number := some n }
  { w1 with bm := { w1.bm with nextNumber := numberAfter n }, mem := chainWrite w1.mem pages 2 (leBytes 3 n) }

/-! ### The ends of EXPOSING and PRE rows -/

/-- A readout that gave no complete frame (R11); a report for a row that is not EXPOSING is discarded. -/
def Work.abortRow (i : Nat) (cause : ShotOutcome) (w : Work) : Work :=
  match w.bm.row? i with
  | some r =>
    if r.life = .exposing then
      if r.mark = some .dropped then ((w.releaseRaw i).removeRow i).post (.rowEnded i none none)
      else ((w.releaseRaw i).mapRow i fun x =>
        { x with life := .void, outcome := some cause, mark := none }).post (.rowEnded i (some .void) none)
    else w
  | none => w

/-- Eviction of a PRE row: its chain is released and the row removed (R14). -/
def Work.evictRow (i : Nat) (w : Work) : Work :=
  match w.bm.row? i with
  | some r => if r.life = .pre then (w.releaseRaw i).removeRow i else w
  | none => w

/-- Ring drop: every PRE row is removed, and every open EXPOSING ring row is marked DROPPED (R14). -/
def Work.dropRing (w : Work) : Work :=
  w.bm.rows.foldl (fun v r =>
    if r.life = .pre then v.evictRow r.index
    else if r.life = .exposing ∧ r.mark = some .opened then
      v.mapRow r.index fun x => { x with mark := some .dropped }
    else v) w

end Sys2Proof.Machine
end

