-- ==== Sys2Proof/Machine/Card.lean ====
section
/-! DEFINITION. The Card Writer (06_card_recording.md): slots, extents and pieces, first states, failures and failover,
selections, runs and their ends, stops, locks, faults, removals, and TU's reads. -/

namespace Sys2Proof.Machine

/-! ### Slots and duties -/

/-- The record of a slot. -/
def Cw.slot (c : Cw) : SlotId → Slot
  | .a => c.a
  | .b => c.b

/-- Change the record of a slot. -/
def Work.mapSlot (s : SlotId) (f : Slot → Slot) (w : Work) : Work :=
  match s with
  | .a => { w with cw := { w.cw with a := f w.cw.a } }
  | .b => { w with cw := { w.cw with b := f w.cw.b } }

/-- A SLOT_CHANGE occurrence with both states (R120). -/
def Work.slotChanged (w : Work) : Work := w.raise .slotChange [w.cw.a.state.byte, w.cw.b.state.byte]

/-- The slot enters a state; a change raises SLOT_CHANGE (R120). -/
def Work.enterSlot (s : SlotId) (st : SlotState) (w : Work) : Work :=
  if (w.cw.slot s).state = st then w else (w.mapSlot s fun x => { x with state := st }).slotChanged

/-- The duty a reference names. -/
def Work.duty? (w : Work) (d : DutyRef) : Option CardDuty := (w.bm.row? d.row).bind fun r => r.cards[d.place]?

/-- A report of CW that changes a duty's entry; a report for a final entry is discarded (R9). -/
def Work.mapDuty (d : DutyRef) (f : CardDuty → CardDuty) (w : Work) : Work :=
  w.mapRow d.row fun r => { r with cards := r.cards.modify d.place fun x => if x.state.isFinal then x else f x }

/-- The sector need of a chain (R131). -/
def sectorNeed : Chain → Nat
  | .raw => ceilDiv Config.rawLength Config.sectorBytes
  | .proof => ceilDiv Config.proofLength Config.sectorBytes

/-- The byte length of a chain (R2). -/
def chainLength : Chain → Nat
  | .raw => Config.rawLength
  | .proof => Config.proofLength

/-- The pages of a chain of a row. -/
def Row.pagesOf (r : Row) : Chain → List Nat
  | .raw => (r.raw.map RawChain.pages).getD []
  | .proof => (r.proof.map ProofChain.pages).getD []

/-! ### Extents (R125, R126, R132) -/

/-- The extent queue changes; a fall of the queued sectors below 164,064 raises EXTENTS_LOW (R126). -/
def Work.setExtents (s : SlotId) (q : List Piece) (w : Work) : Work :=
  let w1 := w.mapSlot s fun x => { x with extents := q }
  if Config.extentsLow ≤ (w.cw.slot s).queued ∧ (w1.cw.slot s).queued < Config.extentsLow then
    w1.raise .extentsLow (leBytes 4 w1.cw.a.queued ++ leBytes 4 w1.cw.b.queued)
  else w1

/-- The first eight extents hold at least the need (R132). -/
def coverable (extents : List Piece) (need : Nat) : Bool := decide (need ≤ ((extents.take 8).map Piece.count).sum)

/-- The pieces taken from the head of the extent queue for a need, and the queue they leave (R132). -/
def takePieces : Nat → List Piece → List Piece × List Piece
  | _, [] => ([], [])
  | need, e :: q =>
    if need = 0 then ([], e :: q)
    else if e.count ≤ need then
      let r := takePieces (need - e.count) q
      (e :: r.1, r.2)
    else ([{ start := e.start, count := need }], { start := e.start + need, count := e.count - need } :: q)

/-- Where chain sector `k` lies in pieces, and how many sectors up to `top` follow it inside its piece (R131, R133). -/
def placeAt (top : Nat) : List Piece → Nat → Option Piece
  | [], _ => none
  | p :: ps, k => if k < p.count then some { start := p.start + k, count := min top (p.count - k) }
                  else placeAt top ps (k - p.count)

/-! ### Runs (R131, R133) -/

/-- The bytes of chain sectors k to k + n - 1; bytes beyond the chain's length are zero (R131). -/
def sectorData (m : Memory) (pages : List Nat) (length k n : Nat) : List Byte :=
  (List.range (Config.sectorBytes * n)).map fun i =>
    if Config.sectorBytes * k + i < length then chainByte m pages (Config.sectorBytes * k + i) else 0

/-- The next run of the writing duty starts: the WRITE goes to the card and the run timer runs with it (R133). -/
def Work.startRun (s : SlotId) (w : Work) : Work :=
  match (w.cw.slot s).writing with
  | some wr =>
    match w.duty? wr.duty, w.bm.row? wr.duty.row with
    | some d, some r =>
      match placeAt Config.runSectors d.pieces wr.written with
      | some p =>
        let data := sectorData w.mem (r.pagesOf d.chain) (chainLength d.chain) wr.written p.count
        w.mapSlot s fun x => { x with op := .run p.start p.count data }
      | none => w
    | _, _ => w
  | none => w

/-- The oldest waiting read starts when the channel carries nothing (R140). -/
def Work.startRead (s : SlotId) (w : Work) : Work :=
  match (w.cw.slot s).op, (w.cw.slot s).reads with
  | .idle, r :: rest => if w.cw.stopped then w else w.mapSlot s fun x => { x with op := .read r true, reads := rest }
  | _, _ => w

/-! ### Selection (R132) -/

/-- The walk of a selection: a duty that cannot be covered becomes WAITING_EXTENTS; the first that can is chosen. -/
def Work.walk (s : SlotId) : List DutyRef → Work → Option DutyRef × Work
  | [], w => (none, w)
  | d :: q, w =>
    match w.duty? d with
    | some x =>
      if coverable (w.cw.slot s).extents (sectorNeed x.chain) then (some d, w)
      else Work.walk s q (if x.state = .pending then w.mapDuty d fun y => { y with state := .waitingExtents } else w)
    | none => Work.walk s q w

/-- The chosen duty takes its pieces, becomes the writing duty, and its first run starts (R132). -/
def Work.beginChain (s : SlotId) (d : DutyRef) (w : Work) : Work :=
  match w.duty? d with
  | some x =>
    let t := takePieces (sectorNeed x.chain) (w.cw.slot s).extents
    let w1 := w.mapDuty d fun y => { y with state := .writing, pieces := t.1 }
    let w2 := w1.setExtents s t.2
    (w2.mapSlot s fun y =>
      { y with writeQ := y.writeQ.filter fun e => !decide (e = d), writing := some { duty := d, written := 0 },
               runsSince := 1, state := .writing }).startRun s
  | none => w

/-- A selection may be made: no operation is on the channel, the stopped flag is off and the queue is not empty. -/
def Work.maySelect (w : Work) (s : SlotId) : Bool :=
  decide ((w.cw.slot s).op = .idle) && !w.cw.stopped && !(w.cw.slot s).writeQ.isEmpty

/-- A selection on a READY slot (R132). EXTENTS_LOW is raised before SLOT_CHANGE (log entry 57). -/
def Work.selectDuty (s : SlotId) (w : Work) : Work :=
  if (w.cw.slot s).state = .ready ∧ w.maySelect s = true then
    match Work.walk s (w.cw.slot s).writeQ w with
    | (some d, w1) => (w1.beginChain s d).slotChanged
    | (none, w1) => w1
  else w

/-- The slot enters READY after a chain and makes a selection. When another chain can start the slot stays WRITING
for it (R134 step 4, R141); otherwise a waiting read starts (R140). -/
def Work.afterChain (s : SlotId) (w : Work) : Work :=
  if w.maySelect s = true then
    match Work.walk s (w.cw.slot s).writeQ w with
    | (some d, w1) =>
      if (w.cw.slot s).state = .writing then w1.beginChain s d else (w1.beginChain s d).slotChanged
    | (none, w1) => (w1.enterSlot s .ready).startRead s
  else (w.enterSlot s .ready).startRead s

/-! ### Duties made, failed and reassigned (R129, R142) -/

/-- The causes for which failover applies (R142). -/
def CardCause.reassigns : CardCause → Bool
  | .write | .locked | .fault | .removed | .detached => true
  | .discarded | .sourceLost | .power => false

/-- A failed duty is reassigned to slot B (R142). Not while the row's discard is pending (R20; log entry 37). -/
def Work.reassigns (w : Work) (r : Row) (x : CardDuty) (cause : CardCause) : Bool :=
  decide (x.chain = .raw) && decide (x.slot = .a) && decide (r.policy = some .overflow) && cause.reassigns &&
    w.cw.b.writable && !w.cw.stopped && !r.discarding

/-- A card duty joins the row's duty list. -/
def Work.addCard (i : Nat) (s : SlotId) (c : Chain) (st : CardState) (again : Bool) (w : Work) : Work :=
  w.mapRow i fun r => { r with cards := r.cards ++
    [{ slot := s, chain := c, state := st, pieces := [], spoiled := false, cause := none, reassigned := again }] }

/-- A duty becomes FAILED: the entry is stored, STORE_FAILED raised, and the duty that failover makes on B joins B's
write queue in the same step (R134 step 3, R142). The checks come after. -/
def Work.storeFail (d : DutyRef) (cause : CardCause) (spoiled : Bool) (w : Work) : Work :=
  match w.bm.row? d.row, w.duty? d with
  | some r, some x =>
    if x.state.isFinal then w
    else
      let w1 := (w.mapDuty d fun y => { y with state := .failed, cause := some cause, spoiled := spoiled }).raise
        .storeFailed (leBytes 3 (r.number.getD 0) ++ [slotByte x.slot, cause.byte])
      if w.reassigns r x cause then
        (w1.addCard d.row .b .raw .pending true).mapSlot .b fun y =>
          { y with writeQ := y.writeQ ++ [{ row := d.row, place := r.cards.length }] }
      else w1
  | _, _ => w

/-- A duty becomes FAILED; BM runs its checks, and B makes a selection when failover gave it a duty (R142). STORE_FAILED
comes before a SHOT_SETTLED of the checks and before the notices of B (log entry 57). -/
def Work.failDuty (d : DutyRef) (cause : CardCause) (spoiled : Bool) (w : Work) : Work :=
  match w.bm.row? d.row, w.duty? d with
  | some r, some x =>
    let w1 := (w.storeFail d cause spoiled).check d.row
    if w.reassigns r x cause = true ∧ x.state.isFinal = false then w1.selectDuty .b else w1
  | _, _ => w

/-- A duty takes its first state from its slot's state (R129). -/
def Work.firstState (d : DutyRef) (w : Work) : Work :=
  match w.duty? d with
  | some x =>
    match (w.cw.slot x.slot).state with
    | .absent | .present =>
      (w.mapDuty d fun y => { y with state := .waitingSlot }).mapSlot x.slot fun y => { y with waitQ := y.waitQ ++ [d] }
    | .ready | .writing | .suspended =>
      ((w.mapDuty d fun y => { y with state := .pending }).mapSlot x.slot fun y =>
        { y with writeQ := y.writeQ ++ [d] }).selectDuty x.slot
    | .locked => w.storeFail d .locked false
    | .fault => w.storeFail d .fault false
  | none => w

/-- The places of a row's card duties that are not final. -/
def Row.openCards (r : Row) : List DutyRef :=
  ((List.range r.cards.length).filter fun k => r.cards[k]?.any fun d => !d.state.isFinal).map fun k =>
    { row := r.index, place := k }

/-- A duty leaves its slot's lists. -/
def Work.unlist (d : DutyRef) (w : Work) : Work :=
  match w.duty? d with
  | some x => w.mapSlot x.slot fun y =>
      { y with writeQ := y.writeQ.filter fun e => !decide (e = d), waitQ := y.waitQ.filter fun e => !decide (e = d) }
  | none => w

/-- Every duty of a slot's write queue fails at entry to LOCKED or FAULT, in queue order (R136, R137); none while the
stopped flag is set (R146). -/
def Work.failQueue (s : SlotId) (cause : CardCause) (w : Work) : Work :=
  if w.cw.stopped then w
  else (w.cw.slot s).writeQ.foldl (fun v d => v.failDuty d cause false) (w.mapSlot s fun x => { x with writeQ := [] })

/-- The slot gives up its waiting duties when it loses its card (R123); nothing while the stopped flag is set (R146). -/
def Work.giveUp (s : SlotId) (cause : CardCause) (w : Work) : Work :=
  if w.cw.stopped then w
  else
    (w.cw.slot s).writeQ.foldl (fun v d =>
      match v.bm.row? d.row, v.duty? d with
      | some r, some x =>
        if x.chain = .raw ∧ s = .a ∧ r.policy = some .overflow then v.failDuty d cause false
        else (v.mapDuty d fun y => { y with state := .waitingSlot }).mapSlot s fun y =>
          { y with waitQ := y.waitQ ++ [d] }
      | _, _ => v) (w.mapSlot s fun x => { x with writeQ := [] })

/-! ### Reads (R140, R141) -/

/-- Every read of the slot fails with SOURCE_LOST, the one in flight first (R124, R137, R138). -/
def Work.failReads (s : SlotId) (w : Work) : Work :=
  let sl := w.cw.slot s
  let w1 := match sl.op with
    | .read r true => (w.mapSlot s fun x => { x with op := .idle }).post (.readEnded r.buffer none)
    | .read _ false => w.mapSlot s fun x => { x with op := .idle }
    | .idle | .run _ _ _ => w
  sl.reads.foldl (fun v r => v.post (.readEnded r.buffer none)) (w1.mapSlot s fun x => { x with reads := [] })

/-- The waiting reads are dropped without an answer and the data of the read in flight will be discarded (R146, R147). -/
def Slot.dropReads (x : Slot) : Slot :=
  { x with reads := [], op := match x.op with
      | .read r _ => .read r false
      | .idle => .idle
      | .run a b c => .run a b c }

/-- The reads are abandoned without an answer at entry to HALT (R145). -/
def Slot.abandonReads (x : Slot) : Slot :=
  { x with reads := [], op := match x.op with
      | .read _ _ => .idle
      | .idle => .idle
      | .run a b c => .run a b c }

/-- A change to both slots. -/
def Cw.mapBoth (f : Slot → Slot) (c : Cw) : Cw := { c with a := f c.a, b := f c.b }

/-- The slot suspends and serves the oldest waiting read (R141). -/
def Work.suspend (s : SlotId) (w : Work) : Work :=
  ((w.mapSlot s fun x => { x with served := 1 }).enterSlot s .suspended).startRead s

/-- The slot leaves SUSPENDED for WRITING and starts the next run (R141). -/
def Work.resume (s : SlotId) (w : Work) : Work :=
  ((w.mapSlot s fun x => { x with runsSince := 0 }).enterSlot s .writing).startRun s

/-- A read request of TU, judged when it is taken (R140, R146). -/
def Work.askRead (s : SlotId) (r : ReadRequest) (w : Work) : Work :=
  let sl := w.cw.slot s
  let fits : Bool := match sl.capacity with
    | some c => decide (r.start + r.count ≤ c)
    | none => false
  match sl.state with
  | .absent | .present | .fault => w.post (.readEnded r.buffer none)
  | .ready | .locked =>
    if w.cw.stopped = true ∨ fits = false then w.post (.readEnded r.buffer none)
    else (w.mapSlot s fun x => { x with reads := x.reads ++ [r] }).startRead s
  | .writing | .suspended =>
    if w.cw.stopped = true ∨ fits = false then w.post (.readEnded r.buffer none)
    else w.mapSlot s fun x => { x with reads := x.reads ++ [r] }

/-- An answer of a card acts on the operation in flight of its slot; a late one is discarded, whatever is then in flight
(R133, R140, log entry 54). -/
def Work.takeAnswer (a : CardAnswer) (acts : SlotId → Work → Work) (w : Work) : Work := if a.late then w else acts a.slot w

/-- A read ends with its data, or with none for SOURCE_LOST (R140, R141). -/
def Work.readEnd (s : SlotId) (data : Option (List Byte)) (w : Work) : Work :=
  match (w.cw.slot s).op with
  | .read r wanted =>
    let w1 := w.mapSlot s fun x => { x with op := .idle }
    let w2 := if wanted then w1.post (.readEnded r.buffer data) else w1
    match (w.cw.slot s).state with
    | .suspended =>
      if 4 ≤ (w.cw.slot s).served ∨ (w.cw.slot s).reads = [] then w2.resume s
      else (w2.mapSlot s fun x => { x with served := x.served + 1 }).startRead s
    | .ready => (w2.selectDuty s).startRead s
    | .locked => w2.startRead s
    | .absent | .present | .writing | .fault => w2
  | .idle | .run _ _ _ => w

/-- READ_OK: the data of the read in flight arrives whole (R140); data of another length is discarded (log entry 27). -/
def Work.readArrives (s : SlotId) (data : List Byte) (w : Work) : Work :=
  match (w.cw.slot s).op with
  | .read r _ => if data.length = Config.sectorBytes * r.count then w.readEnd s (some data) else w
  | .idle | .run _ _ _ => w

/-! ### The ends of runs, stops, locks, faults and removals (R124, R134 to R139) -/

/-- The detach acts (R124). -/
def Work.detachActs (s : SlotId) (w : Work) : Work :=
  let w1 := ((w.failReads s).giveUp s .detached).setExtents s []
  (w1.mapSlot s fun x =>
    { x with capacity := none, range := none, failRun := 0, lastFail := none }).enterSlot s .present

/-- The slot enters LOCKED (R136). -/
def Work.enterLocked (s : SlotId) (w : Work) : Work :=
  ((w.enterSlot s .locked).failQueue s .locked).startRead s

/-- The slot enters FAULT (R137). SLOT_CHANGE is raised before the STORE_FAILED of its queue (log entry 57). -/
def Work.enterFault (s : SlotId) (w : Work) : Work :=
  ((w.enterSlot s .fault).failQueue s .fault).failReads s

/-- The slot takes its next state at the end of a run, and the stops are cleared (R134 step 4). -/
def Work.nextSlot (s : SlotId) (w : Work) : Work :=
  let sl := w.cw.slot s
  let w1 := w.mapSlot s fun x => { x with stops := [] }
  if sl.stops.contains .detached then w1.detachActs s
  else if sl.failRun = 3 then w1.enterFault s
  else if sl.stops.contains .locked then w1.enterLocked s
  else if w.cw.stopped then w1.enterSlot s .ready
  else if sl.writing.isSome then
    if !sl.reads.isEmpty && decide (sl.runsSince = 1) then w1.suspend s else w1.startRun s
  else w1.afterChain s

/-- Steps 2 to 4 of R134: the duty's fate, its report, and the slot's next state. `done` says that the chain's last
run ended RUN_OK, `failed` that the run failed. -/
def Work.decideRun (s : SlotId) (done failed : Bool) (w : Work) : Work :=
  let sl := w.cw.slot s
  match sl.writing with
  | some wr =>
    if done then
      let chain := ((w.duty? wr.duty).map CardDuty.chain).getD .raw
      let w1 := (w.mapSlot s fun x => { x with failRun := 0, writing := none }).mapDuty wr.duty fun y =>
        { y with state := .done }
      ((w1.check wr.duty.row).post (.cardDone wr.duty.row chain)).nextSlot s
    else
      match sl.stops with
      | st :: _ => ((w.mapSlot s fun x => { x with writing := none }).failDuty wr.duty st.cause true).nextSlot s
      | [] =>
        if failed then ((w.mapSlot s fun x => { x with writing := none }).failDuty wr.duty .write true).nextSlot s
        else w.nextSlot s
  | none => w

/-- A run ends: with RUN_OK, or with a failure of the given kind (R134). With none in flight nothing happens (R133). -/
def Work.runEnd (s : SlotId) (fail : Option FailKind) (w : Work) : Work :=
  match (w.cw.slot s).op, (w.cw.slot s).writing with
  | .run _ n _, some wr =>
    let need := ((w.duty? wr.duty).map fun d => sectorNeed d.chain).getD 0
    let w1 := w.mapSlot s fun x => { x with op := .idle, runsSince := 1 }
    match fail with
    | none =>
      (w1.mapSlot s fun x => { x with writing := some { wr with written := wr.written + n } }).decideRun s
        (decide (need ≤ wr.written + n)) false
    | some k =>
      (w1.mapSlot s fun x => { x with failRun := min 3 (x.failRun + 1), lastFail := some k }).decideRun s false true
  | _, _ => w

/-- The frame-memory interface fails CW's read for a run: the run is not sent (R139, log entry 16). -/
def Work.runSourceLost (s : SlotId) (w : Work) : Work :=
  match (w.cw.slot s).op, (w.cw.slot s).writing with
  | .run _ _ _, some wr =>
    ((w.mapSlot s fun x => { x with op := .idle, writing := none }).failDuty wr.duty .sourceLost true).nextSlot s
  | _, _ => w

/-- A stop is asked of the writing duty; in SUSPENDED it acts at once (R135). -/
def Work.askStop (s : SlotId) (c : Stop) (w : Work) : Work :=
  let w1 := w.mapSlot s fun x => { x with stops := if x.stops.contains c then x.stops else x.stops ++ [c] }
  if (w.cw.slot s).state = .suspended then w1.decideRun s false false else w1

/-- The lock line takes a level (R121, R136). -/
def Work.lockLine (s : SlotId) (on : Bool) (w : Work) : Work :=
  let sl := w.cw.slot s
  if sl.cardIn = false ∨ sl.lockOn = on then w
  else
    let w1 := w.mapSlot s fun x => { x with lockOn := on }
    match sl.state with
    | .ready => if on then w1.enterLocked s else w1
    | .writing | .suspended =>
      if on then w1.askStop s .locked
      else w1.mapSlot s fun x => { x with stops := x.stops.filter fun c => !decide (c = .locked) }
    | .locked => if on then w1 else ((w1.enterSlot s .ready).selectDuty s).startRead s
    | .absent | .present | .fault => w1

/-- The card is removed (R138). -/
def Work.removeCard (s : SlotId) (w : Work) : Work :=
  let sl := w.cw.slot s
  let w1 := match sl.op with
    | .run _ _ _ => w.mapSlot s fun x => { x with op := .idle }
    | .idle | .read _ _ => w
  let w2 := match sl.writing with
    | some wr =>
      (w1.mapSlot s fun x => { x with writing := none }).failDuty wr.duty
        ((sl.stops.head?.map Stop.cause).getD .removed) true
    | none => w1
  let w3 := ((w2.failReads s).giveUp s .removed).setExtents s []
  (w3.mapSlot s fun x => { x with capacity := none, range := none, stops := [], lockOn := false, failRun := 0,
                                  lastFail := none }).enterSlot s .absent

/-- The card line takes a level (R121, R138). -/
def Work.cardLine (s : SlotId) (inserted : Bool) (w : Work) : Work :=
  if (w.cw.slot s).cardIn = inserted then w
  else
    let w1 := w.mapSlot s fun x => { x with cardIn := inserted, lockOn := if inserted then false else x.lockOn }
    if inserted then (if (w.cw.slot s).state = .absent then w1.enterSlot s .present else w1) else w1.removeCard s

/-- The slot deals with its waiting-slot list after an attach (R122): PENDING on a READY slot, FAILED(LOCKED) on a
LOCKED one; under the stopped flag the list keeps its duties (R146, log entry 35). -/
def Work.serveWaiting (s : SlotId) (w : Work) : Work :=
  if w.cw.stopped then w
  else
    let q := (w.cw.slot s).waitQ
    let w1 := w.mapSlot s fun x => { x with waitQ := [] }
    if (w.cw.slot s).state = .ready then
      (q.foldl (fun v d => (v.mapDuty d fun y => { y with state := .pending }).mapSlot s fun y =>
        { y with writeQ := y.writeQ ++ [d] }) w1).selectDuty s
    else q.foldl (fun v d => v.failDuty d .locked false) w1

/-! ### Events of the rows (R19, R143) -/

/-- The proof of the row exists: each card PROOF duty in WAITING_SOURCE takes its first state (R143). -/
def Work.proofExists (i : Nat) (w : Work) : Work :=
  match w.bm.row? i with
  | some r => r.openCards.foldl (fun v d =>
      match v.duty? d with
      | some x => if x.chain = .proof ∧ x.state = .waitingSource then (v.firstState d).check i else v
      | none => v) w
  | none => w

/-- The proof of the row is lost: each card PROOF duty that is not final fails (R143). -/
def Work.cardProofLost (i : Nat) (w : Work) : Work :=
  match w.bm.row? i with
  | some r => r.openCards.foldl (fun v d =>
      match v.duty? d with
      | some x =>
        if x.chain = .proof ∧ x.state ≠ .writing then (v.unlist d).failDuty d .sourceLost false else v
      | none => v) w
  | none => w

/-- A discard ends the card duties of the row: the writing one is asked to stop, every other fails at once (R19). -/
def Work.discardCards (i : Nat) (w : Work) : Work :=
  match w.bm.row? i with
  | some r => r.openCards.foldl (fun v d =>
      match v.duty? d with
      | some x =>
        if x.state = .writing then v.askStop x.slot .discarded
        else if x.state.isFinal then v
        else (v.unlist d).failDuty d .discarded false
      | none => v) w
  | none => w

/-- CW's response to the supply warning (R146). The writing duty of A is stopped before that of B (log entry 14). -/
def Work.cardWarning (w : Work) : Work :=
  let w1 : Work := { w with cw := ({ w.cw with stopped := true } : Cw).mapBoth Slot.dropReads }
  let stop (v : Work) (s : SlotId) : Work := if (v.cw.slot s).writing.isSome then v.askStop s .power else v
  stop (stop w1 .a) .b

end Sys2Proof.Machine
end

