-- ==== Sys2Proof/Machine/Development.lean ====
section
/-! DEFINITION. The Development Engine (05_development.md): the queue, the start of a job, the stages of a proof row,
and the ends of a job. -/

namespace Sys2Proof.Machine

/-! ### The stages of a proof pixel (R103 to R107) -/

/-- A quad of raw samples (R102). -/
structure Quad where
  r : Nat
  g1 : Nat
  g2 : Nat
  b : Nat
  deriving DecidableEq, Repr

/-- A proof pixel: its luma, its clamped colour differences, and whether its quad was neutralised. -/
structure Pixel where
  y : Nat
  cb : Nat
  cr : Nat
  clipped : Bool
  deriving DecidableEq, Repr

/-- Stage 0: a sample is at or above W (R103). -/
def Quad.isClipped (q : Quad) (l : Look) : Bool :=
  decide (l.w ≤ q.r) || decide (l.w ≤ q.g1) || decide (l.w ≤ q.g2) || decide (l.w ≤ q.b)

/-- Stage 2: a gain, halves rounded up, saturating (R104). -/
def applyGain (v gain : Nat) : Nat := min 16383 ((v * gain + 512) / 1024)

/-- Stages 0 to 2: the three balanced channels (R103, R104). -/
def Quad.balanced (q : Quad) (l : Look) : Nat × Nat × Nat :=
  if q.isClipped l then (16383, 16383, 16383)
  else (applyGain (q.r - l.bl) l.gR, applyGain ((q.g1 + q.g2 + 1) / 2 - l.bl) l.gG, applyGain (q.b - l.bl) l.gB)

/-- Stage 3: the tone curve, interpolated with halves rounded up (R105). -/
def toneOut (tone : List Nat) (v : Nat) : Nat :=
  let k := v / 512
  let t0 := tone.getD k 0
  let t1 := tone.getD (k + 1) 0
  t0 + ((t1 - t0) * (v % 512) + 256) / 512

/-- Stage 4: luma and colour differences (R106). -/
def lumaOf (r g b : Nat) : Nat := (77 * r + 150 * g + 29 * b + 128) / 256
def cbOf (r g b : Nat) : Nat := min 255 ((128 * b + 32896 - 43 * r - 85 * g) / 256)
def crOf (r g b : Nat) : Nat := min 255 ((128 * r + 32896 - 107 * g - 21 * b) / 256)

/-- The proof pixel of a quad (R102 to R106). -/
def Quad.pixel (q : Quad) (l : Look) : Pixel :=
  let c := q.balanced l
  let r := toneOut l.tone c.1
  let g := toneOut l.tone c.2.1
  let b := toneOut l.tone c.2.2
  { y := lumaOf r g b, cb := cbOf r g b, cr := crOf r g b, clipped := q.isClipped l }

/-- The quads of two raw lines (R102). -/
def quadsOf : List Nat → List Nat → List Quad
  | r :: g1 :: top, g2 :: b :: bottom => { r := r, g1 := g1, g2 := g2, b := b } :: quadsOf top bottom
  | _, _ => []

/-- Stage 5: pixels packed in pairs, Y0, Cb, Y1, Cr (R107). -/
def packPixels : List Pixel → List Byte
  | p :: q :: rest =>
    BitVec.ofNat 8 p.y :: BitVec.ofNat 8 ((p.cb + q.cb + 1) / 2) :: BitVec.ofNat 8 q.y ::
      BitVec.ofNat 8 ((p.cr + q.cr + 1) / 2) :: packPixels rest
  | _ => []

/-- The bins with one pixel counted (R108). -/
def countPixel (bins : List Nat) (p : Pixel) : List Nat := bins.modify (p.y / 4) (· + 1)

/-- Raw line `n` of a raw chain (R58, R102). -/
def rawLine (m : Memory) (pages : List Nat) (n : Nat) : List Byte :=
  chainRead m pages (Config.headerBytes + Config.lineBytes * n) Config.lineBytes

/-- The pixels of proof row `y` (R102). -/
def rowPixels (m : Memory) (pages : List Nat) (l : Look) (y : Nat) : List Pixel :=
  (quadsOf (unpackSamples (rawLine m pages (2 * y))) (unpackSamples (rawLine m pages (2 * y + 1)))).map fun q =>
    q.pixel l

/-! ### The queue (R97, R98) -/

/-- The head of the development queue: the oldest URGENT job, or the oldest NORMAL one. -/
def De.head? (d : De) : Option Nat := match d.urgent with
  | i :: _ => some i
  | [] => d.normal.head?

/-- A job leaves the queue. -/
def De.drop (d : De) (i : Nat) : De :=
  { d with urgent := d.urgent.filter fun j => !(j == i), normal := d.normal.filter fun j => !(j == i) }

/-- A job joins the tail of a class. -/
def De.join (d : De) (i : Nat) : DevelopClass → De
  | .urgent => { d with urgent := d.urgent ++ [i] }
  | .normal => { d with normal := d.normal ++ [i] }

/-- A job joins the front of a class (R118). -/
def De.joinFront (d : De) (i : Nat) : DevelopClass → De
  | .urgent => { d with urgent := i :: d.urgent }
  | .normal => { d with normal := i :: d.normal }

/-- DE reports a change of a develop duty to BM, and BM to TU; a final duty does not change (R9, R156). -/
def Work.setDevelop (i : Nat) (st : DevelopState) (w : Work) : Work :=
  (w.mapRow i fun r => if r.develop.isFinal && !decide (r.develop = .absent) then r else { r with develop := st }).post
    (.developChanged i)

/-- BM creates a develop duty, PENDING in a class, and its job joins the tail of the class (R15, R18, R99). -/
def Work.createDevelop (i : Nat) (c : DevelopClass) (w : Work) : Work :=
  let w1 := (w.mapRow i fun r => { r with cls := c }).setDevelop i .pending
  ({ w1 with de := w1.de.join i c } : Work).post .deLook

/-- Promotion to URGENT (R98). -/
def Work.promoteJob (i : Nat) (w : Work) : Work :=
  match w.bm.row? i with
  | some r =>
    match r.develop with
    | .pending =>
      if r.cls = .normal then
        let w1 := w.mapRow i fun x => { x with cls := .urgent }
        ({ w1 with de := (w1.de.drop i).join i .urgent } : Work).post .deLook
      else w
    | .running => w.mapRow i fun x => { x with cls := .urgent }
    | .absent | .done | .failed | .cancelled => w
  | none => w

/-! ### Starting a job (R100, R101) -/

/-- The proof header: the raw chain's header with its chain kind set to PROOF (R100). -/
def proofHeader (m : Memory) (pages : List Nat) : List Byte :=
  Chain.proof.byte :: chainRead m pages 1 (Config.headerBytes - 1)

/-- The head becomes the running job on the grant of its proof chain (R100). -/
def Work.startJob (i : Nat) (w : Work) : Work :=
  match w.bm.row? i with
  | some r =>
    let w1 := w.setDevelop i .running
    let job : Job := { row := i, slot := r.look, look := w.de.looks.getD r.look Look.defaults,
                       bins := List.replicate 64 0, clip := 0, cancel := false, discard := false }
    { w1 with de := { w1.de.drop i with job := some job, engine := .running },
              mem := chainWrite w1.mem (r.pagesOf .proof) 0 (proofHeader w1.mem (r.pagesOf .raw)) }
  | none => w

/-- DE looks at the head of its queue and asks for its proof allocation (R93, R100, R101). -/
def Work.lookHead (w : Work) : Work :=
  match w.de.engine with
  | .idle | .starved =>
    match w.de.head? with
    | some i =>
      match w.proofAlloc i with
      | some w1 => w1.startJob i
      | none => { w with de := { w.de with engine := .starved } }
    | none => { w with de := { w.de with engine := .idle } }
  | .running | .stopped => w

/-! ### The ends of a job (R109 to R113, R118) -/

/-- The running job is over: DE takes the head of the queue or becomes IDLE (R93). -/
def Work.nextJob (w : Work) : Work :=
  ({ w with de := { w.de with job := none, engine := .idle } } : Work).lookHead

/-- The proof of a row is lost: BM tells CW and TU (R112), CW first (log entry 57). -/
def Work.loseProof (i : Nat) (w : Work) : Work := (w.cardProofLost i).post (.proofLost i)

/-- The job completes (R109). -/
def Work.completeJob (j : Job) (w : Work) : Work :=
  let n := w.shotOf j.row
  let w1 : Work := { w with de := { w.de with histogram := some { shot := n, bins := j.bins, clip := j.clip } } }
  (((((w1.setDevelop j.row .done).check j.row).proofExists j.row).raise .developDone (leBytes 3 n))).nextJob

/-- The job stops at a row boundary for a cancel or a discard (R110, R113). -/
def Work.stopJob (j : Job) (w : Work) : Work :=
  let w1 := (w.setDevelop j.row .cancelled).check j.row
  (if j.cancel then w1.loseProof j.row else w1).nextJob

/-- The row of the running job that DE writes next: its frontier (R102). -/
def Row.nextProofRow (r : Row) : Nat := (r.proof.map ProofChain.frontier).getD 0

/-- The job with the pixels of a row counted (R108). -/
def Job.count (j : Job) (pixels : List Pixel) : Job :=
  { j with bins := pixels.foldl countPixel j.bins, clip := j.clip + (pixels.filter Pixel.clipped).length }

/-- The pixels of a proof row go into the proof chain and the counts, and the frontier is raised for the row (R102,
R107, R108). -/
def Work.putRow (j : Job) (r : Row) (pixels : List Pixel) (w : Work) : Work :=
  let y := r.nextProofRow
  let w1 : Work := { w with
    de := { w.de with job := some (j.count pixels) },
    mem := chainWrite w.mem (r.pagesOf .proof) (Config.headerBytes + Config.proofRowBytes * y) (packPixels pixels) }
  (w1.mapRow j.row fun x => { x with proof := x.proof.map fun c => { c with frontier := y + 1 } }).post
    (.frontier j.row)

/-- After a row the job completes, stops where a stop is asked, or goes on (R102, R109, R110, R113). -/
def Work.afterRow (j : Job) (written : Nat) (w : Work) : Work :=
  if written = Config.proofRows then w.completeJob j
  else if j.cancel || j.discard then w.stopJob j
  else w

/-- DE writes the next proof row of the running job (R102). -/
def Work.writeRow (w : Work) : Work :=
  match w.de.job with
  | some j =>
    match w.bm.row? j.row with
    | some r =>
      let pixels := rowPixels w.mem (r.pagesOf .raw) j.look r.nextProofRow
      (w.putRow j r pixels).afterRow (j.count pixels) (r.nextProofRow + 1)
    | none => w
  | none => w

/-- A read of the raw chain fails: the job stops at once (R111). -/
def Work.failJob (w : Work) : Work :=
  match w.de.job with
  | some j =>
    let w1 := w.setDevelop j.row .failed
    let w2 : Work := { w1 with de := { w1.de with
      failedJobs := satSucc 65535 w1.de.failedJobs, lastFailed := some (w1.shotOf j.row) } }
    ((w2.check j.row).loseProof j.row).nextJob
  | none => w

/-- A PENDING job is cancelled by DEVELOP_CANCEL (R110). -/
def Work.cancelPending (i : Nat) (w : Work) : Work :=
  let w1 : Work := { w with de := w.de.drop i }
  (((w1.setDevelop i .cancelled).check i).loseProof i).post .deLook

/-- A discard ends the develop duty of the row (R19, R113). -/
def Work.discardDevelop (i : Nat) (w : Work) : Work :=
  match w.bm.row? i with
  | some r =>
    match r.develop with
    | .pending =>
      let w1 : Work := { w with de := w.de.drop i }
      ((w1.setDevelop i .cancelled).check i).post .deLook
    | .running =>
      { w with de := { w.de with job := w.de.job.map fun j => if j.row = i then { j with discard := true } else j } }
    | .absent | .done | .failed | .cancelled => w
  | none => w

/-- DE's response to the supply warning (R118). -/
def Work.developWarning (w : Work) : Work :=
  match w.de.job with
  | some j =>
    let c := ((w.bm.row? j.row).map Row.cls).getD .normal
    let w1 := w.setDevelop j.row .pending
    ({ w1 with de := { (w1.de.joinFront j.row c) with job := none, engine := .stopped } } : Work).check j.row
  | none => { w with de := { w.de with engine := .stopped } }

end Sys2Proof.Machine
end

