-- ==== Sys2Proof/Machine/Tether.lean ====
section
/-! DEFINITION. The Tether Unit (07_tether.md): the link, the desk frames it sends, the send queue, transfers, early
send, card reads, demotion, and the judgment of a SEND. -/

namespace Sys2Proof.Machine

/-! ### Counters (R170) -/

/-- The five counters. -/
inductive CounterKind | ackTimeouts | restarted | underruns | dropped | failed
  deriving DecidableEq, Repr

def Counters.get (c : Counters) : CounterKind → Nat
  | .ackTimeouts => c.ackTimeouts | .restarted => c.restarted | .underruns => c.underruns
  | .dropped => c.dropped | .failed => c.failed

/-- One counter rises by one, saturating at 255. -/
def Counters.rise (c : Counters) : CounterKind → Counters
  | .ackTimeouts => { c with ackTimeouts := satSucc 255 c.ackTimeouts }
  | .restarted => { c with restarted := satSucc 255 c.restarted }
  | .underruns => { c with underruns := satSucc 255 c.underruns }
  | .dropped => { c with dropped := satSucc 255 c.dropped }
  | .failed => { c with failed := satSucc 255 c.failed }

/-- A counter event: COUNTER_HIGH is raised when the counter goes from 254 to 255 (R170). -/
def Work.bump (k : CounterKind) (w : Work) : Work :=
  let w1 : Work := { w with tu := { w.tu with counters := w.tu.counters.rise k } }
  if w.tu.counters.get k = 254 then w1.raise .counterHigh [] else w1

/-! ### The link and the frames of the 740 (R149, R151, 10.4) -/

/-- The broadcast address: all ones (R150). -/
def broadcast : BitVec 48 := 0xFFFFFFFFFFFF#48

/-- The link enters a state; a change raises TETHER_CHANGE (R149). -/
def Work.enterLink (l : Link) (w : Work) : Work :=
  if w.tu.link = l then w
  else ({ w with tu := { w.tu with link := l } } : Work).raise .tetherChange [l.byte]

/-- A frame to an address. -/
def Work.sendTo (dst : BitVec 48) (kind : Byte) (fields : List Byte) (w : Work) : Work :=
  w.emit (.desk (wireFrame dst (w.tu.settings.ownMac.getD 0) w.tu.settings.etherType kind fields))

/-- A frame to the bound desk (07 section 7.2). -/
def Work.sendDesk (kind : Byte) (fields : List Byte) (w : Work) : Work :=
  w.sendTo (w.tu.bound.getD 0) kind fields

/-- HELLO: to the broadcast address when desk MAC is ANY, and to the desk MAC otherwise (R151). -/
def Work.sendHello (w : Work) : Work :=
  w.sendTo (if w.tu.settings.deskMac = 0 then broadcast else w.tu.settings.deskMac) 0x01
    (leBytes 6 (w.tu.settings.ownMac.getD 0).toNat ++ w.tu.settings.name)

/-- ABORT's causes (R196). -/
inductive AbortCause | cancelled | underrun | sourceLost | disabled | power
  deriving DecidableEq, Repr

def AbortCause.byte : AbortCause → Byte
  | .cancelled => 0 | .underrun => 1 | .sourceLost => 2 | .disabled => 3 | .power => 4

/-- The binding and the HELLO and desk-loss timers are cleared. -/
def Tu.unbind (t : Tu) : Tu := { t with bound := none, helloTimer := false, deskTimer := false }

/-- Entry to UNBOUND: a HELLO at once and the HELLO timer started (R151); no HELLO while the stopped flag is set
(R173). -/
def Work.enterUnbound (w : Work) : Work :=
  let w1 := ({ w with tu := w.tu.unbind } : Work).enterLink .unbound
  if w.tu.stopped then w1
  else ({ w1 with tu := { w1.tu with helloTimer := true } } : Work).sendHello

/-! ### The send queue (R152) -/

/-- An entry joins at the tail of its class. -/
def insertTail (e : Entry) : List Entry → List Entry
  | [] => [e]
  | x :: q => if e.prio ≤ x.prio then x :: insertTail e q else e :: x :: q

/-- An entry returns at the front of its class. -/
def insertFront (e : Entry) : List Entry → List Entry
  | [] => [e]
  | x :: q => if e.prio < x.prio then x :: insertFront e q else e :: x :: q

/-- The entry has this number and chain. -/
def Entry.is (e : Entry) (n : Nat) (c : Chain) : Bool := decide (e.number = n) && decide (e.chain = c)

/-- The entry with a number and chain. -/
def Tu.entry? (t : Tu) (n : Nat) (c : Chain) : Option Entry := t.queue.find? fun e => e.is n c

/-- The queue without the entry with a number and chain. -/
def Tu.dropEntry (t : Tu) (n : Nat) (c : Chain) : Tu := { t with queue := t.queue.filter fun e => !e.is n c }

/-- A change of the entry with a number and chain, in its place. -/
def Tu.mapEntry (t : Tu) (n : Nat) (c : Chain) (f : Entry → Entry) : Tu :=
  { t with queue := t.queue.map fun e => if e.is n c then f e else e }

/-- The number of entries ahead of the entry with a number and chain. -/
def Tu.ahead (t : Tu) (n : Nat) (c : Chain) : Nat := t.queue.findIdx fun e => e.is n c

/-- TU reports a change of a row's tether duty; a report for a final entry is discarded (R9). -/
def Work.mapTether (i : Nat) (c : Chain) (f : TetherDuty → TetherDuty) (w : Work) : Work :=
  let g (d : TetherDuty) : TetherDuty := if d.chain = c ∧ d.state.isFinal = false then f d else d
  w.mapRow i fun r => { r with tethers := r.tethers.map g }

/-- A DUTY entry reports its state, source, priority and early flag, and BM runs its checks (R152). -/
def Work.mirror (e : Entry) (w : Work) : Work :=
  match e.row with
  | some i => (w.mapTether i e.chain fun d =>
      { d with state := if e.sending then .sending else .pending, source := e.source, prio := e.prio,
               early := e.early }).check i
  | none => w

/-- An entry becomes final and leaves the queue: its duty's final state is reported, and SEND_DONE or SEND_FAILED
raised (R152, R155). A SHOT_SETTLED of BM's checks is raised before them (log entry 57). -/
def Work.endEntry (e : Entry) (st : TetherState) (cause : Option TetherCause) (w : Work) : Work :=
  let w1 : Work := { w with tu := w.tu.dropEntry e.number e.chain }
  let w2 := match e.row with
    | some i => (w1.mapTether i e.chain fun d => { d with state := st, cause := cause }).check i
    | none => w1
  match st, cause with
  | .done, _ => w2.raise .sendDone (leBytes 3 e.number ++ [e.chain.byte])
  | .failed, some c => w2.raise .sendFailed (leBytes 3 e.number ++ [e.chain.byte, c.byte])
  | _, _ => w2

/-! ### Demotion (R166) -/

/-- The DONE card copy of a row's chain, A before B (R153, R166). -/
def Row.copyOf (r : Row) (c : Chain) : Option CardCopy :=
  let done (s : SlotId) : Option CardCopy :=
    (r.cards.find? fun d => decide (d.slot = s) && decide (d.chain = c) && decide (d.state = .done)).map fun d =>
      { slot := s, pieces := d.pieces, length := chainLength c }
  match done .a with
  | some x => some x
  | none => done .b

/-- TU demotes the entry if it is a PENDING DUTY entry with source BUFFER whose row has a card duty of the same chain
in DONE. -/
def Work.demote (e : Entry) (w : Work) : Work :=
  match e.row.bind w.bm.row? with
  | some r =>
    match r.copyOf e.chain with
    | some copy =>
      if e.kind = .duty ∧ e.sending = false ∧ e.source = .buffer then
        let e1 : Entry := { e with source := .card, copy := some copy }
        ({ w with tu := w.tu.mapEntry e.number e.chain fun _ => e1 } : Work).mirror e1
      else w
    | none => w
  | none => w

/-- Every entry that R166 lets be demoted. -/
def Work.demoteAll (w : Work) : Work := w.tu.queue.foldl (fun v e => v.demote e) w

/-- Demotion is applied while the signal is up and the stopped flag is off. -/
def Tu.demotes (t : Tu) : Bool := t.reclaim && !t.stopped

/-! ### Card reads (R165) -/

/-- The sectors of a length (R131). -/
def sectorsOf (length : Nat) : Nat := ceilDiv length Config.sectorBytes

/-- A transfer ends or restarts: full buffers are freed, and reads not yet answered go stale (R165). -/
def Buffer.giveBack : Buffer → Buffer
  | .free => .free
  | .asked k n _ => .asked k n true
  | .full _ _ _ => .free

/-- TU gives up its reads and frees every buffer (R172, R173, R174). -/
def Tu.freeBuffers (t : Tu) : Tu := { t with buffers := t.buffers.map fun _ => .free }

/-- The entry of the active transfer. -/
def Tu.active? (t : Tu) : Option Entry := t.transfer.bind fun x => t.entry? x.number x.chain

/-- TU asks CW for the next chain sectors not yet asked, with the first free buffer, never across the end of a piece
(R165); none when there is no buffer, no sector left or no card transfer. -/
def Work.askOne (w : Work) : Option Work :=
  match w.tu.transfer, w.tu.active?.bind Entry.copy with
  | some t, some copy =>
    let left := sectorsOf t.length - t.nextSector
    match placeAt Config.readSectors copy.pieces t.nextSector, w.tu.buffers.findIdx? fun b => decide (b = .free) with
    | some p, some b =>
      if left = 0 then none
      else
        let n := min p.count left
        let w1 : Work := { w with tu := { w.tu with
          buffers := w.tu.buffers.set b (.asked t.nextSector n false),
          transfer := some { t with nextSector := t.nextSector + n } } }
        some (w1.askRead copy.slot { start := p.start, count := n, buffer := b })
    | _, _ => none
  | _, _ => none

/-- TU asks reads while buffers and sectors remain: at most one for each of the 8 buffers. -/
def Work.askReads : Nat → Work → Work
  | 0, w => w
  | k + 1, w =>
    match w.askOne with
    | some w1 => Work.askReads k w1
    | none => w

/-- A chain byte of the active card transfer that stands in a full buffer. -/
def bufferByte (buffers : List Buffer) (o : Nat) : Option Byte :=
  buffers.findSome? fun b => match b with
    | .full k n data =>
      if Config.sectorBytes * k ≤ o ∧ o < Config.sectorBytes * (k + n) then data[o - Config.sectorBytes * k]? else none
    | .free | .asked _ _ _ => none

/-- Every byte of a list, or none when one is missing. -/
def allBytes : List (Option Byte) → Option (List Byte)
  | [] => some []
  | some b :: l => (allBytes l).map fun bs => b :: bs
  | none :: _ => none

/-! ### Sending (R156 to R164) -/

/-- An entry is ready to be sent (R156). -/
def Work.ready (w : Work) (e : Entry) : Bool :=
  match e.source, e.chain with
  | .card, _ => true
  | .buffer, .raw => true
  | .buffer, .proof =>
    match e.row.bind w.bm.row? with
    | some r => decide (r.develop = .done) || (decide (r.develop = .running) && e.early)
    | none => false

/-- The limit of a transfer: the early limit of a PROOF entry with source BUFFER until the develop duty is DONE, and
the length otherwise (R163). -/
def Work.sendLimit (w : Work) (t : Transfer) (e : Entry) : Nat :=
  match e.source, e.chain with
  | .buffer, .proof =>
    match e.row.bind w.bm.row? with
    | some r =>
      if r.develop = .done then t.length
      else (r.proof.map fun c => Config.headerBytes + c.frontier * Config.proofRowBytes).getD 0
    | none => 0
  | .buffer, .raw => t.length
  | .card, _ => t.length

/-- The payload of the DATA frame at the next offset (R158). -/
def Transfer.payload (t : Transfer) : Nat := min Config.dataBytes (t.length - t.next)

/-- The window has room and the next offset is below the length (R158). -/
def Transfer.roomy (t : Transfer) : Bool :=
  decide ((t.next - t.acked) / Config.dataBytes < t.window) && decide (t.next < t.length)

/-- The transfer waits at the frontier: the early limit alone holds the next frame back (R164). -/
def Work.atFrontier (w : Work) : Bool :=
  match w.tu.link, w.tu.transfer, w.tu.active? with
  | .sending, some t, some e => t.roomy && decide (w.sendLimit t e < t.next + t.payload)
  | _, _, _ => false

/-- The underrun timer runs exactly while the transfer waits at the frontier (R164, log entry 30). -/
def Work.updateWait (w : Work) : Work := { w with tu := { w.tu with underTimer := w.atFrontier } }

/-- The frame at the next offset may be sent, but for its bytes (R158, R163). -/
def Work.maySend (w : Work) (t : Transfer) (e : Entry) : Bool :=
  decide (w.tu.link = .sending) && t.roomy && decide (t.next + t.payload ≤ w.sendLimit t e)

/-- The chain bytes of the frame at the next offset, when they are available (R158, R165). -/
def Work.frameData (w : Work) (t : Transfer) (e : Entry) : Option (List Byte) :=
  match e.source with
  | .card => allBytes ((List.range t.payload).map fun i => bufferByte w.tu.buffers (t.next + i))
  | .buffer =>
    match e.row.bind w.bm.row? with
    | some r => some (chainRead w.mem (r.pagesOf e.chain) t.next t.payload)
    | none => none

/-- OFFER (07 section 7.2). -/
def Work.sendOffer (t : Transfer) (w : Work) : Work :=
  w.sendDesk 0x04 (leBytes 2 t.id ++ leBytes 3 t.number ++ [t.chain.byte] ++ leBytes 4 t.length)

/-- FIN with the CRC-32 of the chain's bytes (R161). -/
def Work.sendFin (t : Transfer) (w : Work) : Work :=
  w.sendDesk 0x07 (leBytes 2 t.id ++ leBytes 4 t.length ++ leBytes 4 (~~~ t.crc).toNat)

/-- The length of an entry's chain: the card copy's, or the chain's (R157). -/
def Entry.length (e : Entry) : Nat := (e.copy.map CardCopy.length).getD (chainLength e.chain)

/-- A transfer record as it is opened (R157). -/
def Transfer.start (id : Nat) (e : Entry) (s : TetherSettings) : Transfer :=
  { id := id, number := e.number, chain := e.chain, length := e.length, next := 0, high := 0, acked := 0,
    timeouts := 0, bad := 0, window := s.window, ackTimeout := s.ackTimeout, crc := crc32Init, nextSector := 0 }

/-- The transfer of a selected entry starts (R157). -/
def Work.startTransfer (e : Entry) (w : Work) : Work :=
  let e1 : Entry := { e with sending := true }
  let t := Transfer.start w.tu.nextId e w.tu.settings
  let w1 := ({ w with tu := w.tu.mapEntry e.number e.chain fun _ => e1 } : Work).mirror e1
  let w2 : Work := { w1 with tu := { w1.tu with nextId := (w.tu.nextId + 1) % 65536, transfer := some t } }
  (Work.askReads 8 ((w2.sendOffer t).enterLink .sending)).updateWait

/-- A selection (R156). -/
def Work.selectEntry (w : Work) : Work :=
  if w.tu.link = .boundIdle ∧ w.tu.stopped = false then
    match w.tu.queue.find? fun e => w.ready e with
    | some e => w.startTransfer e
    | none => w
  else w

/-- DATA_SEND: TU sends the frame at the next offset when all of R158 holds, and folds its bytes into the CRC the
first time they are sent (R161). -/
def Work.sendData (w : Work) : Work :=
  match w.tu.transfer, w.tu.active? with
  | some t, some e =>
    if w.maySend t e then
      match w.frameData t e with
      | some data =>
        let n := t.next + t.payload
        let t1 : Transfer :=
          { t with next := n, high := max t.high n, crc := if t.high ≤ t.next then crc32Fold t.crc data else t.crc }
        let w1 := w.sendDesk 0x05 (leBytes 2 t.id ++ leBytes 4 t.next ++ leBytes 2 t.payload ++ data)
        ({ w1 with tu := { w1.tu with transfer := some t1, ackTimer := true } } : Work).updateWait
      | none => w
    else w
  | _, _ => w

/-! ### The end of a transfer (R162) -/

/-- The events that end a transfer (R162). -/
inductive TransferEnd
  | good | rejected | timeout | sourceLost | underrun | cancel | linkDown | deskLoss | disable | warning | reset
  deriving DecidableEq, Repr

/-- The cause of the ABORT an end sends, if it sends one. -/
def TransferEnd.abort : TransferEnd → Option AbortCause
  | .sourceLost => some .sourceLost | .underrun => some .underrun | .cancel => some .cancelled
  | .disable => some .disabled | .warning => some .power
  | .good | .rejected | .timeout | .linkDown | .deskLoss | .reset => none

/-- The counter an end raises, if it raises one. -/
def TransferEnd.counter : TransferEnd → Option CounterKind
  | .rejected | .timeout | .sourceLost => some .failed
  | .underrun => some .underruns
  | .good | .cancel | .linkDown | .deskLoss | .disable | .warning | .reset => none

/-- The record is closed, the ack and underrun timers stop, and the buffers are given back (R162, R165). -/
def Tu.close (t : Tu) : Tu :=
  { t with transfer := none, ackTimer := false, underTimer := false, buffers := t.buffers.map Buffer.giveBack }

/-- The entry returns to PENDING, at the front or the tail of its class, and is demoted if R166 asks for it. -/
def Work.returnEntry (e : Entry) (front : Bool) (early : Bool) (w : Work) : Work :=
  let e1 : Entry := { e with sending := false, early := early }
  let t := w.tu.dropEntry e.number e.chain
  let w1 := ({ w with tu := { t with queue := if front then insertFront e1 t.queue else insertTail e1 t.queue } } :
    Work).mirror e1
  if w.tu.demotes then w1.demote e1 else w1

/-- What becomes of the entry (R162). -/
def Work.settleEntry (x : TransferEnd) (e : Entry) (w : Work) : Work :=
  match x with
  | .good => w.endEntry e .done none
  | .rejected => w.endEntry e .failed (some .rejected)
  | .sourceLost => w.endEntry e .failed (some .sourceLost)
  | .reset => w.endEntry e .failed (some .reset)
  | .cancel => w.endEntry e .cancelled none
  | .underrun => w.returnEntry e false false
  | .timeout | .linkDown | .deskLoss | .disable | .warning => w.returnEntry e true e.early

/-- The desk is lost: the binding is cleared and the link enters UNBOUND (R151). -/
def Work.loseDesk (w : Work) : Work := w.enterUnbound

/-- Where the link goes after the end; the callers of link down, desk loss, disable and reset move it themselves. -/
def Work.linkAfter (x : TransferEnd) (w : Work) : Work :=
  match x with
  | .good | .rejected | .sourceLost | .underrun | .cancel => (w.enterLink .boundIdle).post .select
  | .timeout => w.loseDesk
  | .warning => w.enterLink .boundIdle
  | .linkDown | .deskLoss | .disable | .reset => w

/-- The transfer in progress ends (R162); without one, nothing. The notices come in the order of log entry 57: COUNTER_HIGH,
SHOT_SETTLED, SEND_DONE or SEND_FAILED, TETHER_CHANGE. -/
def Work.endTransfer (x : TransferEnd) (w : Work) : Work :=
  match w.tu.transfer, w.tu.active? with
  | some t, some e =>
    let w1 := match x.abort with
      | some c => w.sendDesk 0x09 (leBytes 2 t.id ++ [c.byte])
      | none => w
    let w2 : Work := { w1 with tu := w1.tu.close }
    let w3 := match x.counter with
      | some k => w2.bump k
      | none => w2
    (w3.settleEntry x e).linkAfter x
  | _, _ => w

/-- The frame-memory interface fails TU's read of the frame at the next offset: the frame is not sent and the transfer
ends by source loss (R158). -/
def Work.sendLost (w : Work) : Work :=
  match w.tu.transfer, w.tu.active? with
  | some t, some e => if e.source = .buffer ∧ w.maySend t e = true then w.endTransfer .sourceLost else w
  | _, _ => w

/-! ### Timers, reads and acknowledgements -/

/-- The ack timer expires (R160, R161). -/
def Work.ackExpires (w : Work) : Work :=
  match w.tu.transfer with
  | some t =>
    if w.tu.ackTimer then
      let t1 : Transfer := { t with timeouts := t.timeouts + 1 }
      let w1 := ({ w with tu := { w.tu with transfer := some t1 } } : Work).bump .ackTimeouts
      if 5 ≤ t1.timeouts then w1.endTransfer .timeout
      else
        match w.tu.link with
        | .sending => ({ w1 with tu := { w1.tu with
            transfer := some { t1 with next := t1.acked }, ackTimer := false } } : Work).updateWait
        | .finishing => w1.sendFin t1
        | .off | .down | .unbound | .boundIdle => w1
    else w
  | none => w

/-- A buffer whose bytes all lie below the acked offset is freed (R159, R165). The padding of a copy's last sector counts
among them, so the ACK of a length that is no multiple of 512 leaves the last buffer in use (log entry 61). -/
def Buffer.freeBelow (acked : Nat) : Buffer → Buffer
  | .full k n data => if Config.sectorBytes * (k + n) ≤ acked then .free else .full k n data
  | .free => .free
  | .asked k n st => .asked k n st

/-- An ACK from the bound desk in SENDING (R159). -/
def Work.takeAck (id offset : Nat) (w : Work) : Work :=
  match w.tu.link, w.tu.transfer with
  | .sending, some t =>
    if t.id ≠ id then w
    else if offset % Config.dataBytes ≠ 0 ∧ offset ≠ t.length then w.bump .dropped
    else if offset ≤ t.acked then w
    else if t.high < offset then w.bump .dropped
    else
      let t1 : Transfer := { t with acked := offset, next := max t.next offset, timeouts := 0 }
      let w1 : Work := { w with tu := { w.tu with
        transfer := some t1, ackTimer := decide (offset < t.high),
        buffers := w.tu.buffers.map (Buffer.freeBelow offset) } }
      let w2 := Work.askReads 8 w1
      if offset = t.length then
        ((({ w2 with tu := { w2.tu with ackTimer := true } } : Work).sendFin t1).enterLink .finishing).updateWait
      else w2.updateWait
  | _, _ => w

/-- The transfer restarts after a first FINACK BAD (R161, log entry 42). -/
def Work.restartTransfer (t : Transfer) (w : Work) : Work :=
  let t1 : Transfer := { t with next := 0, high := 0, acked := 0, bad := 1, crc := crc32Init, nextSector := 0 }
  let w1 := w.bump .restarted
  let w2 : Work := { w1 with tu := { w1.tu with transfer := some t1, buffers := w1.tu.buffers.map Buffer.giveBack } }
  (Work.askReads 8 ((w2.sendOffer t1).enterLink .sending)).updateWait

/-- A FINACK from the bound desk (R161). -/
def Work.takeFinack (id : Nat) (good : Bool) (w : Work) : Work :=
  match w.tu.link, w.tu.transfer with
  | .finishing, some t =>
    if t.id ≠ id then w
    else if good then w.endTransfer .good
    else if t.bad = 0 then w.restartTransfer t
    else w.endTransfer .rejected
  | _, _ => w

/-- CW reports the end of a read (R140, R165). -/
def Work.takeRead (b : Nat) (data : Option (List Byte)) (w : Work) : Work :=
  let put (x : Buffer) : Work := { w with tu := { w.tu with buffers := w.tu.buffers.set b x } }
  match w.tu.buffers[b]?, data with
  | some (.asked k n false), some d => put (.full k n d)
  | some (.asked _ _ false), none => (put .free).endTransfer .sourceLost
  | some (.asked _ _ true), _ => Work.askReads 8 (put .free)
  | _, _ => w

/-- The desk-loss timer expires (R151). -/
def Work.deskExpires (w : Work) : Work :=
  if w.tu.deskTimer then (w.endTransfer .deskLoss).loseDesk else w

/-- The underrun timer expires while the transfer still waits (R164). -/
def Work.underrunExpires (w : Work) : Work := if w.tu.underTimer then w.endTransfer .underrun else w

/-- The HELLO timer expires (R151). -/
def Work.helloExpires (w : Work) : Work := if w.tu.helloTimer then w.sendHello else w

/-! ### The queue's changes from outside a transfer -/

/-- An entry is cancelled (R155). -/
def Work.cancelEntry (e : Entry) (w : Work) : Work :=
  if e.sending then w.endTransfer .cancel else w.endEntry e .cancelled none

/-- A discard acts on the row's DUTY entries as a SEND_CANCEL of each (R19, R155). -/
def Work.discardTethers (i : Nat) (w : Work) : Work :=
  w.tu.queue.foldl (fun v e => if e.kind = .duty ∧ e.row = some i then v.cancelEntry e else v) w

/-- The proof of a row is lost (R112). -/
def Work.tetherProofLost (i : Nat) (w : Work) : Work :=
  w.tu.queue.foldl (fun v e =>
    if e.kind = .duty ∧ e.row = some i ∧ e.chain = .proof then
      (if e.sending then v.endTransfer .sourceLost else v.endEntry e .failed (some .sourceLost))
    else v) w

/-- What a SEND is taken as: the row, the chain, the kind, the source and the card copy (R153). -/
structure SendPlan where
  row : Row
  chain : Chain
  kind : EntryKind
  source : Source
  copy : Option CardCopy
  deriving DecidableEq, Repr

/-- The kind and source of a send of a row's chain (R153 step 6); none where none applies. -/
def planSend (r : Row) (c : Chain) : Option SendPlan :=
  let duty := r.tethers.find? fun d => decide (d.chain = c)
  let copied (k : EntryKind) : Option SendPlan :=
    (r.copyOf c).map fun x => { row := r, chain := c, kind := k, source := .card, copy := some x }
  let buffered : Bool := match c with
    | .raw => r.raw.isSome
    | .proof => (decide (r.develop = .done) && r.proof.isSome) || decide (r.develop = .pending) ||
        decide (r.develop = .running)
  if r.life = .held ∧ duty = none then
    if buffered then some { row := r, chain := c, kind := .duty, source := .buffer, copy := none } else copied .duty
  else if r.life = .settled ∨ (r.life = .held ∧ (duty.all fun d => d.state.isFinal) = true) then copied .copy
  else none

/-- The judgment of a SEND, in the order of R153. -/
def Work.judgeSend (n : Nat) (chain : Byte) (prio : Nat) (w : Work) : Except Result SendPlan :=
  match chainOf chain with
  | none => .error .badArg
  | some c =>
    if 3 < prio ∨ n = 0 ∨ Config.maxShot < n then .error .badArg
    else
      match w.bm.numbered? n with
      | none => .error .noSuchShot
      | some r =>
        if r.discarding then .error .state
        else if (w.tu.entry? n c).isSome then .error .inUse
        else if Config.sendEntries ≤ w.tu.queue.length then .error .full
        else
          match planSend r c with
          | some p => .ok p
          | none => .error .noSource

/-- The entry of a taken SEND joins the tail of its class; for a DUTY entry BM creates the duty in the same step, and
a proof awaiting development promotes its job (R98, R153). A selection follows (R156). -/
def Work.joinSend (p : SendPlan) (n prio : Nat) (early : Bool) (w : Work) : Work :=
  let early1 := early && decide (p.chain = .proof) && decide (p.source = .buffer)
  let e : Entry := { number := n, chain := p.chain, kind := p.kind,
                     row := if p.kind = .duty then some p.row.index else none, sending := false, source := p.source,
                     copy := p.copy, prio := prio, early := early1 }
  let w1 : Work := { w with tu := { w.tu with queue := insertTail e w.tu.queue } }
  let w2 := if p.kind = .duty then
      w1.mapRow p.row.index fun r => { r with tethers := r.tethers ++
        [{ chain := p.chain, state := .pending, source := p.source, prio := prio, early := early1, cause := none }] }
    else w1
  let w3 := if p.kind = .duty ∧ p.chain = .proof ∧ p.source = .buffer then w2.promoteJob p.row.index else w2
  w3.post .select

/-- A tether PROOF duty that the full send queue fails at its creation: FAILED(FULL), with SEND_FAILED (R15, R18,
R169). -/
def Work.failFull (i n prio : Nat) (src : Source) (w : Work) : Work :=
  let d : TetherDuty := { chain := .proof, state := .failed, source := src, prio := prio,
                          early := decide (src = .buffer), cause := some .full }
  (w.mapRow i fun r => { r with tethers := r.tethers ++ [d] }).raise .sendFailed
    (leBytes 3 n ++ [Chain.proof.byte, TetherCause.full.byte])

/-! ### PHY, power and reset (R149, R172 to R174) -/

/-- The link goes DOWN: a transfer ends by link down and the binding is cleared (R149). -/
def Work.linkDown (w : Work) : Work :=
  let w1 := w.endTransfer .linkDown
  ({ w1 with tu := w1.tu.unbind } : Work).enterLink .down

/-- The PHY reports its link down (R149). -/
def Work.phyDown (w : Work) : Work :=
  let w1 : Work := { w with pins := { w.pins with phyUp := false } }
  match w.tu.link with
  | .unbound | .boundIdle | .sending | .finishing => w1.linkDown
  | .off | .down => w1

/-- The PHY reports its link up (R149); in HALT the link follows it at the wake (R172). -/
def Work.phyUp (w : Work) : Work :=
  let w1 : Work := { w with pins := { w.pins with phyUp := true } }
  if w.tu.link = .down ∧ w.pwc.power ≠ .halt then w1.enterUnbound else w1

/-- At the wake a link that is DOWN follows the PHY again (R172). -/
def Work.tetherWake (w : Work) : Work :=
  if w.tu.link = .down ∧ w.pins.phyUp = true then w.enterUnbound else w

/-- Entry to HALT (R172). -/
def Work.tetherHalt (w : Work) : Work :=
  let w1 := w.endTransfer .linkDown
  let w2 : Work := { w1 with tu := w1.tu.freeBuffers }
  if w.tu.link = .off then w2 else ({ w2 with tu := w2.tu.unbind } : Work).enterLink .down

/-- TU's response to the supply warning (R173). In HALT, with no wake, a link that is DOWN stays DOWN until the next
PHY_LINK_UP, also with the PHY already up (log entry 58). -/
def Work.tetherWarning (w : Work) : Work :=
  let w1 := ({ w with tu := { w.tu with stopped := true } } : Work).endTransfer .warning
  { w1 with tu := { w1.tu.freeBuffers with helloTimer := false } }

/-- TETHER_ENABLE OFF in any state other than OFF (R149). -/
def Work.disableTether (w : Work) : Work :=
  let w1 := w.endTransfer .disable
  ({ w1 with tu := w1.tu.unbind } : Work).enterLink .off

/-- RESET_PART TETHER (R174). The entries end in queue order after the transfer (log entry 57). -/
def Work.resetTether (w : Work) : Work :=
  let w1 := w.endTransfer .reset
  let w2 := w1.tu.queue.foldl (fun v e => v.endEntry e .failed (some .reset)) w1
  let w3 : Work := { w2 with
    tu := { w2.tu.freeBuffers.unbind with counters := Counters.zero, reclaim := w2.bm.reclaimSignal },
    cw := w2.cw.mapBoth Slot.dropReads }
  w3.enterLink .off

end Sys2Proof.Machine
end

