-- ==== Sys2Proof/Machine/Hold.lean ====
section
/-! DEFINITION. What BM does with a row together with CW, DE and TU: the duties of a row that enters HELD, frame ends,
ring promotion, protection and discard (01_shots_pages_and_the_shot_table.md, sections 1.3 to 1.5). -/

namespace Sys2Proof.Machine

/-- The slots of a row's card RAW duties (R15 step 1, R128). -/
def Cw.rawSlots (c : Cw) : List SlotId :=
  match c.policy with
  | .mirror => [.a, .b]
  | .overflow => if c.a.writable = true ∧ sectorNeed .raw ≤ c.a.queued then [.a] else [.b]
  | .split => [.a]
  | .singleA => [.a]
  | .singleB => [.b]

/-- The slots of a row's card PROOF duties, in the order of R15 step 3 (R128, log entry 18). -/
def Cw.proofSlots (c : Cw) (raw : List SlotId) : List SlotId :=
  (if c.policy = .split then [.b] else []) ++ (if c.proofs then raw else [])

/-- A card RAW duty is created and takes its first state (R15 step 1, R129). -/
def Work.giveRaw (i : Nat) (s : SlotId) (w : Work) : Work :=
  let place := ((w.bm.row? i).map fun r => r.cards.length).getD 0
  (w.addCard i s .raw .waitingSource false).firstState { row := i, place := place }

/-- A tether PROOF duty of BM's own making at a priority, early flag on, source BUFFER (R15 step 4, R18). Nothing when
the queue holds the shot's proof already; FAILED(FULL) when the queue is full. -/
def Work.giveProofSend (i n prio : Nat) (w : Work) : Work :=
  match w.bm.row? i with
  | some r =>
    if (w.tu.entry? n .proof).isSome then w
    else if Config.sendEntries ≤ w.tu.queue.length then w.failFull i n prio .buffer
    else w.joinSend { row := r, chain := .proof, kind := .duty, source := .buffer, copy := none } n prio true
  | none => w

/-- A develop duty is created for a row that enters HELD (R15 step 2). -/
def Work.wantsDevelop (w : Work) : Bool :=
  w.de.auto || decide (w.cw.policy = .split) || w.cw.proofs || decide (w.tu.auto = .allProofs)

/-- The duties of a row that enters HELD, in the order of R15; the checks come when all steps are done. -/
def Work.createDuties (i n : Nat) (w : Work) : Work :=
  let raw := w.cw.rawSlots
  let proof := w.cw.proofSlots raw
  let develop := w.wantsDevelop
  let w0 := w.mapRow i fun r => { r with policy := some w.cw.policy }
  let w1 := raw.foldl (fun v s => v.giveRaw i s) w0
  let w2 := if develop then w1.createDevelop i .normal else w1
  let w3 := proof.foldl (fun v s => v.addCard i s .proof .waitingSource false) w2
  let w4 := if w.tu.auto = .allProofs then w3.giveProofSend i n 1 else w3
  w4.check i

/-- A row enters HELD: it is numbered, SHOT_HELD is raised, and its duties are created (R10, R12, R15). SHOT_HELD is raised
before the notices that creating the duties may bring (log entry 51). -/
def Work.hold (i : Nat) (w : Work) : Work :=
  let n := w.bm.pickNumber
  let w1 := (w.numberRow i).mapRow i fun r => { r with life := .held, mark := none }
  (w1.raise .shotHeld (leBytes 3 n)).createDuties i n

/-- The frame end of a complete capture frame for a row (R10); a report for a row that is not EXPOSING is
discarded. -/
def Work.frameEndRow (i : Nat) (w : Work) : Work :=
  match w.bm.row? i with
  | some r =>
    if r.life = .exposing then
      match r.mark with
      | some .opened =>
        (w.mapRow i fun x => { x with life := .pre, mark := none }).post (.rowEnded i (some .pre) none)
      | some .dropped => ((w.releaseRaw i).removeRow i).post (.rowEnded i none none)
      | some .promoted | none =>
        (w.hold i).post (.rowEnded i (some .held) (some w.bm.pickNumber))
    else w
  | none => w

/-- Ring promotion: every PRE row enters HELD, oldest first, and every open EXPOSING ring row is marked PROMOTED
(R14). -/
def Work.promoteRing (w : Work) : Work :=
  let w1 := w.bm.rows.foldl (fun v r =>
    if r.life = .exposing ∧ r.mark = some .opened then v.mapRow r.index fun x => { x with mark := some .promoted }
    else v) w
  w.bm.rows.foldl (fun v r => if r.life = .pre then v.hold r.index else v) w1

/-- The duties that setting protection on a HELD row creates (R18). With a full send queue the tether duty is FAILED(FULL):
the develop duty of a row that has none is made all the same, and a job that waits keeps its class (log entry 17). -/
def Work.protectSend (r : Row) (n : Nat) (w : Work) : Work :=
  if (r.tethers.any fun d => decide (d.chain = .proof)) = true ∨ (w.tu.entry? n .proof).isSome = true then w
  else
    let full : Bool := decide (Config.sendEntries ≤ w.tu.queue.length)
    match r.develop with
    | .absent =>
      if r.raw.isSome then (w.createDevelop r.index .urgent).giveProofSend r.index n 2 else w
    | .pending | .running => w.giveProofSend r.index n 2
    | .done =>
      match r.proof, r.copyOf .proof with
      | none, none => w
      | some _, _ => w.giveProofSend r.index n 2
      | none, some copy =>
        if full then w.failFull r.index n 2 .card
        else w.joinSend { row := r, chain := .proof, kind := .duty, source := .card, copy := some copy } n 2 true
    | .failed | .cancelled => w

/-- SHOT_PROTECT on a row that may be named (R18). -/
def Work.protectRow (r : Row) (on : Bool) (w : Work) : Work :=
  let w1 := w.mapRow r.index fun x => { x with protect := on }
  if on = true ∧ r.protect = false ∧ r.life = .held ∧ w.tu.auto = .protectedProofs then
    (w1.protectSend r (r.number.getD 0)).check r.index
  else w1

/-- SHOT_DISCARD on a HELD row: discard pending is set and every duty that is not final is ended or asked to stop
(R19), in the order of log entry 57. -/
def Work.discardRow (i : Nat) (w : Work) : Work :=
  let w1 := w.mapRow i fun x => { x with discarding := true }
  (((w1.discardDevelop i).discardCards i).discardTethers i).check i

/-- The duties of a row still stopping (R19). -/
def Work.stoppingOf (w : Work) (i : Nat) : Nat := ((w.bm.row? i).map Row.stopping).getD 0

end Sys2Proof.Machine
end

