-- ==== Sys2Proof/Machine/Focus.lean ====
section
/-! DEFINITION. The Focus Unit (04_focus.md): the lens link, zone estimates, selection, prediction, focus states. -/

namespace Sys2Proof.Machine

/-! ### Zone estimates (R77 to R79) -/

/-- Sample `i` of an AF signal. -/
def afSample (l : List (BitVec 12)) (i : Nat) : Nat := (l.getD i 0).toNat

/-- |a - b|. -/
def natDist (a b : Nat) : Nat := (a - b) + (b - a)

/-- SAD(s) with s = k - 16: the sum over i = 16..47 of |L[i] - R[i + s]| (R77). -/
def sadAt (z : AfZone) (k : Nat) : Nat :=
  ((List.range 32).map fun i => natDist (afSample z.l (16 + i)) (afSample z.r (i + k))).sum

/-- The contrast C: the sum over i = 16..46 of |L[i + 1] - L[i]| (R77). -/
def contrastOf (z : AfZone) : Nat :=
  ((List.range 31).map fun i => natDist (afSample z.l (17 + i)) (afSample z.l (16 + i))).sum

/-- The shifts as k = s + 16, smaller |s| first and the negative one of two first (R77). -/
def shiftOrder : List Nat :=
  16 :: ((List.range 16).map fun j => [15 - j, 17 + j]).flatten

/-- The best shift as k = s + 16: the first of least SAD in the order (R77). -/
def bestShift (z : AfZone) : Nat :=
  shiftOrder.foldl (fun best k => if sadAt z k < sadAt z best then k else best) 16

/-- The validity and phase of a zone from its samples (R77, R78). -/
def shapeOf (s : AfSettings) (z : AfZone) : ZoneShape :=
  let c := contrastOf z
  let k := bestShift z
  if c < s.cMin then { validity := .lowContrast, p16 := 0, c := c, d := 0 }
  else if k = 0 ∨ k = 32 then { validity := .outOfRange, p16 := 16 * ((k : Int) - 16), c := c, d := 0 }
  else
    let a := sadAt z (k - 1)
    let m := sadAt z (k + 1)
    let d := a + m - 2 * sadAt z k
    if d < s.dMin then { validity := .flat, p16 := 0, c := c, d := d }
    else
      let delta : Int := if d = 0 then 0 else clampInt (-8) 8 (roundAway (((a : Int) - m) * 8) d)
      { validity := .valid, p16 := 16 * ((k : Int) - 16) + delta, c := c, d := d }

/-- A zone is valid when it is VALID or OUT_OF_RANGE (R78). -/
def Validity.isValid : Validity → Bool
  | .valid | .outOfRange => true
  | .lowContrast | .flat => false

/-- A zone's estimate from its shape and the frame's position (R79, R80 step 1). -/
def estimateOf (d : Descriptor) (position : Option Nat) (z : ZoneShape) : ZoneEstimate :=
  match position with
  | some p =>
    if z.validity.isValid then
      let steps := roundAway (z.p16 * d.k16) 256
      { validity := z.validity, steps := steps, target := some (clampInt 0 d.lensMax (p + steps)).toNat, c := z.c,
        d := z.d }
    else { validity := z.validity, steps := 0, target := none, c := z.c, d := z.d }
  | none => { validity := z.validity, steps := 0, target := none, c := z.c, d := z.d }

/-! ### Selection (R80, R81) -/

/-- A valid zone of a zone set with its steps and target. -/
structure Candidate where
  col : Nat
  row : Nat
  steps : Int
  target : Nat
  deriving DecidableEq, Repr

/-- The 3 × 3 zones around a zone, clipped at the edges of the grid, lowest row and then lowest column first. -/
def around (col row : Nat) : List (Nat × Nat) :=
  (((List.range 9).filter fun r => decide (r ≤ row + 1) && decide (row ≤ r + 1)).map fun r =>
    ((List.range 13).filter fun c => decide (c ≤ col + 1) && decide (col ≤ c + 1)).map fun c => (c, r)).flatten

/-- The zone set of the area mode (R81). -/
def zoneSet (s : AfSettings) (t : Tracking) : List (Nat × Nat) :=
  match s.area with
  | .spot => [(s.startCol, s.startRow)]
  | .group => around s.startCol s.startRow
  | .track => around t.col t.row

/-- The valid zones of a set, in its order. -/
def candidates (zones : List ZoneEstimate) (set : List (Nat × Nat)) : List Candidate :=
  set.filterMap fun p => (zones[13 * p.2 + p.1]?).bind fun z => z.target.map fun t =>
    { col := p.1, row := p.2, steps := z.steps, target := t }

/-- A later candidate beats an earlier one: nearer to the held target, or with no held target or a tie the larger
target (R81). -/
def Candidate.beats (held : Option Nat) (x y : Candidate) : Bool :=
  match held with
  | none => decide (y.target < x.target)
  | some h => decide (natDist x.target h < natDist y.target h) ||
      (decide (natDist x.target h = natDist y.target h) && decide (y.target < x.target))

/-- The winner of a list of candidates. -/
def winnerOf (held : Option Nat) : List Candidate → Option Candidate
  | [] => none
  | x :: l => some (l.foldl (fun best y => if y.beats held best then y else best) x)

/-- The held target that the area's rule looks at (R81). -/
def heldFor (s : AfSettings) (t : Tracking) : Option Nat := match s.area with
  | .track => t.held
  | .spot | .group => none

/-- The tracking record after a selection (R81). -/
def Tracking.after (t : Tracking) (area : AfArea) : Option Candidate → Tracking
  | some x => { col := if area = .track then x.col else t.col, row := if area = .track then x.row else t.row,
                held := some x.target, run := 0 }
  | none => { t with run := min 5 (t.run + 1) }

/-- The tracking record reset to a start zone (R81). -/
def Tracking.start (s : AfSettings) : Tracking := { col := s.startCol, row := s.startRow, held := none, run := 0 }

/-! ### Prediction (R82) -/

/-- The predicted target of a frame, when R82's conditions hold. -/
def predictTarget (f : Fu) (d : Descriptor) (lead timestamp target : Nat) : Option Nat :=
  match f.current with
  | some p =>
    let i := timestamp - p.timestamp
    if f.active.mode = .continuous ∧ f.active.prediction = true ∧ p.valid = true ∧ 1 ≤ i ∧ i ≤ 500000 then
      let limit : Int := (f.speed * lead / 1000 : Nat)
      let delta := clampInt (-limit) limit (roundAway (((target : Int) - p.target) * lead) i)
      some (clampInt 0 d.lensMax (target + delta)).toNat
    else none
  | none => none

/-- The selected estimate of a frame (R80 to R82). -/
def estimateFor (f : Fu) (d : Descriptor) (fr : FrameRecord) (lead : Nat) : Option Candidate → Estimate
  | some x =>
    let p := predictTarget f d lead fr.timestamp x.target
    { frameId := fr.frameId, timestamp := fr.timestamp, position := fr.position, valid := true,
      zone := some (x.col, x.row), steps := x.steps, target := x.target, moveTarget := p.getD x.target,
      predicted := p.isSome, inFocus := decide (x.steps.natAbs ≤ d.tolerance) }
  | none =>
    { frameId := fr.frameId, timestamp := fr.timestamp, position := fr.position, valid := false, zone := none,
      steps := 0, target := 0, moveTarget := 0, predicted := false, inFocus := false }

/-! ### Publishing, and the lens link (R67 to R71, R83) -/

/-- The zone of the most recently published selected estimate. -/
def Fu.zone (f : Fu) : Option (Nat × Nat) := f.published.bind Estimate.zone

/-- A FOCUS_STATE occurrence (R83). -/
def Work.raiseFocus (w : Work) : Work := w.raise .focusState (w.fu.state.byte :: zoneBytes w.fu.zone)

/-- The focus gate over the values FU publishes: its outcome when it passes (R35). -/
def Fu.gate (f : Fu) : Option GateOutcome :=
  match f.state, f.active.mode with
  | .noLens, _ | .fault, _ => some .noLens
  | _, .manual => some .noLens
  | .locked, .single => some .focused
  | _, .single => none
  | _, .continuous => if (f.published.map Estimate.inFocus).getD false then some .focused else none

/-- FU takes new values and publishes them (R86): RDU gets the gate of these values, so that a change that a later one of
the same step takes back is not lost on it (R36, R76, log entry 52). A change of state raises FOCUS_STATE (R83). -/
def Work.putFu (f : Fu) (w : Work) : Work :=
  let w1 := ({ w with fu := f } : Work).post (.focus f.gate)
  if f.state = w.fu.state then w1 else w1.raiseFocus

/-- A lens is attached and the state is not FAULT (R67). -/
def Fu.live (f : Fu) : Bool := match f.state with
  | .noLens | .fault => false
  | .idle | .seeking | .locked | .tracking | .lost | .noTarget => f.descriptor.isSome

/-- FU sends QUERY and starts the answer timer (R68); nothing is sent after the supply warning (R91). -/
def Work.sendQuery (bare : Bool) (w : Work) : Work :=
  if w.pwc.latched then w
  else ({ w with fu := { w.fu with query := true, bare := bare } } : Work).emit .lensQuery

/-- FU sends a MOVE when the target differs, opening or retargeting the move record (R69); nothing is sent after the
supply warning (R91). -/
def Work.moveLens (target : Nat) (origin : MoveOrigin) (w : Work) : Work :=
  let f := w.fu
  if f.known = false ∨ w.pwc.latched = true then w
  else
    match f.move with
    | none =>
      if target = f.position then w
      else ({ w with fu := { f with
          move := some { target := target, origin := origin, startPos := f.position, startTime := w.now,
                         halted := false },
          moveTimer := true, moving := true } } : Work).emit (.lensMove target)
    | some m =>
      if target = m.target then w
      else ({ w with fu := { f with
          move := some { m with target := target, origin := origin }, moveTimer := true, moving := true } } :
        Work).emit (.lensMove target)

/-- FU sends HALT when a move is in flight and no HALT is unanswered (R70). -/
def Work.haltLens (w : Work) : Work :=
  match w.fu.move with
  | some m =>
    if m.halted then w
    else ({ w with fu := { w.fu with move := some { m with halted := true } } } : Work).emit .lensHalt
  | none => w

/-- The lens faults (R71). -/
def Work.faultLens (w : Work) : Work :=
  let f : Fu := { w.fu with query := false, bare := false, moveTimer := false, move := none, published := none,
                            state := .fault }
  (w.raise .lensFault []).putFu f

/-- A fresh start of focus (R83). -/
def Fu.freshStart (f : Fu) : Fu :=
  { f with tracking := Tracking.start f.active, seek := 0, current := none, previous := none,
           state := match f.active.mode with
             | .manual => .idle
             | .single => .seeking
             | .continuous => .tracking }

/-- The half-press signal as RDU publishes it (R83). -/
def Work.setHalfPress (up : Bool) (w : Work) : Work :=
  let f : Fu := { w.fu with halfPress := up }
  if up = w.fu.halfPress then w
  else
    match up, f.state with
    | true, .idle => w.putFu f.freshStart
    | false, .seeking | false, .locked | false, .noTarget | false, .tracking | false, .lost =>
      w.putFu { f with state := .idle }
    | _, _ => { w with fu := f }

/-- The seek count after a frame in which no AF move is made: a valid frame in SINGLE mode returns it to 0 (R84). -/
def Fu.seekAfter (f : Fu) (e : Estimate) : Nat := if e.valid && decide (f.active.mode = .single) then 0 else f.seek

/-- The state, the seek count and the MOVE that a completed frame asks for (R84, R85). -/
def Fu.react (f : Fu) (d : Descriptor) (e : Estimate) : FocusState × Nat × Option Nat :=
  match f.state with
  | .seeking =>
    if e.valid then
      if e.steps.natAbs ≤ d.tolerance then (.locked, 0, none) else (.seeking, 0, some e.target)
    else if 30 ≤ f.seek + 1 then (.noTarget, min 30 (f.seek + 1), none) else (.seeking, f.seek + 1, none)
  | .tracking =>
    if e.valid then (.tracking, f.seek, some e.moveTarget)
    else if f.active.area = .track ∧ f.tracking.run = 5 then (.lost, f.seek, none) else (.tracking, f.seek, none)
  | .lost => if e.valid then (.tracking, f.seek, some e.moveTarget) else (.lost, f.seek, none)
  | .noLens => (.noLens, f.seek, none)
  | .idle => (.idle, f.seekAfter e, none)
  | .locked => (.locked, f.seekAfter e, none)
  | .noTarget => (.noTarget, f.seekAfter e, none)
  | .fault => (.fault, f.seek, none)

/-- The lead of prediction (R82). -/
def Work.lead (w : Work) : Nat := if w.rdu.capturing then w.rdu.period else 8333

/-- FU completes its frame: the estimates are formed and the position is settled (R80). -/
def Work.completeFrame (w : Work) : Work :=
  match w.fu.frame, w.fu.descriptor with
  | some fr, some d =>
    match fr.formed with
    | some shapes =>
      let f := w.fu
      let zones := shapes.map (estimateOf d fr.position)
      let won := winnerOf (heldFor f.active f.tracking) (candidates zones (zoneSet f.active f.tracking))
      let e := estimateFor f d fr w.lead won
      let f1 : Fu := { f with
        tracking := f.tracking.after f.active.area won, previous := f.current, current := some e, published := some e,
        array := some { frameId := fr.frameId, kind := fr.kind, timestamp := fr.timestamp, position := fr.position,
                        zones := zones } }
      let r := f1.react d e
      let w1 := w.putFu { f1 with state := r.1, seek := r.2.1 }
      match r.2.2 with
      | some t => w1.moveLens t .af
      | none => w1
    | none => w
  | _, _ => w

/-- The frame record is settled, if it is there and not yet settled, and completed when its estimates are formed
(R68, R80). -/
def Work.settleFrame (position : Option Nat) (moving : Bool) (w : Work) : Work :=
  match w.fu.frame with
  | some fr =>
    if fr.settled then w
    else
      let fr1 : FrameRecord := { fr with settled := true, position := position, moving := moving }
      ({ w with fu := { w.fu with frame := some fr1 } } : Work).completeFrame
  | none => w

/-- The position of the lens record, when it is known (R68, log entry 34). -/
def Fu.heldPosition (f : Fu) : Option Nat := if f.known then some f.position else none

/-- A frame start that SRU reports (R68). -/
def Work.focusFrameStart (kind : FrameKind) (id timestamp : Nat) (w : Work) : Work :=
  if w.fu.live then
    let formed : Bool := (w.fu.frame.bind FrameRecord.formed).isSome
    let w1 := if formed then w.settleFrame w.fu.heldPosition w.fu.moving else w
    let fr : FrameRecord := { frameId := id, kind := kind, timestamp := timestamp, settled := false, position := none,
                              moving := false, formed := none }
    let w2 : Work := { w1 with fu := { w1.fu with frame := some fr, bare := false } }
    if w2.fu.query = false ∧ w2.pwc.power = .run then w2.sendQuery false else w2
  else { w with fu := { w.fu with frame := none } }

/-- FU takes lens messages: a lens is attached, the state is not FAULT (R67), the part is not in HALT (R90) and the
supply warning is not latched (R91). -/
def Work.hearsLens (w : Work) : Bool := w.fu.live && !decide (w.pwc.power = .halt) && !w.pwc.latched

/-- A POS answer (R67, R68). -/
def Work.takePos (position : Nat) (moving : Bool) (w : Work) : Work :=
  if w.hearsLens = true ∧ w.fu.query = true then
    let w1 : Work := { w with fu := { w.fu with
      query := false, bare := false, position := position, moving := moving, known := true, missing := 0 } }
    if w.fu.bare then w1 else w1.settleFrame (some position) moving
  else w

/-- The answer timer expires (R68). -/
def Work.answerExpires (w : Work) : Work :=
  if w.fu.query then
    let w1 : Work := { w with fu := { w.fu with query := false, bare := false, missing := min 3 (w.fu.missing + 1) } }
    let w2 := if w.fu.bare then w1 else w1.settleFrame w.fu.heldPosition w.fu.moving
    if 3 ≤ w1.fu.missing then w2.faultLens else w2
  else w

/-- The lens speed after a timed move (R74); the quotient by a duration of 0 us is free (log entry 9). -/
def speedOf (distance duration : Nat) : Nat :=
  let q := if duration = 0 then (Config.speedOverZero distance).toNat else distance * 1000 / duration
  min 32767 (max 1 q)

/-- An ARRIVED answer (R67, R69, R74); after the supply warning only the one that answers the HALT (R91). -/
def Work.takeArrived (position : Nat) (w : Work) : Work :=
  let f := w.fu
  if f.live = false ∨ w.pwc.power = .halt ∨ (w.pwc.latched = true ∧ f.move = none) then w
  else
    let f1 : Fu := { f with position := position, moving := false, known := true, missing := 0, move := none,
                            moveTimer := false }
    match f.move with
    | some m =>
      let distance := natDist position m.startPos
      if m.halted = false ∧ 50 ≤ distance ∧ w.pwc.latched = false then
        { w with fu := { f1 with speed := speedOf distance (w.now - m.startTime) } }
      else { w with fu := f1 }
    | none => { w with fu := f1 }

/-- The move timer expires (R69, R71). -/
def Work.moveExpires (w : Work) : Work := if w.fu.moveTimer then w.faultLens else w

/-! ### AF settings and AF blocks (R75 to R77) -/

/-- The requested copy becomes active (R75, R76, log entry 48). -/
def Work.adoptAf (w : Work) : Work :=
  match w.fu.requested with
  | some n =>
    let o := w.fu.active
    let f : Fu := { w.fu with active := n, requested := none }
    let f1 : Fu :=
      if n.area = o.area ∧ n.startCol = o.startCol ∧ n.startRow = o.startRow then f
      else { f with tracking := Tracking.start n, seek := 0 }
    let f2 : Fu := if n.mode ≠ o.mode ∧ f1.halfPress = true ∧ f1.live = true then f1.freshStart else f1
    let w1 := w.putFu f2
    if n.mode ≠ o.mode ∧ n.mode = .manual ∧ (f2.move.any fun m => decide (m.origin = .af)) = true then w1.haltLens
    else w1
  | none => w

/-- A taken AF_SET (R75): the copy becomes active at once, or waits for the next AF block. -/
def Work.requestAf (s : AfSettings) (w : Work) : Work :=
  let w1 : Work := { w with fu := { w.fu with requested := some s } }
  if w.fu.live = false ∨ w.fu.halfPress = false then w1.adoptAf else w1

/-- An AF block that SRU hands on (R77). -/
def Work.takeAfBlock (id : Nat) (zones : List AfZone) (w : Work) : Work :=
  match w.fu.frame with
  | some fr =>
    if fr.frameId = id ∧ w.fu.live = true then
      let w1 := w.adoptAf
      let fr1 : FrameRecord := { fr with formed := some (zones.map (shapeOf w1.fu.active)) }
      let w2 : Work := { w1 with fu := { w1.fu with frame := some fr1 } }
      if fr.settled then w2.completeFrame else w2
    else w
  | none => w

/-! ### Attach and detach (R72, R73) -/

/-- LENS_ATTACH taken (R72). -/
def Work.attachLens (d : Descriptor) (w : Work) : Work :=
  let f : Fu := { w.fu with
    descriptor := some d, known := false, moving := false, missing := 0, query := false, bare := false,
    firstQuery := false, frame := none, speed := 20, array := none, current := none, previous := none,
    published := none, tracking := Tracking.start w.fu.active, seek := 0, state := .idle }
  let f1 := if f.halfPress = true ∧ f.active.mode ≠ .manual then f.freshStart else f
  let w1 := (({ w with fu := f1 } : Work).post (.focus f1.gate)).raiseFocus
  if w.pwc.power = .run then w1.sendQuery true
  else { w1 with fu := { w1.fu with firstQuery := true } }

/-- LENS_DETACH (R73, log entry 32). -/
def Work.detachLens (w : Work) : Work :=
  w.putFu { w.fu with
    descriptor := none, query := false, bare := false, firstQuery := false, move := none, moveTimer := false,
    frame := none, array := none, current := none, previous := none, published := none,
    tracking := Tracking.start w.fu.active, missing := 0, known := false, state := .noLens }

/-! ### Values FU gives to SRU (R61, R86) -/

/-- The position and moving flag of a frame: the settled position of its record, or the lens record. -/
def Fu.positionFor (f : Fu) (id : Nat) : Nat × Bool :=
  match f.frame with
  | some fr =>
    match fr.position with
    | some p => if fr.frameId = id ∧ fr.settled = true then (p, fr.moving) else (f.position, f.moving)
    | none => (f.position, f.moving)
  | none => (f.position, f.moving)

/-! ### Power (R90, R91) -/

/-- Entry to HALT (R90, log entry 31). -/
def Work.focusHalt (w : Work) : Work :=
  let w1 := w.haltLens
  { w1 with fu := { w1.fu with move := none, moveTimer := false, query := false, bare := false } }

/-- The return to RUN from QUIET: a first QUERY that waited is sent (R72, R90). -/
def Work.focusFromQuiet (w : Work) : Work :=
  let w1 : Work := { w with fu := { w.fu with firstQuery := false } }
  if w.fu.firstQuery = true ∧ w.fu.live = true then w1.sendQuery true else w1

/-- The return to RUN from HALT: QUERY to an attached lens that is not in FAULT (R90). -/
def Work.focusFromHalt (w : Work) : Work :=
  let w1 : Work := { w with fu := { w.fu with firstQuery := false } }
  if w.fu.live then w1.sendQuery w.fu.firstQuery else w1

/-- FU's response to the supply warning (R91). -/
def Work.focusWarning (w : Work) : Work :=
  let w1 := w.haltLens
  let f : Fu := { w1.fu with moveTimer := false, query := false, bare := false }
  let f1 : Fu := { f with state := .idle }
  if f.live then (({ w1 with fu := f1 } : Work).post (.focus f1.gate)).raiseFocus else { w1 with fu := f }

end Sys2Proof.Machine
end

