-- ==== Sys2Proof/Machine/Sensor.lean ====
section
/-! DEFINITION. The Sensor Readout Unit (03_sensor_readout.md), with the flash decision RDU makes at its report of an
exposure start (R46). -/

namespace Sys2Proof.Machine

/-! ### Requests and the ends of readouts (R51 to R55, R59) -/

/-- SRU may send a FRAME_REQUEST: the link is RUNNING and the sensor NORMAL (R52). -/
def Sru.mayRequest (s : Sru) : Bool := s.running && !s.fault

/-- A readout opens with its FRAME_REQUEST, and the start timer starts (R51, R55). -/
def Work.openReadout (kind : FrameKind) (row : Nat) (gate : GateOutcome) (w : Work) : Work :=
  let r : Readout := { kind := kind, reading := false, row := row, gate := gate, frameId := none, timestamp := 0,
                       focusAt := .noLens, afTaken := false, lines := 0, bad := 0 }
  ({ w with sru := { w.sru with readout := some r, startTimer := true } } : Work).emit (.frameRequest kind)

/-- A capture request from RDU for a granted row (R54). -/
def Work.requestCapture (row : Nat) (gate : GateOutcome) (w : Work) : Work :=
  if w.sru.mayRequest then
    match w.sru.readout with
    | none => w.openReadout .capture row gate
    | some _ => { w with sru := { w.sru with waiting := some (row, gate) } }
  else w.abortRow row .noFrame

/-- The readout ends: its record is gone and its timers stop. -/
def Sru.close (s : Sru) : Sru := { s with readout := none, startTimer := false, endTimer := false }

/-- The waiting capture is sent at the end of a view readout, or ends as NO_FRAME (R54). -/
def Work.serveCapture (w : Work) : Work :=
  match w.sru.waiting with
  | some (row, gate) => ({ w with sru := { w.sru with waiting := none } } : Work).requestCapture row gate
  | none => w

/-- The readout ends; a capture ends with a cause, and a waiting capture is served (R54, R61). -/
def Work.endReadout (r : Readout) (cause : ShotOutcome) (w : Work) : Work :=
  let w1 : Work := { w with sru := w.sru.close }
  match r.kind with
  | .capture => (w1.abortRow r.row cause).serveCapture
  | .view => w1.serveCapture

/-- The view stream goes on or off (R53). -/
def Work.setView (on : Bool) (w : Work) : Work := { w with sru := { w.sru with viewTimer := on && w.sru.running } }

/-- The view timer expires (R53). -/
def Work.viewExpires (w : Work) : Work :=
  if w.sru.viewTimer = true ∧ w.sru.readout = none ∧ w.sru.waiting = none ∧ w.sru.mayRequest = true then
    w.openReadout .view 0 .focused
  else w

/-- The start timer expires while the readout is REQUESTED: the start is missed (R55). -/
def Work.startExpires (w : Work) : Work :=
  match w.sru.readout with
  | some r =>
    if w.sru.startTimer = true ∧ r.reading = false then
      let n := min 3 (w.sru.missed + 1)
      let w1 : Work := { w with sru := w.sru.close }
      let w2 := match r.kind with
        | .capture => w1.abortRow r.row .noFrame
        | .view => w1
      let w3 : Work := { w2 with sru := { w2.sru with missed := n, fault := decide (n = 3) } }
      let w4 := if n = 3 then w3.raise .sensorFault [] else w3
      w4.serveCapture
    else w
  | none => w

/-- The end timer expires while the readout is READING (R59). -/
def Work.endExpires (w : Work) : Work :=
  match w.sru.readout with
  | some r => if w.sru.endTimer = true ∧ r.reading = true then w.endReadout r .readoutTimeout else w
  | none => w

/-! ### The messages of a frame (R56 to R62) -/

/-- The flash decision at an exposure start: the row's flash field, the phase after it, and whether a pulse is sent
(R46). -/
def flashOf (mode : FlashMode) (fire ready : Bool) : Flash × Bool × Bool :=
  match mode with
  | .off => (.notFired, fire, false)
  | .front => if ready then (.fired, fire, true) else (.notReady, fire, false)
  | .alternate =>
    if fire then (if ready then (.fired, false, true) else (.notReady, false, false)) else (.notFired, true, false)

/-- RDU decides the flash of a capture's row; a ring row whose exposure starts before its promotion never fires
(R46). -/
def Work.decideFlash (row : Nat) (ready : Bool) (w : Work) : Work :=
  match w.bm.row? row with
  | some r =>
    if r.mark = some .opened ∨ r.mark = some .dropped then w.mapRow row fun x => { x with flash := .notFired }
    else
      let f := flashOf w.rdu.active.flash w.rdu.phaseFire ready
      let w1 := ({ w with rdu := { w.rdu with phaseFire := f.2.1 } } : Work).mapRow row fun x =>
        { x with flash := f.1 }
      if f.2.2 then w1.emit .flashPulse else w1
  | none => w

/-- SRU reports a frame start to FU; in QUIET, with the link STOPPED, none reaches it (R56, R64, R90). -/
def Work.reportStart (kind : FrameKind) (id : Nat) (w : Work) : Work :=
  if w.sru.running then w.focusFrameStart kind id w.now else w

/-- SRU hands an AF block to FU; in QUIET, with the link STOPPED, none reaches it (R57, R64, R90). -/
def Work.reportAf (id : Nat) (zones : List AfZone) (w : Work) : Work :=
  if w.sru.running then w.takeAfBlock id zones else w

/-- A FRAME_START (R56); one that does not fit is a stray (R62). The focus state at exposure is read after FU has completed
the previous frame at this frame start, where R86 leaves before or after open (log entry 60). -/
def Work.frameStarts (kind : FrameKind) (id : Nat) (ready : Bool) (w : Work) : Work :=
  match w.sru.readout with
  | some r =>
    if r.reading = false ∧ r.kind = kind then
      let w1 := ({ w with sru := { w.sru with startTimer := false, missed := 0, endTimer := true } } :
        Work).reportStart kind id
      let r1 : Readout := { r with reading := true, frameId := some id, timestamp := w.now, focusAt := w1.fu.state }
      let w2 : Work := { w1 with sru := { w1.sru with readout := some r1 } }
      match kind with
      | .view => w2
      | .capture => (w2.mapRow r.row fun x => { x with timestamp := w.now }).decideFlash r.row ready
    else w
  | none => w

/-- An AF block (R57). -/
def Work.afArrives (zones : List AfZone) (w : Work) : Work :=
  match w.sru.readout with
  | some r =>
    match r.frameId with
    | some id =>
      if r.reading = true ∧ r.afTaken = false then
        ({ w with sru := { w.sru with readout := some { r with afTaken := true } } } : Work).reportAf id zones
      else w
    | none => w
  | none => w

/-- The 10,500 bytes a line gives the chain: what was received, cut or padded with zeros (R58). -/
def lineBytesOf (samples : List Byte) : List Byte :=
  let kept := samples.take Config.lineBytes
  kept ++ List.replicate (Config.lineBytes - kept.length) 0

/-- A line is good: 10,500 bytes whose CRC matches (R58). -/
def lineIsGood (samples : List Byte) (crc : BitVec 16) : Bool :=
  decide (samples.length = Config.lineBytes) && decide (crc16 samples = crc)

/-- An image line (R58). -/
def Work.lineArrives (samples : List Byte) (crc : BitVec 16) (w : Work) : Work :=
  match w.sru.readout with
  | some r =>
    if r.reading then
      match r.kind with
      | .view => w.emit (.viewLine samples crc)
      | .capture =>
        if r.lines < Config.frameLines then
          let bad := if lineIsGood samples crc then r.bad else r.bad + 1
          let pages := ((w.bm.row? r.row).map fun x => x.pagesOf .raw).getD []
          let w1 : Work := { w with
            sru := { w.sru with readout := some { r with lines := r.lines + 1, bad := bad } },
            mem := chainWrite w.mem pages (Config.headerBytes + Config.lineBytes * r.lines) (lineBytesOf samples) }
          w1.mapRow r.row fun x => { x with damage := bad }
        else w
    else w
  | none => w

/-- The focus record of a complete frame (R61). -/
def Work.focusRecord (w : Work) (r : Readout) : FocusRecord :=
  let p := w.fu.positionFor (r.frameId.getD 0)
  { position := p.1, moving := p.2, state := r.focusAt, zone := w.fu.zone,
    inFocus := w.fu.published.map Estimate.inFocus, predicted := w.fu.published.map Estimate.predicted, gate := r.gate }

/-- A complete frame is closed: the focus record and the chain header are written and BM takes the frame end (R61). -/
def Work.closeFrame (r : Readout) (w : Work) : Work :=
  let f := w.focusRecord r
  let w1 := ({ w with sru := w.sru.close } : Work).mapRow r.row fun x => { x with focus := some f }
  match w1.bm.row? r.row with
  | some x =>
    ({ w1 with mem := chainWrite w1.mem (x.pagesOf .raw) 0 (headerBytesOf x f.position f.moving f.state) } :
      Work).frameEndRow r.row
  | none => w1

/-- A FRAME_END (R60). -/
def Work.frameEnds (count : Nat) (w : Work) : Work :=
  match w.sru.readout with
  | some r =>
    if r.reading then
      if r.kind = .capture ∧ r.lines = Config.frameLines ∧ Config.frameLines ≤ count then w.closeFrame r
      else w.endReadout r .shortFrame
    else w
  | none => w

/-! ### Restart and power (R63 to R65) -/

/-- SENSOR_RESTART (R63). -/
def Sru.restart (s : Sru) : Sru := if s.fault then { s with fault := false, missed := 0 } else s

/-- Entry to QUIET: the link and the view timer stop (R64). -/
def Sru.quiet (s : Sru) : Sru := { s with running := false, viewTimer := false }

/-- Entry to HALT, and the supply warning: every readout ends, a capture in flight or waiting as POWER (R64, R65). -/
def Work.sensorStop (w : Work) : Work :=
  let readout := w.sru.readout
  let waiting := w.sru.waiting
  let w1 : Work := { w with sru := { w.sru.quiet.close with waiting := none } }
  let w2 := match readout with
    | some r => if r.kind = .capture then w1.abortRow r.row .power else w1
    | none => w1
  match waiting with
  | some (row, _) => w2.abortRow row .power
  | none => w2

/-- The return to RUN: the link becomes RUNNING (R64). -/
def Sru.run (s : Sru) : Sru := { s with running := true }

end Sys2Proof.Machine
end

