-- ==== Sys2Proof/Machine/Release.lean ====
section
/-! DEFINITION. The Release and Drive Unit (02_release_and_drive.md): the lines, the drive state machine, the focus gate,
capture attempts, bursts, the ring and remote releases. -/

namespace Sys2Proof.Machine

/-- Change the state of RDU. -/
def Work.withRdu (f : Rdu → Rdu) (w : Work) : Work := { w with rdu := f w.rdu }

/-- RDU publishes the view stream to SRU and the half-press signal to FU (R32); both are down from the supply warning
on (R50). -/
def Work.publishDrive (w : Work) : Work :=
  let view := w.rdu.wantsView && !w.pwc.latched
  let half := w.rdu.wantsFocus && !w.pwc.latched
  let w1 := if view = w.rdu.viewOn then w else (w.withRdu fun r => { r with viewOn := view }).setView view
  if half = w1.rdu.halfPress then w1 else (w1.withRdu fun r => { r with halfPress := half }).setHalfPress half

/-- The drive enters a state. -/
def Work.setDrive (d : Drive) (w : Work) : Work := (w.withRdu fun r => { r with drive := d }).publishDrive

/-! ### Capture attempts (R37, R38) -/

/-- The drive takes ring frames: PRECAPTURING, or STALLED from it. -/
def Drive.isRing : Drive → Bool
  | .precapturing | .stalledPrecapturing => true
  | .idle | .ready | .waitingFocus | .firing | .stalledFiring => false

/-- The end condition of step 1 of R37: no attempt is made. -/
def Rdu.barred (r : Rdu) : Bool :=
  match r.release with
  | some x => x.ending.isSome || (x.single && x.granted) ||
      (decide (r.active.limit ≠ 0) && decide (r.active.limit ≤ r.counter)) ||
      (x.origin.isRemote && decide (r.remoteCount = 0))
  | none => false

/-- The skipped count of a cause rises by one, saturating at 65535 (R38). -/
def BurstRecord.skip (b : BurstRecord) : SkipCause → BurstRecord
  | .busy => { b with skipBusy := satSucc 65535 b.skipBusy }
  | .buffer => { b with skipBuffer := satSucc 65535 b.skipBuffer }
  | .table => { b with skipTable := satSucc 65535 b.skipTable }

/-- The STALLED state of a drive state; others stand (R38). -/
def Drive.stalled : Drive → Drive
  | .firing => .stalledFiring
  | .precapturing => .stalledPrecapturing
  | .idle => .idle
  | .ready => .ready
  | .waitingFocus => .waitingFocus
  | .stalledFiring => .stalledFiring
  | .stalledPrecapturing => .stalledPrecapturing

/-- The state a granted attempt returns to (R38). -/
def Drive.resumed : Drive → Drive
  | .stalledFiring => .firing
  | .stalledPrecapturing => .precapturing
  | .idle => .idle
  | .ready => .ready
  | .waitingFocus => .waitingFocus
  | .firing => .firing
  | .precapturing => .precapturing

/-- A skipped attempt (R38). -/
def Work.skipAttempt (c : SkipCause) (w : Work) : Work :=
  let count (r : Rdu) : Rdu := if r.release.isSome then { r with record := r.record.map fun b => b.skip c } else r
  ((w.withRdu count).raise .bufferFull (c.byte :: leBytes 2 w.bm.freeCount)).setDrive w.rdu.drive.stalled

/-- RDU removes the oldest entry of the ring list and asks BM to evict its row (R41). -/
def Work.evictOldest (w : Work) : Work :=
  match w.rdu.ring with
  | i :: rest => (w.withRdu fun r => { r with ring := rest }).evictRow i
  | [] => w

/-- A 16-bit count rises by one; past 65535 it takes a free value (log entry 8). -/
def Work.countUp (n : Nat) (w : Work) : Nat × Work :=
  if n < 65535 then (n + 1, w)
  else ((Config.freeCount w.freeUsed).toNat, { w with freeUsed := w.freeUsed + 1 })

/-- A grant of a ring frame (R37 step 7). -/
def Work.grantRing (i : Nat) (w : Work) : Work :=
  let w1 := (w.createRow i .precapture w.rdu.burstId true w.rdu.active.look).withRdu fun r =>
    { r with openRow := some i, capture := some { row := i, ofBurst := false } }
  (w1.setDrive w.rdu.drive.resumed).requestCapture i .releasePriority

/-- A grant of a capture of the open release (R37 step 7). -/
def Work.grantBurst (i : Nat) (x : Release) (w : Work) : Work :=
  let c := w.countUp w.rdu.counter
  let k := c.2.countUp ((w.rdu.record.map BurstRecord.captured).getD 0)
  let w1 := (k.2.createRow i x.origin w.rdu.burstId false w.rdu.active.look).withRdu fun r =>
    { r with counter := c.1, record := r.record.map fun b => { b with captured := k.1 },
             remoteCount := r.remoteCount - 1, release := some { x with granted := true },
             capture := some { row := i, ofBurst := true } }
  (w1.setDrive w.rdu.drive.resumed).requestCapture i x.gate

/-- A granted allocation goes to the ring or to the open release. -/
def Work.grantRow (i : Nat) (w : Work) : Work :=
  if w.rdu.drive.isRing then w.grantRing i
  else
    match w.rdu.release with
    | some x => w.grantBurst i x
    | none => w

/-- Steps 3 to 7 of a capture attempt: the full ring, the allocation, its retry, the skip and the grant (R37). -/
def Work.allocate (w : Work) : Work :=
  let ring := w.rdu.drive.isRing
  let w1 := if ring = true ∧ w.rdu.active.depth ≤ w.rdu.ring.length then w.evictOldest else w
  match w1.judgeRaw with
  | .granted i => w1.grantRow i
  | .denied c =>
    if ring = true ∧ w1.rdu.ring ≠ [] then
      let w2 := w1.evictOldest
      match w2.judgeRaw with
      | .granted i => w2.grantRow i
      | .denied c2 => w2.skipAttempt c2
    else w1.skipAttempt c

/-- A capture attempt (R37). -/
def Work.attempt (w : Work) : Work :=
  if w.rdu.barred then w
  else if w.rdu.capture.isSome || w.sru.fault then w.skipAttempt .busy
  else w.allocate

/-! ### The drive's states (R30 to R36, R40, R43) -/

/-- The pending settings become active (R30). -/
def Rdu.adopt (r : Rdu) : Rdu := { r with active := r.pending.getD r.active, pending := none }

/-- RDU takes the next burst id as the current one (R33, R34). -/
def Rdu.takeBurst (r : Rdu) : Rdu := { r with burstId := r.nextBurst, nextBurst := (r.nextBurst + 1) % 65536 }

/-- The drive enters PRECAPTURING (R33). -/
def Work.enterPrecapturing (w : Work) : Work :=
  ((w.withRdu fun r => { r.takeBurst with timer := true }).setDrive .precapturing).attempt

/-- The drive enters READY, or PRECAPTURING when the active mode is PRECAPTURE (R30, R31, R33). -/
def Work.enterReady (w : Work) : Work :=
  let w1 := w.withRdu fun r => { r.adopt with timer := false }
  if w1.rdu.active.mode = .precapture then w1.enterPrecapturing else w1.setDrive .ready

/-- The drive enters IDLE (R30, R31). -/
def Work.enterIdle (w : Work) : Work := (w.withRdu fun r => { r.adopt with timer := false }).setDrive .idle

/-- The drive enters READY if S1 is held, otherwise IDLE. -/
def Work.enterRest (w : Work) : Work := if w.rdu.s1.held then w.enterReady else w.enterIdle

/-- A burst opens and the drive enters FIRING (R34, R36). -/
def Work.openBurst (origin : Origin) (gate : GateOutcome) (w : Work) : Work :=
  let fresh (r : Rdu) : Rdu :=
    { r.takeBurst with
      record := some { id := r.nextBurst, firstShot := 0, captured := 0, skipBusy := 0, skipBuffer := 0, skipTable := 0,
                       cause := .opened },
      counter := 0, phaseFire := true, timer := true, focusWait := false, waiter := none,
      release := some { single := decide (r.active.mode = .single), origin := origin, gate := gate, granted := false,
                        ending := none } }
  ((w.withRdu fresh).setDrive .firing).attempt

/-- A release starts: RELEASE priority opens a burst; under FOCUS priority the gate decides (R34 to R36). -/
def Work.startRelease (origin : Origin) (w : Work) : Work :=
  match w.rdu.active.priority, w.fu.gate with
  | .release, _ => w.openBurst origin .releasePriority
  | .focus, some g => w.openBurst origin g
  | .focus, none => (w.withRdu fun r => { r with focusWait := true, waiter := some origin }).setDrive .waitingFocus

/-- The open burst's record closes: its cause is written and BURST_END raised (R40 steps 1 to 3), after the notices of the
row that closed it (log entry 57). -/
def Work.closeRecord (cause : EndCause) (w : Work) : Work :=
  let w1 := w.withRdu fun r =>
    { r with record := r.record.map fun b => { b with cause := cause }, timer := false, release := none,
             remoteCount := 0 }
  match w1.rdu.record with
  | some b => w1.raise .burstEnd b.bytes
  | none => w1

/-- The burst meets its end condition; it closes when no capture of the burst is in flight (R40). -/
def Work.meetEnd (cause : EndCause) (w : Work) : Work :=
  match w.rdu.release with
  | some x =>
    let c := x.ending.getD cause
    let w1 := w.withRdu fun r => { r with release := some { x with ending := some c } }
    if (w1.rdu.capture.any Capture.ofBurst) = true then w1 else (w1.closeRecord c).enterRest
  | none => w

/-- A wait ends with nothing captured (R36). -/
def Rdu.endWait (r : Rdu) : Rdu := { r with focusWait := false, waiter := none }

/-- The ring is dropped (R43). -/
def Work.dropTheRing (w : Work) : Work := w.dropRing.withRdu fun r => { r with ring := [], openRow := none }

/-- The ring is promoted into a burst (R42). -/
def Work.promoteTheRing (w : Work) : Work :=
  let ring := w.rdu.ring
  let opened := w.rdu.openRow
  let w1 := w.promoteRing
  let first := (ring.head?.map fun i => w1.shotOf i).getD 0
  let w2 := w1.withRdu fun r =>
    { r with
      record := some { id := r.burstId, firstShot := first, captured := ring.length + (if opened.isSome then 1 else 0),
                       skipBusy := 0, skipBuffer := 0, skipTable := 0, cause := .opened },
      ring := [], openRow := none,
      capture := r.capture.map fun c => if opened = some c.row then { c with ofBurst := true } else c,
      counter := 0, phaseFire := true,
      release := some { single := false, origin := .release, gate := .releasePriority, granted := false,
                        ending := none } }
  w2.setDrive .firing

/-! ### Lines (R27, R33, R34, R36) -/

/-- The drive acts on an S1 release (R33). -/
def Work.s1Released (w : Work) : Work :=
  match w.rdu.drive with
  | .ready => w.enterIdle
  | .precapturing | .stalledPrecapturing => w.dropTheRing.enterIdle
  | .waitingFocus =>
    if w.rdu.waiter = some .release then (w.withRdu Rdu.endWait).enterIdle else w.publishDrive
  | .idle | .firing | .stalledFiring => w.publishDrive

/-- The drive acts on an S2 press (R34, R42). -/
def Work.s2Pressed (w : Work) : Work :=
  match w.rdu.drive with
  | .ready => w.startRelease .release
  | .precapturing | .stalledPrecapturing => w.promoteTheRing
  | .idle | .waitingFocus | .firing | .stalledFiring => w

/-- The drive acts on an S2 release (R34, R36, R40). -/
def Work.s2Released (w : Work) : Work :=
  match w.rdu.drive with
  | .waitingFocus => if w.rdu.waiter = some .release then (w.withRdu Rdu.endWait).enterRest else w
  | .firing | .stalledFiring =>
    match w.rdu.release with
    | some x => if x.origin = .release ∧ ¬ (x.single = true ∧ x.granted = true) then w.meetEnd .s2Up else w
    | none => w
  | .idle | .ready | .precapturing | .stalledPrecapturing => w

/-- What a line's new level registers (R27). -/
inductive LineEdge | press | release
  deriving DecidableEq, Repr

/-- The line takes a debounced level (R27). -/
def Line.take (l : Line) (active : Bool) : Line × Option LineEdge :=
  if active then
    if l.active then (l, none)
    else if l.armed then ({ l with active := true, armed := false, held := true }, some .press)
    else ({ l with active := true }, none)
  else
    ({ l with active := false, armed := true, held := false }, if l.held then some .release else none)

/-- The level a line's input gives under its polarity (R27, R28). -/
def Line.levelOf (l : Line) (high : Bool) : Bool := match l.polarity with
  | .high => high
  | .low => !high

/-- A polarity is set: a change disarms the line and judges its level afresh (R28, log entry 6). -/
def Line.setPolarity (l : Line) (p : Polarity) : Line :=
  if l.polarity = p then l else { polarity := p, active := false, armed := false, held := false }

/-! ### Remote releases (R44, R45) -/

/-- The judgment of a remote release: the code of a refusal, or the number of captures. A count outside 1..99 is judged
before every STATE, that of a latched warning among them (R44, R50, log entry 13). -/
def Work.judgeRemote (count : Nat) (w : Work) : Except Result Nat :=
  if count = 0 ∨ 99 < count then .error .badArg
  else if w.pwc.power ≠ .run ∨ w.pwc.latched = true then .error .state
  else
    match w.rdu.drive with
    | .idle | .ready => .ok (if w.rdu.active.mode = .single then 1 else count)
    | .precapturing | .waitingFocus | .firing | .stalledFiring | .stalledPrecapturing => .error .state

/-- A remote release is taken: the half-press signal goes up, and the release starts (R44). -/
def Work.takeRemote (origin : Origin) (count : Nat) (w : Work) : Work :=
  ((w.withRdu fun r => { r with remoteCount := count, waiter := some origin }).publishDrive).startRelease origin

/-! ### Events (R31, R36, R39, R50) -/

/-- The frame timer expires (R31, R37, R38). -/
def Work.frameTimerExpires (w : Work) : Work :=
  if w.rdu.timer = true ∧ w.rdu.capturing = true then w.attempt else w

/-- The focus wait expires (R36). -/
def Work.focusWaitExpires (w : Work) : Work :=
  match w.rdu.drive, w.rdu.waiter with
  | .waitingFocus, some o => if w.rdu.focusWait then w.openBurst o .waitExpired else w
  | _, _ => w

/-- FU published a change: a release that waits looks at the gate of the values published (R36). The first publication
that lets it pass opens the burst, also when the lens faults in the same step (log entry 52). -/
def Work.gateAgain (gate : Option GateOutcome) (w : Work) : Work :=
  match w.rdu.drive, w.rdu.waiter, gate with
  | .waitingFocus, some o, some g => w.openBurst o g
  | _, _, _ => w

/-- The end of a capture of the open burst (R39, R40). -/
def Work.burstCaptureEnds (x : Release) (life : Option Life) (number : Option Nat) (w : Work) : Work :=
  let w1 := w.withRdu fun r =>
    { r with record := r.record.map fun b =>
        if life = some .held ∧ b.firstShot = 0 then { b with firstShot := number.getD 0 } else b }
  if x.single then w1.meetEnd (if x.origin.isRemote then .remoteDone else .limit)
  else if x.origin.isRemote = true ∧ w.rdu.remoteCount = 0 then w1.meetEnd .remoteDone
  else if w.rdu.active.limit ≠ 0 ∧ w.rdu.active.limit ≤ w.rdu.counter then w1.meetEnd .limit
  else
    match x.ending with
    | some c => w1.meetEnd c
    | none => w1

/-- BM reports that a row RDU allocated has left EXPOSING (R39). -/
def Work.captureEnds (row : Nat) (life : Option Life) (number : Option Nat) (w : Work) : Work :=
  match w.rdu.capture with
  | some c =>
    if c.row = row then
      let w1 := w.withRdu fun r => { r with capture := none }
      if w.rdu.openRow = some row then
        w1.withRdu fun r => { r with openRow := none, ring := if life = some .pre then r.ring ++ [row] else r.ring }
      else
        match w.rdu.release with
        | some x => if c.ofBurst then w1.burstCaptureEnds x life number else w1
        | none => w1
    else w
  | none => w

/-- RDU's response to the supply warning (R50). -/
def Work.driveWarning (w : Work) : Work :=
  let w1 := w.withRdu fun r => { r.endWait with timer := false }
  let w2 := match w1.rdu.release with
    | some x => w1.closeRecord (x.ending.getD .power)
    | none => w1
  let w3 := if w2.rdu.ring ≠ [] ∨ w2.rdu.openRow.isSome = true then w2.dropTheRing else w2
  (w3.withRdu fun r => { r with remoteCount := 0 }).enterIdle

end Sys2Proof.Machine
end

