-- ==== Sys2Proof/Machine/Power.lean ====
section
/-! DEFINITION. How a step ends: the reports between blocks taken first in, first out, and Power Control
(09_power_and_supply_warning.md): QUIET, HALT, the wake, the supply warning, and the whole-part reset. -/

namespace Sys2Proof.Machine

/-! ### Reports (log entry 3) -/

/-- TU takes the reclaim signal; when it rises, TU applies demotion (R5, R166). -/
def Work.takeReclaim (up : Bool) (w : Work) : Work :=
  let w1 : Work := { w with tu := { w.tu with reclaim := up } }
  if up = true ∧ w.tu.reclaim = false ∧ w.tu.stopped = false then w1.demoteAll else w1

/-- A card duty became DONE while the signal is up: TU demotes such an entry (R166). -/
def Work.takeCardDone (i : Nat) (c : Chain) (w : Work) : Work :=
  if w.tu.demotes then
    w.tu.queue.foldl (fun v e => if e.row = some i ∧ e.chain = c then v.demote e else v) w
  else w

/-- A develop duty changed: TU makes a selection when the row has a PROOF DUTY entry, and looks whether its transfer
still waits at the frontier (R156, R164). -/
def Work.takeDevelop (i : Nat) (w : Work) : Work :=
  if (w.tu.queue.any fun e => decide (e.kind = .duty) && decide (e.row = some i) && decide (e.chain = .proof)) = true then
    w.selectEntry.updateWait
  else w

/-- The block a report is for takes it. -/
def Work.handle (r : Report) (w : Work) : Work :=
  match r with
  | .deLook => w.lookHead
  | .reclaim up => w.takeReclaim up
  | .readEnded b d => w.takeRead b d
  | .cardDone i c => w.takeCardDone i c
  | .developChanged i => w.takeDevelop i
  | .frontier _ => w.updateWait
  | .proofLost i => w.tetherProofLost i
  | .select => w.selectEntry
  | .focus g => w.gateAgain g
  | .rowEnded i l n => w.captureEnds i l n

/-- Reports are taken first in, first out until none is left. -/
def Work.drain : Nat → Work → Work
  | 0, w => w
  | k + 1, w =>
    match w.bus with
    | [] => w
    | r :: rest => Work.drain k (({ w with bus := rest } : Work).handle r)

/-- The bound on the reports taken in one step (log entry 3). -/
def Work.settle (w : Work) : Work := w.drain 4096

/-! ### QUIET, HALT and the wake (R189 to R191) -/

/-- The causes of a wake (R191). -/
inductive WakeCause | s1 | port | card
  deriving DecidableEq, Repr

def WakeCause.byte : WakeCause → Byte
  | .s1 => 0 | .port => 1 | .card => 2

/-- The power state changes. -/
def Work.setPower (p : Power) (w : Work) : Work := { w with pwc := { w.pwc with power := p } }

/-- At the return to RUN RDU looks at S1 (R49). -/
def Work.lookS1 (w : Work) : Work :=
  if w.rdu.s1.held = true ∧ w.rdu.drive = .idle ∧ w.pwc.latched = false then w.enterReady else w

/-- Entry to QUIET (R189). -/
def Work.enterQuiet (w : Work) : Work :=
  let w1 := w.setPower .quiet
  ({ w1 with sru := w1.sru.quiet } : Work).haltLens

/-- Entry to HALT (R190). -/
def Work.enterHalt (w : Work) : Work :=
  let w1 := ((w.setPower .halt).sensorStop).focusHalt
  ({ w1 with cw := w1.cw.mapBoth Slot.abandonReads } : Work).tetherHalt

/-- The return from QUIET by POWER_SET RUN (R189). -/
def Work.leaveQuiet (w : Work) : Work :=
  let w1 := w.setPower .run
  (({ w1 with sru := w1.sru.run } : Work).focusFromQuiet).lookS1

/-- A wake from QUIET or HALT; WAKE is raised with the cause (R191), after the TETHER_CHANGE of a
link that follows the PHY again and before the notices of RDU (log entry 55). -/
def Work.wake (c : WakeCause) (w : Work) : Work :=
  let w1 := w.setPower .run
  let w2 : Work := { w1 with sru := w1.sru.run }
  let w3 := if w.pwc.power = .halt then w2.focusFromHalt.tetherWake else w2.focusFromQuiet
  (w3.raise .wake [c.byte]).lookS1

/-! ### The supply warning (R192) -/

/-- Every response is done but CW's, which waits for the writing duties. -/
def Responses.delivered (quiet : Bool) : Responses :=
  { rdu := true, sru := true, fu := true, de := true, cw := quiet, tu := true }

/-- Every response is done. -/
def Responses.allDone (r : Responses) : Bool := r.rdu && r.sru && r.fu && r.de && r.cw && r.tu

/-- PWC latches the warning, raises POWER_WARN and delivers it; each block responds (R192, log entry 14). -/
def Work.warn (w : Work) : Work :=
  let w1 : Work := { w with pwc := { w.pwc with latched := true } }
  let w2 := (w1.raise .powerWarn []).focusWarning.driveWarning.sensorStop.developWarning.tetherWarning.cardWarning
  { w2 with pwc := { w2.pwc with responses := some (Responses.delivered w2.cw.quiet) } }

/-- CW's response is done once neither slot has a writing duty; when every response is done the part enters FAILSAFE
(R192). -/
def Work.finishWarning (w : Work) : Work :=
  match w.pwc.responses with
  | some r =>
    let r1 : Responses := { r with cw := w.cw.quiet }
    if r1.allDone then { w with pwc := { w.pwc with power := .failsafe, responses := none } }
    else { w with pwc := { w.pwc with responses := some r1 } }
  | none => w

/-- The supply warning input takes a level (R192, log entry 25). -/
def Work.warningInput (asserted : Bool) (w : Work) : Work :=
  let w1 : Work := { w with pins := { w.pins with warning := asserted } }
  if asserted = true ∧ w.pwc.latched = false then w1.warn else w1

/-! ### The whole-part reset (R187, R194, R195) -/

/-- Every block takes its reset values; the outside levels, the output log, the free-value index and the queue of
commands are no block's. -/
def State.resetBlocks (s : State) (cp : Cp) : State :=
  { State.reset with cp := cp, pins := s.pins, sent := s.sent, freeUsed := s.freeUsed, pending := s.pending }

/-- After a whole-part reset a warning input that is asserted latches the warning (R194). -/
def Work.judgeWarning (w : Work) : Work := if w.pins.warning then w.warn else w

/-- The assertion of the reset pin: every block is held at its reset values, and with no frame in the outbound queue the
attention line is low (R194). The rest of a transaction in progress is ignored (R187). -/
def Work.assertReset (w : Work) : Work :=
  { toState := w.toState.resetBlocks { Cp.asserted with busy := w.cp.busy, muted := w.cp.busy }, bus := [] }

/-- The release of the reset pin: the part starts up from the reset values, CP posts READY with reset cause PIN, and the
warning input is judged (R187, R194). -/
def Work.releaseReset (w : Work) : Work :=
  ({ toState := w.toState.resetBlocks { Cp.reset with busy := w.cp.busy, muted := w.cp.muted }, bus := [] } :
    Work).judgeWarning

/-- The reset pin is asserted and released (R194); the step holds both, so no command falls between (log entry 56). -/
def Work.resetPin (w : Work) : Work := w.assertReset.releaseReset

/-- CP after RESET_PART ALL (R187): the reply the request is owed, then READY with reset cause PORT. -/
def Cp.portReset (c : Cp) (tag : Byte) : Cp :=
  { Cp.reset with
    busy := c.busy, cause := .port,
    queue := [.reply 0x84 tag [Result.ok.byte, 0], .notice .ready 1 (readySnapshot 1)],
    latches := { count := 1, snapshot := some (readySnapshot 1) } :: List.replicate 18 { count := 0, snapshot := none } }

/-- RESET_PART ALL (R187, R195). -/
def Work.resetAll (tag : Byte) (w : Work) : Work :=
  ({ toState := w.toState.resetBlocks (w.cp.portReset tag), bus := [] } : Work).judgeWarning

/-! ### Lines and the whole of a step -/

/-- A release line's input has held a level: the line takes it, and the drive or Power Control acts on the press or the
release it registers (R27, R33, R34, R49, R50). -/
def Work.lineEvent (line : LineId) (high : Bool) (w : Work) : Work :=
  let l := match line with
    | .s1 => w.rdu.s1
    | .s2 => w.rdu.s2
  let t := l.take (l.levelOf high)
  let w1 := match line with
    | .s1 => w.withRdu fun r => { r with s1 := t.1 }
    | .s2 => w.withRdu fun r => { r with s2 := t.1 }
  if w.pwc.latched then w1
  else
    match t.2, line with
    | none, _ => w1
    | some .press, .s1 =>
      match w.pwc.power with
      | .run => if w.rdu.drive = .idle then w1.enterReady else w1.publishDrive
      | .quiet | .halt => w1.wake .s1
      | .failsafe => w1
    | some .press, .s2 => if w.pwc.power = .run then w1.s2Pressed else w1
    | some .release, .s1 => w1.s1Released
    | some .release, .s2 => w1.s2Released

/-- A card line's input has held a level: the slot takes it, and in HALT a change wakes the part (R121, R138, R145, R191).
SLOT_CHANGE is raised before WAKE (log entry 55). -/
def Work.cardEvent (s : SlotId) (inserted : Bool) (w : Work) : Work :=
  if w.pwc.power = .halt ∧ (w.cw.slot s).cardIn ≠ inserted then (w.cardLine s inserted).wake .card
  else w.cardLine s inserted

/-- The clock counts microseconds of 64 bits (00_scope.md, Time; log entry 1); past 2^64 - 1 it takes a free value (log
entry 10). -/
def State.idleTick (s : State) : State :=
  if s.now + 1 < 2 ^ 64 then { s with now := s.now + 1 }
  else { s with now := (Config.clockWrap s.freeUsed).toNat, freeUsed := s.freeUsed + 1 }

/-- A step over the state: an operation, the reports it gave rise to, and the end of the warning sequence. -/
def run (op : Work → Work) (s : State) : State :=
  ((op { toState := s, bus := [] }).settle.finishWarning).toState

end Sys2Proof.Machine
end

