-- ==== Sys2Proof/Machine/Answers.lean ====
section
/-! DEFINITION. What the owner of each request does with it and what it answers (R178 step 6). The payload has the
length its kind allows; its fields stand in the order of the owning rule (R197), and the reply's content in the order
of R198 (log entry 19). -/

namespace Sys2Proof.Machine

/-- An owner's answer: the request is taken, with the content of the reply after OK, or refused with a code, and a
refused request has changed nothing (R179). -/
inductive Answer where
  | taken (work : Work) (body : List Byte)
  | refused (code : Result)
  deriving DecidableEq, Repr

/-! ### Control Port -/

/-- IDENTIFY (R184). -/
def answerIdentify (w : Work) : Answer := .taken w (identityBytes w.cp.cause w.pwc.power)

/-- One notice kind in PORT_STATUS: its latch count, whether it has an entry, and whether that is in progress (R185). -/
def Cp.noticeStatus (c : Cp) (k : Notice) : List Byte :=
  [BitVec.ofNat 8 (c.latch k).count, flagByte (c.hasEntry k), flagByte (c.entryFixed k)]

/-- PORT_STATUS (R185). The number of replies is one byte and the 19 groups stand without a list count (log entry 19). -/
def answerPortStatus (p : List Byte) (w : Work) : Answer :=
  match flagOf (byteAt p 0) with
  | none => .refused .badArg
  | some clear =>
    let c := w.cp
    let body := [w.pwc.power.byte, c.cause.byte] ++ leBytes 2 c.garbled ++ leBytes 2 c.overrun ++
      [BitVec.ofNat 8 (c.queue.filter OutFrame.isReply).length] ++ c.enabled.map flagByte ++
      (Notice.all.map c.noticeStatus).flatten
    .taken (if clear then { w with cp := { c with garbled := 0, overrun := 0 } } else w) body

/-! ### Power Control -/

/-- POWER_SET to RUN, QUIET or HALT (R189). -/
def answerPowerSet (p : List Byte) (w : Work) : Answer :=
  let ok (v : Work) : Answer := .taken v [v.pwc.power.byte]
  match (byteAt p 0).toNat with
  | 0 => if w.pwc.latched then .refused .state else if w.pwc.power = .quiet then ok w.leaveQuiet else ok w
  | 1 =>
    if w.pwc.latched then .refused .state
    else if w.pwc.power = .quiet then ok w
    else if w.rdu.drive = .idle then ok w.enterQuiet
    else .refused .busy
  | 2 =>
    if w.pwc.latched then .refused .state
    else if w.rdu.drive = .idle ∧ w.bm.openDuties = 0 then ok w.enterHalt
    else .refused .busy
  | _ => .refused .badArg

/-! ### Release and drive -/

/-- DRIVE_SET (R29, R30). -/
def answerDriveSet (p : List Byte) (w : Work) : Answer :=
  match driveSettingsOf p with
  | none => .refused .badArg
  | some s =>
    if (w.rdu.drive = .idle ∨ w.rdu.drive = .ready) ∧ w.rdu.ring = [] then
      let w1 := w.withRdu fun r => { r with active := s }
      .taken (if w.rdu.drive = .ready ∧ w.rdu.s1.held = true ∧ s.mode = .precapture then w1.enterPrecapturing else w1)
        (s.bytes ++ [0])
    else .taken (w.withRdu fun r => { r with pending := some s }) (s.bytes ++ [1])

/-- RELEASE_LINES_SET (R28). -/
def answerReleaseLinesSet (p : List Byte) (w : Work) : Answer :=
  match polarityOf (byteAt p 0), polarityOf (byteAt p 1) with
  | some a, some b =>
    if w.rdu.drive = .idle then
      .taken ((w.withRdu fun r => { r with s1 := r.s1.setPolarity a, s2 := r.s2.setPolarity b }).publishDrive)
        [a.byte, b.byte]
    else .refused .state
  | _, _ => .refused .badArg

/-- REMOTE_RELEASE (R44). -/
def answerRemoteRelease (p : List Byte) (w : Work) : Answer :=
  match w.judgeRemote (byteAt p 0).toNat with
  | .error c => .refused c
  | .ok n => .taken (w.takeRemote .remoteHost n) [BitVec.ofNat 8 n]

/-- DRIVE_STATUS (R47). -/
def answerDriveStatus (w : Work) : Answer :=
  let r := w.rdu
  .taken w ([r.drive.byte, r.drive.fromByte] ++ r.active.bytes ++
    ((r.pending.map DriveSettings.bytes).getD (absentBytes 9)) ++ r.s1.bytes ++ r.s2.bytes ++ leBytes 2 r.counter ++
    [BitVec.ofNat 8 r.remoteCount] ++ leBytes 2 r.nextBurst ++ listBytes (r.ring.map fun i => [BitVec.ofNat 8 i]) ++
    [optByte (r.openRow.map (BitVec.ofNat 8))] ++ leBytes 4 r.period ++ [if r.phaseFire then 0 else 1] ++
    ((r.record.map BurstRecord.bytes).getD (absentBytes 16)))

/-! ### Sensor -/

/-- SENSOR_RESTART (R63). The missed-start run is one byte of the reply (log entry 19). -/
def answerSensorRestart (w : Work) : Answer :=
  let s := w.sru.restart
  let readout : List Byte := match s.readout with
    | some r => [frameKindByte r.kind, flagByte r.reading,
        if r.kind = .capture then BitVec.ofNat 8 r.row else 0xFF]
    | none => absentBytes 3
  .taken { w with sru := s } ([flagByte s.fault, flagByte (!s.running), BitVec.ofNat 8 s.missed] ++ readout ++
    [flagByte s.waiting.isSome])

/-! ### Focus -/

/-- LENS_ATTACH (R72). -/
def answerLensAttach (p : List Byte) (w : Work) : Answer :=
  match descriptorOf p with
  | none => .refused .badArg
  | some d => if w.fu.move.isSome then .refused .busy else .taken (w.attachLens d) d.bytes

/-- LENS_DETACH (R73). -/
def answerLensDetach (w : Work) : Answer := .taken w.detachLens []

/-- AF_SET (R75). -/
def answerAfSet (p : List Byte) (w : Work) : Answer :=
  match afSettingsOf p with
  | none => .refused .badArg
  | some s =>
    let w1 := w.requestAf s
    .taken w1 (s.bytes ++ [flagByte w1.fu.requested.isSome])

/-- FOCUS_STATUS (R88). Of the estimate history the current entry stands before the previous one (log entry 19). -/
def answerFocusStatus (w : Work) : Answer :=
  let f := w.fu
  .taken w ([f.state.byte, flagByte f.halfPress] ++ f.active.bytes ++
    ((f.requested.map AfSettings.bytes).getD (absentBytes 13)) ++
    ((f.descriptor.map Descriptor.bytes).getD (absentBytes 7)) ++ leBytes 2 f.position ++
    [flagByte f.known, flagByte f.moving, BitVec.ofNat 8 f.missing] ++ optBytes 2 (f.move.map MoveRecord.target) ++
    [optByte (f.move.map fun m => m.origin.byte), optByte (f.move.map fun m => flagByte m.halted)] ++
    leBytes 2 f.speed ++ zoneBytes (some (f.tracking.col, f.tracking.row)) ++ optBytes 2 f.tracking.held ++
    [BitVec.ofNat 8 f.tracking.run, BitVec.ofNat 8 f.seek, historyByte f.current, historyByte f.previous])

/-- The reply of LENS_MOVE: position, moving flag, and the move record's target or none (R87). -/
def lensMoveBytes (f : Fu) : List Byte :=
  leBytes 2 f.position ++ [flagByte f.moving] ++ optBytes 2 (f.move.map MoveRecord.target)

/-- LENS_MOVE, with or without the halt flag (R87, log entries 13 and 28). -/
def answerLensMove (p : List Byte) (w : Work) : Answer :=
  match flagOf (byteAt p 0) with
  | none => .refused .badArg
  | some halt =>
    let target := fieldAt p 1 2
    if w.fu.live = false ∨ w.fu.known = false then .refused .notReady
    else if w.pwc.power ≠ .run then .refused .state
    else if halt = false ∧ ((w.fu.descriptor.map Descriptor.lensMax).getD 0) < target then .refused .badArg
    else if w.fu.active.mode = .continuous ∧ (w.fu.move.any fun m => decide (m.origin = .af)) = true then
      .refused .lensBusy
    else
      let w1 := if halt then (if w.pwc.latched then w else w.haltLens) else w.moveLens target .host
      .taken w1 (lensMoveBytes w1.fu)

/-- ZONE_REPORT (R89). -/
def answerZoneReport (p : List Byte) (w : Work) : Answer :=
  let row := (byteAt p 0).toNat
  if 8 < row then .refused .badArg else .taken w (zoneReportBytes row w.fu.array)

/-! ### Shots, pages and the shot table -/

/-- The pages held in raw and in proof chains (R24). -/
def Bm.rawPages (b : Bm) : Nat := (b.rows.map fun r => (r.pagesOf .raw).length).sum
def Bm.proofPages (b : Bm) : Nat := (b.rows.map fun r => (r.pagesOf .proof).length).sum

/-- The rows in a life (R24). -/
def Bm.lives (b : Bm) (l : Life) : Nat := (b.rows.filter fun r => decide (r.life = l)).length

/-- Every life, in its order (R196). -/
def Life.all : List Life := [.exposing, .pre, .held, .settled, .void]

/-- POOL_STATUS (R24). -/
def answerPoolStatus (w : Work) : Answer :=
  let b := w.bm
  .taken w (leBytes 2 b.freeCount ++ leBytes 2 b.rawPages ++ leBytes 2 b.proofPages ++ leBytes 2 b.reserve ++
    leBytes 2 b.threshold ++ [flagByte b.reclaimSignal] ++ (Life.all.map fun l => BitVec.ofNat 8 (b.lives l)) ++
    [BitVec.ofNat 8 (Config.tableRows - b.rows.length)] ++ leBytes 3 b.nextNumber)

/-- POOL_SET (R5, R6). -/
def answerPoolSet (p : List Byte) (w : Work) : Answer :=
  let reserve := clampNat 0 400 (fieldAt p 0 2)
  let threshold := clampNat 0 1000 (fieldAt p 2 2)
  let b : Bm := { w.bm with reserve := reserve, threshold := threshold }
  .taken (({ w with bm := b } : Work).post (.reclaim b.reclaimSignal)) (leBytes 2 reserve ++ leBytes 2 threshold)

/-- SHOT_NUMBER_SET (R13). -/
def answerShotNumberSet (p : List Byte) (w : Work) : Answer :=
  let n := fieldAt p 0 3
  if n = 0 ∨ Config.maxShot < n then .refused .badArg
  else if (w.bm.rows.any fun r => decide (r.life = .held) || decide (r.life = .settled)) = true then .refused .state
  else .taken { w with bm := { w.bm with nextNumber := n } } (leBytes 3 n)

/-- SHOT_GET (R22). -/
def answerShotGet (p : List Byte) (w : Work) : Answer :=
  let n := fieldAt p 0 3
  if n = 0 ∨ Config.maxShot < n then .refused .badArg
  else
    match w.bm.numbered? n with
    | some r => .taken w r.bytes
    | none => .refused .noSuchShot

/-- A row's entry in SHOT_LIST (R23). -/
def Row.listEntry (r : Row) : List Byte :=
  [BitVec.ofNat 8 r.index] ++ leBytes 3 (r.number.getD 0) ++ [r.life.byte, flagByte r.precapture, flagByte r.protect,
    flagByte r.discarding, optByte (r.outcome.map ShotOutcome.byte)]

/-- The lives of a filter given as five flags; the empty set matches every life (R23). -/
def lifeMatches (flags : List Bool) (l : Life) : Bool :=
  flags.all (fun b => !b) || flags.getD l.byte.toNat false

/-- SHOT_LIST (R23). -/
def answerShotList (p : List Byte) (w : Work) : Answer :=
  let skip := (byteAt p 0).toNat
  match flagsOf ((p.drop 1).take 5) with
  | none => .refused .badArg
  | some flags =>
    if 127 < skip then .refused .badArg
    else
      let rows := w.bm.rows.filter fun r => lifeMatches flags r.life
      .taken w (BitVec.ofNat 8 rows.length :: listBytes (((rows.drop skip).take 32).map Row.listEntry))

/-- SHOT_PROTECT (R18, R20). -/
def answerShotProtect (p : List Byte) (w : Work) : Answer :=
  match flagOf (byteAt p 3) with
  | none => .refused .badArg
  | some on =>
    match w.bm.numbered? (fieldAt p 0 3) with
    | none => .refused .noSuchShot
    | some r => if r.discarding then .refused .state else .taken (w.protectRow r on) []

/-- SHOT_DISCARD (R19, R20). -/
def answerShotDiscard (p : List Byte) (w : Work) : Answer :=
  match w.bm.numbered? (fieldAt p 0 3) with
  | none => .refused .noSuchShot
  | some r =>
    if r.life ≠ .held then .refused .state
    else if r.protect then .refused .protect
    else
      let w1 := if r.discarding then w else w.discardRow r.index
      .taken w1 [BitVec.ofNat 8 (w1.stoppingOf r.index)]

/-- A row that SHOT_COLLECT removes (R21). -/
def Row.collectable (r : Row) : Bool := decide (r.life = .settled) || decide (r.life = .void)

/-- A removed row's entry in SHOT_COLLECT (R21). -/
def Row.collectEntry (r : Row) : List Byte :=
  [BitVec.ofNat 8 r.index] ++ leBytes 3 (r.number.getD 0) ++ [r.life.byte,
    optByte (r.outcome.map ShotOutcome.byte), flagByte r.protect]

/-- SHOT_COLLECT (R21). The number of rows removed is the list's own count, written once (log entry 19). -/
def answerShotCollect (p : List Byte) (w : Work) : Answer :=
  let n := (byteAt p 0).toNat
  if n = 0 ∨ 8 < n then .refused .badArg
  else
    let gone := (w.bm.rows.filter Row.collectable).take n
    .taken (gone.foldl (fun v r => v.removeRow r.index) w) (listBytes (gone.map Row.collectEntry))

/-! ### Development -/

/-- The slot is the slot of the running job (R95, R96). -/
def De.slotInUse (d : De) (slot : Nat) : Bool := d.job.any fun j => decide (j.slot = slot)

/-- LOOK_SET (R95). -/
def answerLookSet (p : List Byte) (w : Work) : Answer :=
  let slot := (byteAt p 0).toNat
  if 7 < slot then .refused .badArg
  else
    match lookOf p with
    | none => .refused .badArg
    | some l =>
      if w.de.slotInUse slot then .refused .inUse
      else .taken { w with de := { w.de with looks := w.de.looks.set slot l } } l.bytes

/-- LOOK_GET (R96). -/
def answerLookGet (p : List Byte) (w : Work) : Answer :=
  let slot := (byteAt p 0).toNat
  if 7 < slot then .refused .badArg
  else .taken w ((w.de.looks.getD slot Look.defaults).bytes ++ [flagByte (w.de.slotInUse slot)])

/-- The jobs ahead of one that joins the tail of a class (R99). -/
def De.aheadOf (d : De) : DevelopClass → Nat
  | .urgent => d.urgent.length
  | .normal => d.urgent.length + d.normal.length

/-- DEVELOP (R99, log entry 22). -/
def answerDevelop (p : List Byte) (w : Work) : Answer :=
  match flagOf (byteAt p 3) with
  | none => .refused .badArg
  | some urgent =>
    match w.bm.numbered? (fieldAt p 0 3) with
    | none => .refused .noSuchShot
    | some r =>
      if r.life ≠ .held ∨ r.discarding = true then .refused .state
      else
        match r.develop with
        | .pending =>
          if r.cls = .normal ∧ urgent = true then .taken (w.promoteJob r.index) [] else .refused .inUse
        | .running => .refused .inUse
        | .done | .failed | .cancelled => .refused .state
        | .absent =>
          if r.raw.isSome then
            let c : DevelopClass := if urgent then .urgent else .normal
            .taken (w.createDevelop r.index c) [c.byte, BitVec.ofNat 8 (w.de.aheadOf c)]
          else .refused .state

/-- DEVELOP_CANCEL (R110). -/
def answerDevelopCancel (p : List Byte) (w : Work) : Answer :=
  match w.bm.numbered? (fieldAt p 0 3) with
  | none => .refused .noSuchShot
  | some r =>
    match r.develop with
    | .pending => .taken (w.cancelPending r.index) [0]
    | .running =>
      .taken { w with de := { w.de with job := w.de.job.map fun j => { j with cancel := true } } } [1]
    | .absent | .done | .failed | .cancelled => .refused .state

/-- DEVELOP_STATUS (R115). -/
def answerDevelopStatus (p : List Byte) (w : Work) : Answer :=
  let skip := (byteAt p 0).toNat
  let d := w.de
  if 127 < skip then .refused .badArg
  else
    let job : List Byte := match d.job with
      | some j => leBytes 3 (w.shotOf j.row) ++
          [(((w.bm.row? j.row).map Row.cls).getD .normal).byte, BitVec.ofNat 8 j.slot] ++
          optBytes 2 (((w.bm.row? j.row).bind Row.proof).map ProofChain.frontier)
      | none => leBytes 3 0 ++ absentBytes 4
    let head := if d.engine = .starved then (d.head?.map fun i => w.shotOf i).getD 0 else 0
    let entries := (d.urgent.map fun i => leBytes 3 (w.shotOf i) ++ [DevelopClass.urgent.byte]) ++
      (d.normal.map fun i => leBytes 3 (w.shotOf i) ++ [DevelopClass.normal.byte])
    .taken w ([d.engine.byte] ++ job ++ leBytes 3 head ++
      [BitVec.ofNat 8 d.urgent.length, BitVec.ofNat 8 d.normal.length] ++ listBytes ((entries.drop skip).take 32) ++
      [flagByte d.auto] ++ leBytes 2 d.failedJobs ++ leBytes 3 (d.lastFailed.getD 0) ++
      [flagByte d.histogram.isSome] ++ leBytes 3 ((d.histogram.map Histogram.shot).getD 0))

/-- HISTOGRAM_GET (R116). Without a published histogram the content is a shot number of 0 (log entry 19). -/
def answerHistogramGet (w : Work) : Answer :=
  match w.de.histogram with
  | some h => .taken w (leBytes 3 h.shot ++ (h.bins.map (leBytes 4)).flatten ++ leBytes 4 h.clip)
  | none => .taken w (leBytes 3 0)

/-- DEVELOP_AUTO_SET (R114). -/
def answerDevelopAutoSet (p : List Byte) (w : Work) : Answer :=
  match flagOf (byteAt p 0) with
  | none => .refused .badArg
  | some on => .taken { w with de := { w.de with auto := on } } [flagByte on]

/-! ### Card recording -/

/-- SLOT_ATTACH (R122, log entry 20). -/
def answerSlotAttach (p : List Byte) (w : Work) : Answer :=
  match slotOf (byteAt p 0) with
  | none => .refused .badArg
  | some s =>
    let capacity := fieldAt p 1 4
    let start := fieldAt p 5 4
    let count := fieldAt p 9 4
    if (w.cw.slot s).state ≠ .present then .refused .state
    else if capacity = 0 then .refused .badArg
    else if count ≠ 0 ∧ capacity < start + count then .refused .badArg
    else
      let range : Option Piece := if count = 0 then none else some { start := start, count := count }
      let w1 := w.mapSlot s fun x =>
        { x with capacity := some capacity, range := range, failRun := 0, lastFail := none, reads := [] }
      let w2 := (w1.enterSlot s (if (w.cw.slot s).lockOn then .locked else .ready)).serveWaiting s
      .taken w2 [(w2.cw.slot s).state.byte]

/-- SLOT_DETACH (R124, log entry 21). -/
def answerSlotDetach (p : List Byte) (w : Work) : Answer :=
  match slotOf (byteAt p 0), flagOf (byteAt p 1) with
  | some s, some force =>
    match (w.cw.slot s).state with
    | .absent | .present => .refused .state
    | .ready | .locked | .fault => .taken (w.detachActs s) [0]
    | .writing | .suspended =>
      if (w.cw.slot s).stops.contains .detached then .taken w [1]
      else if force then
        let w1 := w.askStop s .detached
        .taken w1 [if (w1.cw.slot s).state = .present then 0 else 1]
      else .refused .busy
  | _, _ => .refused .badArg

/-- Two runs of sectors overlap (R125). -/
def Piece.overlaps (a b : Piece) : Bool := decide (a.start < b.start + b.count) && decide (b.start < a.start + a.count)

/-- What an added extent may not overlap: the protected range, the queue, and the pieces of the writing duty (R125). -/
def Work.taboo (w : Work) (s : SlotId) : List Piece :=
  (w.cw.slot s).range.toList ++ (w.cw.slot s).extents ++
    (((w.cw.slot s).writing.bind fun x => w.duty? x.duty).map CardDuty.pieces).getD []

/-- EXTENT_ADD (R125). The reply carries the queue as the extent joins it, before the selection that follows (log entry
53). -/
def answerExtentAdd (p : List Byte) (w : Work) : Answer :=
  match slotOf (byteAt p 0) with
  | none => .refused .badArg
  | some s =>
    let sl := w.cw.slot s
    let e : Piece := { start := fieldAt p 1 4, count := fieldAt p 5 4 }
    if sl.state = .absent ∨ sl.state = .present ∨ sl.state = .fault then .refused .state
    else if e.count = 0 ∨ sl.capacity.getD 0 < e.start + e.count then .refused .badArg
    else if ((w.taboo s).any fun x => x.overlaps e) = true then .refused .conflict
    else if 32 ≤ sl.extents.length then .refused .full
    else
      let w1 := w.setExtents s (sl.extents ++ [e])
      .taken (w1.selectDuty s)
        (BitVec.ofNat 8 (w1.cw.slot s).extents.length :: leBytes 4 (w1.cw.slot s).queued)

/-- EXTENT_FLUSH (R126). -/
def answerExtentFlush (p : List Byte) (w : Work) : Answer :=
  match slotOf (byteAt p 0) with
  | none => .refused .badArg
  | some s =>
    match (w.cw.slot s).state with
    | .absent | .present => .refused .state
    | .writing | .suspended => .refused .busy
    | .ready | .locked | .fault =>
      .taken (w.setExtents s []) [BitVec.ofNat 8 (w.cw.slot s).extents.length]

/-- RECORDING_SET (R127). -/
def answerRecordingSet (p : List Byte) (w : Work) : Answer :=
  match policyOf (byteAt p 0), flagOf (byteAt p 1) with
  | some policy, some proofs =>
    .taken { w with cw := { w.cw with policy := policy, proofs := proofs } } [policy.byte, flagByte proofs]
  | _, _ => .refused .badArg

/-- SLOT_STATUS (R144). Each count is one byte, so that of a list of 256 duties is 0. The pending stops are a counted list
of card causes in the order asked, and the first cause follows them, FFh when there is none (log entry 19). -/
def answerSlotStatus (p : List Byte) (w : Work) : Answer :=
  match slotOf (byteAt p 0) with
  | none => .refused .badArg
  | some s =>
    let sl := w.cw.slot s
    let dutyBytes (d : DutyRef) : List Byte := match w.duty? d with
      | some x => leBytes 3 (w.shotOf d.row) ++ [x.chain.byte, x.state.byte]
      | none => leBytes 3 0 ++ absentBytes 2
    let writing : List Byte := match sl.writing, sl.writing.bind fun x => w.duty? x.duty with
      | some wr, some x => leBytes 3 (w.shotOf wr.duty.row) ++ [x.chain.byte] ++ leBytes 4 (sectorNeed x.chain) ++
          leBytes 4 wr.written
      | _, _ => leBytes 3 0 ++ absentBytes 9
    let inFlight : Bool := match sl.op with
      | .read _ _ => true
      | .idle | .run _ _ _ => false
    .taken w ([w.cw.a.state.byte, w.cw.b.state.byte, flagByte sl.cardIn, flagByte sl.lockOn] ++
      optBytes 4 sl.capacity ++ ((sl.range.map Piece.bytes).getD (absentBytes 8)) ++
      listBytes (sl.extents.map Piece.bytes) ++ leBytes 4 sl.queued ++ writing ++
      listBytes (sl.stops.map fun c => [c.cause.byte]) ++ [optByte (sl.stops.head?.map fun c => c.cause.byte)] ++
      [BitVec.ofNat 8 sl.reads.length, flagByte inFlight, BitVec.ofNat 8 sl.failRun,
        optByte (sl.lastFail.map FailKind.byte), BitVec.ofNat 8 sl.writeQ.length, BitVec.ofNat 8 sl.waitQ.length] ++
      listBytes (((sl.writeQ.drop (byteAt p 1).toNat).take 16).map dutyBytes) ++
      [w.cw.policy.byte, flagByte w.cw.proofs])

/-! ### Tether -/

/-- TETHER_SET (R148). -/
def answerTetherSet (p : List Byte) (w : Work) : Answer :=
  match tetherSettingsOf p with
  | none => .refused .badArg
  | some s =>
    let o := w.tu.settings
    if w.tu.link ≠ .off ∧ ¬ (s.ownMac = o.ownMac ∧ s.deskMac = o.deskMac ∧ s.etherType = o.etherType ∧ s.name = o.name)
    then .refused .state
    else .taken { w with tu := { w.tu with settings := s } } s.bytes

/-- TETHER_ENABLE (R149, R173). -/
def answerTetherEnable (p : List Byte) (w : Work) : Answer :=
  let ok (v : Work) : Answer := .taken v [v.tu.link.byte]
  match flagOf (byteAt p 0) with
  | none => .refused .badArg
  | some on =>
    if w.tu.stopped then .refused .state
    else if on then
      if w.tu.settings.ownMac = none then .refused .notReady
      else if w.tu.link = .off then ok (if w.pins.phyUp then w.enterUnbound else w.enterLink .down)
      else ok w
    else ok (if w.tu.link = .off then w else w.disableTether)

/-- SEND (R153). -/
def answerSend (p : List Byte) (w : Work) : Answer :=
  let n := fieldAt p 0 3
  let prio := (byteAt p 4).toNat
  match flagOf (byteAt p 5) with
  | none => .refused .badArg
  | some early =>
    match w.judgeSend n (byteAt p 3) prio with
    | .error c => .refused c
    | .ok plan =>
      let w1 := w.joinSend plan n prio early
      .taken w1 [plan.kind.byte, plan.source.byte, BitVec.ofNat 8 (w1.tu.ahead n plan.chain)]

/-- SEND_STORED (R154). -/
def answerSendStored (p : List Byte) (w : Work) : Answer :=
  let length := fieldAt p 1 4
  let n := fieldAt p 5 3
  let prio := (byteAt p 9).toNat
  let k := (p.length - 10) / 8
  let pieces := piecesOf k (p.drop 10)
  match slotOf (byteAt p 0), chainOf (byteAt p 8) with
  | some s, some c =>
    if 3 < prio ∨ k = 0 ∨ 8 < k ∨ (pieces.any fun x => decide (x.count = 0)) = true ∨ length = 0 ∨
        Config.rawLength < length ∨ n = 0 ∨ Config.maxShot < n ∨ (pieces.map Piece.count).sum < sectorsOf length then
      .refused .badArg
    else if (w.tu.entry? n c).isSome then .refused .inUse
    else if Config.sendEntries ≤ w.tu.queue.length then .refused .full
    else
      let e : Entry := { number := n, chain := c, kind := .stored, row := none, sending := false, source := .card,
                         copy := some { slot := s, pieces := pieces, length := length }, prio := prio, early := false }
      let w1 := ({ w with tu := { w.tu with queue := insertTail e w.tu.queue } } : Work).post .select
      .taken w1 [BitVec.ofNat 8 (w1.tu.ahead n c)]
  | _, _ => .refused .badArg

/-- SEND_CANCEL (R155). -/
def answerSendCancel (p : List Byte) (w : Work) : Answer :=
  match chainOf (byteAt p 3) with
  | none => .refused .badArg
  | some c =>
    match w.tu.entry? (fieldAt p 0 3) c with
    | none => .refused .noSuchShot
    | some e => .taken (w.cancelEntry e) [flagByte e.sending]

/-- What the active transfer waits for: nothing, WINDOW, FRONTIER, CARD_READ or FINACK (R171). Of
several in SENDING the first in this order is given (log entry 19). -/
def Work.waitByte (w : Work) (t : Transfer) (e : Entry) : Byte :=
  if w.tu.link = .finishing then 4
  else if t.length ≤ t.next then 0
  else if t.window ≤ (t.next - t.acked) / Config.dataBytes then 1
  else if w.sendLimit t e < t.next + t.payload then 2
  else if (w.frameData t e).isNone then 3
  else 0

/-- An entry of the send queue in TETHER_STATUS (R171). -/
def Entry.statusBytes (e : Entry) : List Byte :=
  leBytes 3 e.number ++ [e.chain.byte, e.kind.byte, flagByte e.sending, e.source.byte, BitVec.ofNat 8 e.prio,
    flagByte e.early]

/-- TETHER_STATUS (R171). -/
def answerTetherStatus (p : List Byte) (w : Work) : Answer :=
  let t := w.tu
  let skip := (byteAt p 0).toNat
  if 63 < skip then .refused .badArg
  else
    let bound : List Byte := match t.bound with
      | some m => leBytes 6 m.toNat
      | none => absentBytes 6
    let active : List Byte := match t.transfer, t.active? with
      | some x, some e => leBytes 2 x.id ++ leBytes 3 x.number ++ [x.chain.byte, e.source.byte] ++ leBytes 4 x.length ++
          leBytes 4 x.next ++ leBytes 4 x.high ++ leBytes 4 x.acked ++
          [BitVec.ofNat 8 x.timeouts, BitVec.ofNat 8 x.bad, w.waitByte x e]
      | _, _ => absentBytes 2 ++ leBytes 3 0 ++ absentBytes 21
    let classes := (List.range 4).map fun k => BitVec.ofNat 8 (t.queue.filter fun e => decide (e.prio = k)).length
    .taken w ([t.link.byte] ++ bound ++ t.settings.bytes ++ [t.auto.byte, flagByte t.reclaim, flagByte t.stopped] ++
      leBytes 2 t.nextId ++ active ++
      [BitVec.ofNat 8 (t.buffers.filter fun b => !decide (b = .free)).length] ++ classes ++
      listBytes (((t.queue.drop skip).take 16).map Entry.statusBytes))

/-- TETHER_STATS (R170). -/
def answerTetherStats (w : Work) : Answer :=
  let c := w.tu.counters
  .taken { w with tu := { w.tu with counters := Counters.zero } }
    [BitVec.ofNat 8 c.ackTimeouts, BitVec.ofNat 8 c.restarted, BitVec.ofNat 8 c.underruns, BitVec.ofNat 8 c.dropped,
      BitVec.ofNat 8 c.failed]

/-- AUTO_SEND_SET (R169). -/
def answerAutoSendSet (p : List Byte) (w : Work) : Answer :=
  match autoSendOf (byteAt p 0) with
  | none => .refused .badArg
  | some a => .taken { w with tu := { w.tu with auto := a } } [a.byte]

end Sys2Proof.Machine
end

