-- ==== Sys2Proof/Machine/Port.lean ====
section
/-! DEFINITION. The Control Port (08_control_port_and_messages.md): the receiver, the judgment of requests, the outbound
queue, and the enable set. -/

namespace Sys2Proof.Machine

/-! ### The request catalogue (08 section 8.7, R197) -/

/-- The kinds of request. -/
inductive Request
  | identify | portStatus | noticeMaskSet | resetPart | powerSet | driveSet | releaseLinesSet | remoteRelease
  | driveStatus | shotNumberSet | sensorRestart | lensAttach | lensDetach | afSet | focusStatus | lensMove | zoneReport
  | poolStatus | poolSet | shotGet | shotList | shotProtect | shotDiscard | shotCollect | lookSet | lookGet | develop
  | developCancel | developStatus | histogramGet | developAutoSet | slotAttach | slotDetach | extentAdd | extentFlush
  | recordingSet | slotStatus | tetherSet | tetherEnable | send | sendStored | sendCancel | tetherStatus | tetherStats
  | autoSendSet
  deriving DecidableEq, Repr

/-- The kinds in catalogue order: the kind byte of each is its place counted from 1. -/
def Request.all : List Request :=
  [.identify, .portStatus, .noticeMaskSet, .resetPart, .powerSet, .driveSet, .releaseLinesSet, .remoteRelease,
   .driveStatus, .shotNumberSet, .sensorRestart, .lensAttach, .lensDetach, .afSet, .focusStatus, .lensMove,
   .zoneReport, .poolStatus, .poolSet, .shotGet, .shotList, .shotProtect, .shotDiscard, .shotCollect, .lookSet,
   .lookGet, .develop, .developCancel, .developStatus, .histogramGet, .developAutoSet, .slotAttach, .slotDetach,
   .extentAdd, .extentFlush, .recordingSet, .slotStatus, .tetherSet, .tetherEnable, .send, .sendStored, .sendCancel,
   .tetherStatus, .tetherStats, .autoSendSet]

/-- The request of a kind byte; none when no request has it. -/
def Request.ofKind (k : Byte) : Option Request :=
  if k.toNat = 0 then none else Request.all[k.toNat - 1]?

/-- The kind byte of a request. -/
def Request.kind : Request → Byte
  | .identify => 0x01 | .portStatus => 0x02 | .noticeMaskSet => 0x03 | .resetPart => 0x04 | .powerSet => 0x05
  | .driveSet => 0x06 | .releaseLinesSet => 0x07 | .remoteRelease => 0x08 | .driveStatus => 0x09
  | .shotNumberSet => 0x0A | .sensorRestart => 0x0B | .lensAttach => 0x0C | .lensDetach => 0x0D | .afSet => 0x0E
  | .focusStatus => 0x0F | .lensMove => 0x10 | .zoneReport => 0x11 | .poolStatus => 0x12 | .poolSet => 0x13
  | .shotGet => 0x14 | .shotList => 0x15 | .shotProtect => 0x16 | .shotDiscard => 0x17 | .shotCollect => 0x18
  | .lookSet => 0x19 | .lookGet => 0x1A | .develop => 0x1B | .developCancel => 0x1C | .developStatus => 0x1D
  | .histogramGet => 0x1E | .developAutoSet => 0x1F | .slotAttach => 0x20 | .slotDetach => 0x21 | .extentAdd => 0x22
  | .extentFlush => 0x23 | .recordingSet => 0x24 | .slotStatus => 0x25 | .tetherSet => 0x26 | .tetherEnable => 0x27
  | .send => 0x28 | .sendStored => 0x29 | .sendCancel => 0x2A | .tetherStatus => 0x2B | .tetherStats => 0x2C
  | .autoSendSet => 0x2D

/-- The payload length of a request whose fields all have fixed sizes: their sum (R197); 10 for SEND_STORED without
its pieces. -/
def Request.size : Request → Nat
  | .identify | .driveStatus | .sensorRestart | .lensDetach | .focusStatus | .poolStatus | .histogramGet
  | .tetherStats => 0
  | .portStatus | .resetPart | .powerSet | .remoteRelease | .zoneReport | .shotCollect | .lookGet | .developStatus
  | .developAutoSet | .extentFlush | .tetherEnable | .tetherStatus | .autoSendSet => 1
  | .releaseLinesSet | .slotDetach | .recordingSet | .slotStatus => 2
  | .shotNumberSet | .lensMove | .shotGet | .shotDiscard | .developCancel => 3
  | .poolSet | .shotProtect | .develop | .sendCancel => 4
  | .shotList | .send => 6
  | .lensAttach => 7
  | .driveSet | .extentAdd => 9
  | .sendStored => 10
  | .afSet | .slotAttach => 13
  | .noticeMaskSet => 19
  | .tetherSet => 34
  | .lookSet => 44

/-- The kind allows a payload length (R178 step 3, R197). -/
def Request.allows (r : Request) (n : Nat) : Bool :=
  match r with
  | .sendStored => decide (10 ≤ n) && decide ((n - 10) % 8 = 0)
  | _ => decide (n = r.size)

/-- The requests answered in FAILSAFE (R178 step 4). -/
def Request.inFailsafe : Request → Bool
  | .identify | .portStatus | .shotGet | .shotList | .slotStatus | .resetPart => true
  | _ => false

/-! ### The enable set (R183) -/

/-- CP acts on one kind whose enablement changes. -/
def Cp.setEnabled (c : Cp) (k : Notice) (on : Bool) : Cp :=
  let c1 : Cp := { c with enabled := c.enabled.set k.index on }
  if c.isEnabled k = on then c
  else if on then
    if 0 < (c.latch k).count ∧ c.hasEntry k = false then
      c1.append (.notice k (c.latch k).count ((c.latch k).snapshot.getD []))
    else c1
  else if c.entryFixed k then c1
  else { c1 with queue := c1.queue.filter fun f => !f.isNotice k }

/-- CP acts on every kind in catalogue order. -/
def Cp.setMask (c : Cp) (flags : List Bool) : Cp :=
  Notice.all.foldl (fun v k => v.setEnabled k (flags.getD k.index false)) c

/-! ### The judgment of a request (R178) -/

/-- The owner of a request acts on it and answers (R178 step 6). RESET_PART ALL and NOTICE_MASK_SET, whose replies CP
orders itself, are decided in `Work.decide`. -/
def Request.owner (r : Request) (p : List Byte) (w : Work) : Answer :=
  match r with
  | .identify => answerIdentify w
  | .portStatus => answerPortStatus p w
  | .noticeMaskSet => .refused .badArg
  | .resetPart => .refused .badArg
  | .powerSet => answerPowerSet p w
  | .driveSet => answerDriveSet p w
  | .releaseLinesSet => answerReleaseLinesSet p w
  | .remoteRelease => answerRemoteRelease p w
  | .driveStatus => answerDriveStatus w
  | .shotNumberSet => answerShotNumberSet p w
  | .sensorRestart => answerSensorRestart w
  | .lensAttach => answerLensAttach p w
  | .lensDetach => answerLensDetach w
  | .afSet => answerAfSet p w
  | .focusStatus => answerFocusStatus w
  | .lensMove => answerLensMove p w
  | .zoneReport => answerZoneReport p w
  | .poolStatus => answerPoolStatus w
  | .poolSet => answerPoolSet p w
  | .shotGet => answerShotGet p w
  | .shotList => answerShotList p w
  | .shotProtect => answerShotProtect p w
  | .shotDiscard => answerShotDiscard p w
  | .shotCollect => answerShotCollect p w
  | .lookSet => answerLookSet p w
  | .lookGet => answerLookGet p w
  | .develop => answerDevelop p w
  | .developCancel => answerDevelopCancel p w
  | .developStatus => answerDevelopStatus p w
  | .histogramGet => answerHistogramGet w
  | .developAutoSet => answerDevelopAutoSet p w
  | .slotAttach => answerSlotAttach p w
  | .slotDetach => answerSlotDetach p w
  | .extentAdd => answerExtentAdd p w
  | .extentFlush => answerExtentFlush p w
  | .recordingSet => answerRecordingSet p w
  | .slotStatus => answerSlotStatus p w
  | .tetherSet => answerTetherSet p w
  | .tetherEnable => answerTetherEnable p w
  | .send => answerSend p w
  | .sendStored => answerSendStored p w
  | .sendCancel => answerSendCancel p w
  | .tetherStatus => answerTetherStatus p w
  | .tetherStats => answerTetherStats w
  | .autoSendSet => answerAutoSendSet p w

/-- The kind of a reply: the request's kind plus 80h, and FFh for a request whose kind is 80h or above (R178). -/
def replyKind (kind : Byte) : Byte := if 0x80 ≤ kind.toNat then 0xFF else kind + 0x80

/-- CP posts the reply to an answer (R178, R179). The reports a taken request gave rise to are taken first, so that its
consequences stand before its reply. -/
def Work.answer (r : Request) (tag : Byte) (a : Answer) (w : Work) : Work :=
  match a with
  | .taken v body => v.settle.reply (replyKind r.kind) tag (Result.ok.byte :: body)
  | .refused c => w.reply (replyKind r.kind) tag [c.byte]

/-- NOTICE_MASK_SET: the reply comes first, then CP acts on the kinds (R183). -/
def Work.maskSet (tag : Byte) (p : List Byte) (w : Work) : Work :=
  match flagsOf p with
  | none => w.answer .noticeMaskSet tag (.refused .badArg)
  | some flags =>
    let w1 := w.reply (replyKind Request.noticeMaskSet.kind) tag (Result.ok.byte :: flags.map flagByte)
    { w1 with cp := w1.cp.setMask flags }

/-- RESET_PART: ALL, TETHER, or BAD_ARG (R195). -/
def Work.resetPart (tag : Byte) (p : List Byte) (w : Work) : Work :=
  match (byteAt p 0).toNat with
  | 0 => w.resetAll tag
  | 1 =>
    w.answer .resetPart tag
      (if w.tu.stopped then .refused .state else .taken w.resetTether [w.resetTether.tu.link.byte])
  | _ => w.answer .resetPart tag (.refused .badArg)

/-- Step 6 of R178: the request reaches its owner. -/
def Work.decide (r : Request) (tag : Byte) (p : List Byte) (w : Work) : Work :=
  match r with
  | .noticeMaskSet => w.maskSet tag p
  | .resetPart => w.resetPart tag p
  | _ => w.answer r tag (r.owner p w)

/-- A well-formed frame taken in HALT wakes the part, even when it is then dropped (R186, R191, log entries 11 and 12). -/
def Work.wakeForFrame (w : Work) : Work := if w.pwc.power = .halt then (w.wake .port).settle else w

/-- CP judges a request that has passed step 1 (R178 steps 2 to 6). -/
def Work.judge (kind tag : Byte) (p : List Byte) (w : Work) : Work :=
  match Request.ofKind kind with
  | none => w.reply (replyKind kind) tag [Result.unknownKind.byte]
  | some r =>
    if r.allows p.length = false then w.reply (replyKind kind) tag [Result.badLength.byte]
    else if w.pwc.power = .failsafe ∧ r.inFailsafe = false then w.reply (replyKind kind) tag [Result.state.byte]
    else w.decide r tag p

/-- CP takes a well-formed frame as a request (R178). -/
def Work.take (kind tag : Byte) (p : List Byte) (w : Work) : Work :=
  let w1 := w.wakeForFrame
  if Config.maxReplies ≤ w1.cp.outstanding then
    { w1 with cp := { w1.cp with overrun := satSucc 65535 w1.cp.overrun } }
  else w1.judge kind tag p

/-! ### Clocking out (R177, R180, R182) -/

/-- The bytes of a frame on the port (08 section 8.1). -/
def frameBytes (kind tag : Byte) (p : List Byte) : List Byte :=
  0xA5 :: (leBytes 2 p.length ++ (kind :: tag :: p) ++ leBytes 2 (crc16 (kind :: tag :: p)).toNat)

/-- The kind byte of a notice (08 section 8.5). -/
def Notice.kind (k : Notice) : Byte := BitVec.ofNat 8 (0xC0 + k.index)

/-- The bytes an outbound frame puts on the port (08 section 8.1, R181). -/
def OutFrame.bytes : OutFrame → List Byte
  | .reply kind tag payload => frameBytes kind tag payload
  | .notice k count snapshot => frameBytes k.kind 0 (BitVec.ofNat 8 count :: snapshot)

/-- How many bytes a frame puts on the port: its payload and 7 (08 section 8.1). -/
def OutFrame.size : OutFrame → Nat
  | .reply _ _ payload => payload.length + 7
  | .notice _ _ snapshot => snapshot.length + 8

/-- The content of the head frame is fixed: a notice entry takes its latch's count and snapshot, and the latch's count
becomes 0; a frame cut off earlier keeps the content it was given (R180, R182). -/
def Cp.fixHead (c : Cp) : Cp :=
  if c.fixed then c
  else
    match c.queue with
    | .notice k _ _ :: rest =>
      let l := c.latch k
      ({ c with queue := .notice k l.count (l.snapshot.getD []) :: rest, fixed := true } : Cp).setLatch k
        { l with count := 0 }
    | .reply _ _ _ :: _ => { c with fixed := true }
    | [] => c

/-- A notice entry has left: a new one is posted when occurrences came meanwhile and the kind is enabled (R182). -/
def Cp.repost (c : Cp) (k : Notice) : Cp :=
  if 0 < (c.latch k).count ∧ c.isEnabled k = true then
    c.append (.notice k (c.latch k).count ((c.latch k).snapshot.getD []))
  else c

/-- The last CRC byte of the head frame has been clocked out: it leaves the queue (R180, R182). -/
def Cp.frameLeft (c : Cp) : Cp :=
  match c.queue with
  | .notice k _ _ :: rest => ({ c with queue := rest, fixed := false, place := 0 } : Cp).repost k
  | .reply _ _ _ :: rest => { c with queue := rest, fixed := false, place := 0 }
  | [] => c

/-- The byte shifted out next: that of the head frame at its place, or FFh when the queue is empty or the transaction is
ignored after the reset pin (R177, R180, R187). -/
def Cp.byteOut (c : Cp) : Byte :=
  match c.queue with
  | f :: _ => if c.muted then 0xFF else f.bytes.getD c.place 0xFF
  | [] => 0xFF

/-- A byte has been shifted out: the head frame's place moves on. The first byte fixes its content, and with the last it
leaves (R177, R180, R182). -/
def Cp.advance (c : Cp) : Cp :=
  match c.queue with
  | f :: _ =>
    if c.muted then c
    else if c.place = 0 then { c.fixHead with place := 1 }
    else if c.place + 1 < f.size then { c with place := c.place + 1 }
    else c.frameLeft
  | [] => c

/-- One byte of a transaction is shifted out (R177). -/
def State.shiftOut (s : State) : State :=
  { s with cp := { s.cp.advance with busy := true }, sent := .port s.cp.byteOut :: s.sent }

/-- A number of bytes are shifted out. -/
def State.shiftOuts : Nat → State → State
  | 0, s => s
  | n + 1, s => State.shiftOuts n s.shiftOut

/-- A number of bytes are shifted out within a step. -/
def Work.shiftOuts (n : Nat) (w : Work) : Work := { w with toState := w.toState.shiftOuts n }

/-! ### The receiver (R175, R176) -/

/-- Change the receiver. -/
def Work.setRx (r : Receiver) (w : Work) : Work := { w with cp := { w.cp with rx := r } }

/-- A garbled frame is counted (R176). -/
def Work.countGarbled (w : Work) : Work :=
  { w with cp := { w.cp with garbled := satSucc 65535 w.cp.garbled } }

/-- The run of stray bytes ends. -/
def Work.endStrays (w : Work) : Work := { w with cp := { w.cp with strays := false } }

/-- The bytes of kind, tag, payload and CRC are all there: the frame is taken if its CRC matches and garbled if not
(R175, R176). -/
def Work.completeBody (got : List Byte) (w : Work) : Work :=
  let n := got.length - 2
  let content := got.take n
  let w1 := w.setRx .hunt
  if leNat (got.drop n) = (crc16 content).toNat then w1.take (byteAt content 0) (byteAt content 1) (content.drop 2)
  else w1.countGarbled

/-- The receiver takes one byte (R175, R176). -/
def Work.feedByte (w : Work) (b : Byte) : Work :=
  match w.cp.rx with
  | .hunt =>
    if b = 0xA5 then w.endStrays.setRx (.header [])
    else if b = 0xFF then w.endStrays
    else if w.cp.strays then w
    else ({ w with cp := { w.cp with strays := true } } : Work).countGarbled
  | .header [] => w.setRx (.header [b])
  | .header (a :: _) =>
    let n := leNat [a, b]
    if Config.maxPayload < n then (w.setRx .discard).countGarbled else w.setRx (.body (n + 4) [])
  | .body need got =>
    let got1 := got ++ [b]
    if got1.length < need then w.setRx (.body need got1) else w.completeBody got1
  | .discard => w

/-- The host clocks one byte: a byte goes out and the receiver takes the one that comes in (R177; log entry 24). After a
reset pin the bytes of the transaction in progress are ignored (R187). -/
def Work.clockByte (w : Work) (b : Byte) : Work :=
  let w1 := w.shiftOuts 1
  if w1.cp.muted then w1 else w1.feedByte b

/-- The host clocks bytes, one after the other. -/
def Work.clock (bytes : List Byte) (w : Work) : Work := bytes.foldl Work.clockByte w

/-- A frame of the host arrives. Between frames the receiver takes it as it stands, when all its bytes have been clocked;
elsewhere its bytes are what the receiver makes of them. -/
def Work.hostFrame (kind tag : Byte) (p : List Byte) (w : Work) : Work :=
  match w.cp.rx, w.cp.muted with
  | .hunt, false =>
    if p.length ≤ Config.maxPayload then (w.shiftOuts (p.length + 7)).endStrays.take kind tag p
    else w.clock (frameBytes kind tag p)
  | _, _ => w.clock (frameBytes kind tag p)

/-- The host clocks one filler byte where a frame may start, so that the first byte of the head frame goes out, or FFh
when no frame waits; within a frame there is no first byte (R177, R180; log entry 24). -/
def Work.clockFirst (w : Work) : Work := if w.cp.place = 0 then w.clockByte 0xFF else w

/-- The host clocks filler bytes up to the last CRC byte of the frame that is being sent; with none there is no such byte
(R177, R180; log entry 24). -/
def Work.clockRest (w : Work) : Work :=
  match w.cp.queue with
  | f :: _ => if w.cp.place = 0 then w else w.clock (List.replicate (f.size - w.cp.place) 0xFF)
  | [] => w

/-- Chip select rises (R176, R177, R180, R187). -/
def Work.selectRises (w : Work) : Work :=
  let w1 := match w.cp.rx with
    | .header _ | .body _ _ => w.countGarbled
    | .hunt | .discard => w
  { w1 with cp := { w1.cp with rx := .hunt, strays := false, busy := false, muted := false, place := 0 } }

end Sys2Proof.Machine
end

