-- ==== Sys2Proof/Machine/Desk.lean ====
section
/-! DEFINITION. Desk frames that TU receives (07_tether.md section 7.2, R150, R151, R167, R168, R199). -/

namespace Sys2Proof.Machine

/-- The desk-to-740 frames with the fields of their kinds (10 section 10.4). -/
inductive DeskMsg where
  | bind
  | ping
  | ack (id offset : Nat)
  | finack (id : Nat) (result : Byte)
  | request (number : Nat) (chain : Byte)
  | remote (count : Byte)
  deriving DecidableEq, Repr

/-- The kind byte of a desk-to-740 frame (10 section 10.4). -/
def DeskMsg.kind : DeskMsg → Byte
  | .bind => 0x02 | .ping => 0x03 | .ack _ _ => 0x06 | .finack _ _ => 0x08 | .request _ _ => 0x0A | .remote _ => 0x0B

/-- The fields after the kind byte (10 section 10.4). -/
def DeskMsg.fields : DeskMsg → List Byte
  | .bind | .ping => []
  | .ack id o => leBytes 2 id ++ leBytes 4 o
  | .finack id r => leBytes 2 id ++ [r]
  | .request n c => leBytes 3 n ++ [c]
  | .remote n => [n]

/-- The frame that a kind byte and the bytes after it spell; none when the kind is no desk-to-740 kind or the bytes are
too few for its fields (R150). Bytes after the fields are ignored. -/
def deskMsgOf (kind : Byte) (f : List Byte) : Option DeskMsg :=
  match kind.toNat with
  | 0x02 => some .bind
  | 0x03 => some .ping
  | 0x06 => if 6 ≤ f.length then some (.ack (fieldAt f 0 2) (fieldAt f 2 4)) else none
  | 0x08 => if 3 ≤ f.length then some (.finack (fieldAt f 0 2) (byteAt f 2)) else none
  | 0x0A => if 4 ≤ f.length then some (.request (fieldAt f 0 3) (byteAt f 3)) else none
  | 0x0B => if 1 ≤ f.length then some (.remote (byteAt f 0)) else none
  | _ => none

/-- A frame arrives in every link state but OFF and DOWN (R150, R172). -/
def Link.hears : Link → Bool
  | .unbound | .boundIdle | .sending | .finishing => true
  | .off | .down => false

/-- The destination and the EtherType that R150 lets pass. -/
def Tu.passes (t : Tu) (h : DeskHead) : Bool :=
  (decide (h.dst = t.settings.ownMac.getD 0) || decide (h.dst = broadcast)) &&
    decide (h.etherType = t.settings.etherType)

/-- A FINACK whose result is neither GOOD nor BAD (R199). -/
def DeskMsg.malformed : DeskMsg → Bool
  | .finack _ r => decide (1 < r.toNat)
  | .bind | .ping | .ack _ _ | .request _ _ | .remote _ => false

/-- NAK of a REQUEST (R167, 10 section 10.4). -/
def Work.nakRequest (n : Nat) (chain : Byte) (code : Result) (w : Work) : Work :=
  w.sendDesk 0x0C ([0x0A] ++ leBytes 3 n ++ [chain, 0, code.byte])

/-- NAK of a REMOTE (R168, 10 section 10.4). -/
def Work.nakRemote (count : Byte) (code : Result) (w : Work) : Work :=
  w.sendDesk 0x0C [0x0B, 0, 0, 0, 0, count, code.byte]

/-- A BIND taken in UNBOUND (R151, log entry 47). -/
def Work.takeBind (src : BitVec 48) (w : Work) : Work :=
  if w.tu.settings.deskMac = 0 ∨ w.tu.settings.deskMac = src then
    let w1 := ({ w with tu := { w.tu with bound := some src, helloTimer := false } } : Work).enterLink .boundIdle
    ({ w1 with tu := { w1.tu with deskTimer := true } } : Work).post .select
  else w

/-- A REQUEST refused with IN_USE: a PENDING entry below priority 2 moves to the tail of class 2 (R167). -/
def Work.raiseEntry (e : Entry) (w : Work) : Work :=
  if e.sending = false ∧ e.prio < 2 then
    let e1 : Entry := { e with prio := 2 }
    let t := w.tu.dropEntry e.number e.chain
    (({ w with tu := { t with queue := insertTail e1 t.queue } } : Work).mirror e1).post .select
  else w

/-- A REQUEST that draws a NAK, with its DESK_REQUEST (R167). -/
def Work.refuseRequest (n : Nat) (chain : Byte) (code : Result) (w : Work) : Work :=
  (w.nakRequest n chain code).raise .deskRequest (leBytes 3 n ++ [chain])

/-- A REQUEST of the bound desk (R167). -/
def Work.takeRequest (n : Nat) (chain : Byte) (w : Work) : Work :=
  if w.tu.stopped then w.refuseRequest n chain .state
  else
    match w.judgeSend n chain 2 with
    | .ok p => w.joinSend p n 2 true
    | .error .inUse =>
      match (chainOf chain).bind (w.tu.entry? n) with
      | some e => w.raiseEntry e
      | none => w
    | .error c => w.refuseRequest n chain c

/-- A REMOTE of the bound desk (R168). -/
def Work.takeDeskRemote (count : Byte) (w : Work) : Work :=
  if w.tu.settings.remote then
    match w.judgeRemote count.toNat with
    | .ok k => w.takeRemote .remoteDesk k
    | .error c => w.nakRemote count c
  else w.nakRemote count .state

/-- A frame of the bound desk acts by its kind; the refresh has been made (R150). From the supply warning on ACK and
FINACK are discarded (R173). -/
def Work.takeBound (m : DeskMsg) (w : Work) : Work :=
  match m with
  | .bind | .ping => w
  | .ack id o => if w.tu.stopped then w else w.takeAck id o
  | .finack id r => if w.tu.stopped then w else w.takeFinack id (r == 0)
  | .request n c => w.takeRequest n c
  | .remote n => w.takeDeskRemote n

/-- A frame that passed R150 is taken by link state and source. -/
def Work.takePassed (src : BitVec 48) (m : DeskMsg) (w : Work) : Work :=
  match w.tu.link with
  | .off | .down => w
  | .unbound => if m = .bind then w.takeBind src else w
  | .boundIdle | .sending | .finishing =>
    if w.tu.bound = some src then
      ({ w with tu := { w.tu with deskTimer := true } } : Work).takeBound m
    else w

/-- A desk frame of a known kind whose frame check and length are good arrives (R150, R199; log entries 36, 40). -/
def Work.takeDesk (h : DeskHead) (m : DeskMsg) (w : Work) : Work :=
  if w.tu.link.hears = false then w
  else if w.tu.passes h = false ∨ m.malformed = true then w.bump .dropped
  else w.takePassed h.src m

/-- The head that the first 14 bytes of a desk frame spell (10 section 10.4). -/
def deskHeadOf (f : List Byte) : DeskHead :=
  { dst := BitVec.ofNat 48 (fieldAt f 0 6), src := BitVec.ofNat 48 (fieldAt f 6 6),
    etherType := BitVec.ofNat 16 (256 * (byteAt f 12).toNat + (byteAt f 13).toNat) }

/-- The last 4 bytes of a frame are the CRC-32 of those before, low byte first (10 section 10.4). -/
def frameCheck (f : List Byte) : Bool :=
  decide (leNat (f.drop (f.length - 4)) = (crc32 (f.take (f.length - 4))).toNat)

/-- The frame of a desk kind that bytes on the wire spell; none when the length, the frame check or the kind fails
(R150). -/
def deskFrameOf (f : List Byte) : Option (DeskHead × DeskMsg) :=
  if 19 ≤ f.length ∧ f.length ≤ 1518 ∧ frameCheck f = true then
    (deskMsgOf (byteAt f 14) ((f.take (f.length - 4)).drop 15)).map fun m => (deskHeadOf f, m)
  else none

/-- A desk frame arrives as the bytes on the wire (R150). -/
def Work.rawDeskFrame (f : List Byte) (w : Work) : Work :=
  match deskFrameOf f with
  | some (h, m) => w.takeDesk h m
  | none => if w.tu.link.hears then w.bump .dropped else w

end Sys2Proof.Machine
end

