-- ==== Sys2Proof/Machine/Requests.lean ====
section
/-! DEFINITION. The meanings of the commands that reach the Control Port: the requests of the host (R178; what each
does is its owner's answer, in Answers.lean and Port.lean) and the rest of the port's traffic (R175 to R182). -/

namespace Sys2Proof.Machine

/-- A request frame of a kind arrives (R175, R178). -/
def request (r : Request) (tag : Byte) (p : List Byte) (s : State) : Host.Outcome State Fault Refusal :=
  .next (run (Work.hostFrame r.kind tag p) s)

/-- IDENTIFY (R184). -/
def execIdentify (tag : Byte) (payload : List Byte) (s : State) : Host.Outcome State Fault Refusal :=
  request .identify tag payload s

/-- PORT_STATUS (R185). -/
def execPortStatus (tag : Byte) (payload : List Byte) (s : State) : Host.Outcome State Fault Refusal :=
  request .portStatus tag payload s

/-- NOTICE_MASK_SET (R183). -/
def execNoticeMaskSet (tag : Byte) (payload : List Byte) (s : State) : Host.Outcome State Fault Refusal :=
  request .noticeMaskSet tag payload s

/-- RESET_PART_ALL (R195). -/
def execResetPartAll (tag : Byte) (payload : List Byte) (s : State) : Host.Outcome State Fault Refusal :=
  request .resetPart tag payload s

/-- RESET_PART_TETHER (R174). -/
def execResetPartTether (tag : Byte) (payload : List Byte) (s : State) : Host.Outcome State Fault Refusal :=
  request .resetPart tag payload s

/-- POWER_SET_RUN (R189). -/
def execPowerSetRun (tag : Byte) (payload : List Byte) (s : State) : Host.Outcome State Fault Refusal :=
  request .powerSet tag payload s

/-- POWER_SET_QUIET (R189). -/
def execPowerSetQuiet (tag : Byte) (payload : List Byte) (s : State) : Host.Outcome State Fault Refusal :=
  request .powerSet tag payload s

/-- POWER_SET_HALT (R190). -/
def execPowerSetHalt (tag : Byte) (payload : List Byte) (s : State) : Host.Outcome State Fault Refusal :=
  request .powerSet tag payload s

/-- DRIVE_SET (R30). -/
def execDriveSet (tag : Byte) (payload : List Byte) (s : State) : Host.Outcome State Fault Refusal :=
  request .driveSet tag payload s

/-- RELEASE_LINES_SET (R28). -/
def execReleaseLinesSet (tag : Byte) (payload : List Byte) (s : State) : Host.Outcome State Fault Refusal :=
  request .releaseLinesSet tag payload s

/-- REMOTE_RELEASE (R44). -/
def execRemoteRelease (tag : Byte) (payload : List Byte) (s : State) : Host.Outcome State Fault Refusal :=
  request .remoteRelease tag payload s

/-- DRIVE_STATUS (R47). -/
def execDriveStatus (tag : Byte) (payload : List Byte) (s : State) : Host.Outcome State Fault Refusal :=
  request .driveStatus tag payload s

/-- SHOT_NUMBER_SET (R13). -/
def execShotNumberSet (tag : Byte) (payload : List Byte) (s : State) : Host.Outcome State Fault Refusal :=
  request .shotNumberSet tag payload s

/-- SENSOR_RESTART (R63). -/
def execSensorRestart (tag : Byte) (payload : List Byte) (s : State) : Host.Outcome State Fault Refusal :=
  request .sensorRestart tag payload s

/-- LENS_ATTACH (R72). -/
def execLensAttach (tag : Byte) (payload : List Byte) (s : State) : Host.Outcome State Fault Refusal :=
  request .lensAttach tag payload s

/-- LENS_DETACH (R73). -/
def execLensDetach (tag : Byte) (payload : List Byte) (s : State) : Host.Outcome State Fault Refusal :=
  request .lensDetach tag payload s

/-- AF_SET (R75). -/
def execAfSet (tag : Byte) (payload : List Byte) (s : State) : Host.Outcome State Fault Refusal :=
  request .afSet tag payload s

/-- FOCUS_STATUS (R88). -/
def execFocusStatus (tag : Byte) (payload : List Byte) (s : State) : Host.Outcome State Fault Refusal :=
  request .focusStatus tag payload s

/-- LENS_MOVE (R87). -/
def execLensMove (tag : Byte) (payload : List Byte) (s : State) : Host.Outcome State Fault Refusal :=
  request .lensMove tag payload s

/-- LENS_HALT (R87). -/
def execLensHalt (tag : Byte) (payload : List Byte) (s : State) : Host.Outcome State Fault Refusal :=
  request .lensMove tag payload s

/-- ZONE_REPORT (R89). -/
def execZoneReport (tag : Byte) (payload : List Byte) (s : State) : Host.Outcome State Fault Refusal :=
  request .zoneReport tag payload s

/-- POOL_STATUS (R24). -/
def execPoolStatus (tag : Byte) (payload : List Byte) (s : State) : Host.Outcome State Fault Refusal :=
  request .poolStatus tag payload s

/-- POOL_SET (R6). -/
def execPoolSet (tag : Byte) (payload : List Byte) (s : State) : Host.Outcome State Fault Refusal :=
  request .poolSet tag payload s

/-- SHOT_GET (R22). -/
def execShotGet (tag : Byte) (payload : List Byte) (s : State) : Host.Outcome State Fault Refusal :=
  request .shotGet tag payload s

/-- SHOT_LIST (R23). -/
def execShotList (tag : Byte) (payload : List Byte) (s : State) : Host.Outcome State Fault Refusal :=
  request .shotList tag payload s

/-- SHOT_PROTECT (R18). -/
def execShotProtect (tag : Byte) (payload : List Byte) (s : State) : Host.Outcome State Fault Refusal :=
  request .shotProtect tag payload s

/-- SHOT_DISCARD (R19). -/
def execShotDiscard (tag : Byte) (payload : List Byte) (s : State) : Host.Outcome State Fault Refusal :=
  request .shotDiscard tag payload s

/-- SHOT_COLLECT (R21). -/
def execShotCollect (tag : Byte) (payload : List Byte) (s : State) : Host.Outcome State Fault Refusal :=
  request .shotCollect tag payload s

/-- LOOK_SET (R95). -/
def execLookSet (tag : Byte) (payload : List Byte) (s : State) : Host.Outcome State Fault Refusal :=
  request .lookSet tag payload s

/-- LOOK_GET (R96). -/
def execLookGet (tag : Byte) (payload : List Byte) (s : State) : Host.Outcome State Fault Refusal :=
  request .lookGet tag payload s

/-- DEVELOP (R99). -/
def execDevelop (tag : Byte) (payload : List Byte) (s : State) : Host.Outcome State Fault Refusal :=
  request .develop tag payload s

/-- DEVELOP_CANCEL (R110). -/
def execDevelopCancel (tag : Byte) (payload : List Byte) (s : State) : Host.Outcome State Fault Refusal :=
  request .developCancel tag payload s

/-- DEVELOP_STATUS (R115). -/
def execDevelopStatus (tag : Byte) (payload : List Byte) (s : State) : Host.Outcome State Fault Refusal :=
  request .developStatus tag payload s

/-- HISTOGRAM_GET (R116). -/
def execHistogramGet (tag : Byte) (payload : List Byte) (s : State) : Host.Outcome State Fault Refusal :=
  request .histogramGet tag payload s

/-- DEVELOP_AUTO_SET (R114). -/
def execDevelopAutoSet (tag : Byte) (payload : List Byte) (s : State) : Host.Outcome State Fault Refusal :=
  request .developAutoSet tag payload s

/-- SLOT_ATTACH (R122). -/
def execSlotAttach (tag : Byte) (payload : List Byte) (s : State) : Host.Outcome State Fault Refusal :=
  request .slotAttach tag payload s

/-- SLOT_DETACH (R124). -/
def execSlotDetach (tag : Byte) (payload : List Byte) (s : State) : Host.Outcome State Fault Refusal :=
  request .slotDetach tag payload s

/-- EXTENT_ADD (R125). -/
def execExtentAdd (tag : Byte) (payload : List Byte) (s : State) : Host.Outcome State Fault Refusal :=
  request .extentAdd tag payload s

/-- EXTENT_FLUSH (R126). -/
def execExtentFlush (tag : Byte) (payload : List Byte) (s : State) : Host.Outcome State Fault Refusal :=
  request .extentFlush tag payload s

/-- RECORDING_SET (R127). -/
def execRecordingSet (tag : Byte) (payload : List Byte) (s : State) : Host.Outcome State Fault Refusal :=
  request .recordingSet tag payload s

/-- SLOT_STATUS (R144). -/
def execSlotStatus (tag : Byte) (payload : List Byte) (s : State) : Host.Outcome State Fault Refusal :=
  request .slotStatus tag payload s

/-- TETHER_SET (R148). -/
def execTetherSet (tag : Byte) (payload : List Byte) (s : State) : Host.Outcome State Fault Refusal :=
  request .tetherSet tag payload s

/-- TETHER_ENABLE_ON (R149). -/
def execTetherEnableOn (tag : Byte) (payload : List Byte) (s : State) : Host.Outcome State Fault Refusal :=
  request .tetherEnable tag payload s

/-- TETHER_ENABLE_OFF (R149). -/
def execTetherEnableOff (tag : Byte) (payload : List Byte) (s : State) : Host.Outcome State Fault Refusal :=
  request .tetherEnable tag payload s

/-- SEND (R153). -/
def execSend (tag : Byte) (payload : List Byte) (s : State) : Host.Outcome State Fault Refusal :=
  request .send tag payload s

/-- SEND_STORED (R154). -/
def execSendStored (tag : Byte) (payload : List Byte) (s : State) : Host.Outcome State Fault Refusal :=
  request .sendStored tag payload s

/-- SEND_CANCEL (R155). -/
def execSendCancel (tag : Byte) (payload : List Byte) (s : State) : Host.Outcome State Fault Refusal :=
  request .sendCancel tag payload s

/-- TETHER_STATUS (R171). -/
def execTetherStatus (tag : Byte) (payload : List Byte) (s : State) : Host.Outcome State Fault Refusal :=
  request .tetherStatus tag payload s

/-- TETHER_STATS (R170). -/
def execTetherStats (tag : Byte) (payload : List Byte) (s : State) : Host.Outcome State Fault Refusal :=
  request .tetherStats tag payload s

/-- AUTO_SEND_SET (R169). -/
def execAutoSendSet (tag : Byte) (payload : List Byte) (s : State) : Host.Outcome State Fault Refusal :=
  request .autoSendSet tag payload s

/-- UNKNOWN_KIND: a well-formed frame whose kind no request has (R178 step 2). -/
def execUnknownKind (kind tag : Byte) (payload : List Byte) (s : State) : Host.Outcome State Fault Refusal :=
  .next (run (Work.hostFrame kind tag payload) s)

/-- REQUEST_DROPPED: a well-formed frame that finds 8 replies outstanding (R178 step 1). -/
def execRequestDropped (kind tag : Byte) (payload : List Byte) (s : State) : Host.Outcome State Fault Refusal :=
  .next (run (Work.hostFrame kind tag payload) s)

/-- GARBLED_FRAME: bytes arrive and the receiver takes them one by one (R175, R176). -/
def execGarbledFrame (bytes : List Byte) (s : State) : Host.Outcome State Fault Refusal :=
  .next (run (Work.clock bytes) s)

/-- CHIP_SELECT_RISE (R176, R177). -/
def execChipSelectRise (s : State) : Host.Outcome State Fault Refusal := .next (run Work.selectRises s)

/-- OUTBOUND_FIRST_BYTE (R177, R180, R182). -/
def execOutboundFirstByte (s : State) : Host.Outcome State Fault Refusal := .next (run Work.clockFirst s)

/-- OUTBOUND_FRAME_LEFT (R177, R180, R182). -/
def execOutboundFrameLeft (s : State) : Host.Outcome State Fault Refusal := .next (run Work.clockRest s)

end Sys2Proof.Machine
end

