-- ==== Sys2Proof/Machine/Events.lean ====
section
/-! DEFINITION. The meanings of the commands that are no traffic of the Control Port: pins, timers, the sensor, the
lens, frame memory, the cards, the PHY and the desk. Each is one operation of the block that takes it, run as a step. -/

namespace Sys2Proof.Machine

/-- RESET_PIN (R187, R194, log entry 56). -/
def execResetPin (s : State) : Host.Outcome State Fault Refusal := .next (run Work.resetPin s)

/-- SUPPLY_WARNING: the input takes a level (R192, R194, log entry 25). -/
def execSupplyWarning (asserted : Bool) (s : State) : Host.Outcome State Fault Refusal :=
  .next (run (Work.warningInput asserted) s)

/-- RELEASE_LINE_LEVEL: a line's input has held a value for 2 ms (R27). -/
def execReleaseLineLevel (line : LineId) (high : Bool) (s : State) : Host.Outcome State Fault Refusal :=
  .next (run (Work.lineEvent line high) s)

/-- FRAME_TIMER_EXPIRY (R31, R37). -/
def execFrameTimerExpiry (s : State) : Host.Outcome State Fault Refusal := .next (run Work.frameTimerExpires s)

/-- FOCUS_WAIT_EXPIRY (R36). -/
def execFocusWaitExpiry (s : State) : Host.Outcome State Fault Refusal := .next (run Work.focusWaitExpires s)

/-- VIEW_TIMER_EXPIRY (R53). -/
def execViewTimerExpiry (s : State) : Host.Outcome State Fault Refusal := .next (run Work.viewExpires s)

/-- FRAME_START (R56, R46, R68); `flashReady` is the flash-ready input (log entry 26). -/
def execFrameStart (kind : FrameKind) (frameId : BitVec 16) (flashReady : Bool) (s : State) : Host.Outcome State Fault Refusal :=
  .next (run (Work.frameStarts kind frameId.toNat flashReady) s)

/-- AF_BLOCK (R57, R77). -/
def execAfBlock (zones : List AfZone) (s : State) : Host.Outcome State Fault Refusal :=
  .next (run (Work.afArrives zones) s)

/-- IMAGE_LINE (R58). -/
def execImageLine (samples : List Byte) (crc : BitVec 16) (s : State) : Host.Outcome State Fault Refusal :=
  .next (run (Work.lineArrives samples crc) s)

/-- FRAME_END (R60, R61). -/
def execFrameEnd (lineCount : BitVec 16) (s : State) : Host.Outcome State Fault Refusal :=
  .next (run (Work.frameEnds lineCount.toNat) s)

/-- START_TIMER_EXPIRY (R55). -/
def execStartTimerExpiry (s : State) : Host.Outcome State Fault Refusal := .next (run Work.startExpires s)

/-- END_TIMER_EXPIRY (R59). -/
def execEndTimerExpiry (s : State) : Host.Outcome State Fault Refusal := .next (run Work.endExpires s)

/-- POS (R67, R68). -/
def execPos (position : BitVec 16) (moving : Bool) (s : State) : Host.Outcome State Fault Refusal :=
  .next (run (Work.takePos position.toNat moving) s)

/-- ANSWER_TIMER_EXPIRY (R68). -/
def execAnswerTimerExpiry (s : State) : Host.Outcome State Fault Refusal := .next (run Work.answerExpires s)

/-- ARRIVED (R69, R74). -/
def execArrived (position : BitVec 16) (s : State) : Host.Outcome State Fault Refusal :=
  .next (run (Work.takeArrived position.toNat) s)

/-- MOVE_TIMER_EXPIRY (R69, R71). -/
def execMoveTimerExpiry (s : State) : Host.Outcome State Fault Refusal := .next (run Work.moveExpires s)

/-- PROOF_ROW_WRITTEN (R102, R109, R110). -/
def execProofRowWritten (s : State) : Host.Outcome State Fault Refusal := .next (run Work.writeRow s)

/-- DE_READ_ERROR (R111). -/
def execDeReadError (s : State) : Host.Outcome State Fault Refusal := .next (run Work.failJob s)

/-- RUN_OK (R133, R134). -/
def execRunOk (answer : CardAnswer) (s : State) : Host.Outcome State Fault Refusal :=
  .next (run (Work.takeAnswer answer fun slot => Work.runEnd slot none) s)

/-- RUN_FAIL (R133, R134). -/
def execRunFail (answer : CardAnswer) (s : State) : Host.Outcome State Fault Refusal :=
  .next (run (Work.takeAnswer answer fun slot => Work.runEnd slot (some .runFail)) s)

/-- RUN_TIMER_EXPIRY (R133, R134). -/
def execRunTimerExpiry (slot : SlotId) (s : State) : Host.Outcome State Fault Refusal :=
  .next (run (Work.runEnd slot (some .timeout)) s)

/-- CW_READ_ERROR (R139, log entry 16). -/
def execCwReadError (slot : SlotId) (s : State) : Host.Outcome State Fault Refusal :=
  .next (run (Work.runSourceLost slot) s)

/-- READ_OK (R140, log entry 27). -/
def execReadOk (answer : CardAnswer) (data : List Byte) (s : State) : Host.Outcome State Fault Refusal :=
  .next (run (Work.takeAnswer answer fun slot => Work.readArrives slot data) s)

/-- READ_FAIL (R140). -/
def execReadFail (answer : CardAnswer) (s : State) : Host.Outcome State Fault Refusal :=
  .next (run (Work.takeAnswer answer fun slot => Work.readEnd slot none) s)

/-- READ_TIMER_EXPIRY (R140). -/
def execReadTimerExpiry (slot : SlotId) (s : State) : Host.Outcome State Fault Refusal :=
  .next (run (Work.readEnd slot none) s)

/-- CARD_LINE_LEVEL (R121, R138, R191). -/
def execCardLineLevel (slot : SlotId) (inserted : Bool) (s : State) : Host.Outcome State Fault Refusal :=
  .next (run (Work.cardEvent slot inserted) s)

/-- LOCK_LINE_LEVEL (R121, R136). -/
def execLockLineLevel (slot : SlotId) (on : Bool) (s : State) : Host.Outcome State Fault Refusal :=
  .next (run (Work.lockLine slot on) s)

/-- PHY_LINK_UP (R149). -/
def execPhyLinkUp (s : State) : Host.Outcome State Fault Refusal := .next (run Work.phyUp s)

/-- PHY_LINK_DOWN (R149). -/
def execPhyLinkDown (s : State) : Host.Outcome State Fault Refusal := .next (run Work.phyDown s)

/-- DESK_FRAME_DROPPED: the bytes of a desk frame arrive (R150). -/
def execDeskFrameDropped (frame : List Byte) (s : State) : Host.Outcome State Fault Refusal :=
  .next (run (Work.rawDeskFrame frame) s)

/-- BIND (R150, R151). -/
def execBind (head : DeskHead) (s : State) : Host.Outcome State Fault Refusal :=
  .next (run (Work.takeDesk head .bind) s)

/-- PING (R150). -/
def execPing (head : DeskHead) (s : State) : Host.Outcome State Fault Refusal :=
  .next (run (Work.takeDesk head .ping) s)

/-- ACK (R159). -/
def execAck (head : DeskHead) (transfer : BitVec 16) (offset : BitVec 32) (s : State) : Host.Outcome State Fault Refusal :=
  .next (run (Work.takeDesk head (.ack transfer.toNat offset.toNat)) s)

/-- FINACK (R161, R199). -/
def execFinack (head : DeskHead) (transfer : BitVec 16) (result : Byte) (s : State) : Host.Outcome State Fault Refusal :=
  .next (run (Work.takeDesk head (.finack transfer.toNat result)) s)

/-- REQUEST (R167). -/
def execRequest (head : DeskHead) (number : BitVec 24) (chain : Byte) (s : State) : Host.Outcome State Fault Refusal :=
  .next (run (Work.takeDesk head (.request number.toNat chain)) s)

/-- REMOTE (R168). -/
def execRemote (head : DeskHead) (count : Byte) (s : State) : Host.Outcome State Fault Refusal :=
  .next (run (Work.takeDesk head (.remote count)) s)

/-- DATA_SEND (R158, R161, R163). -/
def execDataSend (s : State) : Host.Outcome State Fault Refusal := .next (run Work.sendData s)

/-- TU_READ_ERROR (R158). -/
def execTuReadError (s : State) : Host.Outcome State Fault Refusal := .next (run Work.sendLost s)

/-- HELLO_TIMER_EXPIRY (R151). -/
def execHelloTimerExpiry (s : State) : Host.Outcome State Fault Refusal := .next (run Work.helloExpires s)

/-- DESK_LOSS_TIMER_EXPIRY (R151). -/
def execDeskLossTimerExpiry (s : State) : Host.Outcome State Fault Refusal := .next (run Work.deskExpires s)

/-- ACK_TIMER_EXPIRY (R160, R161). -/
def execAckTimerExpiry (s : State) : Host.Outcome State Fault Refusal := .next (run Work.ackExpires s)

/-- UNDERRUN_TIMER_EXPIRY (R164). -/
def execUnderrunTimerExpiry (s : State) : Host.Outcome State Fault Refusal := .next (run Work.underrunExpires s)

end Sys2Proof.Machine
end

