-- ==== Sys2Proof/Machine/Dispatch.lean ====
section
/-! DEFINITION. One arm per command: the command's effect on everything but the queue. -/

namespace Sys2Proof.Machine

def exec (i : Instr) (s : State) : Host.Outcome State Fault Refusal :=
  match i with
  | .identify tag payload => Sys2Proof.Machine.execIdentify tag payload s
  | .portStatus tag payload => Sys2Proof.Machine.execPortStatus tag payload s
  | .noticeMaskSet tag payload => Sys2Proof.Machine.execNoticeMaskSet tag payload s
  | .resetPartAll tag payload => Sys2Proof.Machine.execResetPartAll tag payload s
  | .resetPartTether tag payload => Sys2Proof.Machine.execResetPartTether tag payload s
  | .powerSetRun tag payload => Sys2Proof.Machine.execPowerSetRun tag payload s
  | .powerSetQuiet tag payload => Sys2Proof.Machine.execPowerSetQuiet tag payload s
  | .powerSetHalt tag payload => Sys2Proof.Machine.execPowerSetHalt tag payload s
  | .driveSet tag payload => Sys2Proof.Machine.execDriveSet tag payload s
  | .releaseLinesSet tag payload => Sys2Proof.Machine.execReleaseLinesSet tag payload s
  | .remoteRelease tag payload => Sys2Proof.Machine.execRemoteRelease tag payload s
  | .driveStatus tag payload => Sys2Proof.Machine.execDriveStatus tag payload s
  | .shotNumberSet tag payload => Sys2Proof.Machine.execShotNumberSet tag payload s
  | .sensorRestart tag payload => Sys2Proof.Machine.execSensorRestart tag payload s
  | .lensAttach tag payload => Sys2Proof.Machine.execLensAttach tag payload s
  | .lensDetach tag payload => Sys2Proof.Machine.execLensDetach tag payload s
  | .afSet tag payload => Sys2Proof.Machine.execAfSet tag payload s
  | .focusStatus tag payload => Sys2Proof.Machine.execFocusStatus tag payload s
  | .lensMove tag payload => Sys2Proof.Machine.execLensMove tag payload s
  | .lensHalt tag payload => Sys2Proof.Machine.execLensHalt tag payload s
  | .zoneReport tag payload => Sys2Proof.Machine.execZoneReport tag payload s
  | .poolStatus tag payload => Sys2Proof.Machine.execPoolStatus tag payload s
  | .poolSet tag payload => Sys2Proof.Machine.execPoolSet tag payload s
  | .shotGet tag payload => Sys2Proof.Machine.execShotGet tag payload s
  | .shotList tag payload => Sys2Proof.Machine.execShotList tag payload s
  | .shotProtect tag payload => Sys2Proof.Machine.execShotProtect tag payload s
  | .shotDiscard tag payload => Sys2Proof.Machine.execShotDiscard tag payload s
  | .shotCollect tag payload => Sys2Proof.Machine.execShotCollect tag payload s
  | .lookSet tag payload => Sys2Proof.Machine.execLookSet tag payload s
  | .lookGet tag payload => Sys2Proof.Machine.execLookGet tag payload s
  | .develop tag payload => Sys2Proof.Machine.execDevelop tag payload s
  | .developCancel tag payload => Sys2Proof.Machine.execDevelopCancel tag payload s
  | .developStatus tag payload => Sys2Proof.Machine.execDevelopStatus tag payload s
  | .histogramGet tag payload => Sys2Proof.Machine.execHistogramGet tag payload s
  | .developAutoSet tag payload => Sys2Proof.Machine.execDevelopAutoSet tag payload s
  | .slotAttach tag payload => Sys2Proof.Machine.execSlotAttach tag payload s
  | .slotDetach tag payload => Sys2Proof.Machine.execSlotDetach tag payload s
  | .extentAdd tag payload => Sys2Proof.Machine.execExtentAdd tag payload s
  | .extentFlush tag payload => Sys2Proof.Machine.execExtentFlush tag payload s
  | .recordingSet tag payload => Sys2Proof.Machine.execRecordingSet tag payload s
  | .slotStatus tag payload => Sys2Proof.Machine.execSlotStatus tag payload s
  | .tetherSet tag payload => Sys2Proof.Machine.execTetherSet tag payload s
  | .tetherEnableOn tag payload => Sys2Proof.Machine.execTetherEnableOn tag payload s
  | .tetherEnableOff tag payload => Sys2Proof.Machine.execTetherEnableOff tag payload s
  | .send tag payload => Sys2Proof.Machine.execSend tag payload s
  | .sendStored tag payload => Sys2Proof.Machine.execSendStored tag payload s
  | .sendCancel tag payload => Sys2Proof.Machine.execSendCancel tag payload s
  | .tetherStatus tag payload => Sys2Proof.Machine.execTetherStatus tag payload s
  | .tetherStats tag payload => Sys2Proof.Machine.execTetherStats tag payload s
  | .autoSendSet tag payload => Sys2Proof.Machine.execAutoSendSet tag payload s
  | .unknownKind kind tag payload => Sys2Proof.Machine.execUnknownKind kind tag payload s
  | .requestDropped kind tag payload => Sys2Proof.Machine.execRequestDropped kind tag payload s
  | .garbledFrame bytes => Sys2Proof.Machine.execGarbledFrame bytes s
  | .chipSelectRise => Sys2Proof.Machine.execChipSelectRise s
  | .outboundFirstByte => Sys2Proof.Machine.execOutboundFirstByte s
  | .outboundFrameLeft => Sys2Proof.Machine.execOutboundFrameLeft s
  | .resetPin => Sys2Proof.Machine.execResetPin s
  | .supplyWarning asserted => Sys2Proof.Machine.execSupplyWarning asserted s
  | .releaseLineLevel line high => Sys2Proof.Machine.execReleaseLineLevel line high s
  | .frameTimerExpiry => Sys2Proof.Machine.execFrameTimerExpiry s
  | .focusWaitExpiry => Sys2Proof.Machine.execFocusWaitExpiry s
  | .viewTimerExpiry => Sys2Proof.Machine.execViewTimerExpiry s
  | .frameStart kind frameId flashReady => Sys2Proof.Machine.execFrameStart kind frameId flashReady s
  | .afBlock zones => Sys2Proof.Machine.execAfBlock zones s
  | .imageLine samples crc => Sys2Proof.Machine.execImageLine samples crc s
  | .frameEnd lineCount => Sys2Proof.Machine.execFrameEnd lineCount s
  | .startTimerExpiry => Sys2Proof.Machine.execStartTimerExpiry s
  | .endTimerExpiry => Sys2Proof.Machine.execEndTimerExpiry s
  | .pos position moving => Sys2Proof.Machine.execPos position moving s
  | .answerTimerExpiry => Sys2Proof.Machine.execAnswerTimerExpiry s
  | .arrived position => Sys2Proof.Machine.execArrived position s
  | .moveTimerExpiry => Sys2Proof.Machine.execMoveTimerExpiry s
  | .proofRowWritten => Sys2Proof.Machine.execProofRowWritten s
  | .deReadError => Sys2Proof.Machine.execDeReadError s
  | .runOk answer => Sys2Proof.Machine.execRunOk answer s
  | .runFail answer => Sys2Proof.Machine.execRunFail answer s
  | .runTimerExpiry slot => Sys2Proof.Machine.execRunTimerExpiry slot s
  | .cwReadError slot => Sys2Proof.Machine.execCwReadError slot s
  | .readOk answer data => Sys2Proof.Machine.execReadOk answer data s
  | .readFail answer => Sys2Proof.Machine.execReadFail answer s
  | .readTimerExpiry slot => Sys2Proof.Machine.execReadTimerExpiry slot s
  | .cardLineLevel slot inserted => Sys2Proof.Machine.execCardLineLevel slot inserted s
  | .lockLineLevel slot on => Sys2Proof.Machine.execLockLineLevel slot on s
  | .phyLinkUp => Sys2Proof.Machine.execPhyLinkUp s
  | .phyLinkDown => Sys2Proof.Machine.execPhyLinkDown s
  | .deskFrameDropped frame => Sys2Proof.Machine.execDeskFrameDropped frame s
  | .bind head => Sys2Proof.Machine.execBind head s
  | .ping head => Sys2Proof.Machine.execPing head s
  | .ack head transfer offset => Sys2Proof.Machine.execAck head transfer offset s
  | .finack head transfer result => Sys2Proof.Machine.execFinack head transfer result s
  | .request head number chain => Sys2Proof.Machine.execRequest head number chain s
  | .remote head count => Sys2Proof.Machine.execRemote head count s
  | .dataSend => Sys2Proof.Machine.execDataSend s
  | .tuReadError => Sys2Proof.Machine.execTuReadError s
  | .helloTimerExpiry => Sys2Proof.Machine.execHelloTimerExpiry s
  | .deskLossTimerExpiry => Sys2Proof.Machine.execDeskLossTimerExpiry s
  | .ackTimerExpiry => Sys2Proof.Machine.execAckTimerExpiry s
  | .underrunTimerExpiry => Sys2Proof.Machine.execUnderrunTimerExpiry s

end Sys2Proof.Machine
end

