-- ==== Sys2Proof/Safety.lean ====
section
/-! DEFINITION. The terms claims are made in: when the part hears and answers a request, what a posted reply leaves, and
the properties of a state that every step keeps. -/

namespace Sys2Proof.Machine

/-- CP judges a request frame that arrives now: the receiver is between frames, the transaction is not ignored after a
reset pin (R187), and fewer than 8 replies are outstanding (R178 step 1). -/
def State.portOpen (s : State) : Prop :=
  s.cp.rx = .hunt ∧ s.cp.muted = false ∧ s.cp.outstanding < Config.maxReplies

/-- While the responses to a supply warning are awaited, CW's alone is missing and a writing duty stands (R192). -/
def State.steady (s : State) : Prop :=
  ∀ r, s.pwc.responses = some r → r = Responses.delivered false ∧ s.cw.quiet = false

/-- CP judges a request frame that arrives now, in RUN or QUIET. -/
def State.answers (s : State) : Prop :=
  s.portOpen ∧ s.steady ∧ (s.pwc.power = .run ∨ s.pwc.power = .quiet)

/-- The part is in RUN and no supply warning has been latched. -/
def State.inRun (s : State) : Prop := s.pwc = { power := .run, latched := false, responses := none }

/-- A capture can be made: none is in flight, the sensor link is RUNNING and the sensor NORMAL with no readout, no supply
warning is latched, and BM would grant the allocation (R3, R37, R54). -/
def State.canCapture (s : State) : Prop :=
  s.rdu.capture = none ∧ s.sru.readout = none ∧ s.sru.running = true ∧ s.sru.fault = false ∧ s.pwc.latched = false ∧
    s.bm.rows.length < Config.tableRows ∧ Config.rawPages + s.bm.reserve ≤ s.bm.free.length

/-- The state with a frame of `n` bytes received between frames and nothing done about it: as many bytes have been shifted
out (R177), and a run of strays is over. -/
def State.heard (s : State) (n : Nat) : State :=
  { s.shiftOuts n with cp := { (s.shiftOuts n).cp with strays := false, busy := true } }

/-- The state with a request of fixed size received and nothing done about it. -/
def State.hears (s : State) (r : Request) : State := s.heard (r.size + 7)

/-- The state with a frame posted in the outbound queue as a reply. -/
def State.posted (s : State) (kind tag : Byte) (payload : List Byte) : State :=
  { s with cp := s.cp.append (.reply kind tag payload) }

/-- The state with the reply to a request posted. -/
def State.answered (s : State) (r : Request) (tag : Byte) (payload : List Byte) : State :=
  s.posted (replyKind r.kind) tag payload

/-- The state after a request of fixed size has arrived and CP has posted its reply and done nothing else. -/
def State.replied (s : State) (r : Request) (tag : Byte) (payload : List Byte) : State :=
  (s.hears r).answered r tag payload

/-- The command of the table that brings a request of a kind; of the rows that share a kind byte, the one that takes
every payload not named by another (log entry 33). -/
def Request.command (r : Request) (tag : Byte) (p : List Byte) : Instr :=
  match r with
  | .identify => .identify tag p | .portStatus => .portStatus tag p | .noticeMaskSet => .noticeMaskSet tag p
  | .resetPart => .resetPartAll tag p | .powerSet => .powerSetRun tag p | .driveSet => .driveSet tag p
  | .releaseLinesSet => .releaseLinesSet tag p | .remoteRelease => .remoteRelease tag p
  | .driveStatus => .driveStatus tag p | .shotNumberSet => .shotNumberSet tag p
  | .sensorRestart => .sensorRestart tag p | .lensAttach => .lensAttach tag p | .lensDetach => .lensDetach tag p
  | .afSet => .afSet tag p | .focusStatus => .focusStatus tag p | .lensMove => .lensMove tag p
  | .zoneReport => .zoneReport tag p | .poolStatus => .poolStatus tag p | .poolSet => .poolSet tag p
  | .shotGet => .shotGet tag p | .shotList => .shotList tag p | .shotProtect => .shotProtect tag p
  | .shotDiscard => .shotDiscard tag p | .shotCollect => .shotCollect tag p | .lookSet => .lookSet tag p
  | .lookGet => .lookGet tag p | .develop => .develop tag p | .developCancel => .developCancel tag p
  | .developStatus => .developStatus tag p | .histogramGet => .histogramGet tag p
  | .developAutoSet => .developAutoSet tag p | .slotAttach => .slotAttach tag p | .slotDetach => .slotDetach tag p
  | .extentAdd => .extentAdd tag p | .extentFlush => .extentFlush tag p | .recordingSet => .recordingSet tag p
  | .slotStatus => .slotStatus tag p | .tetherSet => .tetherSet tag p | .tetherEnable => .tetherEnableOff tag p
  | .send => .send tag p | .sendStored => .sendStored tag p | .sendCancel => .sendCancel tag p
  | .tetherStatus => .tetherStatus tag p | .tetherStats => .tetherStats tag p | .autoSendSet => .autoSendSet tag p

/-- DE and TU have nothing to do when pages are freed: the send queue is empty, and DE runs a job, is stopped, or is IDLE
with no job waiting (R4, R5, R93). -/
def State.backIdle (s : State) : Prop :=
  s.tu.queue = [] ∧
    (s.de.engine = .running ∨ s.de.engine = .stopped ∨ (s.de.engine = .idle ∧ s.de.urgent = [] ∧ s.de.normal = []))

/-- The state with pages returned to the free set and the reclaim signal as it is then (R1, R5). -/
def State.freed (s : State) (pages : List Nat) : State :=
  { s with
    bm := { s.bm with free := pages.foldr insertPage s.bm.free },
    tu := { s.tu with reclaim := decide ((pages.foldr insertPage s.bm.free).length < s.bm.threshold) } }

/-- A notice occurrence of a state, taken by CP (R181). -/
def State.raised (s : State) (k : Notice) (snapshot : List Byte) : State := { s with cp := s.cp.raise k snapshot }

/-- The state with the record of one slot replaced. -/
def State.setSlot (s : State) (i : SlotId) (x : Slot) : State :=
  match i with
  | .a => { s with cw := { s.cw with a := x } }
  | .b => { s with cw := { s.cw with b := x } }

/-- A SLOT_CHANGE occurrence of a state, with both slot states (R120). -/
def State.slotChange (s : State) : State := s.raised .slotChange [s.cw.a.state.byte, s.cw.b.state.byte]

/-- The HELLO that TU sends with an own MAC (R151, 10 section 10.4). -/
def helloFrame (x : TetherSettings) (own : BitVec 48) : List Byte :=
  wireFrame (if x.deskMac = 0 then 0xFFFFFFFFFFFF#48 else x.deskMac) own x.etherType 0x01 (leBytes 6 own.toNat ++ x.name)

/-- A transfer is in progress for an entry whose return to PENDING changes nothing but the queue and its duty: one without a
duty, or the RAW chain of a row that it reads from the buffer while the reclaim signal is down (R16, R162, R166). -/
def State.sends (s : State) (x : Transfer) (e : Entry) : Prop :=
  s.tu.transfer = some x ∧ s.tu.active? = some e ∧ s.tu.stopped = false ∧
    (s.tu.link = .sending ∨ s.tu.link = .finishing) ∧
    (e.row = none ∨
      (s.tu.reclaim = false ∧ (s.bm.rows.map Row.index).Nodup ∧ e.source = .buffer ∧ e.chain = .raw ∧
        ((e.row.bind s.bm.row?).any fun r =>
          decide (r.proof = none ∧ r.tethers.map (fun d => (d.chain, d.state)) = [(.raw, .sending)])) = true))

/-- The state with its transfer ended and the entry back in the queue, PENDING at the front of its class (R162, R165). -/
def State.requeued (s : State) (e : Entry) : State :=
  { s with
    bm := match e.row with
      | some i => s.bm.mapRow i fun r => { r with tethers := r.tethers.map fun d =>
          { d with state := .pending, source := e.source, prio := e.prio, early := e.early } }
      | none => s.bm
    tu := { s.tu with
      transfer := none, ackTimer := false, underTimer := false, buffers := s.tu.buffers.map Buffer.giveBack,
      queue := insertFront { e with sending := false }
        (s.tu.queue.filter fun y => !decide (y.number = e.number ∧ y.chain = e.chain)) } }

/-- Frame memory is in its canonical form (log entry 5). -/
def State.memoryOk (s : State) : Prop := Memory.wf s.mem = true

/-- CP never owes more than 8 replies (R178 step 1, R180). -/
def State.repliesOk (s : State) : Prop := s.cp.outstanding ≤ Config.maxReplies

/-- The pages that the chains of a row hold (R2). -/
def Row.pages (r : Row) : List Nat := r.pagesOf .raw ++ r.pagesOf .proof

/-- The rows of the shot table have distinct indices below 128 (R7). -/
def Bm.indicesOk (b : Bm) : Prop := (b.rows.map Row.index).Nodup ∧ ∀ r ∈ b.rows, r.index < Config.tableRows

/-- No two rows carry the same shot number, and every number, the next one too, lies in 1..16,777,215 (R12). -/
def Bm.numbersOk (b : Bm) : Prop :=
  (b.rows.filterMap Row.number).Nodup ∧ ∀ n ∈ b.nextNumber :: b.rows.filterMap Row.number, 1 ≤ n ∧ n ≤ Config.maxShot

/-- Every page of the pool is free or in one chain of one row, and in no second place; the free set is kept in ascending
order (R1, R2). -/
def Bm.pagesOk (b : Bm) : Prop :=
  (b.free ++ (b.rows.map Row.pages).flatten).Perm (List.range Config.poolPages) ∧ b.free.Pairwise (· < ·)

/-- What a row's life says of its chains and its develop duty (R8, R10, R16, R17): only a HELD row has a develop duty that
is not final or a proof chain, which an absent duty has not, and a SETTLED or VOID row has no chain. -/
def Row.lifeOk (r : Row) : Prop :=
  match r.life with
  | .exposing | .pre => r.proof = none ∧ r.develop = .absent
  | .held => r.develop = .absent → r.proof = none
  | .settled | .void => r.raw = none ∧ r.proof = none ∧ r.develop.isFinal = true

/-- DE and the table agree (R93, R97, R100, R118): until the engine is STOPPED a duty that waits has no proof chain yet and
every queued job is a duty that waits; the running job is a duty that runs, and a STOPPED engine has none. -/
def State.jobsOk (s : State) : Prop :=
  (s.de.engine ≠ .stopped →
    (∀ r ∈ s.bm.rows, r.develop = .pending → r.proof = none) ∧
    ∀ i ∈ s.de.urgent ++ s.de.normal, ∃ r, s.bm.row? i = some r ∧ r.develop = .pending) ∧
  (∀ j, s.de.job = some j → s.de.engine ≠ .stopped ∧ ∃ r, s.bm.row? j.row = some r ∧ r.develop = .running)

/-- The shot table and the page pool are sound: distinct indices and numbers, every page in one place, and chains and
develop duties as the lives of their rows have them. -/
def State.tableOk (s : State) : Prop :=
  s.bm.indicesOk ∧ s.bm.numbersOk ∧ s.bm.pagesOk ∧ (∀ r ∈ s.bm.rows, r.lifeOk) ∧ s.jobsOk

/-- What holds of the warning sequence (R192, R193): responses are awaited only once a warning is latched, CW's last,
and the part is in FAILSAFE only when the warning is latched and every response is done. -/
def State.warningOk (s : State) : Prop :=
  s.steady ∧ (s.pwc.responses ≠ none → s.pwc.latched = true) ∧
    (s.pwc.power = .failsafe → s.pwc.latched = true ∧ s.pwc.responses = none)

/-- Commands that may reset the whole part: the reset pin, RESET_PART ALL, and frames given by their bytes or by a kind
byte of their own. -/
def mayReset : Instr → Bool
  | .resetPin | .resetPartAll _ _ | .garbledFrame _ | .requestDropped _ _ _ => true
  | _ => false

/-- A run of the machine is safe when no step of it ends in a fault or a refusal. -/
def safeStep (s : State) : Prop := ∃ t, step s = .next t

end Sys2Proof.Machine
end

