-- ==== Sys2Proof/WellFormed.lean ====
section
/-! DEFINITION. Which commands can arrive: the sizes and ranges that the spec gives a command's operands before any rule
judges them. -/

namespace Sys2Proof

/-- A request's payload has at most 512 bytes (R175). -/
def payloadOk (p : List Byte) : Bool := decide (p.length ≤ 512)

/-- A LENS_MOVE payload with the halt flag on (R87, R197). -/
def isLensHalt (p : List Byte) : Bool := decide (p.length = 3) && decide (p.head? = some 1)

/-- An AF zone carries 64 samples L and 64 samples R (R57). -/
def AfZone.ok (z : AfZone) : Bool := decide (z.l.length = 64) && decide (z.r.length = 64)

/-- A lens position is 0..32767 (R67). -/
def lensPosOk (p : BitVec 16) : Bool := decide (p.toNat ≤ 32767)

/-- The command can arrive as it stands. A row of the table that shares its kind byte with others takes the payloads
its summary names; the first of them takes every other payload of the kind (log entry 33). -/
def Instr.wf : Instr → Bool
  | .identify _ p | .portStatus _ p | .noticeMaskSet _ p | .driveSet _ p | .releaseLinesSet _ p | .remoteRelease _ p
  | .driveStatus _ p | .shotNumberSet _ p | .sensorRestart _ p | .lensAttach _ p | .lensDetach _ p | .afSet _ p
  | .focusStatus _ p | .zoneReport _ p | .poolStatus _ p | .poolSet _ p | .shotGet _ p | .shotList _ p
  | .shotProtect _ p | .shotDiscard _ p | .shotCollect _ p | .lookSet _ p | .lookGet _ p | .develop _ p
  | .developCancel _ p | .developStatus _ p | .histogramGet _ p | .developAutoSet _ p | .slotAttach _ p
  | .slotDetach _ p | .extentAdd _ p | .extentFlush _ p | .recordingSet _ p | .slotStatus _ p | .tetherSet _ p
  | .send _ p | .sendStored _ p | .sendCancel _ p | .tetherStatus _ p | .tetherStats _ p | .autoSendSet _ p => payloadOk p
  | .resetPartAll _ p => payloadOk p && decide (p ≠ [1])
  | .resetPartTether _ p => decide (p = [1])
  | .powerSetRun _ p => payloadOk p && decide (p ≠ [1]) && decide (p ≠ [2])
  | .powerSetQuiet _ p => decide (p = [1])
  | .powerSetHalt _ p => decide (p = [2])
  | .lensMove _ p => payloadOk p && !isLensHalt p
  | .lensHalt _ p => isLensHalt p
  | .tetherEnableOn _ p => decide (p = [1])
  | .tetherEnableOff _ p => payloadOk p && decide (p ≠ [1])
  | .unknownKind kind _ p => payloadOk p && decide (kind.toNat = 0 ∨ 0x2D < kind.toNat)
  | .requestDropped _ _ p => payloadOk p
  | .garbledFrame bytes => decide (bytes ≠ [])
  | .afBlock zones => decide (zones.length = 117) && zones.all AfZone.ok
  | .pos p _ => lensPosOk p
  | .arrived p => lensPosOk p
  | .readOk _ data => decide (1 ≤ data.length) && decide (data.length ≤ 65536) && decide (data.length % 512 = 0)
  | .chipSelectRise | .outboundFirstByte | .outboundFrameLeft | .resetPin | .supplyWarning _ | .releaseLineLevel _ _
  | .frameTimerExpiry | .focusWaitExpiry | .viewTimerExpiry | .frameStart _ _ _ | .imageLine _ _ | .frameEnd _
  | .startTimerExpiry | .endTimerExpiry | .answerTimerExpiry | .moveTimerExpiry | .proofRowWritten | .deReadError
  | .runOk _ | .runFail _ | .runTimerExpiry _ | .cwReadError _ | .readFail _ | .readTimerExpiry _ | .cardLineLevel _ _
  | .lockLineLevel _ _ | .phyLinkUp | .phyLinkDown | .deskFrameDropped _ | .bind _ | .ping _ | .ack _ _ _
  | .finack _ _ _ | .request _ _ _ | .remote _ _ | .dataSend | .tuReadError | .helloTimerExpiry
  | .deskLossTimerExpiry | .ackTimerExpiry | .underrunTimerExpiry => true

end Sys2Proof
end

