-- ==== Sys2Proof/Certificates/Slice0/Obligations.lean ====
section
/-! DEFINITION. The statements for the provers. Each docstring names the rule of spec/ a statement formalises. -/

open Sys2Proof Sys2Proof.Machine

/-! ### The machine -/

/-- Log entry 41: a step takes the command at the front of the queue and executes it on the state with the rest. Log
entries 1 and 10 (00_scope.md, Times): with no command waiting, one microsecond passes. -/
def Obligations.StepRunsTheFrontCommandOrTicks : Prop :=
  (∀ (c : Instr) (s : State), step { s with pending := c :: s.pending } = exec c s) ∧
  ∀ s : State, s.pending = [] →
    (s.now + 1 < 2 ^ 64 → step s = .next { s with now := s.now + 1 }) ∧
    (2 ^ 64 ≤ s.now + 1 → step s =
      .next { s with now := (Config.clockWrap s.freeUsed).toNat, freeUsed := s.freeUsed + 1 })

/-- R25, R48, R66, R92, R119, R147, R174, R187, R188: what reset leaves in each block. That a slot is ABSENT rests on log
entry 7: the card line is OUT until it is judged. -/
def Obligations.ResetState : Prop :=
  State.reset.bm = { free := List.range 4000, rows := [], nextNumber := 1, reserve := 120, threshold := 200 } ∧
  (State.reset.rdu.drive = .idle ∧ State.reset.rdu.active = DriveSettings.defaults ∧ State.reset.rdu.pending = none ∧
    State.reset.rdu.s1.polarity = .low ∧ State.reset.rdu.s2.polarity = .low ∧ State.reset.rdu.s1.armed = false ∧
    State.reset.rdu.s1.held = false ∧ State.reset.rdu.s2.armed = false ∧ State.reset.rdu.s2.held = false ∧
    State.reset.rdu.timer = false ∧ State.reset.rdu.period = 100000 ∧ State.reset.rdu.focusWait = false ∧
    State.reset.rdu.counter = 0 ∧ State.reset.rdu.remoteCount = 0 ∧ State.reset.rdu.nextBurst = 0 ∧
    State.reset.rdu.record = none ∧ State.reset.rdu.ring = [] ∧ State.reset.rdu.openRow = none ∧
    State.reset.rdu.phaseFire = true) ∧
  State.reset.sru = { readout := none, waiting := none, startTimer := false, endTimer := false, viewTimer := false,
                      fault := false, running := true, missed := 0 } ∧
  (State.reset.fu.state = .noLens ∧ State.reset.fu.descriptor = none ∧ State.reset.fu.active = AfSettings.defaults ∧
    State.reset.fu.requested = none ∧ State.reset.fu.position = 0 ∧ State.reset.fu.known = false ∧
    State.reset.fu.moving = false ∧ State.reset.fu.query = false ∧ State.reset.fu.missing = 0 ∧
    State.reset.fu.move = none ∧ State.reset.fu.frame = none ∧ State.reset.fu.speed = 20 ∧ State.reset.fu.array = none ∧
    State.reset.fu.current = none ∧ State.reset.fu.previous = none ∧
    State.reset.fu.tracking = { col := 6, row := 4, held := none, run := 0 } ∧ State.reset.fu.seek = 0) ∧
  (State.reset.de.engine = .idle ∧ State.reset.de.looks = List.replicate 8 Look.defaults ∧ State.reset.de.urgent = [] ∧
    State.reset.de.normal = [] ∧ State.reset.de.job = none ∧ State.reset.de.histogram = none ∧
    State.reset.de.auto = false ∧ State.reset.de.failedJobs = 0 ∧ State.reset.de.lastFailed = none) ∧
  (State.reset.cw.policy = .overflow ∧ State.reset.cw.proofs = false ∧ State.reset.cw.stopped = false ∧
    ∀ i, (State.reset.cw.slot i).capacity = none ∧ (State.reset.cw.slot i).range = none ∧
      (State.reset.cw.slot i).extents = [] ∧ (State.reset.cw.slot i).writeQ = [] ∧
      (State.reset.cw.slot i).waitQ = [] ∧ (State.reset.cw.slot i).writing = none ∧
      (State.reset.cw.slot i).reads = [] ∧ (State.reset.cw.slot i).runsSince = 0 ∧
      (State.reset.cw.slot i).failRun = 0 ∧ (State.reset.cw.slot i).lastFail = none ∧
      (State.reset.cw.slot i).state = .absent) ∧
  (State.reset.tu.link = .off ∧ State.reset.tu.bound = none ∧ State.reset.tu.settings = TetherSettings.defaults ∧
    State.reset.tu.auto = .off ∧ State.reset.tu.queue = [] ∧ State.reset.tu.transfer = none ∧
    State.reset.tu.buffers = List.replicate 8 .free ∧ State.reset.tu.nextId = 0 ∧
    State.reset.tu.counters = Counters.zero ∧ State.reset.tu.stopped = false ∧ State.reset.tu.reclaim = false) ∧
  (State.reset.cp.queue = [.notice .ready 1 (identityBytes .pin .run)] ∧
    State.reset.cp.enabled = true :: List.replicate 18 false ∧ State.reset.cp.garbled = 0 ∧
    State.reset.cp.overrun = 0 ∧ State.reset.cp.cause = .pin ∧ State.reset.cp.rx = .hunt ∧
    State.reset.attention = true) ∧
  State.reset.pwc = { power := .run, latched := false, responses := none }

/-- The invariants below hold right after reset (R1, R7, R12, R17, R93, R178 step 1, R188, R192; log entry 5). -/
def Obligations.InvariantsHoldAtReset : Prop :=
  State.reset.memoryOk ∧ State.reset.repliesOk ∧ State.reset.warningOk ∧ State.reset.tableOk

/-- Log entry 5: every step keeps frame memory in its canonical form. -/
def Obligations.MemoryStaysCanonical : Prop :=
  ∀ s t : State, s.memoryOk → step s = .next t → t.memoryOk

/-- R1, R2, R7, R8, R10, R12, R16, R17, R93, R97, R100: every step keeps the shot table and the page pool sound: the rows
have distinct indices below 128 and distinct shot numbers in 1..16,777,215; every one of the 4000 pages is free or in one
chain of one row, so that the free count and the pages of all chains make 4000; a row has no chain and no develop duty
that its life does not allow; and DE's queued and running jobs are the develop duties that wait and run. -/
def Obligations.RowsStayDistinct : Prop :=
  ∀ s t : State, s.tableOk → step s = .next t → t.tableOk

/-- R178 step 1, R180: every step keeps the replies outstanding at 8 or fewer. -/
def Obligations.RepliesStayBounded : Prop :=
  ∀ s t : State, s.repliesOk → step s = .next t → t.repliesOk

/-- R188, R192, R193: every step keeps the warning sequence sound: responses are awaited only while the warning is
latched, and then CW's alone is missing while a writing duty stands; the part is in FAILSAFE only with the warning
latched and no response awaited. -/
def Obligations.WarningSequenceStaysSound : Prop :=
  ∀ s t : State, s.warningOk → step s = .next t → t.warningOk

/-- R193: in FAILSAFE, with the receiver between frames, no well-formed command other than the reset pin, RESET_PART
ALL and a frame given by its bytes or its kind byte (which may spell RESET_PART ALL) changes the power state, the
warning latch or the responses. -/
def Obligations.FailsafeEndsOnlyAtReset : Prop :=
  ∀ (c : Instr) (s t : State), c.wf = true → mayReset c = false → s.cp.rx = .hunt → s.warningOk →
    s.pwc.power = .failsafe → exec c s = .next t → t.pwc = s.pwc

/-- Log entries 1, 25, 41, 45: no command changes the queue of commands, and a level from outside changes only at its own
command. -/
def Obligations.CommandsLeaveQueueAndLevels : Prop :=
  ∀ (c : Instr) (s t : State), exec c s = .next t →
    t.pending = s.pending ∧
    ((∀ b, c ≠ .supplyWarning b) → t.pins.warning = s.pins.warning) ∧
    (c ≠ .phyLinkUp ∧ c ≠ .phyLinkDown → t.pins.phyUp = s.pins.phyUp)

/-- 00_scope.md, The blocks; R16, R17: the commands of the cards, of development, of the PHY and of the timers of the
tether leave RDU, SRU, FU, the clock and BM's settings alone, and of every row all but its life, its chains, its duties
and its outcome. -/
def Obligations.BackCommandsLeaveTheFront : Prop :=
  ∀ (c : Instr) (s t : State), s.steady →
    (c ∈ [.proofRowWritten, .deReadError, .phyLinkUp, .phyLinkDown, .dataSend, .tuReadError, .helloTimerExpiry,
          .deskLossTimerExpiry, .ackTimerExpiry, .underrunTimerExpiry] ∨
      (∃ i, c ∈ [.runTimerExpiry i, .cwReadError i, .readTimerExpiry i]) ∨
      (∃ a, c ∈ [.runOk a, .runFail a, .readFail a]) ∨ (∃ a d, c = .readOk a d) ∨ (∃ i b, c = .lockLineLevel i b)) →
    exec c s = .next t →
    t.rdu = s.rdu ∧ t.sru = s.sru ∧ t.fu = s.fu ∧ t.bm.nextNumber = s.bm.nextNumber ∧ t.bm.reserve = s.bm.reserve ∧
      t.bm.threshold = s.bm.threshold ∧ t.now = s.now ∧
      t.bm.rows.map (fun r => (r.index, r.number, r.precapture, r.mark, r.origin, r.burst, r.timestamp, r.protect,
        r.discarding, r.damage, r.focus, r.flash, r.look, r.policy)) =
      s.bm.rows.map (fun r => (r.index, r.number, r.precapture, r.mark, r.origin, r.burst, r.timestamp, r.protect,
        r.discarding, r.damage, r.focus, r.flash, r.look, r.policy))

/-- R2: bytes written into a chain whose pages are distinct are read back, and every byte of memory that is no byte of the
chain written to reads as before. -/
def Obligations.ChainWriteReadsBack : Prop :=
  ∀ (m : Memory) (pages : List Nat) (o : Nat) (bs : List Byte), m.wf = true → pages.Nodup →
    o + bs.length ≤ Config.pageBytes * pages.length →
    chainRead (chainWrite m pages o bs) pages o bs.length = bs ∧
    ∀ a, (∀ i, i < bs.length → chainAddr pages (o + i) ≠ some a) → (chainWrite m pages o bs).read a = m.read a

/-- R175, 08 section 8.1: the bytes of a frame, taken one by one, do what the frame does. -/
def Obligations.FrameBytesSpellTheFrame : Prop :=
  ∀ (kind tag : Byte) (p : List Byte) (s : State),
    exec (.garbledFrame (frameBytes kind tag p)) s = exec (.requestDropped kind tag p) s

/-- R150, 10 section 10.4: the bytes of a BIND, PING, ACK, FINACK, REQUEST or REMOTE frame of the desk, as they lie on
the wire, do what the typed frame does (that a typed row stands for such a frame is log entry 40). -/
def Obligations.DeskBytesSpellTheFrame : Prop :=
  ∀ (h : DeskHead) (s : State),
    exec (.deskFrameDropped (wireFrame h.dst h.src h.etherType 0x02 [])) s = exec (.bind h) s ∧
    exec (.deskFrameDropped (wireFrame h.dst h.src h.etherType 0x03 [])) s = exec (.ping h) s ∧
    (∀ (id : BitVec 16) (o : BitVec 32),
      exec (.deskFrameDropped (wireFrame h.dst h.src h.etherType 0x06 (leBytes 2 id.toNat ++ leBytes 4 o.toNat))) s =
        exec (.ack h id o) s) ∧
    (∀ (id : BitVec 16) (r : Byte),
      exec (.deskFrameDropped (wireFrame h.dst h.src h.etherType 0x08 (leBytes 2 id.toNat ++ [r]))) s =
        exec (.finack h id r) s) ∧
    (∀ (n : BitVec 24) (c : Byte),
      exec (.deskFrameDropped (wireFrame h.dst h.src h.etherType 0x0A (leBytes 3 n.toNat ++ [c]))) s =
        exec (.request h n c) s) ∧
    (∀ n : Byte, exec (.deskFrameDropped (wireFrame h.dst h.src h.etherType 0x0B [n])) s = exec (.remote h n) s)

/-! ### The control port -/

/-- R178, R184, R186, R191: IDENTIFY is answered in every power state, and in HALT it wakes the part first. -/
def Obligations.IdentifyIsAlwaysAnswered : Prop :=
  ∀ (tag : Byte) (s : State), s.portOpen → s.steady →
    (s.pwc.power ≠ .halt →
      exec (.identify tag []) s = .next (s.replied .identify tag (0 :: identityBytes s.cp.cause s.pwc.power))) ∧
    (s.pwc.power = .halt → s.pwc.responses = none →
      ∃ t, exec (.identify tag []) s = .next t ∧ t.pwc.power = .run ∧
        OutFrame.reply 0x81 tag (0 :: identityBytes s.cp.cause .run) ∈ t.cp.queue)

/-- R22, R23, R24, R47, R88, R89, R96, R115, R116, R144, R171, R185, R198: a status request posts its reply, with what its
rule lists in the order of R198, and changes nothing; PORT_STATUS with its clear flag on also sets both counters to 0. An
argument out of range draws BAD_ARG. The sizes and orders that R198 leaves open are those of log entry 19. -/
def Obligations.StatusRequestsOnlyReply : Prop :=
  ∀ (tag : Byte) (s : State), s.answers →
    let posts (r : Request) (body : List Byte) : Host.Outcome State Fault Refusal := .next (s.replied r tag (0 :: body))
    let badArg (r : Request) : Host.Outcome State Fault Refusal := .next (s.replied r tag [3])
    let number (i : Nat) : List Byte := leBytes 3 (((s.bm.row? i).bind Row.number).getD 0)
    exec (.driveStatus tag []) s = posts .driveStatus
      ([s.rdu.drive.byte, s.rdu.drive.fromByte] ++ s.rdu.active.bytes ++
        (match s.rdu.pending with
          | some d => d.bytes
          | none => absentBytes 9) ++
        s.rdu.s1.bytes ++ s.rdu.s2.bytes ++ leBytes 2 s.rdu.counter ++ [BitVec.ofNat 8 s.rdu.remoteCount] ++
        leBytes 2 s.rdu.nextBurst ++ (BitVec.ofNat 8 s.rdu.ring.length :: s.rdu.ring.map (BitVec.ofNat 8)) ++
        [match s.rdu.openRow with
          | some i => BitVec.ofNat 8 i
          | none => 0xFF] ++
        leBytes 4 s.rdu.period ++ [if s.rdu.phaseFire then 0 else 1] ++
        (match s.rdu.record with
          | some b => b.bytes
          | none => absentBytes 16)) ∧
    exec (.focusStatus tag []) s = posts .focusStatus
      ([s.fu.state.byte, flagByte s.fu.halfPress] ++ s.fu.active.bytes ++
        (match s.fu.requested with
          | some a => a.bytes
          | none => absentBytes 13) ++
        (match s.fu.descriptor with
          | some d => d.bytes
          | none => absentBytes 7) ++
        leBytes 2 s.fu.position ++ [flagByte s.fu.known, flagByte s.fu.moving, BitVec.ofNat 8 s.fu.missing] ++
        (match s.fu.move with
          | some m => leBytes 2 m.target ++ [m.origin.byte, flagByte m.halted]
          | none => absentBytes 4) ++
        leBytes 2 s.fu.speed ++ [BitVec.ofNat 8 s.fu.tracking.col, BitVec.ofNat 8 s.fu.tracking.row] ++
        optBytes 2 s.fu.tracking.held ++ [BitVec.ofNat 8 s.fu.tracking.run, BitVec.ofNat 8 s.fu.seek,
          historyByte s.fu.current, historyByte s.fu.previous]) ∧
    exec (.poolStatus tag []) s = posts .poolStatus
      (leBytes 2 s.bm.free.length ++ leBytes 2 (s.bm.rows.map fun r => (r.pagesOf .raw).length).sum ++
        leBytes 2 (s.bm.rows.map fun r => (r.pagesOf .proof).length).sum ++ leBytes 2 s.bm.reserve ++
        leBytes 2 s.bm.threshold ++ [flagByte (decide (s.bm.free.length < s.bm.threshold))] ++
        ([Life.exposing, .pre, .held, .settled, .void].map fun l =>
          BitVec.ofNat 8 (s.bm.rows.filter fun r => decide (r.life = l)).length) ++
        [BitVec.ofNat 8 (128 - s.bm.rows.length)] ++ leBytes 3 s.bm.nextNumber) ∧
    (∀ row : Byte, exec (.zoneReport tag [row]) s =
      if row.toNat ≤ 8 then posts .zoneReport (zoneReportBytes row.toNat s.fu.array) else badArg .zoneReport) ∧
    (∀ n : Nat, n < 16777216 →
      (n = 0 → exec (.shotGet tag (leBytes 3 n)) s = badArg .shotGet) ∧
      (n ≠ 0 → s.bm.numbered? n = none → exec (.shotGet tag (leBytes 3 n)) s = .next (s.replied .shotGet tag [4])) ∧
      (∀ r, n ≠ 0 → s.bm.numbered? n = some r → exec (.shotGet tag (leBytes 3 n)) s = posts .shotGet r.bytes)) ∧
    (∀ (skip : Byte) (flags : List Bool) (rows : List Row), flags.length = 5 →
      rows = s.bm.rows.filter (fun r => flags = List.replicate 5 false ∨ flags[r.life.byte.toNat]? = some true) →
      exec (.shotList tag (skip :: flags.map flagByte)) s =
        if skip.toNat ≤ 127 then posts .shotList (BitVec.ofNat 8 rows.length ::
          BitVec.ofNat 8 ((rows.drop skip.toNat).take 32).length ::
          (((rows.drop skip.toNat).take 32).map fun r => BitVec.ofNat 8 r.index :: (leBytes 3 (r.number.getD 0) ++
            [r.life.byte, flagByte r.precapture, flagByte r.protect, flagByte r.discarding,
              match r.outcome with
              | some o => o.byte
              | none => 0xFF])).flatten)
        else badArg .shotList) ∧
    (∀ (slot : Byte) (l : Look), s.de.looks[slot.toNat]? = some l → slot.toNat ≤ 7 →
      exec (.lookGet tag [slot]) s =
        posts .lookGet (l.bytes ++ [flagByte (s.de.job.any fun j => decide (j.slot = slot.toNat))])) ∧
    (∀ slot : Byte, 7 < slot.toNat → exec (.lookGet tag [slot]) s = badArg .lookGet) ∧
    (∀ (skip : Byte) (job : List Byte) (entries : List (List Byte)),
      ((s.de.job = none ∧ job = [0, 0, 0, 0xFF, 0xFF, 0xFF, 0xFF]) ∨
        ∃ j r, s.de.job = some j ∧ s.bm.row? j.row = some r ∧ job = leBytes 3 (r.number.getD 0) ++
          [r.cls.byte, BitVec.ofNat 8 j.slot] ++ optBytes 2 (r.proof.map ProofChain.frontier)) →
      entries = ((s.de.urgent.map (fun i => number i ++ [0]) ++ s.de.normal.map (fun i => number i ++ [1])).drop
        skip.toNat).take 32 →
      exec (.developStatus tag [skip]) s =
        if skip.toNat ≤ 127 then posts .developStatus ([s.de.engine.byte] ++ job ++
          (match s.de.engine, s.de.urgent ++ s.de.normal with
            | .starved, i :: _ => number i
            | _, _ => [0, 0, 0]) ++
          [BitVec.ofNat 8 s.de.urgent.length, BitVec.ofNat 8 s.de.normal.length] ++
          (BitVec.ofNat 8 entries.length :: entries.flatten) ++ [flagByte s.de.auto] ++ leBytes 2 s.de.failedJobs ++
          leBytes 3 (s.de.lastFailed.getD 0) ++
          (match s.de.histogram with
            | some h => 1 :: leBytes 3 h.shot
            | none => [0, 0, 0, 0]))
        else badArg .developStatus) ∧
    exec (.histogramGet tag []) s = posts .histogramGet
      (match s.de.histogram with
        | some h => leBytes 3 h.shot ++ (h.bins.map (leBytes 4)).flatten ++ leBytes 4 h.clip
        | none => [0, 0, 0]) ∧
    (∀ slot skip : Byte, 1 < slot.toNat → exec (.slotStatus tag [slot, skip]) s = badArg .slotStatus) ∧
    (∀ (i : SlotId) (x : Slot) (skip : Byte) (writing : List Byte) (entries : List (List Byte)), s.cw.slot i = x →
      ((x.writing = none ∧ writing = [0, 0, 0] ++ absentBytes 9) ∨
        ∃ w r d, x.writing = some w ∧ s.bm.row? w.duty.row = some r ∧ r.cards[w.duty.place]? = some d ∧
          writing = leBytes 3 (r.number.getD 0) ++ [d.chain.byte] ++ leBytes 4 (sectorNeed d.chain) ++
            leBytes 4 w.written) →
      entries.length = ((x.writeQ.drop skip.toNat).take 16).length →
      (∀ (k : Nat) (q : DutyRef), ((x.writeQ.drop skip.toNat).take 16)[k]? = some q →
        ∃ r d, s.bm.row? q.row = some r ∧ r.cards[q.place]? = some d ∧
          entries[k]? = some (leBytes 3 (r.number.getD 0) ++ [d.chain.byte, d.state.byte])) →
      exec (.slotStatus tag [slotByte i, skip]) s = posts .slotStatus
        ([s.cw.a.state.byte, s.cw.b.state.byte, flagByte x.cardIn, flagByte x.lockOn] ++ optBytes 4 x.capacity ++
          (match x.range with
            | some p => p.bytes
            | none => absentBytes 8) ++
          (BitVec.ofNat 8 x.extents.length :: (x.extents.map Piece.bytes).flatten) ++ leBytes 4 x.queued ++ writing ++
          (BitVec.ofNat 8 x.stops.length :: x.stops.map fun c => c.cause.byte) ++
          [match x.stops with
            | c :: _ => c.cause.byte
            | [] => 0xFF,
            BitVec.ofNat 8 x.reads.length,
            match x.op with
            | .read _ _ => 1
            | .idle | .run _ _ _ => 0,
            BitVec.ofNat 8 x.failRun,
            match x.lastFail with
            | some k => k.byte
            | none => 0xFF,
            BitVec.ofNat 8 x.writeQ.length, BitVec.ofNat 8 x.waitQ.length] ++
          (BitVec.ofNat 8 entries.length :: entries.flatten) ++ [s.cw.policy.byte, flagByte s.cw.proofs])) ∧
    (∀ (skip : Byte) (active : List Byte) (entries : List Entry),
      ((s.tu.transfer = none ∧ active = absentBytes 2 ++ [0, 0, 0] ++ absentBytes 21) ∨
        ∃ t e, s.tu.transfer = some t ∧ s.tu.entry? t.number t.chain = some e ∧
          active = leBytes 2 t.id ++ leBytes 3 t.number ++ [t.chain.byte, e.source.byte] ++ leBytes 4 t.length ++
            leBytes 4 t.next ++ leBytes 4 t.high ++ leBytes 4 t.acked ++
            [BitVec.ofNat 8 t.timeouts, BitVec.ofNat 8 t.bad,
              if s.tu.link = .finishing then 4
              else if t.length ≤ t.next then 0
              else if t.window ≤ (t.next - t.acked) / 1408 then 1
              else if ({ toState := s, bus := [] } : Work).sendLimit t e < t.next + min 1408 (t.length - t.next) then 2
              else if (({ toState := s, bus := [] } : Work).frameData t e).isNone then 3
              else 0]) →
      entries = (s.tu.queue.drop skip.toNat).take 16 →
      exec (.tetherStatus tag [skip]) s =
        if skip.toNat ≤ 63 then posts .tetherStatus ([s.tu.link.byte] ++
          (match s.tu.bound with
            | some m => leBytes 6 m.toNat
            | none => absentBytes 6) ++
          s.tu.settings.bytes ++ [s.tu.auto.byte, flagByte s.tu.reclaim, flagByte s.tu.stopped] ++
          leBytes 2 s.tu.nextId ++ active ++
          [BitVec.ofNat 8 (s.tu.buffers.filter fun b => decide (b ≠ .free)).length] ++
          ([0, 1, 2, 3].map fun k => BitVec.ofNat 8 (s.tu.queue.filter fun e => decide (e.prio = k)).length) ++
          (BitVec.ofNat 8 entries.length :: (entries.map fun e => leBytes 3 e.number ++
            [e.chain.byte, e.kind.byte, flagByte e.sending, e.source.byte, BitVec.ofNat 8 e.prio,
              flagByte e.early]).flatten))
        else badArg .tetherStatus) ∧
    (∀ (h : State) (body : List Byte), h = s.hears .portStatus →
      body = [s.pwc.power.byte, s.cp.cause.byte] ++ leBytes 2 s.cp.garbled ++ leBytes 2 s.cp.overrun ++
        [BitVec.ofNat 8 (h.cp.queue.filter OutFrame.isReply).length] ++ s.cp.enabled.map flagByte ++
        (Notice.all.map fun k =>
          [BitVec.ofNat 8 (h.cp.latch k).count, flagByte (h.cp.hasEntry k), flagByte (h.cp.entryFixed k)]).flatten →
      exec (.portStatus tag [0]) s = posts .portStatus body ∧
      exec (.portStatus tag [1]) s = .next
        (({ h with cp := { h.cp with garbled := 0, overrun := 0 } } : State).answered .portStatus tag (0 :: body)))

/-- R183, R179: NOTICE_MASK_SET posts its reply, then replaces the enable set. A kind that becomes disabled loses the
entry that waits in the queue, but not one in progress; a kind that becomes enabled with occurrences in its latch and no
entry has one posted, in catalogue order. Every latch stays; with a flag out of range the request is refused. -/
def Obligations.NoticeMaskSetReplacesTheEnableSet : Prop :=
  ∀ (tag : Byte) (s : State), s.answers → s.cp.enabled.length = 19 →
    (∀ (flags : List Bool) (h : State), flags.length = 19 →
      h = s.replied .noticeMaskSet tag (0 :: flags.map flagByte) →
      let on (k : Notice) : Bool := flags.getD k.index false
      let kept := h.cp.queue.filter fun f => match f with
        | .reply _ _ _ => true
        | .notice k _ _ => on k || !h.cp.isEnabled k || h.cp.entryFixed k
      let posted := (Notice.all.filter fun k =>
        on k && !h.cp.isEnabled k && !h.cp.hasEntry k && decide (0 < (h.cp.latch k).count)).map fun k =>
          OutFrame.notice k (h.cp.latch k).count ((h.cp.latch k).snapshot.getD [])
      exec (.noticeMaskSet tag (flags.map flagByte)) s = .next { h with cp := { h.cp with
        enabled := flags, queue := kept ++ posted } }) ∧
    (∀ p : List Byte, p.length = 19 → (∃ b ∈ p, 1 < b.toNat) →
      exec (.noticeMaskSet tag p) s = .next (s.replied .noticeMaskSet tag [3]))

/-- R178, R180, R193: the judgment of a frame: dropped and counted when 8 replies are outstanding after its last byte has
been clocked (that the byte that goes out with it counts first is log entry 24), UNKNOWN_KIND for a kind
no request has, BAD_LENGTH for a length its kind does not allow, and STATE in FAILSAFE for all but six kinds. Nothing
else changes. -/
def Obligations.RequestsAreJudgedInOrder : Prop :=
  ∀ (tag : Byte) (p : List Byte) (s : State), s.steady → s.pwc.power ≠ .halt → p.length ≤ 512 →
    let h := s.heard (p.length + 7)
    (∀ kind : Byte, s.cp.rx = .hunt → s.cp.muted = false → 8 ≤ h.cp.outstanding →
      exec (.requestDropped kind tag p) s =
        .next { h with cp := { h.cp with overrun := min 65535 (s.cp.overrun + 1) } }) ∧
    (∀ kind : Byte, s.portOpen → kind.toNat = 0 ∨ 0x2D < kind.toNat →
      exec (.unknownKind kind tag p) s =
        .next (h.posted (if kind.toNat < 0x80 then kind + 0x80 else 0xFF) tag [1])) ∧
    (∀ r : Request, s.portOpen → r.allows p.length = false →
      exec (r.command tag p) s = .next (h.answered r tag [2])) ∧
    (∀ r : Request, s.portOpen → s.pwc.power = .failsafe → r.allows p.length = true →
      r ∉ [.identify, .portStatus, .shotGet, .shotList, .slotStatus, .resetPart] →
      exec (r.command tag p) s = .next (h.answered r tag [8]))

/-- R175, R176, R177: a run of stray bytes and a frame with a wrong CRC each count one garbled frame; FFh is fill; as
many bytes go out as come in. A length above 512 counts one and sends the receiver to DISCARD, which throws bytes away as
an ignored transaction does. Chip select rising inside a frame counts one, puts the receiver between frames and the
outbound frame back to its first byte. -/
def Obligations.GarbledFramesAreCounted : Prop :=
  ∀ s : State, s.steady →
    (∀ (bytes : List Byte) (h : State), s.cp.rx = .hunt → s.cp.muted = false → bytes ≠ [] →
      (∀ b ∈ bytes, b ≠ 0xA5 ∧ b ≠ 0xFF) → h = s.shiftOuts bytes.length →
      exec (.garbledFrame bytes) s = .next { h with cp := { h.cp with
        strays := true, garbled := if s.cp.strays then s.cp.garbled else min 65535 (s.cp.garbled + 1) } }) ∧
    (∀ n, s.cp.rx = .hunt → s.cp.muted = false → 0 < n →
      exec (.garbledFrame (List.replicate n 0xFF)) s = .next (s.heard n)) ∧
    (∀ (kind tag : Byte) (p : List Byte) (crc : BitVec 16) (h : State), s.cp.rx = .hunt → s.cp.muted = false →
      p.length ≤ 512 → crc ≠ crc16 (kind :: tag :: p) → h = s.heard (p.length + 7) →
      exec (.garbledFrame (0xA5 :: (leBytes 2 p.length ++ (kind :: tag :: p) ++ leBytes 2 crc.toNat))) s =
        .next { h with cp := { h.cp with garbled := min 65535 (s.cp.garbled + 1) } }) ∧
    (∀ (n : Nat) (h : State), s.cp.rx = .hunt → s.cp.muted = false → 512 < n → n < 65536 → h = s.heard 3 →
      exec (.garbledFrame (0xA5 :: leBytes 2 n)) s =
        .next { h with cp := { h.cp with rx := .discard, garbled := min 65535 (s.cp.garbled + 1) } }) ∧
    (∀ bytes : List Byte, s.cp.rx = .discard ∨ s.cp.muted = true →
      exec (.garbledFrame bytes) s = .next (s.shiftOuts bytes.length)) ∧
    exec .chipSelectRise s = .next { s with cp := { s.cp with
      rx := .hunt, strays := false, busy := false, muted := false, place := 0,
      garbled := (match s.cp.rx with
        | .header _ | .body _ _ => min 65535 (s.cp.garbled + 1)
        | .hunt | .discard => s.cp.garbled) } }

/-- R177, R180, R182: with each byte the host clocks the next byte of the head frame goes out, and FFh when the queue is
empty or the transaction is ignored. The first byte fixes the head frame's content, and of a notice empties its latch's
count; with the last the frame leaves the queue, and a notice of an enabled kind that occurred meanwhile is posted anew.
OUTBOUND_FIRST_BYTE and OUTBOUND_FRAME_LEFT are the filler bytes that clock the first byte of a frame and the rest of it
(log entry 24). -/
def Obligations.OutboundFramesLeaveInOrder : Prop :=
  ∀ s : State, s.steady →
    let idle (t : State) : State := { t with cp := { t.cp with strays := false } }
    let body (k tag : Byte) (p : List Byte) : List Byte :=
      0xA5 :: (leBytes 2 p.length ++ (k :: tag :: p) ++ leBytes 2 (crc16 (k :: tag :: p)).toNat)
    -- no frame to send
    ((s.cp.queue = [] ∨ s.cp.muted = true) →
      s.shiftOut = { s with cp := { s.cp with busy := true }, sent := .port 0xFF :: s.sent }) ∧
    -- a reply
    (∀ (k tag : Byte) (p : List Byte) (rest : List OutFrame), s.cp.muted = false → s.cp.queue = .reply k tag p :: rest →
      (s.cp.place = 0 →
        s.shiftOut = { s with
          cp := { s.cp with busy := true, fixed := true, place := 1 }, sent := .port 0xA5 :: s.sent }) ∧
      (0 < s.cp.place → s.cp.place < p.length + 6 →
        s.shiftOut = { s with
          cp := { s.cp with busy := true, place := s.cp.place + 1 },
          sent := .port ((body k tag p).getD s.cp.place 0) :: s.sent }) ∧
      (s.cp.place = p.length + 6 →
        s.shiftOut = { s with
          cp := { s.cp with busy := true, fixed := false, place := 0, queue := rest },
          sent := .port ((body k tag p).getD s.cp.place 0) :: s.sent })) ∧
    -- a notice
    (∀ (k : Notice) (n : Nat) (b : List Byte) (rest : List OutFrame), s.cp.muted = false →
      s.cp.queue = .notice k n b :: rest →
      let p : List Byte := BitVec.ofNat 8 n :: b
      (s.cp.place = 0 → s.cp.fixed = false →
        s.shiftOut = { s with
          cp := { s.cp with
            busy := true, fixed := true, place := 1,
            queue := .notice k (s.cp.latch k).count ((s.cp.latch k).snapshot.getD []) :: rest,
            latches := s.cp.latches.set k.index { s.cp.latch k with count := 0 } },
          sent := .port 0xA5 :: s.sent }) ∧
      (s.cp.place = 0 → s.cp.fixed = true →
        s.shiftOut = { s with cp := { s.cp with busy := true, place := 1 }, sent := .port 0xA5 :: s.sent }) ∧
      (0 < s.cp.place → s.cp.place < p.length + 6 →
        s.shiftOut = { s with
          cp := { s.cp with busy := true, place := s.cp.place + 1 },
          sent := .port ((body k.kind 0 p).getD s.cp.place 0) :: s.sent }) ∧
      (s.cp.place = p.length + 6 →
        s.shiftOut = { s with
          cp := { s.cp with
            busy := true, fixed := false, place := 0,
            queue := rest ++ (if 0 < (s.cp.latch k).count ∧ s.cp.isEnabled k = true then
              [.notice k (s.cp.latch k).count ((s.cp.latch k).snapshot.getD [])] else []) },
          sent := .port ((body k.kind 0 p).getD s.cp.place 0) :: s.sent })) ∧
    -- the commands
    (s.cp.muted = true → s.cp.place = 0 →
      exec .outboundFirstByte s = .next s.shiftOut ∧ exec .outboundFrameLeft s = .next s) ∧
    (0 < s.cp.place → exec .outboundFirstByte s = .next s) ∧
    (s.cp.place = 0 → exec .outboundFrameLeft s = .next s) ∧
    (s.cp.muted = false → s.cp.rx = .hunt →
      (s.cp.place = 0 → exec .outboundFirstByte s = .next (idle s.shiftOut)) ∧
      (∀ (k tag : Byte) (p : List Byte) (rest : List OutFrame), s.cp.queue = .reply k tag p :: rest → 0 < s.cp.place →
        s.cp.place < p.length + 7 →
        exec .outboundFrameLeft s = .next { s with
          cp := { s.cp with busy := true, strays := false, fixed := false, place := 0, queue := rest },
          sent := ((body k tag p).drop s.cp.place).reverse.map .port ++ s.sent }) ∧
      (∀ (k : Notice) (n : Nat) (b : List Byte) (rest : List OutFrame), s.cp.queue = .notice k n b :: rest →
        0 < s.cp.place → s.cp.place < b.length + 8 →
        exec .outboundFrameLeft s = .next { s with
          cp := { s.cp with
            busy := true, strays := false, fixed := false, place := 0,
            queue := rest ++ (if 0 < (s.cp.latch k).count ∧ s.cp.isEnabled k = true then
              [.notice k (s.cp.latch k).count ((s.cp.latch k).snapshot.getD [])] else []) },
          sent := ((body k.kind 0 (BitVec.ofNat 8 n :: b)).drop s.cp.place).reverse.map .port ++ s.sent }))

/-- R181: an occurrence counts in its latch, saturating at 255, and replaces its snapshot; an enabled kind has then an
entry in the queue; no other latch changes. -/
def Obligations.OccurrencesReachTheirLatch : Prop :=
  ∀ (c : Cp) (k : Notice) (b : List Byte), c.latches.length = 19 →
    (c.raise k b).latch k = { count := min 255 ((c.latch k).count + 1), snapshot := some b } ∧
    (∀ j, j ≠ k → (c.raise k b).latch j = c.latch j) ∧
    (c.isEnabled k = true → (c.raise k b).hasEntry k = true) ∧
    (c.isEnabled k = false → (c.raise k b).queue = c.queue) ∧
    (c.isEnabled k = true → c.hasEntry k = false →
      (c.raise k b).queue = c.queue ++ [.notice k (min 255 ((c.latch k).count + 1)) b])

/-! ### Power, supply warning and resets -/

/-- R189, R190: POWER_SET RUN leaves QUIET; QUIET is entered from RUN with the drive IDLE and no move; HALT with the
drive IDLE, no open duty and nothing in flight. QUIET with the drive not IDLE, and HALT with that or an open duty, draw
BUSY; every POWER_SET draws STATE once a supply warning is latched. That an outstanding QUERY is cleared at the entry to
HALT is log entry 31. -/
def Obligations.PowerSetMovesBetweenStates : Prop :=
  ∀ (tag : Byte) (s : State), s.answers →
    (s.pwc = { power := .quiet, latched := false, responses := none } → s.rdu.s1.held = false → s.fu.firstQuery = false →
      exec (.powerSetRun tag [0]) s = .next (({ s with
        pwc := { s.pwc with power := .run }, sru := { s.sru with running := true } } : State).replied .powerSet tag
        [0, 0])) ∧
    (s.inRun → s.rdu.drive = .idle → s.fu.move = none →
      exec (.powerSetQuiet tag [1]) s = .next (({ s with
        pwc := { s.pwc with power := .quiet }, sru := { s.sru with running := false, viewTimer := false } } :
        State).replied .powerSet tag [0, 1])) ∧
    (s.pwc.latched = false → s.rdu.drive = .idle → s.bm.openDuties = 0 → s.sru.readout = none → s.sru.waiting = none →
      s.fu.move = none → s.cw.a.op = .idle → s.cw.a.reads = [] → s.cw.b.op = .idle → s.cw.b.reads = [] →
      s.tu.transfer = none → s.tu.link = .off →
      exec (.powerSetHalt tag [2]) s = .next (({ s with
        pwc := { s.pwc with power := .halt },
        sru := { s.sru with running := false, viewTimer := false, startTimer := false, endTimer := false },
        fu := { s.fu with moveTimer := false, query := false, bare := false },
        tu := { s.tu with buffers := s.tu.buffers.map fun _ => .free } } : State).replied .powerSet tag [0, 2])) ∧
    (s.pwc.latched = false → s.pwc.power = .run → s.rdu.drive ≠ .idle →
      exec (.powerSetQuiet tag [1]) s = .next (s.replied .powerSet tag [6])) ∧
    (s.pwc.latched = false → (s.rdu.drive ≠ .idle ∨ s.bm.openDuties ≠ 0) →
      exec (.powerSetHalt tag [2]) s = .next (s.replied .powerSet tag [6])) ∧
    (s.pwc.latched = true →
      exec (.powerSetRun tag [0]) s = .next (s.replied .powerSet tag [8]) ∧
      exec (.powerSetQuiet tag [1]) s = .next (s.replied .powerSet tag [8]) ∧
      exec (.powerSetHalt tag [2]) s = .next (s.replied .powerSet tag [8]))

/-- R192, R50, R65, R118, R146, R173: the supply warning is latched once and delivered: the drive goes to IDLE, the
readouts end, the engine stops, the tether and the card writer set their stopped flags; the part is then in FAILSAFE
unless a writing duty stands. An input that goes away, or a warning already latched, changes only the level. -/
def Obligations.SupplyWarningIsDelivered : Prop :=
  ∀ s : State, s.steady →
    exec (.supplyWarning false) s = .next { s with pins := { s.pins with warning := false } } ∧
    (s.pwc.latched = true → exec (.supplyWarning true) s = .next { s with pins := { s.pins with warning := true } }) ∧
    (s.pwc.latched = false →
      ∃ t, exec (.supplyWarning true) s = .next t ∧ t.pwc.latched = true ∧ t.rdu.drive = .idle ∧ t.rdu.release = none ∧
        t.sru.running = false ∧ t.sru.readout = none ∧ t.sru.waiting = none ∧ t.de.engine = .stopped ∧ t.de.job = none ∧
        t.tu.stopped = true ∧ t.cw.stopped = true ∧
        (if t.cw.quiet then t.pwc.power = .failsafe ∧ t.pwc.responses = none
         else t.pwc.power = s.pwc.power ∧ t.pwc.responses = some (Responses.delivered false)))

/-- R187, R188, R194: a whole-part reset gives every block its reset values; the pin leaves READY in the queue, and
RESET_PART ALL its reply and then READY with reset cause PORT (clock 0; log entries 4, 8 and 25). An asserted warning
input is latched at once, and the part is in FAILSAFE. While the pin is asserted every block is held at its reset values
and the attention line is low, and the step of the pin is the release of a part so held (log entry 56). -/
def Obligations.WholePartResetGivesResetValues : Prop :=
  (∀ (tag : Byte) (s : State), s.pins.warning = false →
    exec .resetPin s = .next { State.reset with
      cp := { Cp.reset with busy := s.cp.busy, muted := s.cp.busy }, pins := s.pins, sent := s.sent,
      freeUsed := s.freeUsed, pending := s.pending } ∧
    (s.portOpen → s.steady → s.pwc.power ≠ .halt →
      exec (.resetPartAll tag [0]) s = .next { State.reset with
        cp := { Cp.reset with
          busy := true, cause := .port,
          queue := [.reply 0x84 tag [0, 0], .notice .ready 1 (identityBytes .port .run)],
          latches := { count := 1, snapshot := some (identityBytes .port .run) } ::
            List.replicate 18 { count := 0, snapshot := none } },
        pins := s.pins, sent := (s.hears .resetPart).sent, freeUsed := s.freeUsed, pending := s.pending })) ∧
  (∀ s : State, s.pins.warning = true →
    ∃ t, exec .resetPin s = .next t ∧ t.pwc = { power := .failsafe, latched := true, responses := none } ∧
      t.pins = s.pins ∧ t.bm = Bm.reset) ∧
  ∀ w : Work,
    let held := w.assertReset
    held.toState = { State.reset with
      cp := { Cp.reset with
        queue := [], latches := List.replicate 19 { count := 0, snapshot := none }, busy := w.cp.busy,
        muted := w.cp.busy },
      pins := w.pins, sent := w.sent, freeUsed := w.freeUsed, pending := w.pending } ∧
    held.toState.attention = false ∧ exec .resetPin w.toState = .next (run Work.releaseReset held.toState)

/-- R174, R195: RESET_PART TETHER empties the send queue and closes the link, and keeps the settings, the auto-send
setting and the next transfer id; the reply is OK with the link OFF. The duty of every entry that was in the queue is
FAILED(RESET), and SEND_FAILED is raised once for each; the reads of both slots are given up and the buffers freed. Under
the stopped flag it is refused. That SEND_FAILED stands before the reply in the outbound queue is log entry 59. -/
def Obligations.ResetTetherEmptiesTheQueue : Prop :=
  ∀ (tag : Byte) (s : State), s.answers →
    let h := s.hears .resetPart
    (s.tu.stopped = true → exec (.resetPartTether tag [1]) s = .next (s.replied .resetPart tag [8])) ∧
    (s.tu.stopped = false → s.pwc.responses = none → (s.tu.transfer ≠ none → s.tu.active? ≠ none) →
      ∃ t, exec (.resetPartTether tag [1]) s = .next t ∧ t.tu.link = .off ∧ t.tu.queue = [] ∧ t.tu.transfer = none ∧
        t.tu.bound = none ∧ t.tu.counters = Counters.zero ∧ t.tu.settings = s.tu.settings ∧ t.tu.auto = s.tu.auto ∧
        t.tu.nextId = s.tu.nextId ∧ (∀ b ∈ t.tu.buffers, b = .free) ∧ t.cw.a.reads = [] ∧ t.cw.b.reads = [] ∧
        t.rdu = s.rdu ∧ t.sru = s.sru ∧ t.fu = s.fu ∧ t.pwc = s.pwc ∧
        OutFrame.reply 0x84 tag [0, 0] ∈ t.cp.queue ∧
        (∀ e ∈ s.tu.queue, ∀ i r, e.row = some i → s.bm.row? i = some r → ∃ z, t.bm.row? i = some z ∧
          ∀ (k : Nat) (d : TetherDuty), r.tethers[k]? = some d → d.chain = e.chain → d.state.isFinal = false →
            z.tethers[k]? = some { d with state := .failed, cause := some .reset }) ∧
        (s.cp.latches.length = 19 → (h.cp.latch .sendFailed).count ≤ 255 →
          (s.tu.queue.map fun e => (e.number, e.chain)).Nodup →
          (t.cp.latch .sendFailed).count = min 255 ((h.cp.latch .sendFailed).count + s.tu.queue.length))) ∧
    (∀ e, s.tu.stopped = false → s.tu.queue = [e] → e.row = none → s.tu.transfer = none → s.tu.link = .off →
      let given (x : Slot) : Slot := { x with
        reads := [],
        op := match x.op with
          | .read q _ => .read q false
          | .idle => .idle
          | .run a b c => .run a b c }
      exec (.resetPartTether tag [1]) s = .next ((({ h with
        tu := { s.tu with
          queue := [], buffers := s.tu.buffers.map fun _ => .free, bound := none, helloTimer := false,
          deskTimer := false, counters := Counters.zero, reclaim := decide (s.bm.free.length < s.bm.threshold) },
        cw := { s.cw with a := given s.cw.a, b := given s.cw.b } } : State).raised .sendFailed
          (leBytes 3 e.number ++ [e.chain.byte, 3])).answered .resetPart tag [0, 0]))

/-! ### Release and drive -/

/-- R29, R30, R33, R37, R41: valid drive settings become active in IDLE and READY with an empty ring, and wait otherwise; a
drive mode out of range is refused. A READY drive with S1 held that becomes a PRECAPTURE one takes a burst id, starts the
frame timer and makes its first ring attempt at once: it is PRECAPTURING with an open ring row, or STALLED when the
attempt is skipped. -/
def Obligations.DriveSettingsAreTakenOrWait : Prop :=
  ∀ (tag : Byte) (d : DriveSettings) (s : State), s.answers → 1 ≤ d.rate → d.rate ≤ 30 → d.limit ≤ 255 → 1 ≤ d.depth →
    d.depth ≤ 20 → 50 ≤ d.wait → d.wait ≤ 1000 → d.look ≤ 7 →
    (s.rdu.ring = [] → (s.rdu.drive = .idle ∨ (s.rdu.drive = .ready ∧ (d.mode ≠ .precapture ∨ s.rdu.s1.held = false))) →
      exec (.driveSet tag d.bytes) s =
        .next (({ s with rdu := { s.rdu with active := d } } : State).replied .driveSet tag (0 :: (d.bytes ++ [0])))) ∧
    (s.rdu.drive ≠ .idle → s.rdu.drive ≠ .ready →
      exec (.driveSet tag d.bytes) s =
        .next (({ s with rdu := { s.rdu with pending := some d } } : State).replied .driveSet tag
          (0 :: (d.bytes ++ [1])))) ∧
    (s.inRun → s.rdu.ring = [] → s.rdu.drive = .ready → s.rdu.s1.held = true → d.mode = .precapture →
      s.rdu.release = none → s.rdu.halfPress = true →
      let rings : Rdu := { s.rdu with
        active := d, timer := true, burstId := s.rdu.nextBurst, nextBurst := (s.rdu.nextBurst + 1) % 65536,
        viewOn := false }
      let sru : Sru := { s.sru with viewTimer := if s.rdu.viewOn then false else s.sru.viewTimer }
      (s.canCapture →
        ∃ t, exec (.driveSet tag d.bytes) s = .next t ∧
          t.rdu = { rings with
            drive := .precapturing, openRow := some s.bm.freeIndex,
            capture := some { row := s.bm.freeIndex, ofBurst := false } } ∧
          t.sru = { sru with
            readout := some { kind := .capture, reading := false, row := s.bm.freeIndex, gate := .releasePriority,
                              frameId := none, timestamp := 0, focusAt := .noLens, afTaken := false, lines := 0, bad := 0 },
            startTimer := true } ∧
          (t.bm.row? s.bm.freeIndex).map (fun r => (r.precapture, r.mark, r.burst, r.raw)) =
            some (true, some .opened, s.rdu.nextBurst, some { pages := s.bm.free.take 41, length := 42000064 }) ∧
          (s.tu.queue = [] → t.bm.free = s.bm.free.drop 41) ∧ t.fu = s.fu ∧ t.pwc = s.pwc ∧
          OutFrame.reply 0x86 tag (0 :: (d.bytes ++ [0])) ∈ t.cp.queue) ∧
      (s.rdu.capture = none → s.sru.fault = false → s.bm.rows.length < 128 → s.bm.free.length < 41 + s.bm.reserve →
        ∃ t, exec (.driveSet tag d.bytes) s = .next t ∧ t.rdu = { rings with drive := .stalledPrecapturing } ∧
          t.sru = sru ∧ t.bm = s.bm ∧ t.fu = s.fu ∧ t.pwc = s.pwc ∧
          OutFrame.reply 0x86 tag (0 :: (d.bytes ++ [0])) ∈ t.cp.queue)) ∧
    (∀ p : List Byte, p.length = 9 → 2 < (byteAt p 0).toNat →
      exec (.driveSet tag p) s = .next (s.replied .driveSet tag [3]))

/-- R28: in IDLE the polarities are set, and a line whose polarity changes is disarmed and not held; elsewhere STATE. -/
def Obligations.ReleaseLinesTakePolarities : Prop :=
  ∀ (tag : Byte) (a b : Polarity) (s : State), s.answers →
    (s.rdu.drive = .idle → s.rdu.s1.held = false → s.rdu.waiter = none → s.rdu.release = none → s.rdu.viewOn = false →
      s.rdu.halfPress = false →
      exec (.releaseLinesSet tag [a.byte, b.byte]) s = .next (({ s with rdu := { s.rdu with
        s1 := if s.rdu.s1.polarity = a then s.rdu.s1 else { polarity := a, active := false, armed := false, held := false },
        s2 := if s.rdu.s2.polarity = b then s.rdu.s2 else { polarity := b, active := false, armed := false, held := false } } } :
        State).replied .releaseLinesSet tag [0, a.byte, b.byte])) ∧
    (s.rdu.drive ≠ .idle →
      exec (.releaseLinesSet tag [a.byte, b.byte]) s = .next (s.replied .releaseLinesSet tag [8]))

/-- R27, R31, R32, R33, R34, R35, R36, R40, R41, R42, R43, R49, R191: INACTIVE arms a line; ACTIVE of a disarmed line is
no press. A press of S1 in IDLE in RUN enters READY with the view stream and the half-press signal on; in mode PRECAPTURE
it enters PRECAPTURING with the next burst id and the frame timer running, and the first ring attempt is made at once,
which opens a ring row or leaves the drive STALLED. In QUIET or HALT the press wakes the part, and RDU then takes it; after
a supply warning only the line changes. A press of S2 in READY opens a burst,
or waits for the focus gate; with a ring it promotes the ring; elsewhere it is spent. A release of S1 ends READY, drops a
ring, or ends a wait of an S2 release, as a release of S2 does; a release of S2 ends its burst, at once or with the
capture in flight. -/
def Obligations.ReleaseLinesRegisterPresses : Prop :=
  ∀ (high : Bool) (s : State), s.steady →
    let down (l : Line) : Prop := l.levelOf high = true ∧ l.armed = true ∧ l.active = false
    let up (l : Line) : Prop := l.levelOf high = false ∧ l.held = true
    let pressed (l : Line) : Line := { l with active := true, armed := false, held := true }
    let released (l : Line) : Line := { l with active := false, armed := true, held := false }
    let settings : DriveSettings := s.rdu.pending.getD s.rdu.active
    -- the drive at rest with S1 up, with what else of RDU it leaves
    let rests (r : Rdu) (t : State) : Prop :=
      t.rdu = { r with
        drive := .idle, timer := false, active := settings, pending := none, viewOn := false, halfPress := false } ∧
      t.sru = { s.sru with viewTimer := if s.rdu.viewOn then false else s.sru.viewTimer } ∧ t.fu.halfPress = false ∧
      t.fu.state = (if s.fu.state ∈ [.seeking, .locked, .noTarget, .tracking, .lost] then .idle else s.fu.state) ∧
      t.pwc = s.pwc
    let ready : Rdu := { s.rdu with drive := .ready, timer := false, active := settings, pending := none, viewOn := true }
    -- the gate, and lines that register nothing
    s.fu.gate = (if s.fu.state = .noLens ∨ s.fu.state = .fault ∨ s.fu.active.mode = .manual then some .noLens
      else if (s.fu.active.mode = .single ∧ s.fu.state = .locked) ∨
        (s.fu.active.mode = .continuous ∧ s.fu.published.any Estimate.inFocus = true) then some .focused
      else none) ∧
    (s.rdu.s1.levelOf high = false → s.rdu.s1.held = false →
      exec (.releaseLineLevel .s1 high) s = .next { s with rdu := { s.rdu with
        s1 := { s.rdu.s1 with active := false, armed := true } } }) ∧
    (s.rdu.s2.levelOf high = false → s.rdu.s2.held = false →
      exec (.releaseLineLevel .s2 high) s = .next { s with rdu := { s.rdu with
        s2 := { s.rdu.s2 with active := false, armed := true } } }) ∧
    (s.rdu.s1.levelOf high = true → s.rdu.s1.armed = false →
      exec (.releaseLineLevel .s1 high) s = .next { s with rdu := { s.rdu with s1 := { s.rdu.s1 with active := true } } }) ∧
    (s.rdu.s2.levelOf high = true → s.rdu.s2.armed = false →
      exec (.releaseLineLevel .s2 high) s = .next { s with rdu := { s.rdu with s2 := { s.rdu.s2 with active := true } } }) ∧
    (s.pwc.latched = true →
      (down s.rdu.s1 → exec (.releaseLineLevel .s1 high) s = .next { s with rdu := { s.rdu with
        s1 := pressed s.rdu.s1 } }) ∧
      (down s.rdu.s2 → exec (.releaseLineLevel .s2 high) s = .next { s with rdu := { s.rdu with
        s2 := pressed s.rdu.s2 } })) ∧
    -- S1 pressed
    (down s.rdu.s1 → s.pwc.latched = false → s.pwc.responses = none → s.rdu.drive = .idle →
      settings.mode ≠ .precapture → s.rdu.viewOn = false → s.rdu.halfPress = false →
      (s.pwc.power = .run →
        ∃ t, exec (.releaseLineLevel .s1 high) s = .next t ∧
          t.rdu = { ready with s1 := pressed s.rdu.s1, halfPress := true } ∧
          t.sru = { s.sru with viewTimer := s.sru.running } ∧ t.fu.halfPress = true ∧ t.bm = s.bm ∧ t.mem = s.mem ∧
          t.de = s.de ∧ t.cw = s.cw ∧ t.tu = s.tu ∧ t.pwc = s.pwc) ∧
      (s.pwc.power = .quiet ∨ s.pwc.power = .halt → s.cp.latches.length = 19 →
        ∃ t, exec (.releaseLineLevel .s1 high) s = .next t ∧
          t.rdu = { ready with s1 := pressed s.rdu.s1, halfPress := true } ∧
          t.sru = { s.sru with running := true, viewTimer := true } ∧ t.pwc = { s.pwc with power := .run } ∧
          t.cp.latch .wake = { count := min 255 ((s.cp.latch .wake).count + 1), snapshot := some [0] })) ∧
    (down s.rdu.s1 → s.inRun → s.rdu.drive = .idle → settings.mode = .precapture → s.rdu.viewOn = false →
      s.rdu.halfPress = false → s.rdu.ring = [] → s.rdu.release = none →
      let rings : Rdu := { s.rdu with
        s1 := pressed s.rdu.s1, active := settings, pending := none, timer := true, burstId := s.rdu.nextBurst,
        nextBurst := (s.rdu.nextBurst + 1) % 65536, halfPress := true }
      (s.canCapture →
        ∃ t, exec (.releaseLineLevel .s1 high) s = .next t ∧
          t.rdu = { rings with
            drive := .precapturing, openRow := some s.bm.freeIndex,
            capture := some { row := s.bm.freeIndex, ofBurst := false } } ∧
          t.sru = { s.sru with
            readout := some { kind := .capture, reading := false, row := s.bm.freeIndex, gate := .releasePriority,
                              frameId := none, timestamp := 0, focusAt := .noLens, afTaken := false, lines := 0, bad := 0 },
            startTimer := true } ∧
          (t.bm.row? s.bm.freeIndex).map (fun r => (r.precapture, r.mark, r.burst, r.raw)) =
            some (true, some .opened, s.rdu.nextBurst, some { pages := s.bm.free.take 41, length := 42000064 }) ∧
          (s.tu.queue = [] → t.bm.free = s.bm.free.drop 41) ∧ t.fu.halfPress = true ∧ t.pwc = s.pwc) ∧
      (s.rdu.capture = none → s.sru.fault = false → s.bm.rows.length < 128 → s.bm.free.length < 41 + s.bm.reserve →
        ∃ t, exec (.releaseLineLevel .s1 high) s = .next t ∧ t.rdu = { rings with drive := .stalledPrecapturing } ∧
          t.sru = s.sru ∧ t.bm = s.bm ∧ t.fu.halfPress = true ∧ t.pwc = s.pwc)) ∧
    -- S2 pressed
    (down s.rdu.s2 → s.pwc.latched = false →
      (s.pwc.power ≠ .run ∨ s.rdu.drive ∈ [.idle, .waitingFocus, .firing, .stalledFiring] →
        exec (.releaseLineLevel .s2 high) s = .next { s with rdu := { s.rdu with s2 := pressed s.rdu.s2 } }) ∧
      (s.inRun → s.rdu.drive = .ready → s.rdu.viewOn = true → s.rdu.halfPress = true →
        (∀ g, s.canCapture →
          (s.rdu.active.priority = .release ∧ g = .releasePriority) ∨
            (s.rdu.active.priority = .focus ∧ s.fu.gate = some g) →
          ∃ t, exec (.releaseLineLevel .s2 high) s = .next t ∧
            t.rdu = { s.rdu with
              s2 := pressed s.rdu.s2, drive := .firing, viewOn := false, timer := true, focusWait := false,
              waiter := none, burstId := s.rdu.nextBurst, nextBurst := (s.rdu.nextBurst + 1) % 65536, counter := 1,
              phaseFire := true, remoteCount := s.rdu.remoteCount - 1,
              record := some { id := s.rdu.nextBurst, firstShot := 0, captured := 1, skipBusy := 0, skipBuffer := 0,
                               skipTable := 0, cause := .opened },
              release := some { single := decide (s.rdu.active.mode = .single), origin := .release, gate := g,
                                granted := true, ending := none },
              capture := some { row := s.bm.freeIndex, ofBurst := true } } ∧
            t.sru.readout.map Readout.row = some s.bm.freeIndex ∧ t.sru.startTimer = true ∧ t.sru.viewTimer = false ∧
            (t.bm.row? s.bm.freeIndex).bind Row.raw = some { pages := s.bm.free.take 41, length := 42000064 } ∧
            (s.tu.queue = [] → t.bm.free = s.bm.free.drop 41) ∧ t.fu = s.fu ∧ t.pwc = s.pwc) ∧
        (s.rdu.active.priority = .focus → s.fu.gate = none → s.rdu.s1.held = true →
          exec (.releaseLineLevel .s2 high) s = .next { s with rdu := { s.rdu with
            s2 := pressed s.rdu.s2, drive := .waitingFocus, focusWait := true, waiter := some .release } })) ∧
      (s.inRun → (s.rdu.drive = .precapturing ∨ s.rdu.drive = .stalledPrecapturing) → s.rdu.viewOn = false →
        s.rdu.halfPress = true → (s.bm.rows.map Row.index).Nodup →
        s.rdu.ring = (s.bm.rows.filter fun r => decide (r.life = .pre)).map Row.index →
        (∀ n ∈ s.bm.rows.filterMap Row.number, n < s.bm.nextNumber) → 1 ≤ s.bm.nextNumber →
        s.bm.nextNumber + s.rdu.ring.length ≤ 16777215 →
        ∃ t, exec (.releaseLineLevel .s2 high) s = .next t ∧
          t.rdu = { s.rdu with
            s2 := pressed s.rdu.s2, drive := .firing, ring := [], openRow := none, counter := 0, phaseFire := true,
            record := some { id := s.rdu.burstId, firstShot := if s.rdu.ring = [] then 0 else s.bm.nextNumber,
                             captured := s.rdu.ring.length + (if s.rdu.openRow.isSome then 1 else 0), skipBusy := 0,
                             skipBuffer := 0, skipTable := 0, cause := .opened },
            release := some { single := false, origin := .release, gate := .releasePriority, granted := false,
                              ending := none },
            capture := s.rdu.capture.map fun c =>
              if s.rdu.openRow = some c.row then { c with ofBurst := true } else c } ∧
          t.bm.rows.map Row.index = s.bm.rows.map Row.index ∧ (∀ r ∈ t.bm.rows, r.life ≠ .pre) ∧
          (t.bm.rows.filter fun r => s.rdu.ring.contains r.index).map Row.number =
            (List.range s.rdu.ring.length).map (fun k => some (s.bm.nextNumber + k)) ∧
          t.bm.nextNumber = s.bm.nextNumber + s.rdu.ring.length ∧
          (∀ r ∈ s.bm.rows, r.life = .exposing → r.mark = some .opened →
            ∃ y ∈ t.bm.rows, y.index = r.index ∧ y.life = .exposing ∧ y.mark = some .promoted) ∧
          t.pwc = s.pwc)) ∧
    -- S1 released
    (up s.rdu.s1 → s.pwc.latched = false → s.rdu.release = none → s.rdu.halfPress = true → s.fu.halfPress = true →
      (s.rdu.drive = .ready → s.rdu.waiter = none →
        ∃ t, exec (.releaseLineLevel .s1 high) s = .next t ∧ rests { s.rdu with s1 := released s.rdu.s1 } t ∧
          t.bm = s.bm ∧ t.mem = s.mem ∧ t.de = s.de ∧ t.cw = s.cw ∧ t.tu = s.tu) ∧
      (s.rdu.drive = .waitingFocus → s.rdu.waiter = some .release →
        ∃ t, exec (.releaseLineLevel .s1 high) s = .next t ∧
          rests { s.rdu with s1 := released s.rdu.s1, focusWait := false, waiter := none } t ∧
          t.bm = s.bm ∧ t.mem = s.mem ∧ t.de = s.de ∧ t.cw = s.cw ∧ t.tu = s.tu) ∧
      (s.rdu.drive = .precapturing ∨ s.rdu.drive = .stalledPrecapturing → s.rdu.waiter = none → s.backIdle →
        (s.bm.rows.map Row.index).Nodup →
        ∃ t, exec (.releaseLineLevel .s1 high) s = .next t ∧
          rests { s.rdu with s1 := released s.rdu.s1, ring := [], openRow := none } t ∧
          t.bm.rows = ((s.bm.rows.filter fun r => decide (r.life ≠ .pre)).map fun r =>
            if r.life = .exposing ∧ r.mark = some .opened then { r with mark := some .dropped } else r) ∧
          t.bm.free.Perm (s.bm.free ++
            ((s.bm.rows.filter fun r => decide (r.life = .pre)).map fun r => r.pagesOf .raw).flatten) ∧
          t.mem = s.mem ∧ t.cw = s.cw)) ∧
    -- S2 released
    (up s.rdu.s2 → s.pwc.latched = false → s.rdu.halfPress = true → s.fu.halfPress = true →
      (s.rdu.drive = .waitingFocus → s.rdu.waiter = some .release → s.rdu.release = none →
        (s.rdu.s1.held = true → s.rdu.viewOn = true → settings.mode ≠ .precapture →
          exec (.releaseLineLevel .s2 high) s = .next { s with rdu := { ready with
            s2 := released s.rdu.s2, focusWait := false, waiter := none } }) ∧
        (s.rdu.s1.held = false →
          ∃ t, exec (.releaseLineLevel .s2 high) s = .next t ∧
            rests { s.rdu with s2 := released s.rdu.s2, focusWait := false, waiter := none } t)) ∧
      (∀ x b, (s.rdu.drive = .firing ∨ s.rdu.drive = .stalledFiring) → s.rdu.release = some x → x.origin = .release →
        s.rdu.record = some b →
        (x.single = true ∧ x.granted = true →
          exec (.releaseLineLevel .s2 high) s = .next { s with rdu := { s.rdu with s2 := released s.rdu.s2 } }) ∧
        (¬ (x.single = true ∧ x.granted = true) →
          (s.rdu.capture.any Capture.ofBurst = true →
            exec (.releaseLineLevel .s2 high) s = .next { s with rdu := { s.rdu with
              s2 := released s.rdu.s2, release := some { x with ending := some (x.ending.getD .s2Up) } } }) ∧
          (s.rdu.capture.any Capture.ofBurst = false → x.ending = none → s.rdu.waiter = none →
            (s.rdu.s1.held = true → s.rdu.viewOn = false → settings.mode ≠ .precapture →
              exec (.releaseLineLevel .s2 high) s = .next (({ s with
                rdu := { ready with
                  s2 := released s.rdu.s2, record := some { b with cause := .s2Up }, release := none,
                  remoteCount := 0 },
                sru := { s.sru with viewTimer := s.sru.running } } : State).raised .burstEnd
                ({ b with cause := .s2Up } : BurstRecord).bytes)) ∧
            (s.rdu.s1.held = false →
              ∃ t, exec (.releaseLineLevel .s2 high) s = .next t ∧
                rests { s.rdu with s2 := released s.rdu.s2, record := some { b with cause := .s2Up }, release := none,
                                   remoteCount := 0 } t)))))

/-- R34, R35, R36, R37, R44: a remote release of 1 to 99 captures in IDLE or READY in RUN waits under FOCUS priority for
SINGLE autofocus that is not locked. Under RELEASE priority, or with a gate that passes, its burst opens at once with its
first capture. A count out of range draws BAD_ARG, and any other drive state STATE. That a count out of range is judged
before the power state and the drive is log entry 13. -/
def Obligations.RemoteReleaseWaitsForFocus : Prop :=
  ∀ (tag count : Byte) (s : State), s.answers → s.pwc.latched = false →
    (s.inRun → 1 ≤ count.toNat → count.toNat ≤ 99 → (s.rdu.drive = .idle ∨ s.rdu.drive = .ready) →
      s.rdu.active.priority = .focus → s.fu.active.mode = .single → s.fu.state ∈ [.idle, .seeking, .noTarget] →
      ∃ t n, exec (.remoteRelease tag [count]) s = .next t ∧
        n = (if s.rdu.active.mode = .single then 1 else count.toNat) ∧
        t.rdu = { s.rdu with
          remoteCount := n, waiter := some .remoteHost, focusWait := true, drive := .waitingFocus, viewOn := true,
          halfPress := true } ∧
        OutFrame.reply 0x88 tag [0, BitVec.ofNat 8 n] ∈ t.cp.queue ∧ t.bm = s.bm ∧ t.mem = s.mem ∧ t.de = s.de ∧
        t.cw = s.cw ∧ t.tu = s.tu ∧ t.pwc = s.pwc) ∧
    (∀ (g : GateOutcome) (n : Nat), s.inRun → 1 ≤ count.toNat → count.toNat ≤ 99 →
      (s.rdu.drive = .idle ∨ s.rdu.drive = .ready) → s.canCapture →
      ((s.rdu.active.priority = .release ∧ g = .releasePriority) ∨
        (s.rdu.active.priority = .focus ∧ g = .noLens ∧
          (s.fu.state = .noLens ∨ s.fu.state = .fault ∨ s.fu.active.mode = .manual)) ∨
        (s.rdu.active.priority = .focus ∧ g = .focused ∧ s.rdu.drive = .ready ∧ s.rdu.halfPress = true ∧
          ((s.fu.active.mode = .single ∧ s.fu.state = .locked) ∨
            (s.fu.active.mode = .continuous ∧ s.fu.state ∉ [.noLens, .fault] ∧
              s.fu.published.any Estimate.inFocus = true)))) →
      n = (if s.rdu.active.mode = .single then 1 else count.toNat) →
      ∃ t, exec (.remoteRelease tag [count]) s = .next t ∧
        t.rdu = { s.rdu with
          drive := .firing, viewOn := false, halfPress := true, timer := true, focusWait := false, waiter := none,
          burstId := s.rdu.nextBurst, nextBurst := (s.rdu.nextBurst + 1) % 65536, counter := 1, phaseFire := true,
          remoteCount := n - 1,
          record := some { id := s.rdu.nextBurst, firstShot := 0, captured := 1, skipBusy := 0, skipBuffer := 0,
                           skipTable := 0, cause := .opened },
          release := some { single := decide (s.rdu.active.mode = .single), origin := .remoteHost, gate := g,
                            granted := true, ending := none },
          capture := some { row := s.bm.freeIndex, ofBurst := true } } ∧
        t.sru.readout.map (fun o => (o.row, o.gate)) = some (s.bm.freeIndex, g) ∧ t.sru.startTimer = true ∧
        (t.bm.row? s.bm.freeIndex).map (fun r => (r.origin, r.burst, r.raw)) =
          some (.remoteHost, s.rdu.nextBurst, some { pages := s.bm.free.take 41, length := 42000064 }) ∧
        (s.tu.queue = [] → t.bm.free = s.bm.free.drop 41) ∧ t.pwc = s.pwc ∧
        OutFrame.reply 0x88 tag [0, BitVec.ofNat 8 n] ∈ t.cp.queue) ∧
    (count.toNat = 0 ∨ 99 < count.toNat →
      exec (.remoteRelease tag [count]) s = .next (s.replied .remoteRelease tag [3])) ∧
    (1 ≤ count.toNat → count.toNat ≤ 99 → s.rdu.drive ≠ .idle → s.rdu.drive ≠ .ready →
      exec (.remoteRelease tag [count]) s = .next (s.replied .remoteRelease tag [8]))

/-- R3, R14, R31, R37, R38, R39, R41, R51: while captures run, the frame timer makes an attempt. With one in flight or the
sensor in fault it is skipped as BUSY, with the table full as TABLE, with too few free pages as BUFFER: the burst counts
it, BUFFER_FULL is raised with the cause and the free count, and the drive is STALLED. When a capture can be made its row
joins the table, the first 41 free pages leave the pool, the readout opens and the drive is back in its state. A ring
frame becomes the open ring row; a ring at its depth, and one whose frame was denied, first loses its oldest row, and a
second denial is the skip, which no record counts. A timer that is stopped does nothing. -/
def Obligations.FrameTimerAttemptsACapture : Prop :=
  ∀ s : State, s.steady →
    let skipped (d : Drive) (c : SkipCause) (n : Nat) (t : State) : State :=
      ({ t with rdu := { t.rdu with
        drive := d,
        record := if t.rdu.release.isSome then t.rdu.record.map fun b => match c with
            | .busy => { b with skipBusy := min 65535 (b.skipBusy + 1) }
            | .buffer => { b with skipBuffer := min 65535 (b.skipBuffer + 1) }
            | .table => { b with skipTable := min 65535 (b.skipTable + 1) }
          else t.rdu.record } } : State).raised .bufferFull
        ((match c with | .busy => 0 | .buffer => 1 | .table => 2) :: leBytes 2 n)
    let opened (row : Nat) (gate : GateOutcome) : Sru := { s.sru with
      readout := some { kind := .capture, reading := false, row := row, gate := gate, frameId := none, timestamp := 0,
                        focusAt := .noLens, afTaken := false, lines := 0, bad := 0 },
      startTimer := true }
    let burst : Prop := s.rdu.drive = .firing ∨ s.rdu.drive = .stalledFiring
    let ring : Prop := s.rdu.drive = .precapturing ∨ s.rdu.drive = .stalledPrecapturing
    ((s.rdu.timer = false ∨ s.rdu.capturing = false ∨ s.rdu.barred = true) → exec .frameTimerExpiry s = .next s) ∧
    (s.rdu.timer = true → s.rdu.barred = false → s.rdu.viewOn = false → s.rdu.halfPress = true → s.pwc.latched = false →
      -- skips
      ((burst ∨ (ring ∧ s.rdu.s1.held = true)) →
        let stalled : Drive :=
          if s.rdu.drive = .firing ∨ s.rdu.drive = .stalledFiring then .stalledFiring else .stalledPrecapturing
        (s.rdu.capture ≠ none ∨ s.sru.fault = true →
          exec .frameTimerExpiry s = .next (skipped stalled .busy s.bm.free.length s)) ∧
        (s.rdu.capture = none → s.sru.fault = false → (ring → s.rdu.ring = []) →
          (128 ≤ s.bm.rows.length →
            exec .frameTimerExpiry s = .next (skipped stalled .table s.bm.free.length s)) ∧
          (s.bm.rows.length < 128 → s.bm.free.length < 41 + s.bm.reserve →
            exec .frameTimerExpiry s = .next (skipped stalled .buffer s.bm.free.length s)))) ∧
      -- captures of a burst
      (∀ x : Release, burst → s.rdu.release = some x → s.canCapture → s.pwc.responses = none → s.rdu.counter < 65535 →
        (s.rdu.record.map BurstRecord.captured).getD 0 < 65535 →
        ∃ t, exec .frameTimerExpiry s = .next t ∧
          t.rdu = { s.rdu with
            drive := .firing, counter := s.rdu.counter + 1, remoteCount := s.rdu.remoteCount - 1,
            release := some { x with granted := true },
            record := s.rdu.record.map fun b => { b with captured := b.captured + 1 },
            capture := some { row := s.bm.freeIndex, ofBurst := true } } ∧
          t.sru = opened s.bm.freeIndex x.gate ∧
          t.bm.rows.map (fun r => (r.index, r.origin, r.burst, r.look)) =
            s.bm.rows.map (fun r => (r.index, r.origin, r.burst, r.look)) ++
              [(s.bm.freeIndex, x.origin, s.rdu.burstId, s.rdu.active.look)] ∧
          (t.bm.row? s.bm.freeIndex).bind Row.raw = some { pages := s.bm.free.take 41, length := 42000064 } ∧
          (s.tu.queue = [] → t.bm.free = s.bm.free.drop 41) ∧ t.fu = s.fu ∧ t.pwc = s.pwc) ∧
      -- frames of the ring
      (ring → s.rdu.s1.held = true →
        (s.canCapture → s.pwc.responses = none → s.rdu.ring.length < s.rdu.active.depth →
          ∃ t, exec .frameTimerExpiry s = .next t ∧
            t.rdu = { s.rdu with
              drive := .precapturing, openRow := some s.bm.freeIndex,
              capture := some { row := s.bm.freeIndex, ofBurst := false } } ∧
            t.sru = opened s.bm.freeIndex .releasePriority ∧
            t.bm.rows.map (fun r => (r.index, r.origin, r.burst, r.look)) =
              s.bm.rows.map (fun r => (r.index, r.origin, r.burst, r.look)) ++
                [(s.bm.freeIndex, .precapture, s.rdu.burstId, s.rdu.active.look)] ∧
            (t.bm.row? s.bm.freeIndex).map (fun r => (r.precapture, r.mark, r.raw)) =
              some (true, some .opened, some { pages := s.bm.free.take 41, length := 42000064 }) ∧
            (s.tu.queue = [] → t.bm.free = s.bm.free.drop 41) ∧ t.fu = s.fu ∧ t.pwc = s.pwc) ∧
        (∀ i rest r c, s.rdu.ring = i :: rest → s.bm.row? i = some r → r.life = .pre → r.raw = some c → s.backIdle →
          s.rdu.capture = none → s.sru.fault = false →
          let b := s.bm.remove i
          let free := c.pages.foldr insertPage s.bm.free
          ((s.rdu.active.depth ≤ s.rdu.ring.length ∨ 128 ≤ s.bm.rows.length ∨ s.bm.free.length < 41 + s.bm.reserve) →
            b.rows.length < 128 → 41 + s.bm.reserve ≤ free.length → s.sru.readout = none → s.sru.running = true →
            s.pwc.responses = none →
            ∃ t, exec .frameTimerExpiry s = .next t ∧
              t.rdu = { s.rdu with
                drive := .precapturing, ring := rest, openRow := some b.freeIndex,
                capture := some { row := b.freeIndex, ofBurst := false } } ∧
              t.sru = opened b.freeIndex .releasePriority ∧
              t.bm.rows.map (fun r => (r.index, r.origin, r.burst, r.look)) =
                b.rows.map (fun r => (r.index, r.origin, r.burst, r.look)) ++
                  [(b.freeIndex, .precapture, s.rdu.burstId, s.rdu.active.look)] ∧
              t.bm.free = free.drop 41 ∧ t.fu = s.fu ∧ t.pwc = s.pwc) ∧
          (s.rdu.release = none → s.rdu.ring.length < s.rdu.active.depth → s.bm.free.length < 41 + s.bm.reserve →
            b.rows.length < 128 → free.length < 41 + s.bm.reserve →
            exec .frameTimerExpiry s = .next (skipped .stalledPrecapturing .buffer free.length
              (({ s with rdu := { s.rdu with ring := rest }, bm := b } : State).freed c.pages))))))

/-- R34, R36: when the focus wait expires the waiting release opens its burst with gate outcome WAIT_EXPIRED; no wait, no
effect. -/
def Obligations.FocusWaitExpiryOpensTheBurst : Prop :=
  ∀ s : State, s.steady →
    ((s.rdu.focusWait = false ∨ s.rdu.drive ≠ .waitingFocus) → exec .focusWaitExpiry s = .next s) ∧
    (∀ o : Origin, s.rdu.drive = .waitingFocus → s.rdu.focusWait = true → s.rdu.waiter = some o → s.canCapture →
      s.pwc.responses = none → (o.isRemote = true → 1 ≤ s.rdu.remoteCount) →
      ∃ t, exec .focusWaitExpiry s = .next t ∧ t.rdu.drive = .firing ∧ t.rdu.waiter = none ∧ t.rdu.focusWait = false ∧
        t.rdu.timer = true ∧ t.rdu.counter = 1 ∧ t.rdu.phaseFire = true ∧ t.rdu.burstId = s.rdu.nextBurst ∧
        t.rdu.nextBurst = (s.rdu.nextBurst + 1) % 65536 ∧
        t.rdu.record = some { id := s.rdu.nextBurst, firstShot := 0, captured := 1, skipBusy := 0, skipBuffer := 0,
                              skipTable := 0, cause := .opened } ∧
        (∃ x, t.rdu.release = some x ∧ x.gate = .waitExpired ∧ x.origin = o ∧ x.granted = true) ∧
        t.rdu.capture = some { row := s.bm.freeIndex, ofBurst := true } ∧ t.pwc = s.pwc)

/-! ### Shots and the shot table -/

/-- R13: SHOT_NUMBER_SET is taken with no row HELD or SETTLED, and refused otherwise, with BAD_ARG first for a number
outside 1..16777215. -/
def Obligations.ShotNumberSetJudgesItsNumber : Prop :=
  ∀ (tag : Byte) (n : Nat) (s : State), s.answers → n < 16777216 →
    exec (.shotNumberSet tag (leBytes 3 n)) s =
      if n = 0 then .next (s.replied .shotNumberSet tag [3])
      else if ∃ r ∈ s.bm.rows, r.life = .held ∨ r.life = .settled then .next (s.replied .shotNumberSet tag [8])
      else .next (({ s with bm := { s.bm with nextNumber := n } } : State).replied .shotNumberSet tag (0 :: leBytes 3 n))

/-- R5, R6: POOL_SET clamps the reserve to 0..400 and the threshold to 0..1000, and the reclaim signal follows. -/
def Obligations.PoolSetClampsAndSignals : Prop :=
  ∀ (tag : Byte) (a b : Nat) (s : State), s.answers → a < 65536 → b < 65536 → s.tu.queue = [] →
    exec (.poolSet tag (leBytes 2 a ++ leBytes 2 b)) s = .next (({ s with
      bm := { s.bm with reserve := min 400 a, threshold := min 1000 b },
      tu := { s.tu with reclaim := decide (s.bm.free.length < min 1000 b) } } : State).replied .poolSet tag
      (0 :: (leBytes 2 (min 400 a) ++ leBytes 2 (min 1000 b))))

/-- R18, R20: SHOT_PROTECT sets the flag of the shot's row and nothing else, but where auto-send PROTECTED asks for the
proof of a HELD shot; then an entry of priority 2 joins the send queue. When the queue is full the shot's tether duty is
FAILED(FULL), and a shot without a develop duty gets an URGENT one all the same (log entry 17). A row being discarded
draws STATE, an unknown number NO_SUCH_SHOT. -/
def Obligations.ShotProtectSetsTheFlag : Prop :=
  ∀ (tag : Byte) (n : Nat) (on : Bool) (s : State), s.answers → n < 16777216 →
    (s.bm.numbered? n = none →
      exec (.shotProtect tag (leBytes 3 n ++ [flagByte on])) s = .next (s.replied .shotProtect tag [4])) ∧
    (∀ r, s.bm.numbered? n = some r → r.discarding = true →
      exec (.shotProtect tag (leBytes 3 n ++ [flagByte on])) s = .next (s.replied .shotProtect tag [8])) ∧
    (∀ r, s.bm.numbered? n = some r → r.discarding = false →
      (on = false ∨ r.protect = true ∨ r.life ≠ .held ∨ s.tu.auto ≠ .protectedProofs) →
      exec (.shotProtect tag (leBytes 3 n ++ [flagByte on])) s = .next (({ s with
        bm := s.bm.mapRow r.index fun x => { x with protect := on } } : State).replied .shotProtect tag [0])) ∧
    (∀ r c, s.bm.numbered? n = some r → s.bm.row? r.index = some r → r.discarding = false → r.protect = false →
      r.life = .held → s.tu.auto = .protectedProofs → r.develop = .done → r.raw = none → r.proof = some c →
      r.tethers = [] → s.tu.queue = [] → s.tu.link ≠ .boundIdle →
      ∃ t, exec (.shotProtect tag (leBytes 3 n ++ [flagByte true])) s = .next t ∧
        t.tu = { s.tu with queue := [{ number := n, chain := .proof, kind := .duty, row := some r.index, sending := false,
                                       source := .buffer, copy := none, prio := 2, early := true }] } ∧
        t.bm = s.bm.mapRow r.index (fun x => { x with
          protect := true,
          tethers := x.tethers ++ [{ chain := .proof, state := .pending, source := .buffer, prio := 2, early := true,
                                     cause := none }] }) ∧
        t.rdu = s.rdu ∧ t.sru = s.sru ∧ t.fu = s.fu ∧ t.mem = s.mem ∧ t.de = s.de ∧ t.cw = s.cw ∧ t.pwc = s.pwc) ∧
    (∀ r c, s.bm.numbered? n = some r → s.bm.row? r.index = some r → r.discarding = false → r.protect = false →
      r.life = .held → s.tu.auto = .protectedProofs → r.develop = .absent → r.raw = some c → r.proof = none →
      r.tethers = [] → 64 ≤ s.tu.queue.length → s.tu.entry? n .proof = none →
      (∀ e ∈ s.tu.queue, e.chain = .proof → e.row ≠ some r.index) → s.de.engine = .running →
      (s.bm.rows.map Row.index).Nodup →
      (∃ d ∈ r.cards, d.chain = .raw ∧ d.state.isFinal = false) →
      ∃ t, exec (.shotProtect tag (leBytes 3 n ++ [flagByte true])) s = .next t ∧
        t.de = { s.de with urgent := s.de.urgent ++ [r.index] } ∧ t.tu.queue = s.tu.queue ∧
        t.bm = s.bm.mapRow r.index (fun x => { x with
          protect := true, develop := .pending, cls := .urgent,
          tethers := x.tethers ++ [{ chain := .proof, state := .failed, source := .buffer, prio := 2, early := true,
                                     cause := some .full }] }) ∧
        t.mem = s.mem ∧ t.cw = s.cw ∧ t.pwc = s.pwc)

/-- R16, R17, R19, R20: SHOT_DISCARD of a HELD shot ends every duty of its row that is not final: a develop duty that waits
and the tether duties are CANCELLED, a transfer in progress with an ABORT, and card duties that wait are FAILED(DISCARDED).
A RUNNING develop duty and a WRITING card duty are asked to stop; the reply counts them, and while one is left the row stays
HELD. Without any the chains are released and the row settles as DISCARDED. A second SHOT_DISCARD only counts. A protected
shot draws PROTECT, one that is not HELD STATE, an unknown number NO_SUCH_SHOT. That SHOT_SETTLED stands before the reply in
the outbound queue is log entry 59. -/
def Obligations.ShotDiscardSettlesTheRow : Prop :=
  ∀ (tag : Byte) (n : Nat) (s : State), s.answers → n < 16777216 →
    (s.bm.numbered? n = none → exec (.shotDiscard tag (leBytes 3 n)) s = .next (s.replied .shotDiscard tag [4])) ∧
    ∀ r : Row, (s.bm.rows.map Row.index).Nodup → s.bm.numbered? n = some r →
    let stopping : Nat :=
      (if r.develop = .running then 1 else 0) + (r.cards.filter fun d => decide (d.state = .writing)).length
    let ours (e : Entry) : Bool := decide (e.kind = .duty ∧ e.row = some r.index)
    (r.life = .held → r.protect = false → r.discarding = true →
      exec (.shotDiscard tag (leBytes 3 n)) s = .next (s.replied .shotDiscard tag
        [0, BitVec.ofNat 8 (stopping + (r.tethers.filter fun d => decide (d.state = .sending)).length)])) ∧
    (r.life = .held → r.protect = false → r.discarding = false →
      -- what runs and what waits for it
      (r.develop = .running → s.de.engine = .running ∧ s.de.job.any (fun j => decide (j.row = r.index)) = true) →
      (r.develop ≠ .pending → r.index ∉ s.de.urgent ∧ r.index ∉ s.de.normal) →
      (∀ d ∈ r.cards, d.state = .writing → (s.cw.slot d.slot).state = .writing) →
      (s.tu.queue.map fun e => (e.number, e.chain)).Nodup →
      (∀ d ∈ r.tethers, d.state.isFinal = false → ∃ e ∈ s.tu.queue, ours e = true ∧ e.chain = d.chain) →
      (∀ e ∈ s.tu.queue, ours e = true → e.sending = true → s.tu.active? = some e) →
      ∃ t z, exec (.shotDiscard tag (leBytes 3 n)) s = .next t ∧ t.bm.row? r.index = some z ∧ z.number = some n ∧
        z.discarding = true ∧ z.develop = (if r.develop = .pending then .cancelled else r.develop) ∧
        z.cards = (r.cards.map fun d =>
          if d.state.isFinal = true ∨ d.state = .writing then d
          else { d with state := .failed, cause := some .discarded, spoiled := false }) ∧
        z.tethers = (r.tethers.map fun d => if d.state.isFinal then d else { d with state := .cancelled, cause := none }) ∧
        (stopping = 0 → z.life = .settled ∧ z.outcome = some .discarded ∧ z.raw = none ∧ z.proof = none) ∧
        (stopping ≠ 0 → z.life = .held ∧ z.outcome = r.outcome) ∧
        (r.develop = .running → t.de.job = s.de.job.map fun j => { j with discard := true }) ∧
        (∀ d ∈ r.cards, d.state = .writing → Stop.discarded ∈ (t.cw.slot d.slot).stops) ∧
        (∀ e ∈ t.tu.queue, ours e = false) ∧
        (s.tu.link ≠ .boundIdle → (∀ e ∈ s.tu.queue, ours e = true → e.sending = false) →
          (t.tu.queue.map fun e => (e.number, e.chain)) =
            ((s.tu.queue.filter fun e => !ours e).map fun e => (e.number, e.chain))) ∧
        (∀ e x m desk, s.tu.link = .sending ∨ s.tu.link = .finishing → s.tu.transfer = some x → s.tu.active? = some e →
          ours e = true → e.sending = true → s.tu.settings.ownMac = some m → s.tu.bound = some desk →
          Output.desk (wireFrame desk m s.tu.settings.etherType 0x09 (leBytes 2 x.id ++ [0])) ∈ t.sent) ∧
        OutFrame.reply 0x97 tag [0, BitVec.ofNat 8 stopping] ∈ t.cp.queue) ∧
    (r.life ≠ .held → exec (.shotDiscard tag (leBytes 3 n)) s = .next (s.replied .shotDiscard tag [8])) ∧
    (r.life = .held → r.protect = true →
      exec (.shotDiscard tag (leBytes 3 n)) s = .next (s.replied .shotDiscard tag [5])) ∧
    (∀ c, r.life = .held → r.protect = false → r.discarding = false → r.develop = .pending →
      (∀ d ∈ r.cards, d.state.isFinal = true) → (∀ d ∈ r.tethers, d.state.isFinal = true) → r.raw = some c →
      r.proof = none → s.de.engine = .running → s.tu.queue = [] →
      exec (.shotDiscard tag (leBytes 3 n)) s =
        .next ((({ s.hears .shotDiscard with
          bm := { (s.bm.mapRow r.index fun x => { x with
              discarding := true, develop := .cancelled, raw := none, life := .settled, outcome := some .discarded })
            with free := c.pages.foldr insertPage s.bm.free },
          de := s.de.drop r.index,
          tu := { s.tu with
            reclaim := decide ((c.pages.foldr insertPage s.bm.free).length < s.bm.threshold) } } : State).raised
          .shotSettled (leBytes 3 n)).answered .shotDiscard tag [0, 0]))

/-- R7, R21: SHOT_COLLECT removes the first of the SETTLED and VOID rows, at most as many as asked for, reports them in
order and leaves every other row in its place; 0 or more than 8 draws BAD_ARG. That the number of rows removed is written
once, as the count of the list, is log entry 19. -/
def Obligations.ShotCollectRemovesFinishedRows : Prop :=
  ∀ (tag k : Byte) (s : State), s.answers → (s.bm.rows.map Row.index).Nodup →
    (k.toNat = 0 ∨ 8 < k.toNat → exec (.shotCollect tag [k]) s = .next (s.replied .shotCollect tag [3])) ∧
    (∀ gone, 1 ≤ k.toNat → k.toNat ≤ 8 →
      gone = (s.bm.rows.filter fun r => decide (r.life = .settled ∨ r.life = .void)).take k.toNat →
      exec (.shotCollect tag [k]) s = .next (({ s with
        bm := { s.bm with rows := s.bm.rows.filter fun r => decide (r ∉ gone) } } : State).replied .shotCollect tag
        (0 :: listBytes (gone.map Row.collectEntry))))

/-! ### Sensor readout -/

/-- R51, R52, R53, R63, R198: SENSOR_RESTART returns a sensor in FAULT to NORMAL with no missed starts and reports the
sensor and link states, the missed-start run (one byte of it: log entry 19), the readout and the waiting capture; the view
timer requests a view frame when no readout is in flight and no capture waits, and has no effect otherwise. -/
def Obligations.SensorRestartsAndViewsAreRequested : Prop :=
  ∀ (tag : Byte) (s : State), s.answers →
    (∀ u : Sru, u = (if s.sru.fault then { s.sru with fault := false, missed := 0 } else s.sru) →
      exec (.sensorRestart tag []) s = .next (({ s with sru := u } : State).replied .sensorRestart tag
        ([0, flagByte u.fault, if u.running then 0 else 1, BitVec.ofNat 8 u.missed] ++
          (match u.readout with
            | some o => match o.kind with
              | .view => [0, flagByte o.reading, 0xFF]
              | .capture => [1, flagByte o.reading, BitVec.ofNat 8 o.row]
            | none => absentBytes 3) ++
          [flagByte u.waiting.isSome]))) ∧
    (s.sru.viewTimer = true → s.sru.readout = none → s.sru.waiting = none → s.sru.running = true → s.sru.fault = false →
      exec .viewTimerExpiry s = .next { s with
        sru := { s.sru with
          readout := some { kind := .view, reading := false, row := 0, gate := .focused, frameId := none, timestamp := 0,
                            focusAt := .noLens, afTaken := false, lines := 0, bad := 0 },
          startTimer := true },
        sent := .frameRequest .view :: s.sent }) ∧
    (s.sru.viewTimer = false ∨ s.sru.readout ≠ none ∨ s.sru.waiting ≠ none ∨ s.sru.running = false ∨ s.sru.fault = true →
      exec .viewTimerExpiry s = .next s)

/-- R11, R14, R16, R39, R54, R55, R59, R60, R61: a readout that gives no complete frame ends at a missed start (NO_FRAME),
at the end limit (READOUT_TIMEOUT) or at an early end (SHORT_FRAME). The third missed start puts the sensor in FAULT and
raises SENSOR_FAULT. A view readout leaves nothing, and a waiting capture is then requested. The row of a capture of an
open burst, promoted ring rows with them, and that of the open ring frame lose their raw chain and are VOID with the
cause; a dropped ring row is removed. RDU sees the capture ended, and the burst goes on. -/
def Obligations.FailedCapturesAreVoid : Prop :=
  ∀ (s : State) (o : Readout), s.steady → s.sru.readout = some o → s.sru.fault = false →
    let gone (missed : Nat) (fault : Bool) (t : State) : State := { t with
      sru := { s.sru with readout := none, startTimer := false, endTimer := false, missed := missed, fault := fault } }
    -- the readout ends with a cause, which the rest of the part takes
    let ends (v : ShotOutcome → State) : Prop :=
      (o.reading = false → s.sru.startTimer = true →
        (s.sru.missed < 2 → exec .startTimerExpiry s = .next (gone (s.sru.missed + 1) false (v .noFrame))) ∧
        (s.sru.missed = 2 → exec .startTimerExpiry s = .next ((gone 3 true (v .noFrame)).raised .sensorFault []))) ∧
      (o.reading = true →
        (s.sru.endTimer = true → exec .endTimerExpiry s = .next (gone s.sru.missed false (v .readoutTimeout))) ∧
        ∀ n : BitVec 16, (o.kind = .view ∨ o.lines ≠ 4000 ∨ n.toNat < 4000) →
          exec (.frameEnd n) s = .next (gone s.sru.missed false (v .shortFrame)))
    (o.kind = .view →
      (s.sru.waiting = none → ends fun _ => s) ∧
      (∀ i g, s.sru.waiting = some (i, g) → s.sru.running = true →
        let sends (missed : Nat) : State := { s with
          sru := { s.sru with
            readout := some { kind := .capture, reading := false, row := i, gate := g, frameId := none, timestamp := 0,
                              focusAt := .noLens, afTaken := false, lines := 0, bad := 0 },
            waiting := none, startTimer := true, endTimer := false, missed := missed },
          sent := .frameRequest .capture :: s.sent }
        (o.reading = false → s.sru.startTimer = true → s.sru.missed < 2 →
          exec .startTimerExpiry s = .next (sends (s.sru.missed + 1))) ∧
        (o.reading = true →
          (s.sru.endTimer = true → exec .endTimerExpiry s = .next (sends s.sru.missed)) ∧
          ∀ n : BitVec 16, exec (.frameEnd n) s = .next (sends s.sru.missed)))) ∧
    (∀ r c, o.kind = .capture → s.sru.waiting = none → s.backIdle → s.bm.row? o.row = some r → r.life = .exposing →
      r.raw = some c →
      let void (x : Rdu) (cause : ShotOutcome) : State := ({ s with
        rdu := x,
        bm := s.bm.mapRow o.row fun y => { y with raw := none, life := .void, outcome := some cause, mark := none } } :
        State).freed c.pages
      (∀ x, r.mark ≠ some .dropped → s.rdu.capture = some { row := o.row, ofBurst := true } → s.rdu.openRow = none →
        s.rdu.release = some x → x.single = false → x.origin = .release → x.ending = none → s.rdu.active.limit = 0 →
        ends (void { s.rdu with capture := none })) ∧
      (r.mark = some .opened → s.rdu.capture = some { row := o.row, ofBurst := false } → s.rdu.openRow = some o.row →
        ends (void { s.rdu with capture := none, openRow := none })) ∧
      (r.mark = some .dropped → s.rdu.capture = some { row := o.row, ofBurst := false } → s.rdu.openRow = none →
        ends fun _ => ({ s with rdu := { s.rdu with capture := none }, bm := s.bm.remove o.row } : State).freed c.pages))

/-- R46, R56, R62, R64, R68, R90: a FRAME_START that fits the readout makes it READING with the frame's id and time; for
a view or capture frame an attached lens is asked for its position, unless a QUERY is outstanding, and FU opens the frame's
record; of a capture the row takes the time and the flash decision, and an open or dropped ring row never fires. With the
sensor link STOPPED, as in QUIET, nothing of it reaches FU and the lens is not asked. One that does not fit has no
effect. -/
def Obligations.FrameStartsOpenTheReading : Prop :=
  ∀ (kind : FrameKind) (id : BitVec 16) (ready : Bool) (s : State), s.steady →
    let reading (o : Readout) : Sru := { s.sru with
      startTimer := false, missed := 0, endTimer := true,
      readout := some { o with reading := true, frameId := some id.toNat, timestamp := s.now, focusAt := s.fu.state } }
    ((s.sru.readout = none ∨ ∃ o, s.sru.readout = some o ∧ (o.reading = true ∨ o.kind ≠ kind)) →
      exec (.frameStart kind id ready) s = .next s) ∧
    (∀ o, s.sru.readout = some o → o.reading = false → o.kind = .view → s.sru.running = true → s.fu.live = true →
      s.fu.frame = none → s.fu.query = false → s.inRun →
      exec (.frameStart .view id ready) s = .next { s with
        sru := reading o,
        fu := { s.fu with
          frame := some { frameId := id.toNat, kind := .view, timestamp := s.now, settled := false, position := none,
                          moving := false, formed := none },
          query := true, bare := false },
        sent := .lensQuery :: s.sent }) ∧
    (∀ o, s.sru.readout = some o → o.reading = false → o.kind = .view → s.sru.running = false →
      exec (.frameStart .view id ready) s = .next { s with sru := reading o }) ∧
    (∀ o r, s.sru.readout = some o → o.reading = false → o.kind = .capture → s.bm.row? o.row = some r →
      let f : Flash × Bool × Bool :=
        if r.mark = some .opened ∨ r.mark = some .dropped then (.notFired, s.rdu.phaseFire, false)
        else match s.rdu.active.flash, s.rdu.phaseFire with
          | .off, phase => (.notFired, phase, false)
          | .front, phase => (if ready then .fired else .notReady, phase, ready)
          | .alternate, true => (if ready then .fired else .notReady, false, ready)
          | .alternate, false => (.notFired, true, false)
      let starts (fu : Fu) (sent : List Output) : State := { s with
        sru := reading o, fu := fu,
        rdu := { s.rdu with phaseFire := f.2.1 },
        bm := s.bm.mapRow o.row fun y => { y with timestamp := s.now, flash := f.1 },
        sent := if f.2.2 then .flashPulse :: sent else sent }
      (s.sru.running = false → exec (.frameStart .capture id ready) s = .next (starts s.fu s.sent)) ∧
      (s.sru.running = true → s.fu.live = false →
        exec (.frameStart .capture id ready) s = .next (starts { s.fu with frame := none } s.sent)) ∧
      (s.sru.running = true → s.fu.live = true → s.inRun →
        (∀ g, s.fu.frame = some g → g.formed = none ∨ g.settled = true) →
        exec (.frameStart .capture id ready) s = .next (starts { s.fu with
          frame := some { frameId := id.toNat, kind := .capture, timestamp := s.now, settled := false, position := none,
                          moving := false, formed := none },
          query := true, bare := false } (if s.fu.query then s.sent else .lensQuery :: s.sent))))

/-- R57, R58, R62, R64, R90: the first AF block of a frame is kept with the estimates formed from it, a second has no
effect, and with the sensor link STOPPED, as in QUIET, none reaches FU; a line of a view frame goes out on the view
output, a line of a capture goes into the raw chain after the header, counted as damage when its length or CRC is wrong;
data with no readout, and lines past 4000, have no effect. -/
def Obligations.FrameDataGoesToItsPlace : Prop :=
  ∀ (zones : List AfZone) (samples : List Byte) (crc : BitVec 16) (s : State), s.steady →
    (s.sru.readout = none → exec (.afBlock zones) s = .next s ∧ exec (.imageLine samples crc) s = .next s) ∧
    (∀ o, s.sru.readout = some o → o.afTaken = true → exec (.afBlock zones) s = .next s) ∧
    (∀ o f, s.sru.readout = some o → o.reading = true → o.afTaken = false → s.sru.running = true → s.fu.live = true →
      s.fu.frame = some f → o.frameId = some f.frameId → f.settled = false → s.fu.requested = none →
      exec (.afBlock zones) s = .next { s with
        sru := { s.sru with readout := some { o with afTaken := true } },
        fu := { s.fu with frame := some { f with formed := some (zones.map (shapeOf s.fu.active)) } } }) ∧
    (∀ o, s.sru.readout = some o → o.reading = true → o.afTaken = false → o.frameId ≠ none → s.sru.running = false →
      exec (.afBlock zones) s = .next { s with sru := { s.sru with readout := some { o with afTaken := true } } }) ∧
    (∀ o, s.sru.readout = some o → o.reading = true → o.kind = .view →
      exec (.imageLine samples crc) s = .next { s with sent := .viewLine samples crc :: s.sent }) ∧
    (∀ o, s.sru.readout = some o → o.reading = true → o.kind = .capture → 4000 ≤ o.lines →
      exec (.imageLine samples crc) s = .next s) ∧
    (∀ o r c bad, s.sru.readout = some o → o.reading = true → o.kind = .capture → o.lines < 4000 →
      s.bm.row? o.row = some r → r.raw = some c →
      bad = (if samples.length = 10500 ∧ crc16 samples = crc then o.bad else o.bad + 1) →
      exec (.imageLine samples crc) s = .next { s with
        sru := { s.sru with readout := some { o with lines := o.lines + 1, bad := bad } },
        bm := s.bm.mapRow o.row fun y => { y with damage := bad },
        mem := chainWrite s.mem c.pages (64 + 10500 * o.lines)
          (samples.take 10500 ++ List.replicate (10500 - (samples.take 10500).length) 0) })

/-- R10, R12, R15, R61, R128, R129: the end of a complete capture writes the focus record and the chain header. A frame of
the open ring becomes PRE and joins the ring list, and a dropped ring row is removed. Any other row enters HELD with the
next shot number, SHOT_HELD is raised, and its duties are created: card RAW duties by the policy, a develop duty when a
proof is wanted, card PROOF duties, and under ALL_PROOFS the send of the proof, which makes the develop duty URGENT; with
a full send queue the tether duty is FAILED(FULL) instead. The duties of a slot that is ABSENT or PRESENT wait for it, and those of one that
writes join its write queue; with a LOCKED or FAULT slot alone and nothing to develop the row settles at once. That B
stands before A among the PROOF duties of SPLIT is log entry 18, and the order of the notices log entries 51 and 57. -/
def Obligations.CompleteFramesEnterHeldOrTheRing : Prop :=
  ∀ (s : State) (n : BitVec 16) (o : Readout) (r : Row) (c : RawChain), s.steady → (s.bm.rows.map Row.index).Nodup →
    s.sru.readout = some o → o.reading = true → o.kind = .capture → o.lines = 4000 → 4000 ≤ n.toNat →
    s.bm.row? o.row = some r → r.index = o.row → r.life = .exposing → r.raw = some c →
    let f : FocusRecord :=
      { position := (s.fu.positionFor (o.frameId.getD 0)).1, moving := (s.fu.positionFor (o.frameId.getD 0)).2,
        state := o.focusAt, zone := s.fu.zone, inFocus := s.fu.published.map Estimate.inFocus,
        predicted := s.fu.published.map Estimate.predicted, gate := o.gate }
    let header := headerBytesOf r f.position f.moving f.state
    let closed : State := { s with
      sru := { s.sru with readout := none, startTimer := false, endTimer := false },
      rdu := { s.rdu with capture := none },
      mem := chainWrite s.mem c.pages 0 header }
    (r.mark = some .opened → s.rdu.openRow = some o.row → s.rdu.capture = some { row := o.row, ofBurst := false } →
      exec (.frameEnd n) s = .next { closed with
        rdu := { closed.rdu with openRow := none, ring := s.rdu.ring ++ [o.row] },
        bm := s.bm.mapRow o.row fun y => { y with focus := some f, life := .pre, mark := none } }) ∧
    (r.mark = some .dropped → s.rdu.openRow = none → s.rdu.capture = some { row := o.row, ofBurst := false } →
      s.backIdle →
      exec (.frameEnd n) s = .next (({ closed with bm := s.bm.remove o.row } : State).freed c.pages)) ∧
    (∀ x b, r.mark ≠ some .opened → r.mark ≠ some .dropped → s.rdu.openRow = none →
      s.rdu.capture = some { row := o.row, ofBurst := true } → s.bm.numbered? s.bm.nextNumber = none →
      r.develop = .absent → r.proof = none → r.cards = [] → r.tethers = [] →
      s.rdu.release = some x → x.single = false → x.origin = .release → x.ending = none → s.rdu.active.limit = 0 →
      s.rdu.record = some b → b.firstShot = 0 →
      let shot := s.bm.nextNumber
      let held (g : Row → Row) (t : State) : State := { t with
        rdu := { t.rdu with record := some { b with firstShot := shot } },
        bm := { (s.bm.mapRow o.row fun y => g { y with
            focus := some f, number := some shot, life := .held, mark := none, policy := some s.cw.policy })
          with nextNumber := if shot = 16777215 then 1 else shot + 1 },
        mem := chainWrite t.mem c.pages 2 (leBytes 3 shot) }
      -- the duties, where each wanted slot is without a card of the part or writes
      (s.cw.a.state ∈ [.absent, .present, .writing, .suspended] → s.cw.b.state ∈ [.absent, .present, .writing, .suspended] →
        s.de.engine = .running → o.row ∉ s.de.normal ++ s.de.urgent → s.tu.link ≠ .boundIdle → s.tu.transfer = none →
        s.tu.underTimer = false →
        let slots : List SlotId := match s.cw.policy with
          | .mirror => [.a, .b]
          | .overflow =>
            if (s.cw.a.state = .writing ∨ s.cw.a.state = .suspended) ∧ 82032 ≤ s.cw.a.queued then [.a] else [.b]
          | .split | .singleA => [.a]
          | .singleB => [.b]
        let proofs : List SlotId := (if s.cw.policy = .split then [.b] else []) ++ (if s.cw.proofs then slots else [])
        let wanted : Bool := decide (s.tu.auto = .allProofs ∧ s.tu.entry? shot .proof = none)
        let sends : Bool := wanted && decide (s.tu.queue.length < 64)
        let full : Bool := wanted && decide (64 ≤ s.tu.queue.length)
        let develops : Bool := s.de.auto || decide (proofs ≠ []) || decide (s.tu.auto = .allProofs)
        let waits (i : SlotId) : Bool := decide ((s.cw.slot i).state = .absent ∨ (s.cw.slot i).state = .present)
        let card (i : SlotId) (h : Chain) (st : CardState) : CardDuty :=
          { slot := i, chain := h, state := st, pieces := [], spoiled := false, cause := none, reassigned := false }
        let joined (i : SlotId) : Slot :=
          let y := s.cw.slot i
          let q : DutyRef := { row := o.row, place := slots.findIdx (· = i) }
          if i ∉ slots then y else if waits i then { y with waitQ := y.waitQ ++ [q] } else { y with writeQ := y.writeQ ++ [q] }
        let e : Entry := { number := shot, chain := .proof, kind := .duty, row := some o.row, sending := false,
                           source := .buffer, copy := none, prio := 1, early := true }
        let t := (({ held (fun y => { y with
            cards := (slots.map fun i => card i .raw (if waits i then .waitingSlot else .pending)) ++
              (proofs.map fun i => card i .proof .waitingSource),
            develop := if develops then .pending else .absent,
            cls := if sends then .urgent else if develops then .normal else y.cls,
            tethers := if wanted then [{ chain := .proof, state := if full then .failed else .pending, source := .buffer,
                                         prio := 1, early := true, cause := if full then some .full else none }]
              else [] }) closed with
          cw := { s.cw with a := joined .a, b := joined .b },
          de := { s.de with
            normal := if develops && !sends then s.de.normal ++ [o.row] else s.de.normal,
            urgent := if sends then s.de.urgent ++ [o.row] else s.de.urgent },
          tu := { s.tu with queue := if sends then insertTail e s.tu.queue else s.tu.queue } } : State).raised .shotHeld
            (leBytes 3 shot))
        exec (.frameEnd n) s = .next (if full then t.raised .sendFailed (leBytes 3 shot ++ [1, 2]) else t)) ∧
      -- nothing can be stored and nothing is to be developed
      (∀ i, (s.cw.policy = .singleA ∧ i = .a) ∨ (s.cw.policy = .singleB ∧ i = .b) → s.cw.proofs = false →
        s.de.auto = false → s.tu.auto ≠ .allProofs → s.backIdle → r.discarding = false →
        ∀ cause : CardCause, ((s.cw.slot i).state = .locked ∧ cause = .locked) ∨
          ((s.cw.slot i).state = .fault ∧ cause = .fault) →
        exec (.frameEnd n) s = .next ((((((held (fun y => { y with
          life := .settled, raw := none, outcome := some .noCopy,
          cards := [{ slot := i, chain := .raw, state := .failed, pieces := [], spoiled := false, cause := some cause,
                      reassigned := false }] }) closed).freed c.pages).raised .shotHeld (leBytes 3 shot)).raised
          .storeFailed (leBytes 3 shot ++ [slotByte i, cause.byte])).raised .shotSettled (leBytes 3 shot)))))

/-! ### Focus -/

/-- R67, R72, R73: a valid LENS_ATTACH with no move in flight takes the descriptor, forgets the old lens and sends a first
QUERY; a move in flight draws BUSY and a descriptor out of range BAD_ARG. LENS_DETACH leaves NO_LENS; that it leaves the
tracking record at the start zone is the model's reading (log entry 32). That FOCUS_STATE stands before the reply in the
outbound queue is log entry 59. -/
def Obligations.LensAttachAndDetach : Prop :=
  ∀ (tag : Byte) (m k o : Nat) (t : Byte) (s : State), s.answers → m < 65536 → k < 65536 → o < 65536 →
    let p := leBytes 2 m ++ leBytes 2 k ++ [t] ++ leBytes 2 o
    let d : Descriptor :=
      { lensMax := m, k16 := k, tolerance := t.toNat, timeout := if o = 0 then 300 else max 50 (min 2000 o) }
    (m = 0 ∨ 32767 < m ∨ k = 0 ∨ 32767 < k ∨ t = 0 →
      exec (.lensAttach tag p) s = .next (s.replied .lensAttach tag [3])) ∧
    (1 ≤ m → m ≤ 32767 → 1 ≤ k → k ≤ 32767 → t ≠ 0 → s.fu.move ≠ none →
      exec (.lensAttach tag p) s = .next (s.replied .lensAttach tag [6])) ∧
    (1 ≤ m → m ≤ 32767 → 1 ≤ k → k ≤ 32767 → t ≠ 0 → s.fu.move = none → s.inRun → s.fu.halfPress = false →
      s.rdu.drive ≠ .waitingFocus →
      exec (.lensAttach tag p) s = .next ((({ s.hears .lensAttach with
        fu := { s.fu with
          descriptor := some d, known := false, moving := false, missing := 0, query := true, bare := true,
          firstQuery := false, frame := none, speed := 20, array := none, current := none, previous := none,
          published := none, tracking := Tracking.start s.fu.active, seek := 0, state := .idle },
        sent := .lensQuery :: (s.hears .lensAttach).sent } : State).raised .focusState [1, 0xFF, 0xFF]).answered
        .lensAttach tag
          (0 :: d.bytes))) ∧
    (s.fu.state ≠ .noLens → s.rdu.drive ≠ .waitingFocus →
      exec (.lensDetach tag []) s = .next ((({ s.hears .lensDetach with
        fu := { s.fu with
          descriptor := none, query := false, bare := false, firstQuery := false, move := none, moveTimer := false,
          frame := none, array := none, current := none, previous := none, published := none,
          tracking := Tracking.start s.fu.active, missing := 0, known := false, state := .noLens } } : State).raised
        .focusState [0, 0xFF, 0xFF]).answered .lensDetach tag [0]))

/-- R75, R87: AF settings become active at once with no half-press, and wait for the next AF block with a live lens and
the half-press. LENS_MOVE sends its MOVE and LENS_HALT its HALT; both are refused without a known position, or in
CONTINUOUS mode while an AF move is in flight. -/
def Obligations.FocusIsSetAndMovedByTheHost : Prop :=
  ∀ (tag : Byte) (n : AfSettings) (target : Nat) (s : State), s.answers → n.startCol ≤ 12 → n.startRow ≤ 8 →
    n.cMin ≤ 131040 → n.dMin ≤ 262080 → target < 65536 →
    (s.fu.live = true → s.fu.halfPress = true →
      exec (.afSet tag n.bytes) s = .next (({ s with fu := { s.fu with requested := some n } } : State).replied .afSet tag
        (0 :: (n.bytes ++ [1])))) ∧
    (s.fu.halfPress = false → s.fu.move = none → s.rdu.drive ≠ .waitingFocus →
      exec (.afSet tag n.bytes) s = .next (({ s with
        fu := if n.area = s.fu.active.area ∧ n.startCol = s.fu.active.startCol ∧ n.startRow = s.fu.active.startRow
          then { s.fu with active := n, requested := none }
          else { s.fu with active := n, requested := none, tracking := Tracking.start n, seek := 0 } } : State).replied
        .afSet tag (0 :: (n.bytes ++ [0])))) ∧
    (s.fu.live = false ∨ s.fu.known = false →
      exec (.lensMove tag (0 :: leBytes 2 target)) s = .next (s.replied .lensMove tag [0x0D]) ∧
      exec (.lensHalt tag (1 :: leBytes 2 target)) s = .next (s.replied .lensMove tag [0x0D])) ∧
    (s.fu.live = true → s.fu.known = true → s.inRun → s.fu.active.mode = .continuous →
      (∃ m, s.fu.move = some m ∧ m.origin = .af) →
      (∀ d, s.fu.descriptor = some d → target ≤ d.lensMax →
        exec (.lensMove tag (0 :: leBytes 2 target)) s = .next (s.replied .lensMove tag [0x0C])) ∧
      exec (.lensHalt tag (1 :: leBytes 2 target)) s = .next (s.replied .lensMove tag [0x0C])) ∧
    (∀ d, s.fu.live = true → s.fu.known = true → s.inRun → s.fu.descriptor = some d → target ≤ d.lensMax →
      s.fu.move = none → target ≠ s.fu.position →
      exec (.lensMove tag (0 :: leBytes 2 target)) s = .next (({ s.hears .lensMove with
        fu := { s.fu with
          move := some { target := target, origin := .host, startPos := s.fu.position, startTime := s.now,
                         halted := false },
          moveTimer := true, moving := true },
        sent := .lensMove target :: (s.hears .lensMove).sent } : State).answered .lensMove tag
          (0 :: (leBytes 2 s.fu.position ++ [1] ++ leBytes 2 target)))) ∧
    (∀ m, s.fu.live = true → s.fu.known = true → s.inRun → s.fu.active.mode ≠ .continuous → s.fu.move = some m →
      m.halted = false →
      exec (.lensHalt tag (1 :: leBytes 2 target)) s = .next (({ s.hears .lensMove with
        fu := { s.fu with move := some { m with halted := true } },
        sent := .lensHalt :: (s.hears .lensMove).sent } : State).answered .lensMove tag
          (0 :: (leBytes 2 s.fu.position ++ [flagByte s.fu.moving] ++ leBytes 2 m.target))))

/-- R67, R68, R69, R71, R74: POS answers the outstanding QUERY and settles its frame; ARRIVED ends the move and, after at
least 50 steps without a HALT, sets the lens speed, and with no move in flight only updates the lens record; with no live
lens it is discarded. An answer timer counts a missing answer and settles the frame with the held position, as a POS of it
would, or without one when none is known; the third, like a move timer, puts the lens in FAULT with LENS_FAULT and
FOCUS_STATE raised. -/
def Obligations.LensAnswersAndTimers : Prop :=
  ∀ (p : BitVec 16) (moving : Bool) (s : State), s.steady → s.rdu.drive ≠ .waitingFocus →
    (s.fu.query = false ∨ s.fu.live = false → exec (.pos p moving) s = .next s) ∧
    (s.fu.live = true → s.inRun → s.fu.query = true → s.fu.bare = true →
      exec (.pos p moving) s = .next { s with fu := { s.fu with
        query := false, bare := false, position := p.toNat, moving := moving, known := true, missing := 0 } }) ∧
    (∀ f, s.fu.live = true → s.inRun → s.fu.query = true → s.fu.bare = false → s.fu.frame = some f → f.settled = false →
      f.formed = none →
      exec (.pos p moving) s = .next { s with fu := { s.fu with
        query := false, position := p.toNat, moving := moving, known := true, missing := 0,
        frame := some { f with settled := true, position := some p.toNat, moving := moving } } }) ∧
    (∀ m, s.fu.live = true → s.inRun → s.fu.move = some m → m.halted = false →
      50 ≤ (p.toNat - m.startPos) + (m.startPos - p.toNat) → m.startTime < s.now →
      exec (.arrived p) s = .next { s with fu := { s.fu with
        position := p.toNat, moving := false, known := true, missing := 0, move := none, moveTimer := false,
        speed := min 32767 (max 1
          (((p.toNat - m.startPos) + (m.startPos - p.toNat)) * 1000 / (s.now - m.startTime))) } }) ∧
    (∀ m, s.fu.live = true → s.inRun → s.fu.move = some m →
      (m.halted = true ∨ (p.toNat - m.startPos) + (m.startPos - p.toNat) < 50) →
      exec (.arrived p) s = .next { s with fu := { s.fu with
        position := p.toNat, moving := false, known := true, missing := 0, move := none, moveTimer := false } }) ∧
    (s.fu.live = false → exec (.arrived p) s = .next s) ∧
    (s.fu.live = true → s.inRun → s.fu.move = none → s.fu.moveTimer = false →
      exec (.arrived p) s = .next { s with fu := { s.fu with
        position := p.toNat, moving := false, known := true, missing := 0 } }) ∧
    (s.fu.query = false → exec .answerTimerExpiry s = .next s) ∧
    (∀ f, s.fu.query = true → s.fu.bare = false → s.fu.frame = some f → f.settled = false →
      (f.formed = none →
        let missed : Fu := { s.fu with
          query := false, missing := s.fu.missing + 1,
          frame := some { f with
            settled := true, position := if s.fu.known then some s.fu.position else none, moving := s.fu.moving } }
        (s.fu.missing < 2 → exec .answerTimerExpiry s = .next { s with fu := missed }) ∧
        (s.fu.missing = 2 → s.fu.state ≠ .fault →
          exec .answerTimerExpiry s = .next ((({ s with fu := { missed with
            bare := false, moveTimer := false, move := none, published := none, state := .fault } } : State).raised
            .lensFault []).raised .focusState [7, 0xFF, 0xFF]))) ∧
      (s.fu.live = true → s.inRun → s.fu.known = true → p.toNat = s.fu.position → moving = s.fu.moving →
        s.fu.missing < 2 →
        ∃ t, exec (.pos p moving) s = .next t ∧
          exec .answerTimerExpiry s = .next { t with fu := { t.fu with missing := s.fu.missing + 1 } })) ∧
    (s.fu.query = true → s.fu.frame = none → s.fu.missing < 2 →
      exec .answerTimerExpiry s = .next { s with fu := { s.fu with
        query := false, bare := false, missing := s.fu.missing + 1 } }) ∧
    (s.fu.query = true → s.fu.frame = none → s.fu.missing = 2 → s.fu.state ≠ .fault →
      exec .answerTimerExpiry s = .next ((({ s with fu := { s.fu with
        query := false, bare := false, missing := 3, moveTimer := false, move := none, published := none,
        state := .fault } } : State).raised .lensFault []).raised .focusState [7, 0xFF, 0xFF])) ∧
    (s.fu.moveTimer = false → exec .moveTimerExpiry s = .next s) ∧
    (s.fu.moveTimer = true → s.fu.state ≠ .fault →
      exec .moveTimerExpiry s = .next ((({ s with fu := { s.fu with
        query := false, bare := false, moveTimer := false, move := none, published := none, state := .fault } } :
        State).raised .lensFault []).raised .focusState [7, 0xFF, 0xFF]))

/-- R79, R80, R81, R82, R83, R84, R85, R86: a POS that settles a frame whose estimates are formed completes it. Of the
valid zones of the area's set the winner is the start zone in SPOT, the largest target in GROUP, and in TRACK the target
nearest the held one; ties go to the larger target, then the lower row and column. In CONTINUOUS with prediction on and a
valid previous entry at most 500,000 us old the move target is predicted; otherwise it is the target. The estimate is
published and kept, and the tracking record follows it. SEEKING then locks within the tolerance and moves the lens to the
target elsewhere, TRACKING and LOST go on in TRACKING and move it to the move target, and the other states stand. With no
valid zone the estimate is invalid and nothing moves; the 30th in SEEKING gives NO_TARGET, and with area TRACK the fifth
in TRACKING gives LOST. FOCUS_STATE is raised when the state changes. -/
def Obligations.CompletedFramesSelectAndReact : Prop :=
  ∀ (p : BitVec 16) (moving : Bool) (s : State) (d : Descriptor) (f : FrameRecord) (shapes : List ZoneShape), s.inRun →
    s.rdu.drive ≠ .waitingFocus → s.fu.descriptor = some d → s.fu.live = true → s.fu.query = true → s.fu.bare = false →
    s.fu.frame = some f → f.settled = false → f.formed = some shapes →
    let v := s.fu
    let near (a b : Nat) : Bool := decide (a ≤ b + 1 ∧ b ≤ a + 1)
    let inSet (c r : Nat) : Bool := match v.active.area with
      | .spot => decide (c = v.active.startCol ∧ r = v.active.startRow)
      | .group => near c v.active.startCol && near r v.active.startRow
      | .track => near c v.tracking.col && near r v.tracking.row
    let stepsOf (z : ZoneShape) : Int := roundAway (z.p16 * d.k16) 256
    -- the target of a zone, if it is a valid one of the area's set
    let target? (c r : Nat) : Option Nat :=
      if c ≤ 12 ∧ r ≤ 8 ∧ inSet c r = true then
        (shapes[13 * r + c]?).bind fun z =>
          if z.validity = .valid ∨ z.validity = .outOfRange then some (max 0 (min (p.toNat + stepsOf z) d.lensMax)).toNat
          else none
      else none
    let far (x : Nat) : Nat := match v.active.area, v.tracking.held with
      | .track, some h => (x - h) + (h - x)
      | _, _ => 0
    let beats (c r x c2 r2 y : Nat) : Prop :=
      far x < far y ∨ (far x = far y ∧ (y < x ∨ (y = x ∧ (r < r2 ∨ (r = r2 ∧ c ≤ c2)))))
    -- what every completion does, with the estimate, the state, the seek count and the MOVE it leads to
    let completed (e : Estimate) (st : FocusState) (seek : Nat) (move : Option Nat) (t : State) : Prop :=
      t.fu.published = some e ∧ t.fu.current = some e ∧ t.fu.previous = v.current ∧ t.fu.state = st ∧ t.fu.seek = seek ∧
      t.fu.query = false ∧ t.fu.position = p.toNat ∧ t.fu.known = true ∧ t.fu.missing = 0 ∧
      t.fu.frame = some { f with settled := true, position := some p.toNat, moving := moving } ∧
      t.cp = (if st = v.state then s.cp else s.cp.raise .focusState (st.byte :: (match e.zone with
        | some z => [BitVec.ofNat 8 z.1, BitVec.ofNat 8 z.2]
        | none => [0xFF, 0xFF]))) ∧
      (move = none → t.fu.move = v.move ∧ t.fu.moving = moving ∧ t.sent = s.sent) ∧
      (∀ y, move = some y →
        (v.move = none → y = p.toNat → t.fu.move = none ∧ t.sent = s.sent) ∧
        (v.move = none → y ≠ p.toNat → t.sent = .lensMove y :: s.sent ∧ t.fu.moving = true ∧ t.fu.moveTimer = true ∧
          t.fu.move = some { target := y, origin := .af, startPos := p.toNat, startTime := s.now, halted := false }) ∧
        (∀ m, v.move = some m → y = m.target → t.fu.move = some m ∧ t.sent = s.sent) ∧
        (∀ m, v.move = some m → y ≠ m.target → t.sent = .lensMove y :: s.sent ∧ t.fu.moveTimer = true ∧
          t.fu.move = some { m with target := y, origin := .af })) ∧
      t.rdu = s.rdu ∧ t.sru = s.sru ∧ t.bm = s.bm ∧ t.mem = s.mem ∧ t.de = s.de ∧ t.cw = s.cw ∧ t.tu = s.tu ∧
      t.pwc = s.pwc
    -- a valid selection
    (∀ c r x z, target? c r = some x → shapes[13 * r + c]? = some z →
      (∀ c2 ∈ List.range 13, ∀ r2 ∈ List.range 9, ∀ y ∈ target? c2 r2, beats c r x c2 r2 y) →
      let within : Bool := decide ((stepsOf z).natAbs ≤ d.tolerance)
      let chosen (predicted : Option Nat) : Estimate :=
        { frameId := f.frameId, timestamp := f.timestamp, position := some p.toNat, valid := true, zone := some (c, r),
          steps := stepsOf z, target := x, moveTarget := predicted.getD x, predicted := predicted.isSome,
          inFocus := within }
      let reacts (e : Estimate) : Prop :=
        ∃ t, exec (.pos p moving) s = .next t ∧
          t.fu.tracking = { col := if v.active.area = .track then c else v.tracking.col,
                            row := if v.active.area = .track then r else v.tracking.row, held := some x, run := 0 } ∧
          (v.state = .seeking → within = true → completed e .locked 0 none t) ∧
          (v.state = .seeking → within = false → completed e .seeking 0 (some x) t) ∧
          (v.state = .tracking ∨ v.state = .lost → completed e .tracking v.seek (some e.moveTarget) t) ∧
          (v.state = .idle ∨ v.state = .locked ∨ v.state = .noTarget →
            completed e v.state (if v.active.mode = .single then 0 else v.seek) none t)
      -- predicted
      (∀ q, v.current = some q → v.active.mode = .continuous → v.active.prediction = true → q.valid = true →
        q.timestamp < f.timestamp → f.timestamp ≤ q.timestamp + 500000 →
        let lead : Nat := if s.rdu.capturing then s.rdu.period else 8333
        let limit : Int := (v.speed * lead / 1000 : Nat)
        let delta : Int := max (-limit) (min limit
          (roundAway (((x : Int) - q.target) * lead) (f.timestamp - q.timestamp)))
        reacts (chosen (some (max 0 (min (x + delta) d.lensMax)).toNat))) ∧
      -- not predicted
      ((v.current = none ∨ v.active.mode ≠ .continuous ∨ v.active.prediction = false ∨ ∃ q ∈ v.current, q.valid = false ∨
          f.timestamp ≤ q.timestamp ∨ q.timestamp + 500000 < f.timestamp) →
        reacts (chosen none))) ∧
    -- no valid zone in the set
    ((∀ c ∈ List.range 13, ∀ r ∈ List.range 9, target? c r = none) →
      let e : Estimate :=
        { frameId := f.frameId, timestamp := f.timestamp, position := some p.toNat, valid := false, zone := none, steps := 0,
          target := 0, moveTarget := 0, predicted := false, inFocus := false }
      let run := min 5 (v.tracking.run + 1)
      ∃ t, exec (.pos p moving) s = .next t ∧ t.fu.tracking = { v.tracking with run := run } ∧
        (v.state = .seeking → v.seek < 29 → completed e .seeking (v.seek + 1) none t) ∧
        (v.state = .seeking → v.seek = 29 → completed e .noTarget 30 none t) ∧
        (v.state = .tracking → completed e (if v.active.area = .track ∧ run = 5 then .lost else .tracking) v.seek none t) ∧
        (v.state ∈ [.idle, .locked, .noTarget, .lost] → completed e v.state v.seek none t))

/-! ### Development -/

/-- R94, R95, R114, R127, R169: LOOK_SET, DEVELOP_AUTO_SET, RECORDING_SET and AUTO_SEND_SET replace their setting alone,
LOOK_SET with its gains clamped to 1024..8191. A value out of its list or range draws BAD_ARG: of LOOK_SET a slot above 7,
a BL above 4095, a W outside 1024..16383 or not above BL, and a tone curve that falls; only then is the slot of the running
job judged, which draws IN_USE. -/
def Obligations.SettingsAreReplaced : Prop :=
  ∀ (tag : Byte) (s : State), s.answers →
    (∀ (slot : Byte) (l : Look), l.bl < 65536 → l.w < 65536 → (∀ g ∈ [l.gR, l.gG, l.gB], g < 65536) →
      l.tone.length = 33 → (∀ v ∈ l.tone, v ≤ 255) →
      let taken : Look := { l with
        gR := min 8191 (max 1024 l.gR), gG := min 8191 (max 1024 l.gG), gB := min 8191 (max 1024 l.gB) }
      exec (.lookSet tag (slot :: l.bytes)) s =
        if 7 < slot.toNat ∨ 4095 < l.bl ∨ l.w < 1024 ∨ 16383 < l.w ∨ l.w ≤ l.bl ∨ ¬ l.tone.Pairwise (· ≤ ·) then
          .next (s.replied .lookSet tag [3])
        else if ∃ j, s.de.job = some j ∧ j.slot = slot.toNat then .next (s.replied .lookSet tag [7])
        else .next (({ s with de := { s.de with looks := s.de.looks.set slot.toNat taken } } : State).replied .lookSet tag
          (0 :: taken.bytes))) ∧
    (∀ b : Byte,
      exec (.developAutoSet tag [b]) s =
        if 1 < b.toNat then .next (s.replied .developAutoSet tag [3])
        else .next (({ s with de := { s.de with auto := decide (b = 1) } } : State).replied .developAutoSet tag [0, b])) ∧
    (∀ b c : Byte, 4 < b.toNat ∨ 1 < c.toNat →
      exec (.recordingSet tag [b, c]) s = .next (s.replied .recordingSet tag [3])) ∧
    (∀ (p : Policy) (on : Bool), exec (.recordingSet tag [p.byte, flagByte on]) s =
      .next (({ s with cw := { s.cw with policy := p, proofs := on } } : State).replied .recordingSet tag
        [0, p.byte, flagByte on])) ∧
    (∀ b : Byte, 2 < b.toNat → exec (.autoSendSet tag [b]) s = .next (s.replied .autoSendSet tag [3])) ∧
    (∀ a : AutoSend, exec (.autoSendSet tag [a.byte]) s =
      .next (({ s with tu := { s.tu with auto := a } } : State).replied .autoSendSet tag [0, a.byte]))

/-- R97, R99, R100, R110: DEVELOP of a HELD shot makes a PENDING duty at the tail of its class, and an idle engine starts it
at once with a proof chain of the lowest 12 free pages; DEVELOP_CANCEL ends a PENDING duty, and asks a RUNNING one to
stop at its row. -/
def Obligations.DevelopJoinsAndCancelLeavesTheQueue : Prop :=
  ∀ (tag : Byte) (n : Nat) (r : Row) (s : State), s.answers → n < 16777216 → (s.bm.rows.map Row.index).Nodup →
    s.bm.numbered? n = some r → s.tu.queue = [] →
    (∀ urgent : Bool, r.life = .held → r.discarding = false → r.develop = .absent → r.raw ≠ none → s.de.engine = .running →
      exec (.develop tag (leBytes 3 n ++ [flagByte urgent])) s = .next (({ s with
        bm := s.bm.mapRow r.index fun x => { x with
          cls := if urgent then .urgent else .normal, develop := .pending },
        de := { s.de with
          urgent := if urgent then s.de.urgent ++ [r.index] else s.de.urgent,
          normal := if urgent then s.de.normal else s.de.normal ++ [r.index] } } : State).replied .develop tag
        [0, if urgent then 0 else 1, BitVec.ofNat 8 (s.de.urgent.length + if urgent then 0 else s.de.normal.length)])) ∧
    (∀ c, r.life = .held → r.discarding = false → r.develop = .absent → r.raw = some c → s.de.engine = .idle →
      s.de.urgent = [] → s.de.normal = [] → 12 ≤ s.bm.free.length → s.pwc.latched = false →
      exec (.develop tag (leBytes 3 n ++ [1])) s = .next (({ s with
        bm := { (s.bm.mapRow r.index fun x => { x with
            cls := .urgent, develop := .running,
            proof := some { pages := s.bm.free.take 12, length := 12000064, frontier := 0 } })
          with free := s.bm.free.drop 12 },
        de := { s.de with
          engine := .running,
          job := some { row := r.index, slot := r.look, look := s.de.looks.getD r.look Look.defaults,
                        bins := List.replicate 64 0, clip := 0, cancel := false, discard := false } },
        mem := chainWrite s.mem (s.bm.free.take 12) 0 (1 :: chainRead s.mem c.pages 1 63),
        tu := { s.tu with reclaim := decide ((s.bm.free.drop 12).length < s.bm.threshold) } } : State).replied .develop
        tag [0, 0, 0])) ∧
    (r.life ≠ .held → exec (.develop tag (leBytes 3 n ++ [0])) s = .next (s.replied .develop tag [8])) ∧
    (r.life = .held → r.discarding = false → r.develop = .running →
      exec (.develop tag (leBytes 3 n ++ [1])) s = .next (s.replied .develop tag [7])) ∧
    (r.develop = .pending → r.life = .held → (∃ d ∈ r.cards, d.state.isFinal = false) → (∀ d ∈ r.cards, d.chain = .raw) →
      r.tethers = [] → r.proof = none → s.de.engine = .running →
      exec (.developCancel tag (leBytes 3 n)) s = .next (({ s with
        bm := s.bm.mapRow r.index fun x => { x with develop := .cancelled }, de := s.de.drop r.index } : State).replied
        .developCancel tag [0, 0])) ∧
    (r.develop = .running →
      exec (.developCancel tag (leBytes 3 n)) s = .next (({ s with
        de := { s.de with job := s.de.job.map fun j => { j with cancel := true } } } : State).replied .developCancel tag
        [0, 1]))

/-- R102, R107, R108, R109, R110, R111, R112, R113: a proof row goes into the proof chain, its pixels into the working
counts and the frontier rises by one; the last row publishes the histogram and makes the duty DONE, also of a job that is
asked to stop; a read error makes it FAILED. A job asked to stop by a cancel or a discard stops at any other row: its duty
is CANCELLED, and after a cancel the card PROOF duties that wait are FAILED(SOURCE_LOST). The proof chain is released when
nothing else wants it. With no job neither has an effect. -/
def Obligations.ProofRowsAreWritten : Prop :=
  ∀ s : State, s.steady →
    (s.de.job = none → exec .proofRowWritten s = .next s ∧ exec .deReadError s = .next s) ∧
    (∀ j r c px, s.de.job = some j → s.bm.row? j.row = some r → r.proof = some c →
      px = rowPixels s.mem (r.pagesOf .raw) j.look c.frontier →
      let counted : Job := { j with
        bins := px.foldl (fun bins p => bins.modify (p.y / 4) (· + 1)) j.bins,
        clip := j.clip + (px.filter Pixel.clipped).length }
      let mem := chainWrite s.mem c.pages (64 + 6000 * c.frontier) (packPixels px)
      (c.frontier < 1999 → j.cancel = false → j.discard = false → s.tu.transfer = none → s.tu.underTimer = false →
        exec .proofRowWritten s = .next { s with
          de := { s.de with job := some counted }, mem := mem,
          bm := s.bm.mapRow j.row fun x => { x with
            proof := x.proof.map fun y => { y with frontier := c.frontier + 1 } } }) ∧
      ((s.bm.rows.map Row.index).Nodup → r.life = .held → r.develop = .running → (∃ d ∈ r.cards, d.state.isFinal = false) →
        (∀ d ∈ r.cards, d.chain = .raw) → r.tethers = [] → s.de.urgent = [] → s.de.normal = [] → s.tu.queue = [] →
        s.tu.underTimer = false → s.tu.transfer = none →
        (c.frontier = 1999 →
          exec .proofRowWritten s = .next ((({ s with
            de := { s.de with
              job := none, engine := .idle,
              histogram := some { shot := r.number.getD 0, bins := counted.bins, clip := counted.clip } },
            mem := mem,
            bm := s.bm.mapRow j.row fun x => { x with develop := .done, proof := none } } : State).freed c.pages).raised
            .developDone (leBytes 3 (r.number.getD 0)))) ∧
        (c.frontier < 1999 → j.cancel = true ∨ j.discard = true →
          exec .proofRowWritten s = .next (({ s with
            de := { s.de with job := none, engine := .idle }, mem := mem,
            bm := s.bm.mapRow j.row fun x => { x with develop := .cancelled, proof := none } } : State).freed c.pages)) ∧
        exec .deReadError s = .next (({ s with
          de := { s.de with
            job := none, engine := .idle, failedJobs := min 65535 (s.de.failedJobs + 1),
            lastFailed := some (r.number.getD 0) },
          bm := s.bm.mapRow j.row fun x => { x with develop := .failed, proof := none } } : State).freed c.pages)) ∧
      ((s.bm.rows.map Row.index).Nodup → r.life = .held → r.develop = .running → r.tethers = [] → s.tu.queue = [] →
        s.tu.transfer = none → s.de.urgent = [] → s.de.normal = [] → c.frontier < 1999 → j.cancel = true →
        (∀ d ∈ r.cards, d.chain = .proof → d.state ≠ .writing) →
        ∃ t z, exec .proofRowWritten s = .next t ∧ t.de.job = none ∧ t.de.histogram = s.de.histogram ∧
          t.bm.row? j.row = some z ∧ z.develop = .cancelled ∧ z.proof = none ∧
          z.cards = r.cards.map fun d =>
            if d.chain = .proof ∧ d.state.isFinal = false then
              { d with state := .failed, cause := some .sourceLost, spoiled := false }
            else d))

/-- R103 to R107: the stages of a proof pixel. A quad with a sample at or above W gives 16383 in each channel and counts as
clipped; otherwise the black level, the gains with halves rounded up and the saturation; the tone curve between its
points; luma and colour differences, with the luma counted in its bin; and pixels packed in pairs. -/
def Obligations.ProofPixelsFollowTheStages : Prop :=
  (∀ (q : Quad) (l : Look) (j : Job),
    (q.r ≥ l.w ∨ q.g1 ≥ l.w ∨ q.g2 ≥ l.w ∨ q.b ≥ l.w →
      q.balanced l = (16383, 16383, 16383) ∧ (j.count [q.pixel l]).clip = j.clip + 1) ∧
    (q.r < l.w → q.g1 < l.w → q.g2 < l.w → q.b < l.w →
      q.balanced l = (min 16383 ((max 0 ((q.r : Int) - l.bl) * l.gR + 512) / 1024).toNat,
        min 16383 ((max 0 ((((q.g1 : Int) + q.g2 + 1) / 2) - l.bl) * l.gG + 512) / 1024).toNat,
        min 16383 ((max 0 ((q.b : Int) - l.bl) * l.gB + 512) / 1024).toNat) ∧
      (j.count [q.pixel l]).clip = j.clip) ∧
    (∀ r g b, r = toneOut l.tone (q.balanced l).1 → g = toneOut l.tone (q.balanced l).2.1 →
      b = toneOut l.tone (q.balanced l).2.2 →
      (q.pixel l).y = lumaOf r g b ∧ (q.pixel l).cb = cbOf r g b ∧ (q.pixel l).cr = crOf r g b)) ∧
  (∀ (t : List Nat) (v : Nat), t.length = 33 → t.Pairwise (· ≤ ·) → (∀ x ∈ t, x ≤ 255) → v ≤ 16383 →
    ∃ a b, t[v / 512]? = some a ∧ t[v / 512 + 1]? = some b ∧ toneOut t v = a + ((b - a) * (v % 512) + 256) / 512 ∧
      a ≤ toneOut t v ∧ toneOut t v ≤ b) ∧
  (∀ r g b : Nat, r ≤ 255 → g ≤ 255 → b ≤ 255 →
    lumaOf r g b = (77 * r + 150 * g + 29 * b + 128) / 256 ∧ lumaOf r g b ≤ 255 ∧
    (cbOf r g b : Int) = min 255 ((-43 * (r : Int) - 85 * g + 128 * b + 32896) / 256) ∧
    (crOf r g b : Int) = min 255 ((128 * (r : Int) - 107 * g - 21 * b + 32896) / 256) ∧
    1 ≤ cbOf r g b ∧ 1 ≤ crOf r g b ∧
    256 ≤ -43 * (r : Int) - 85 * g + 128 * b + 32896 ∧ 256 ≤ 128 * (r : Int) - 107 * g - 21 * b + 32896 ∧
    (255 < (-43 * (r : Int) - 85 * g + 128 * b + 32896) / 256 ↔ r = 0 ∧ g = 0 ∧ b = 255) ∧
    (255 < (128 * (r : Int) - 107 * g - 21 * b + 32896) / 256 ↔ r = 255 ∧ g = 0 ∧ b = 0)) ∧
  (∀ (p : Pixel) (j : Job), p.y ≤ 255 → j.bins.length = 64 →
    (j.count [p]).bins = j.bins.set (p.y / 4) (j.bins.getD (p.y / 4) 0 + 1)) ∧
  (∀ px : List Pixel, px.length = 3000 →
    (packPixels px).length = 6000 ∧
    ∀ i p q, i < 1500 → px[2 * i]? = some p → px[2 * i + 1]? = some q →
      ((packPixels px).drop (4 * i)).take 4 =
        [BitVec.ofNat 8 p.y, BitVec.ofNat 8 ((p.cb + q.cb + 1) / 2), BitVec.ofNat 8 q.y,
          BitVec.ofNat 8 ((p.cr + q.cr + 1) / 2)])

/-! ### The cards -/

/-- R120, R121, R122, R123, R124, R129, R132, R136, R138, R142: SLOT_ATTACH of a PRESENT card gives a READY slot, whose
waiting duties join its write queue and, as no extent is there yet, wait for extents, or LOCKED with the lock on, which
fails them; a lock fails the duties of the write queue in its order, and under OVERFLOW a RAW duty of A goes to B.
SLOT_DETACH gives PRESENT, and of a slot that is writing draws BUSY or, forced, asks a stop; the card line moves a slot
between ABSENT and PRESENT and the lock line between READY and LOCKED. An attached slot that loses its card by removal or
detach loses its extents, capacity and range, and gives up the duties of its write queue in its order: under OVERFLOW a
RAW duty of A is FAILED and, with B writable, goes to B, and any other duty waits for the next card. Each change of state
raises SLOT_CHANGE, after the STORE_FAILED and EXTENTS_LOW of the loss and before the STORE_FAILED of a lock (log entry
57); the notices stand before the reply (log entry 59), and the state in the reply of SLOT_ATTACH is that after the
selection (log entry 20). That a row being discarded is not reassigned is log entry 37. -/
def Obligations.SlotsFollowRequestsAndLines : Prop :=
  ∀ (tag : Byte) (i : SlotId) (x : Slot) (s : State), s.answers → s.cw.slot i = x →
    (∀ cap st n : Nat, cap < 2 ^ 32 → st < 2 ^ 32 → n < 2 ^ 32 →
      let p := slotByte i :: (leBytes 4 cap ++ leBytes 4 st ++ leBytes 4 n)
      (x.state ≠ .present → exec (.slotAttach tag p) s = .next (s.replied .slotAttach tag [8])) ∧
      (x.state = .present → cap = 0 ∨ (n ≠ 0 ∧ cap < st + n) →
        exec (.slotAttach tag p) s = .next (s.replied .slotAttach tag [3])) ∧
      (x.state = .present → 0 < cap → (n = 0 ∨ st + n ≤ cap) → x.waitQ = [] → x.writeQ = [] →
        exec (.slotAttach tag p) s = .next (((s.hears .slotAttach).setSlot i { x with
          capacity := some cap, range := if n = 0 then none else some { start := st, count := n }, failRun := 0,
          lastFail := none, reads := [], state := if x.lockOn then .locked else .ready }).slotChange.answered .slotAttach
          tag [0, if x.lockOn then 5 else 2]))) ∧
    -- duties that wait for the card, or in the queue, at an attach or a lock
    (s.cw.stopped = false → (s.bm.rows.map Row.index).Nodup →
      let duty? (q : DutyRef) : Option CardDuty := (s.bm.row? q.row).bind fun r => r.cards[q.place]?
      let attached (cap : Nat) (st : SlotState) : Slot := { x with
        capacity := some cap, range := none, failRun := 0, lastFail := none, reads := [], waitQ := [], state := st }
      let attach (cap : Nat) : Instr := .slotAttach tag (slotByte i :: (leBytes 4 cap ++ leBytes 4 0 ++ leBytes 4 0))
      let set (q : DutyRef) (d : CardDuty) (more : List CardDuty) (b : Bm) : Bm :=
        b.mapRow q.row fun z => { z with cards := z.cards.set q.place d ++ more }
      let lost (t : State) (q : DutyRef) : State := match s.bm.row? q.row, duty? q with
        | some r, some d =>
          ({ t with bm := t.bm.mapRow q.row fun z => { z with cards := z.cards.modify q.place fun _ =>
              { d with state := .failed, cause := some .locked, spoiled := false } } } : State).raised .storeFailed
            (leBytes 3 (r.number.getD 0) ++ [slotByte i, 1])
        | _, _ => t
      -- the duty fails where it is: its row stays HELD, and failover does not take it
      let fails (q : DutyRef) : Bool := match s.bm.row? q.row, duty? q with
        | some r, some d => decide (d.slot = i ∧ d.state.isFinal = false ∧ r.develop = .pending ∧ r.proof = none) &&
            decide (i = .b ∨ d.chain = .proof ∨ r.policy ≠ some .overflow ∨ s.cw.b.writable = false ∨ r.discarding = true)
        | _, _ => false
      let goesToB (q : DutyRef) (r : Row) (d : CardDuty) : Prop :=
        i = .a ∧ s.bm.row? q.row = some r ∧ r.cards[q.place]? = some d ∧ d.slot = .a ∧ d.chain = .raw ∧
          d.state.isFinal = false ∧ r.policy = some .overflow ∧ r.develop = .pending ∧ r.proof = none ∧
          r.discarding = false ∧ (s.cw.b.state = .writing ∨ s.cw.b.state = .suspended)
      let moved (q : DutyRef) (r : Row) (d : CardDuty) (t : State) : State :=
        ({ t.setSlot .b { s.cw.b with writeQ := s.cw.b.writeQ ++ [{ row := q.row, place := r.cards.length }] } with
          bm := set q { d with state := .failed, cause := some .locked, spoiled := false }
            [{ slot := .b, chain := .raw, state := .pending, pieces := [], spoiled := false, cause := none,
               reassigned := true }] s.bm } : State).raised .storeFailed
          (leBytes 3 (r.number.getD 0) ++ [slotByte .a, 1])
      (∀ cap, 0 < cap → cap < 2 ^ 32 → x.state = .present → x.writeQ = [] → x.extents = [] → x.op = .idle →
        let h := s.hears .slotAttach
        (x.lockOn = false → x.waitQ.Nodup → (∀ q ∈ x.waitQ, (duty? q).any (fun d => decide (d.state = .waitingSlot)) = true) →
          exec (attach cap) s = .next (({ h.setSlot i { attached cap .ready with writeQ := x.waitQ } with
            bm := x.waitQ.foldl (fun b q => b.mapRow q.row fun z => { z with
              cards := z.cards.modify q.place fun d => { d with state := .waitingExtents } }) s.bm } :
            State).slotChange.answered .slotAttach tag [0, 2])) ∧
        (x.lockOn = true →
          (x.waitQ.Nodup → (∀ q ∈ x.waitQ, fails q = true) →
            exec (attach cap) s = .next ((x.waitQ.foldl lost (h.setSlot i (attached cap .locked)).slotChange).answered
              .slotAttach tag [0, 5])) ∧
          (∀ q r d, x.waitQ = [q] → goesToB q r d →
            exec (attach cap) s = .next ((moved q r d (h.setSlot i (attached cap .locked)).slotChange).answered
              .slotAttach tag [0, 5])))) ∧
      (x.cardIn = true → x.lockOn = false → x.state = .ready → x.reads = [] →
        let locked : State := (s.setSlot i { x with lockOn := true, state := .locked, writeQ := [] }).slotChange
        (x.writeQ.Nodup → (∀ q ∈ x.writeQ, fails q = true) →
          exec (.lockLineLevel i true) s = .next (x.writeQ.foldl lost locked)) ∧
        (∀ q r d, x.writeQ = [q] → goesToB q r d → exec (.lockLineLevel i true) s = .next (moved q r d locked)))) ∧
    (∀ force : Bool, x.state = .absent ∨ x.state = .present →
      exec (.slotDetach tag [slotByte i, flagByte force]) s = .next (s.replied .slotDetach tag [8])) ∧
    -- an attached slot that writes nothing loses its card, to what becomes of its duties by the cause
    (x.state = .ready ∨ x.state = .locked ∨ x.state = .fault → x.op = .idle → x.reads = [] →
      let low (t : State) : State :=
        if 164064 ≤ x.queued then t.raised .extentsLow (leBytes 4 t.cw.a.queued ++ leBytes 4 t.cw.b.queued) else t
      let leaves (duties : State → Slot → CardCause → State) : Prop :=
        (x.cardIn = true → x.writing = none →
          exec (.cardLineLevel i false) s = .next (low (duties s { x with
            cardIn := false, capacity := none, range := none, extents := [], stops := [], lockOn := false, failRun := 0,
            lastFail := none, writeQ := [], state := .absent } .removed)).slotChange) ∧
        ∀ force : Bool, exec (.slotDetach tag [slotByte i, flagByte force]) s =
          .next ((low (duties (s.hears .slotDetach) { x with
            capacity := none, range := none, extents := [], failRun := 0, lastFail := none, writeQ := [],
            state := .present } .detached)).slotChange.answered .slotDetach tag [0, 0])
      let duty? (q : DutyRef) : Option CardDuty := (s.bm.row? q.row).bind fun r => r.cards[q.place]?
      let stays (q : DutyRef) : Bool := (duty? q).any (fun d => !d.state.isFinal && !decide (d.chain = .raw ∧ i = .a)) ||
        (s.bm.row? q.row).any fun r => decide (r.policy ≠ some .overflow)
      (x.writeQ = [] → leaves fun t y _ => t.setSlot i y) ∧
      (s.cw.stopped = false → (s.bm.rows.map Row.index).Nodup →
        (x.writeQ.Nodup → (∀ q ∈ x.writeQ, (duty? q).any (fun d => !d.state.isFinal) = true ∧ stays q = true) →
          leaves fun t y _ => { t.setSlot i { y with waitQ := x.waitQ ++ x.writeQ } with
            bm := x.writeQ.foldl (fun b q => b.mapRow q.row fun z => { z with
              cards := z.cards.modify q.place fun d => { d with state := .waitingSlot } }) s.bm }) ∧
        (∀ q r d, i = .a → x.writeQ = [q] → s.bm.row? q.row = some r → r.cards[q.place]? = some d → d.slot = .a →
          d.chain = .raw → d.state = .pending ∨ d.state = .waitingExtents → r.policy = some .overflow → r.life = .held →
          r.develop = .pending → r.proof = none →
          let fails (t : State) (y b : Slot) (cause : CardCause) (more : List CardDuty) : State :=
            ({ (t.setSlot .a y).setSlot .b b with
              bm := s.bm.mapRow q.row fun z => { z with
                cards := r.cards.set q.place { d with state := .failed, cause := some cause, spoiled := false } ++ more } } :
              State).raised .storeFailed (leBytes 3 (r.number.getD 0) ++ [slotByte .a, cause.byte])
          (s.cw.b.writable = false ∨ r.discarding = true → leaves fun t y cause => fails t y s.cw.b cause []) ∧
          (s.cw.b.state = .writing ∨ s.cw.b.state = .suspended → r.discarding = false →
            leaves fun t y cause => fails t y { s.cw.b with
              writeQ := s.cw.b.writeQ ++ [{ row := q.row, place := r.cards.length }] } cause
              [{ slot := .b, chain := .raw, state := .pending, pieces := [], spoiled := false, cause := none,
                 reassigned := true }])))) ∧
    (x.state = .writing → x.stops = [] →
      exec (.slotDetach tag [slotByte i, 0]) s = .next (s.replied .slotDetach tag [6]) ∧
      exec (.slotDetach tag [slotByte i, 1]) s =
        .next ((s.setSlot i { x with stops := [.detached] }).replied .slotDetach tag [0, 1])) ∧
    exec (.cardLineLevel i x.cardIn) s = .next s ∧
    (x.cardIn = false → x.state = .absent →
      exec (.cardLineLevel i true) s =
        .next (s.setSlot i { x with cardIn := true, lockOn := false, state := .present }).slotChange) ∧
    (x.cardIn = true → x.state = .present → x.op = .idle → x.reads = [] → x.writeQ = [] → x.writing = none →
      x.extents = [] →
      exec (.cardLineLevel i false) s = .next (s.setSlot i { x with
        cardIn := false, capacity := none, range := none, stops := [], lockOn := false, failRun := 0, lastFail := none,
        state := .absent }).slotChange) ∧
    (x.cardIn = false → ∀ on, exec (.lockLineLevel i on) s = .next s) ∧
    (x.cardIn = true → x.lockOn = false → x.state = .ready → x.writeQ = [] → x.reads = [] →
      exec (.lockLineLevel i true) s = .next (s.setSlot i { x with lockOn := true, state := .locked }).slotChange) ∧
    (x.cardIn = true → x.lockOn = true → x.state = .locked → x.writeQ = [] → x.reads = [] →
      exec (.lockLineLevel i false) s = .next (s.setSlot i { x with lockOn := false, state := .ready }).slotChange)

/-- R125, R126, R132, R133: EXTENT_ADD of a run inside the card that overlaps neither the protected range nor the queue
joins the queue, up to 32, and a READY slot selects from its write queue: the duties that the first eight extents cannot
cover wait for extents, and the first that they can takes its pieces from the head of the queue, becomes the writing duty
and starts its first run. The reply counts what the queue held before the selection (log entry 53). While the slot writes or
is suspended the run may not overlap a piece of its writing duty either, and it only joins the queue. EXTENT_FLUSH empties the
queue, raises EXTENTS_LOW when it held 164,064 sectors or more, and draws BUSY while the slot writes. That EXTENTS_LOW and
SLOT_CHANGE of the selection stand in that order, and before the reply, is log entries 57 and 59. -/
def Obligations.ExtentsAreQueuedAndFlushed : Prop :=
  ∀ (tag : Byte) (i : SlotId) (x : Slot) (e : Piece) (s : State), s.answers → s.cw.slot i = x → e.start < 2 ^ 32 →
    e.count < 2 ^ 32 →
    let p := slotByte i :: (leBytes 4 e.start ++ leBytes 4 e.count)
    (x.state = .absent ∨ x.state = .present ∨ x.state = .fault →
      exec (.extentAdd tag p) s = .next (s.replied .extentAdd tag [8])) ∧
    (x.state = .ready ∨ x.state = .locked → ∀ cap, x.capacity = some cap →
      (e.count = 0 ∨ cap < e.start + e.count → exec (.extentAdd tag p) s = .next (s.replied .extentAdd tag [3])) ∧
      (0 < e.count → e.start + e.count ≤ cap → x.writing = none →
        ((∃ o ∈ x.range.toList ++ x.extents, o.start < e.start + e.count ∧ e.start < o.start + o.count) →
          exec (.extentAdd tag p) s = .next (s.replied .extentAdd tag [0x0A])) ∧
        ((∀ o ∈ x.range.toList ++ x.extents, e.start + e.count ≤ o.start ∨ o.start + o.count ≤ e.start) →
          (32 ≤ x.extents.length → exec (.extentAdd tag p) s = .next (s.replied .extentAdd tag [9])) ∧
          (x.extents.length < 32 → x.writeQ = [] →
            exec (.extentAdd tag p) s = .next ((s.setSlot i { x with extents := x.extents ++ [e] }).replied .extentAdd
              tag (0 :: BitVec.ofNat 8 (x.extents.length + 1) :: leBytes 4 (x.queued + e.count)))) ∧
          -- a selection
          (x.extents.length < 32 → x.state = .ready → x.op = .idle → s.cw.stopped = false →
            (s.bm.rows.map Row.index).Nodup →
            let all := x.extents ++ [e]
            let body : List Byte := 0 :: BitVec.ofNat 8 all.length :: leBytes 4 (all.map Piece.count).sum
            let fits (c : Chain) : Bool := decide (sectorNeed c ≤ ((all.take 8).map Piece.count).sum)
            let tooLong (q : DutyRef) : Bool :=
              ((s.bm.row? q.row).bind fun r => r.cards[q.place]?).any fun d => !fits d.chain
            let wait (qs : List DutyRef) : Bm := qs.foldl (fun b q => b.mapRow q.row fun z => { z with
              cards := z.cards.modify q.place fun d =>
                if d.state = .pending then { d with state := .waitingExtents } else d }) s.bm
            ((∀ q ∈ x.writeQ, tooLong q = true) →
              exec (.extentAdd tag p) s = .next (({ s.setSlot i { x with extents := all } with
                bm := wait x.writeQ } : State).replied .extentAdd tag body)) ∧
            (∀ pre q post r d front cut n back f more, x.writeQ = pre ++ q :: post → q ∉ pre → q ∉ post →
              (∀ y ∈ pre, tooLong y = true) → s.bm.row? q.row = some r → r.cards[q.place]? = some d →
              d.state = .pending ∨ d.state = .waitingExtents → fits d.chain = true →
              all = front ++ cut :: back → 0 < n → n ≤ cut.count → (front.map Piece.count).sum + n = sectorNeed d.chain →
              front ++ [{ start := cut.start, count := n }] = f :: more → 0 < f.count →
              let left := if n = cut.count then back else { start := cut.start + n, count := cut.count - n } :: back
              let t : State := { (s.hears .extentAdd).setSlot i { x with
                  extents := left, writeQ := pre ++ post, writing := some { duty := q, written := 0 }, runsSince := 1,
                  state := .writing,
                  op := .run f.start (min 256 f.count)
                    (sectorData s.mem (r.pagesOf d.chain) (chainLength d.chain) 0 (min 256 f.count)) } with
                bm := (wait pre).mapRow q.row fun z => { z with
                  cards := z.cards.modify q.place fun d => { d with state := .writing, pieces := f :: more } } }
              exec (.extentAdd tag p) s = .next ((if 164064 ≤ (all.map Piece.count).sum ∧
                  (left.map Piece.count).sum < 164064 then
                t.raised .extentsLow (leBytes 4 t.cw.a.queued ++ leBytes 4 t.cw.b.queued)
                else t).slotChange.answered .extentAdd tag body)))))) ∧
    (∀ cap wr r d, x.state = .writing ∨ x.state = .suspended → x.capacity = some cap → x.writing = some wr →
      s.bm.row? wr.duty.row = some r → r.cards[wr.duty.place]? = some d →
      (e.count = 0 ∨ cap < e.start + e.count → exec (.extentAdd tag p) s = .next (s.replied .extentAdd tag [3])) ∧
      (0 < e.count → e.start + e.count ≤ cap →
        ((∃ o ∈ x.range.toList ++ x.extents ++ d.pieces, o.start < e.start + e.count ∧ e.start < o.start + o.count) →
          exec (.extentAdd tag p) s = .next (s.replied .extentAdd tag [0x0A])) ∧
        ((∀ o ∈ x.range.toList ++ x.extents ++ d.pieces,
            e.start + e.count ≤ o.start ∨ o.start + o.count ≤ e.start) →
          (32 ≤ x.extents.length → exec (.extentAdd tag p) s = .next (s.replied .extentAdd tag [9])) ∧
          (x.extents.length < 32 →
            exec (.extentAdd tag p) s = .next ((s.setSlot i { x with extents := x.extents ++ [e] }).replied .extentAdd
              tag (0 :: BitVec.ofNat 8 (x.extents.length + 1) :: leBytes 4 (x.queued + e.count))))))) ∧
    (x.state = .ready ∨ x.state = .locked ∨ x.state = .fault →
      let t := (s.hears .extentFlush).setSlot i { x with extents := [] }
      exec (.extentFlush tag [slotByte i]) s =
        .next ((if 164064 ≤ x.queued then t.raised .extentsLow (leBytes 4 t.cw.a.queued ++ leBytes 4 t.cw.b.queued)
          else t).answered .extentFlush tag [0, BitVec.ofNat 8 x.extents.length])) ∧
    (x.state = .writing ∨ x.state = .suspended →
      exec (.extentFlush tag [slotByte i]) s = .next (s.replied .extentFlush tag [6]))

/-- R133, R134, R135, R136, R137, R138, R139, R141, R142, R146, R192: a run that ends well starts the next run of its
chain, or with reads waiting suspends the slot for up to four of them, or makes the duty DONE and the slot READY; a
failed run, or one that timed out, makes it FAILED(WRITE) and counts, and the third takes the slot to FAULT, which fails
its write queue and its reads; a frame-memory error makes it FAILED(SOURCE_LOST) and does not count (that it acts on the
run in flight, whose rest is dropped, is log entry 16). A stop fails the duty with its cause at the end of the run, or
at once in SUSPENDED, and the slot does what the stop asks: a discard settles the row, and after a supply warning the
last writing duty's end brings FAILSAFE. The removal of the card fails the writing duty at once, with the cause of its
first stop if it has one. The pieces are spoiled, STORE_FAILED and SLOT_CHANGE raised, and under OVERFLOW a RAW duty of
A goes to a writable B. With no run in flight nothing happens, and a late answer, of a run that has ended, is discarded
whatever is in flight (log entry 54). -/
def Obligations.RunsEndAsTheyGo : Prop :=
  ∀ (i : SlotId) (x : Slot) (s : State), s.steady → s.cw.slot i = x →
    exec (.runOk ⟨i, true⟩) s = .next s ∧ exec (.runFail ⟨i, true⟩) s = .next s ∧
    (x.op = .idle → exec (.runOk ⟨i, false⟩) s = .next s ∧ exec (.runFail ⟨i, false⟩) s = .next s ∧
      exec (.runTimerExpiry i) s = .next s ∧ exec (.cwReadError i) s = .next s) ∧
    -- stops asked while a run is in flight
    (x.state = .writing → x.cardIn = true →
      (x.lockOn = false → x.stops = [] →
        exec (.lockLineLevel i true) s = .next (s.setSlot i { x with lockOn := true, stops := [.locked] })) ∧
      (x.lockOn = true → ∀ st, x.stops = [.locked] ++ st → .locked ∉ st →
        exec (.lockLineLevel i false) s = .next (s.setSlot i { x with lockOn := false, stops := st }))) ∧
    (∀ wr r d, x.writing = some wr → s.bm.row? wr.duty.row = some r → r.cards[wr.duty.place]? = some d →
      d.state = .writing → d.slot = i →
      let runs (y : Slot) (k : Nat) (p : Piece) : Slot := { y with
        op := .run p.start p.count (sectorData s.mem (r.pagesOf d.chain) (chainLength d.chain) k p.count) }
      let chain : Prop := (s.bm.rows.map Row.index).Nodup ∧ d.chain = .raw ∧ r.life = .held ∧ r.develop = .pending ∧
        r.raw ≠ none ∧ r.proof = none
      let after (y : Slot) (fs : List CardDuty) : State :=
        { s.setSlot i { y with writing := none } with
          bm := s.bm.mapRow wr.duty.row fun z => { z with cards := fs } }
      let failed (cause : CardCause) : List CardDuty :=
        r.cards.set wr.duty.place { d with state := .failed, cause := some cause, spoiled := true }
      let said (cause : CardCause) (t : State) : State :=
        (t.raised .storeFailed (leBytes 3 (r.number.getD 0) ++ [slotByte i, cause.byte])).slotChange
      -- what the stop asks of the slot
      let stopped (st : Stop) (y : Slot) : Slot := match st with
        | .detached => { y with
            stops := [], extents := [], capacity := none, range := none, failRun := 0, lastFail := none,
            state := .present }
        | .locked => { y with stops := [], state := .locked }
        | .discarded | .power => { y with stops := [], state := .ready }
      -- no warning latched
      (s.cw.stopped = false → s.pwc.responses = none →
        (∀ st n data, x.op = .run st n data → x.state = .writing →
          let ran : Slot := { x with op := .idle, runsSince := 1 }
          let missed (k : FailKind) : Slot := { ran with failRun := x.failRun + 1, lastFail := some k }
          -- the next run, or reads first
          (wr.written + n < sectorNeed d.chain → x.stops = [] → x.failRun < 3 →
            (∀ p, x.reads = [] → placeAt 256 d.pieces (wr.written + n) = some p →
              exec (.runOk ⟨i, false⟩) s = .next (s.setSlot i (runs { ran with
                writing := some { wr with written := wr.written + n } } (wr.written + n) p))) ∧
            (∀ q qs, x.reads = q :: qs →
              exec (.runOk ⟨i, false⟩) s = .next (s.setSlot i { ran with
                op := .read q true, reads := qs, served := 1, state := .suspended,
                writing := some { wr with written := wr.written + n } }).slotChange)) ∧
          (chain → x.reads = [] → x.writeQ = [] → s.tu.queue = [] →
            (82032 ≤ wr.written + n → x.stops = [] →
              exec (.runOk ⟨i, false⟩) s = .next (after { ran with failRun := 0, state := .ready }
                (r.cards.set wr.duty.place { d with state := .done })).slotChange) ∧
            (r.policy ≠ some .overflow → x.stops = [] → x.failRun < 2 →
              exec (.runFail ⟨i, false⟩) s = .next (said .write (after { missed .runFail with state := .ready } (failed .write))) ∧
              exec (.runTimerExpiry i) s =
                .next (said .write (after { missed .timeout with state := .ready } (failed .write)))) ∧
            (r.policy ≠ some .overflow → x.stops = [] → x.failRun = 2 →
              exec (.runFail ⟨i, false⟩) s = .next (said .write (after { missed .runFail with state := .fault } (failed .write))) ∧
              exec (.runTimerExpiry i) s =
                .next (said .write (after { missed .timeout with state := .fault } (failed .write)))) ∧
            (x.stops = [] → x.failRun < 3 →
              exec (.cwReadError i) s =
                .next (said .sourceLost (after { x with op := .idle, state := .ready } (failed .sourceLost)))) ∧
            (∀ st, st = .detached ∨ st = .locked → x.stops = [st] → x.failRun < 2 → r.policy ≠ some .overflow →
              x.queued < 164064 →
              (wr.written + n < 82032 →
                exec (.runOk ⟨i, false⟩) s = .next (said st.cause (after (stopped st { ran with
                  writing := some { wr with written := wr.written + n } }) (failed st.cause)))) ∧
              (82032 ≤ wr.written + n →
                exec (.runOk ⟨i, false⟩) s = .next (after (stopped st { ran with failRun := 0 })
                  (r.cards.set wr.duty.place { d with state := .done })).slotChange) ∧
              exec (.runFail ⟨i, false⟩) s = .next (said st.cause (after (stopped st (missed .runFail)) (failed st.cause)))) ∧
            -- failover
            (i = .a → r.policy = some .overflow → r.discarding = false → x.stops = [] → x.failRun < 2 →
              s.cw.b.state = .writing ∨ s.cw.b.state = .suspended →
              exec (.runFail ⟨i, false⟩) s = .next (said .write ((after { missed .runFail with state := .ready } (failed .write ++
                [{ slot := .b, chain := .raw, state := .pending, pieces := [], spoiled := false, cause := none,
                   reassigned := true }])).setSlot .b { s.cw.b with
                  writeQ := s.cw.b.writeQ ++ [{ row := wr.duty.row, place := r.cards.length }] })))) ∧
          -- the third failure with duties and reads waiting
          (x.stops = [] → x.failRun = 2 →
            ∃ t, exec (.runFail ⟨i, false⟩) s = .next t ∧
              (t.cw.slot i).state = .fault ∧ (t.cw.slot i).op = .idle ∧ (t.cw.slot i).writing = none ∧
              (t.cw.slot i).writeQ = [] ∧ (t.cw.slot i).reads = [] ∧ (t.cw.slot i).extents = x.extents ∧
              (t.cw.slot i).failRun = 3 ∧
              ∀ e ∈ x.writeQ, e ≠ wr.duty → ∀ z y, s.bm.row? e.row = some z → z.cards[e.place]? = some y →
                y.state.isFinal = false → y.slot = i →
                ∃ z' y', t.bm.row? e.row = some z' ∧ z'.cards[e.place]? = some y' ∧ y'.state = .failed ∧
                  y'.cause = some .fault ∧ y'.spoiled = false)) ∧
        -- a suspended slot
        (x.state = .suspended →
          (∀ q k n, x.op = .read q true → s.tu.buffers[q.buffer]? = some (.asked k n true) → s.tu.transfer = none →
            let freed (y : Slot) : State := { s.setSlot i y with
              tu := { s.tu with buffers := s.tu.buffers.set q.buffer .free } }
            (∀ q2 qs, x.served < 4 → x.reads = q2 :: qs →
              exec (.readFail ⟨i, false⟩) s = .next (freed { x with op := .read q2 true, reads := qs, served := x.served + 1 })) ∧
            (∀ p, (4 ≤ x.served ∨ x.reads = []) → placeAt 256 d.pieces wr.written = some p →
              exec (.readFail ⟨i, false⟩) s =
                .next (freed (runs { x with state := .writing, runsSince := 0 } wr.written p)).slotChange)) ∧
          (chain → x.stops = [] → x.writeQ = [] → x.failRun < 3 → s.tu.queue = [] → r.policy ≠ some .overflow →
            x.cardIn = true → x.lockOn = false → x.op ≠ .idle →
            exec (.lockLineLevel i true) s = .next (said .locked (after { x with lockOn := true, state := .locked }
              (failed .locked))))) ∧
        -- a discard asked for the stop: the row settles DISCARDED
        (∀ st n data c, x.op = .run st n data → x.state = .writing → x.stops = [.discarded] → x.reads = [] →
          x.writeQ = [] → x.failRun < 2 → s.backIdle → (s.bm.rows.map Row.index).Nodup → d.chain = .raw →
          r.life = .held → r.discarding = true → r.develop.isFinal = true → r.raw = some c → r.proof = none →
          (∀ y ∈ r.cards.eraseIdx wr.duty.place, y.state.isFinal = true) → (∀ y ∈ r.tethers, y.state.isFinal = true) →
          let settled (y : Slot) (fs : List CardDuty) : State :=
            ({ s.setSlot i { y with op := .idle, runsSince := 1, stops := [], writing := none, state := .ready } with
              bm := s.bm.mapRow wr.duty.row fun z => { z with
                cards := fs, raw := none, life := .settled, outcome := some .discarded } } : State).freed c.pages
          let report (t : State) : State := t.raised .storeFailed (leBytes 3 (r.number.getD 0) ++ [slotByte i, 5])
          let ends (t : State) : State := (t.raised .shotSettled (leBytes 3 (r.number.getD 0))).slotChange
          (wr.written + n < 82032 →
            exec (.runOk ⟨i, false⟩) s = .next (ends (report (settled x (failed .discarded))))) ∧
          (82032 ≤ wr.written + n →
            exec (.runOk ⟨i, false⟩) s = .next (ends (settled { x with failRun := 0 }
              (r.cards.set wr.duty.place { d with state := .done })))) ∧
          exec (.runFail ⟨i, false⟩) s = .next (ends (report (settled { x with
            failRun := x.failRun + 1, lastFail := some .runFail } (failed .discarded))))) ∧
        -- the card of a writing slot is removed
        (∀ st n data cause, s.pwc.power ≠ .halt → x.op = .run st n data → x.state = .writing → x.cardIn = true → chain →
          r.policy ≠ some .overflow → x.reads = [] → x.writeQ = [] → s.tu.queue = [] →
          cause = (match x.stops with | st :: _ => st.cause | [] => .removed) →
          let t := (after { x with
            op := .idle, cardIn := false, capacity := none, range := none, extents := [], stops := [], lockOn := false,
            failRun := 0, lastFail := none, state := .absent } (failed cause)).raised .storeFailed
              (leBytes 3 (r.number.getD 0) ++ [slotByte i, cause.byte])
          exec (.cardLineLevel i false) s = .next (if 164064 ≤ x.queued then
            t.raised .extentsLow (leBytes 4 t.cw.a.queued ++ leBytes 4 t.cw.b.queued) else t).slotChange)) ∧
      -- the warning latched, with this slot's response awaited
      (∀ st n data, s.cw.stopped = true → s.pwc.responses = some (Responses.delivered false) → x.stops = [.power] →
        x.op = .run st n data → x.state = .writing → x.failRun < 2 → chain → s.tu.queue = [] →
        let ended (t : State) : State :=
          if (match i with | .a => s.cw.b.writing | .b => s.cw.a.writing) = none then
            { t with pwc := { s.pwc with power := .failsafe, responses := none } }
          else t
        let ran : Slot := { x with op := .idle, runsSince := 1 }
        (wr.written + n < 82032 →
          exec (.runOk ⟨i, false⟩) s = .next (ended (said .power (after (stopped .power ran) (failed .power))))) ∧
        (82032 ≤ wr.written + n →
          exec (.runOk ⟨i, false⟩) s = .next (ended (after (stopped .power { ran with failRun := 0 })
            (r.cards.set wr.duty.place { d with state := .done })).slotChange)) ∧
        exec (.runFail ⟨i, false⟩) s = .next (ended (said .power (after (stopped .power { ran with
          failRun := x.failRun + 1, lastFail := some .runFail }) (failed .power))))))

/-- R140, R165: the data of a read goes into its segment buffer; a read whose transfer has ended frees it; a read that
fails ends the transfer that waits for it by source loss. Without a read in flight nothing happens, and a late answer, of
a read that has ended, is discarded whatever is in flight (log entry 54). -/
def Obligations.ReadsFillSegmentBuffers : Prop :=
  ∀ (i : SlotId) (x : Slot) (data : List Byte) (s : State), s.steady → s.cw.slot i = x →
    exec (.readOk ⟨i, true⟩ data) s = .next s ∧ exec (.readFail ⟨i, true⟩) s = .next s ∧
    (x.op = .idle → exec (.readOk ⟨i, false⟩ data) s = .next s ∧ exec (.readFail ⟨i, false⟩) s = .next s ∧
      exec (.readTimerExpiry i) s = .next s) ∧
    (∀ q k n, x.op = .read q true → x.state = .ready → x.writeQ = [] → x.reads = [] →
      (s.tu.buffers[q.buffer]? = some (.asked k n false) → data.length = 512 * q.count →
        exec (.readOk ⟨i, false⟩ data) s = .next { s.setSlot i { x with op := .idle } with
          tu := { s.tu with buffers := s.tu.buffers.set q.buffer (.full k n data) } }) ∧
      (s.tu.buffers[q.buffer]? = some (.asked k n true) → s.tu.transfer = none →
        exec (.readFail ⟨i, false⟩) s = .next { s.setSlot i { x with op := .idle } with
          tu := { s.tu with buffers := s.tu.buffers.set q.buffer .free } } ∧
        exec (.readTimerExpiry i) s = .next { s.setSlot i { x with op := .idle } with
          tu := { s.tu with buffers := s.tu.buffers.set q.buffer .free } }) ∧
      (∀ t e, s.tu.buffers[q.buffer]? = some (.asked k n false) → s.tu.transfer = some t → s.tu.queue = [e] →
        e.number = t.number → e.chain = t.chain → e.row = none → s.tu.link = .sending →
        ∃ u, exec (.readFail ⟨i, false⟩) s = .next u ∧ u.tu.link = .boundIdle ∧ u.tu.transfer = none ∧ u.tu.queue = [] ∧
          u.tu.counters.failed = min 255 (s.tu.counters.failed + 1) ∧ (u.cw.slot i).op = .idle ∧ u.bm = s.bm ∧
          u.mem = s.mem ∧ u.rdu = s.rdu ∧ u.sru = s.sru ∧ u.fu = s.fu ∧ u.de = s.de))

/-- R128: the slots that CW names for the card duties of a shot, by policy and proofs-to-card. -/
def Obligations.DutiesNameTheirSlots : Prop :=
  ∀ c : Cw,
    (c.policy = .mirror → c.rawSlots = [.a, .b] ∧ c.proofSlots c.rawSlots = if c.proofs then [.a, .b] else []) ∧
    (c.policy = .overflow →
      ((c.a.state = .ready ∨ c.a.state = .writing ∨ c.a.state = .suspended) ∧ 82032 ≤ c.a.queued → c.rawSlots = [.a]) ∧
      (¬ ((c.a.state = .ready ∨ c.a.state = .writing ∨ c.a.state = .suspended) ∧ 82032 ≤ c.a.queued) →
        c.rawSlots = [.b]) ∧
      c.proofSlots c.rawSlots = if c.proofs then c.rawSlots else []) ∧
    (c.policy = .split → c.rawSlots = [.a] ∧
      (c.proofs = false → c.proofSlots c.rawSlots = [.b]) ∧
      (c.proofs = true → (c.proofSlots c.rawSlots).Perm [.a, .b])) ∧
    (c.policy = .singleA → c.rawSlots = [.a] ∧ c.proofSlots c.rawSlots = if c.proofs then [.a] else []) ∧
    (c.policy = .singleB → c.rawSlots = [.b] ∧ c.proofSlots c.rawSlots = if c.proofs then [.b] else [])

/-- R131: the sector needs, the bytes of a chain's sectors, zero past its length, and the place of each chain sector across
the pieces in order. -/
def Obligations.SectorsLieAcrossThePieces : Prop :=
  sectorNeed .raw = 82032 ∧ sectorNeed .proof = 23438 ∧
  (∀ c : Chain, sectorNeed c = (chainLength c + 511) / 512 ∧
    512 * sectorNeed c - chainLength c = (match c with | .raw => 320 | .proof => 192)) ∧
  (∀ (m : Memory) (pages : List Nat) (length j n i : Nat), i < 512 * n →
    (sectorData m pages length j n)[i]? =
      some (if 512 * j + i < length then chainByte m pages (512 * j + i) else 0)) ∧
  (∀ (top k : Nat) (before after : List Piece) (p : Piece), k < p.count →
    placeAt top (before ++ p :: after) ((before.map Piece.count).sum + k) =
      some { start := p.start + k, count := min top (p.count - k) })

/-! ### The tether -/

/-- R148, R149, R162, R170, R173: TETHER_SET replaces the settings, but of a link that is not OFF not the addresses,
EtherType or name; TETHER_STATS reports the counters and clears them; TETHER_ENABLE ON brings the link to DOWN, or with
the PHY up to UNBOUND with a HELLO, and OFF brings it to OFF, a transfer in progress ending by an ABORT with its entry
PENDING at the front of its class; under the stopped flag it is refused. That TETHER_CHANGE stands before the reply is log
entry 59. -/
def Obligations.TetherIsSetAndEnabled : Prop :=
  ∀ (tag : Byte) (s : State), s.answers →
    (∀ (m : BitVec 48) (x : TetherSettings), x.ownMac = some m → m ≠ 0 → m.getLsbD 0 = false →
      (x.deskMac = 0 ∨ x.deskMac.getLsbD 0 = false) → 0x600 ≤ x.etherType.toNat → x.name.length = 16 →
      (∀ b ∈ x.name, 0x20 ≤ b.toNat ∧ b.toNat ≤ 0x7E) → 16 ≤ x.window → x.window ≤ 64 → 50 ≤ x.ackTimeout →
      x.ackTimeout ≤ 2000 →
      exec (.tetherSet tag x.bytes) s =
        if s.tu.link = .off ∨ (x.ownMac = s.tu.settings.ownMac ∧ x.deskMac = s.tu.settings.deskMac ∧
            x.etherType = s.tu.settings.etherType ∧ x.name = s.tu.settings.name) then
          .next (({ s with tu := { s.tu with settings := x } } : State).replied .tetherSet tag (0 :: x.bytes))
        else .next (s.replied .tetherSet tag [8])) ∧
    exec (.tetherStats tag []) s = .next (({ s with tu := { s.tu with counters := Counters.zero } } : State).replied
      .tetherStats tag (0 :: [s.tu.counters.ackTimeouts, s.tu.counters.restarted, s.tu.counters.underruns,
        s.tu.counters.dropped, s.tu.counters.failed].map (BitVec.ofNat 8))) ∧
    (s.tu.stopped = true →
      exec (.tetherEnableOn tag [1]) s = .next (s.replied .tetherEnable tag [8]) ∧
      exec (.tetherEnableOff tag [0]) s = .next (s.replied .tetherEnable tag [8])) ∧
    (s.tu.stopped = false →
      let h := s.hears .tetherEnable
      (s.tu.settings.ownMac = none → exec (.tetherEnableOn tag [1]) s = .next (s.replied .tetherEnable tag [0x0D])) ∧
      (∀ m, s.tu.settings.ownMac = some m →
        (s.tu.link ≠ .off →
          exec (.tetherEnableOn tag [1]) s = .next (s.replied .tetherEnable tag [0, s.tu.link.byte])) ∧
        (s.tu.link = .off → s.pins.phyUp = false →
          exec (.tetherEnableOn tag [1]) s = .next ((({ h with tu := { s.tu with link := .down } } : State).raised
            .tetherChange [1]).answered .tetherEnable tag [0, 1])) ∧
        (s.tu.link = .off → s.pins.phyUp = true →
          exec (.tetherEnableOn tag [1]) s = .next ((({ h with
            tu := { s.tu with link := .unbound, bound := none, helloTimer := true, deskTimer := false },
            sent := .desk (helloFrame s.tu.settings m) :: h.sent } : State).raised .tetherChange [2]).answered
            .tetherEnable tag [0, 2]))) ∧
      (s.tu.link = .off → exec (.tetherEnableOff tag [0]) s = .next (s.replied .tetherEnable tag [0, 0])) ∧
      (s.tu.link ≠ .off → s.tu.transfer = none →
        exec (.tetherEnableOff tag [0]) s = .next ((({ h with
          tu := { s.tu with link := .off, bound := none, helloTimer := false, deskTimer := false } } : State).raised
          .tetherChange [0]).answered .tetherEnable tag [0, 0])) ∧
      (∀ x e m desk, s.sends x e → s.tu.settings.ownMac = some m → s.tu.bound = some desk →
        exec (.tetherEnableOff tag [0]) s = .next ((({ h with
          bm := (s.requeued e).bm,
          tu := { (s.requeued e).tu with link := .off, bound := none, helloTimer := false, deskTimer := false },
          sent := .desk (wireFrame desk m s.tu.settings.etherType 0x09 (leBytes 2 x.id ++ [3])) :: h.sent } :
          State).raised .tetherChange [0]).answered .tetherEnable tag [0, 0])))

/-- R152, R153, R154, R155, R156, R157, R165, R140: SEND of a HELD shot's RAW chain makes a PENDING duty entry at the
tail of its class, SEND_STORED an entry for a card copy; a chain in the queue draws IN_USE and an unknown shot
NO_SUCH_SHOT; SEND_CANCEL of a waiting entry takes it from the queue. In BOUND_IDLE with no entry ready the new one is
then selected: it becomes SENDING under the next transfer id, its transfer is opened, OFFER sent and the link enters
SENDING; for a card copy up to 8 reads of up to 128 sectors are asked of the slot. That the reply comes after the
TETHER_CHANGE is log entry 59. -/
def Obligations.SendsJoinTheQueue : Prop :=
  ∀ (tag : Byte) (n prio : Nat) (s : State), s.answers → 1 ≤ n → n ≤ 16777215 → prio ≤ 3 → s.tu.queue.length < 64 →
    -- no transfer starts
    (s.tu.link ≠ .boundIdle →
      (∀ chain : Chain, ∀ early : Bool, s.bm.numbered? n = none →
        exec (.send tag (leBytes 3 n ++ [chain.byte, BitVec.ofNat 8 prio, flagByte early])) s =
          .next (s.replied .send tag [4])) ∧
      (∀ chain early e r, s.bm.numbered? n = some r → r.discarding = false → s.tu.entry? n chain = some e →
        exec (.send tag (leBytes 3 n ++ [chain.byte, BitVec.ofNat 8 prio, flagByte early])) s =
          .next (s.replied .send tag [7])) ∧
      (∀ r early, s.bm.numbered? n = some r → r.discarding = false → r.life = .held → r.raw ≠ none → r.tethers = [] →
        s.tu.entry? n .raw = none →
        let e : Entry := { number := n, chain := .raw, kind := .duty, row := some r.index, sending := false,
                           source := .buffer, copy := none, prio := prio, early := false }
        exec (.send tag (leBytes 3 n ++ [0, BitVec.ofNat 8 prio, flagByte early])) s = .next (({ s with
          bm := s.bm.mapRow r.index fun x => { x with
            tethers := x.tethers ++ [{ chain := .raw, state := .pending, source := .buffer, prio := prio, early := false,
                                       cause := none }] },
          tu := { s.tu with queue := insertTail e s.tu.queue } } : State).replied .send tag
          [0, 0, 0, BitVec.ofNat 8 ((insertTail e s.tu.queue).findIdx fun x => decide (x.number = n ∧ x.chain = .raw))])) ∧
      (∀ (i : SlotId) (chain : Chain) (length : Nat) (pieces : List Piece), pieces ≠ [] → pieces.length ≤ 8 →
        (∀ x ∈ pieces, 0 < x.count ∧ x.count < 2 ^ 32 ∧ x.start < 2 ^ 32) → 1 ≤ length → length ≤ 42000064 →
        (length + 511) / 512 ≤ (pieces.map Piece.count).sum → s.tu.entry? n chain = none →
        let e : Entry := { number := n, chain := chain, kind := .stored, row := none, sending := false, source := .card,
                           copy := some { slot := i, pieces := pieces, length := length }, prio := prio, early := false }
        exec (.sendStored tag (slotByte i :: (leBytes 4 length ++ leBytes 3 n ++ [chain.byte, BitVec.ofNat 8 prio]) ++
            (pieces.map Piece.bytes).flatten)) s = .next (({ s.heard (17 + 8 * pieces.length) with
          tu := { s.tu with queue := insertTail e s.tu.queue } } : State).answered .sendStored tag
          [0, BitVec.ofNat 8 ((insertTail e s.tu.queue).findIdx fun x => decide (x.number = n ∧ x.chain = chain))])) ∧
      (∀ chain : Chain, s.tu.entry? n chain = none →
        exec (.sendCancel tag (leBytes 3 n ++ [chain.byte])) s = .next (s.replied .sendCancel tag [4])) ∧
      (∀ chain e, s.tu.entry? n chain = some e → e.row = none → e.sending = false →
        exec (.sendCancel tag (leBytes 3 n ++ [chain.byte])) s = .next (({ s with
          tu := { s.tu with queue := s.tu.queue.filter fun x => !decide (x.number = n ∧ x.chain = chain) } } :
          State).replied .sendCancel tag [0, 0]))) ∧
    -- the new entry is selected at once
    (∀ desk m, s.tu.link = .boundIdle → s.tu.stopped = false → s.tu.bound = some desk → s.tu.settings.ownMac = some m →
      (∀ e ∈ s.tu.queue, e.source = .buffer ∧ e.chain = .proof ∧
        ((e.row.bind s.bm.row?).any fun r => decide (r.develop = .pending)) = true) →
      let opened (c : Chain) (length sectors : Nat) : Transfer :=
        { id := s.tu.nextId, number := n, chain := c, length := length, next := 0, high := 0, acked := 0, timeouts := 0,
          bad := 0, window := s.tu.settings.window, ackTimeout := s.tu.settings.ackTimeout, crc := crc32Init,
          nextSector := sectors }
      let offer (c : Chain) (length : Nat) : Output := .desk (wireFrame desk m s.tu.settings.etherType 0x04
        (leBytes 2 s.tu.nextId ++ leBytes 3 n ++ [c.byte] ++ leBytes 4 length))
      let ahead (e : Entry) : Byte :=
        BitVec.ofNat 8 ((insertTail e s.tu.queue).findIdx fun x => decide (x.number = n ∧ x.chain = e.chain))
      (∀ r early, (s.bm.rows.map Row.index).Nodup → s.bm.numbered? n = some r → r.discarding = false → r.life = .held →
        r.raw ≠ none → r.proof = none → r.tethers = [] → s.tu.entry? n .raw = none →
        let e : Entry := { number := n, chain := .raw, kind := .duty, row := some r.index, sending := true,
                           source := .buffer, copy := none, prio := prio, early := false }
        let h := s.hears .send
        exec (.send tag (leBytes 3 n ++ [0, BitVec.ofNat 8 prio, flagByte early])) s = .next ((({ h with
          bm := s.bm.mapRow r.index fun x => { x with
            tethers := x.tethers ++ [{ chain := .raw, state := .sending, source := .buffer, prio := prio, early := false,
                                       cause := none }] },
          tu := { s.tu with
            link := .sending, queue := insertTail e s.tu.queue, nextId := (s.tu.nextId + 1) % 65536,
            transfer := some (opened .raw 42000064 0), underTimer := false },
          sent := offer .raw 42000064 :: h.sent } : State).raised .tetherChange [4]).answered .send tag
          [0, 0, 0, ahead e])) ∧
      (∀ i x cap (chain : Chain) (length N : Nat) (p : Piece), s.cw.slot i = x → x.state = .ready → x.op = .idle →
        x.reads = [] → s.cw.stopped = false → x.capacity = some cap → s.tu.buffers = List.replicate 8 .free →
        1 ≤ length → length ≤ 42000064 → N = (length + 511) / 512 → N ≤ p.count → p.start < 2 ^ 32 → p.count < 2 ^ 32 →
        p.start + N ≤ cap → s.tu.entry? n chain = none →
        let e : Entry := { number := n, chain := chain, kind := .stored, row := none, sending := true, source := .card,
                           copy := some { slot := i, pieces := [p], length := length }, prio := prio, early := false }
        let k := min 8 ((N + 127) / 128)
        let h := s.heard 25
        ∀ q qs, (List.range k).map (fun j =>
            ({ start := p.start + 128 * j, count := min 128 (N - 128 * j), buffer := j } : ReadRequest)) = q :: qs →
          exec (.sendStored tag (slotByte i :: (leBytes 4 length ++ leBytes 3 n ++ [chain.byte, BitVec.ofNat 8 prio]) ++
            p.bytes)) s = .next ((({ h.setSlot i { x with op := .read q true, reads := qs } with
            tu := { s.tu with
              link := .sending, queue := insertTail e s.tu.queue, nextId := (s.tu.nextId + 1) % 65536,
              transfer := some (opened chain length (min N 1024)), underTimer := false,
              buffers := (List.range k).map (fun j => .asked (128 * j) (min 128 (N - 128 * j)) false) ++
                List.replicate (8 - k) .free },
            sent := offer chain length :: h.sent } : State).raised .tetherChange [4]).answered .sendStored tag
            [0, ahead e])))

/-- R149, R150, R151, R156, R157, R162: the link follows the PHY; in UNBOUND it sends HELLO at once and at each HELLO timer,
and a BIND of the chosen desk binds it and starts the transfer of a ready entry that waits; in BOUND_IDLE a PING or BIND
of the bound desk restarts the desk-loss timer, whose expiry leads to UNBOUND again. With a transfer in progress the link's
loss and the desk's end it without a frame, and its entry is PENDING at the front of its class. -/
def Obligations.TheLinkFollowsPhyAndDesk : Prop :=
  ∀ (h : DeskHead) (m : BitVec 48) (s : State), s.steady → s.tu.settings.ownMac = some m →
    let up : State := { s with pins := { s.pins with phyUp := true } }
    let down : State := { s with pins := { s.pins with phyUp := false } }
    let hello : Output := .desk (helloFrame s.tu.settings m)
    let heard : Prop := h.etherType = s.tu.settings.etherType ∧ (h.dst = m ∨ h.dst = 0xFFFFFFFFFFFF#48)
    (s.tu.transfer = none →
      (s.tu.link ≠ .down → exec .phyLinkUp s = .next up) ∧
      (s.tu.link = .down → s.pwc.power ≠ .halt → s.tu.stopped = false →
        exec .phyLinkUp s = .next (({ up with
          tu := { s.tu with link := .unbound, bound := none, helloTimer := true, deskTimer := false },
          sent := hello :: s.sent } : State).raised .tetherChange [2])) ∧
      (s.tu.link = .off ∨ s.tu.link = .down → exec .phyLinkDown s = .next down) ∧
      (s.tu.link ≠ .off → s.tu.link ≠ .down →
        exec .phyLinkDown s = .next (({ down with
          tu := { s.tu with link := .down, bound := none, helloTimer := false, deskTimer := false } } : State).raised
          .tetherChange [1])) ∧
      exec .helloTimerExpiry s = .next (if s.tu.helloTimer then { s with sent := hello :: s.sent } else s) ∧
      (s.tu.deskTimer = false → exec .deskLossTimerExpiry s = .next s) ∧
      (s.tu.deskTimer = true → s.tu.link = .boundIdle → s.tu.stopped = false →
        exec .deskLossTimerExpiry s = .next (({ s with
          tu := { s.tu with link := .unbound, bound := none, helloTimer := true, deskTimer := false },
          sent := hello :: s.sent } : State).raised .tetherChange [2])) ∧
      (s.tu.link = .off ∨ s.tu.link = .down → exec (.bind h) s = .next s ∧ exec (.ping h) s = .next s) ∧
      (s.tu.link = .unbound → heard → s.tu.queue = [] → s.tu.stopped = false →
        (s.tu.settings.deskMac = 0 ∨ s.tu.settings.deskMac = h.src) →
        exec (.bind h) s = .next (({ s with
          tu := { s.tu with link := .boundIdle, bound := some h.src, helloTimer := false, deskTimer := true } } :
          State).raised .tetherChange [3])) ∧
      (∀ e rest i r d, s.tu.link = .unbound → heard → s.tu.stopped = false →
        (s.tu.settings.deskMac = 0 ∨ s.tu.settings.deskMac = h.src) → s.tu.queue = e :: rest → e.kind = .duty →
        e.row = some i → e.source = .buffer → e.chain = .raw → e.copy = none →
        (∀ x ∈ rest, ¬ (x.number = e.number ∧ x.chain = .raw)) → (s.bm.rows.map Row.index).Nodup → s.bm.row? i = some r →
        r.proof = none →
        r.tethers = [d] → d.chain = .raw → d.state = .pending →
        let t : Transfer :=
          { id := s.tu.nextId, number := e.number, chain := .raw, length := 42000064, next := 0, high := 0, acked := 0,
            timeouts := 0, bad := 0, window := s.tu.settings.window, ackTimeout := s.tu.settings.ackTimeout,
            crc := crc32Init, nextSector := 0 }
        exec (.bind h) s = .next ((({ s with
          bm := s.bm.mapRow i fun x => { x with
            tethers := [{ d with state := .sending, source := .buffer, prio := e.prio, early := e.early }] },
          tu := { s.tu with
            link := .sending, bound := some h.src, helloTimer := false, deskTimer := true,
            queue := { e with sending := true } :: rest, nextId := (s.tu.nextId + 1) % 65536, transfer := some t,
            underTimer := false },
          sent := .desk (wireFrame h.src m s.tu.settings.etherType 0x04
            (leBytes 2 s.tu.nextId ++ leBytes 3 e.number ++ [0] ++ leBytes 4 42000064)) :: s.sent } : State).raised
          .tetherChange [3]).raised .tetherChange [4])) ∧
      (s.tu.link = .boundIdle → heard → s.tu.bound = some h.src →
        exec (.ping h) s = .next { s with tu := { s.tu with deskTimer := true } } ∧
        exec (.bind h) s = .next { s with tu := { s.tu with deskTimer := true } }) ∧
      (s.tu.link = .boundIdle → heard → s.tu.bound ≠ some h.src → exec (.ping h) s = .next s)) ∧
    ∀ x e, s.sends x e →
      exec .phyLinkDown s = .next (({ down with
        bm := (s.requeued e).bm,
        tu := { (s.requeued e).tu with link := .down, bound := none, helloTimer := false, deskTimer := false } } :
        State).raised .tetherChange [1]) ∧
      (s.tu.deskTimer = true →
        exec .deskLossTimerExpiry s = .next (({ s with
          bm := (s.requeued e).bm,
          tu := { (s.requeued e).tu with link := .unbound, bound := none, helloTimer := true, deskTimer := false },
          sent := hello :: s.sent } : State).raised .tetherChange [2]))

/-- R112, R158, R161, R162, R163, R164, R165: DATA_SEND sends the next DATA frame while the window has room, and folds its
bytes into the CRC once: of a buffered RAW chain, of a PROOF up to the early limit, with the underrun timer running while
the limit alone holds the next frame back, and of a card copy once all its bytes stand in segment buffers. With the window
full, the chain sent, the frame beyond the limit or a byte of it not yet read it sends nothing. A frame-memory error on the
read of a frame, or an underrun of an early transfer, sends ABORT and ends the transfer. Outside SENDING neither DATA_SEND
nor the error has an effect. -/
def Obligations.DataFramesAreSent : Prop :=
  ∀ (i : Nat) (r : Row) (t : Transfer) (e : Entry) (desk m : BitVec 48) (s : State), s.steady →
    let frame (kind : Byte) (f : List Byte) : Output := .desk (wireFrame desk m s.tu.settings.etherType kind f)
    (s.tu.link ≠ .sending → exec .dataSend s = .next s ∧ exec .tuReadError s = .next s) ∧
    (s.tu.underTimer = false → exec .underrunTimerExpiry s = .next s) ∧
    (s.tu.transfer = some t → (t.window ≤ (t.next - t.acked) / 1408 ∨ t.length ≤ t.next) →
      exec .dataSend s = .next s ∧ exec .tuReadError s = .next s) ∧
    (s.tu.link = .sending → s.tu.transfer = some t → s.tu.queue = [e] → e.number = t.number → e.chain = t.chain →
      s.tu.bound = some desk → s.tu.settings.ownMac = some m → t.next < t.length → (t.next - t.acked) / 1408 < t.window →
      let n := min 1408 (t.length - t.next)
      let sends (data : List Byte) (waits : Bool) : State := { s with
        tu := { s.tu with
          transfer := some { t with
            next := t.next + n, high := max t.high (t.next + n),
            crc := if t.high ≤ t.next then crc32Fold t.crc data else t.crc },
          ackTimer := true, underTimer := waits },
        sent := frame 0x05 (leBytes 2 t.id ++ leBytes 4 t.next ++ leBytes 2 n ++ data) :: s.sent }
      -- a PROOF from the buffer
      (∀ c limit, e.source = .buffer → e.chain = .proof → e.row = some i → s.bm.row? i = some r → r.proof = some c →
        limit = (if r.develop = .done then t.length else 64 + 6000 * c.frontier) →
        (limit < t.next + n → exec .dataSend s = .next s ∧ exec .tuReadError s = .next s) ∧
        (t.next + n ≤ limit →
          exec .dataSend s = .next (sends (chainRead s.mem c.pages t.next n)
            (decide ((t.next + n - t.acked) / 1408 < t.window ∧ t.next + n < t.length ∧
              limit < t.next + n + min 1408 (t.length - (t.next + n))))))) ∧
      -- a card copy
      (e.source = .card →
        let byte? (o : Nat) : Option Byte := s.tu.buffers.findSome? fun b => match b with
          | .full k m data => if 512 * k ≤ o ∧ o < 512 * (k + m) then data[o - 512 * k]? else none
          | .free | .asked _ _ _ => none
        (∀ k, k < n → byte? (t.next + k) = none → exec .dataSend s = .next s) ∧
        (∀ data : List Byte, (List.range n).map (fun k => byte? (t.next + k)) = data.map some →
          exec .dataSend s = .next (sends data false)))) ∧
    (s.tu.link = .sending → s.tu.transfer = some t → s.tu.queue = [e] → e.number = t.number → e.chain = t.chain →
      e.kind = .duty → e.row = some i → e.sending = true → e.source = .buffer → e.copy = none → s.bm.row? i = some r →
      s.tu.bound = some desk → s.tu.settings.ownMac = some m → s.tu.stopped = false →
      (∀ c n data, e.chain = .raw → r.raw = some c → t.next < t.length → (t.next - t.acked) / 1408 < t.window →
        n = min 1408 (t.length - t.next) → data = chainRead s.mem c.pages t.next n →
        exec .dataSend s = .next { s with
          tu := { s.tu with
            transfer := some { t with
              next := t.next + n, high := max t.high (t.next + n),
              crc := if t.high ≤ t.next then crc32Fold t.crc data else t.crc },
            ackTimer := true, underTimer := false },
          sent := frame 0x05 (leBytes 2 t.id ++ leBytes 4 t.next ++ leBytes 2 n ++ data) :: s.sent } ∧
        ∃ u, exec .tuReadError s = .next u ∧ u.tu.transfer = none ∧ u.tu.queue = [] ∧ u.tu.link = .boundIdle ∧
          u.tu.counters.failed = min 255 (s.tu.counters.failed + 1) ∧ u.sent = frame 0x09 (leBytes 2 t.id ++ [2]) :: s.sent ∧
          u.rdu = s.rdu ∧ u.sru = s.sru ∧ u.fu = s.fu) ∧
      (e.chain = .proof → r.develop = .running → r.index = i → r.life = .held → s.tu.underTimer = true →
        s.tu.reclaim = false →
        ∃ u, exec .underrunTimerExpiry s = .next u ∧ u.tu.transfer = none ∧ u.tu.link = .boundIdle ∧
          u.tu.queue = [{ e with sending := false, early := false }] ∧
          u.tu.counters.underruns = min 255 (s.tu.counters.underruns + 1) ∧
          u.sent = frame 0x09 (leBytes 2 t.id ++ [1]) :: s.sent ∧
          u.rdu = s.rdu ∧ u.sru = s.sru ∧ u.fu = s.fu ∧ u.mem = s.mem ∧ u.de = s.de ∧ u.cw = s.cw))

/-- R149, R151, R157, R159, R160, R161, R162: with no transfer an ACK or a FINACK of the bound desk only refreshes the
desk-loss timer. An ACK inside the transfer moves the acked offset, and one for the length brings FIN; FINACK GOOD ends
the transfer, a first BAD starts it over (that the ack timer and the timeout run then stand is log entry 42), a second
fails it; the ack timer goes back to the acked offset, and at the fifth in a row the desk is lost. That SEND_DONE and
SEND_FAILED are raised before TETHER_CHANGE is log entry 57, and that the padding of a copy's last sector counts among the
bytes a buffer holds is log entry 61. -/
def Obligations.TransfersAreAcknowledged : Prop :=
  (∀ s : State, s.steady → s.tu.ackTimer = false → exec .ackTimerExpiry s = .next s) ∧
  (∀ (h : DeskHead) (m : BitVec 48) (id : BitVec 16) (o : BitVec 32) (r : Byte) (s : State), s.steady →
    s.tu.settings.ownMac = some m → s.tu.transfer = none → s.tu.link = .boundIdle → s.tu.stopped = false →
    h.etherType = s.tu.settings.etherType → h.dst = m → s.tu.bound = some h.src → r.toNat ≤ 1 →
    exec (.ack h id o) s = .next { s with tu := { s.tu with deskTimer := true } } ∧
    exec (.finack h id r) s = .next { s with tu := { s.tu with deskTimer := true } }) ∧
  ∀ (h : DeskHead) (m : BitVec 48) (id : BitVec 16) (o : BitVec 32) (t : Transfer) (e : Entry) (s : State), s.steady →
    s.tu.settings.ownMac = some m → s.tu.transfer = some t → s.tu.queue = [e] → e.number = t.number →
    e.chain = t.chain → s.tu.stopped = false → h.etherType = s.tu.settings.etherType → h.dst = m →
    s.tu.bound = some h.src → id.toNat = t.id →
    let frame (kind : Byte) (f : List Byte) : Output := .desk (wireFrame h.src m s.tu.settings.etherType kind f)
    let heard : State := { s with tu := { s.tu with deskTimer := true } }
    (e.kind = .duty → e.source = .buffer → e.chain = .raw → e.copy = none → s.tu.link = .finishing → t.bad = 0 →
      s.tu.counters.restarted < 254 →
      exec (.finack h id 1) s = .next (({ heard with
        tu := { heard.tu with
          link := .sending, underTimer := false, buffers := s.tu.buffers.map Buffer.giveBack,
          transfer := some { t with next := 0, high := 0, acked := 0, bad := 1, crc := crc32Init, nextSector := 0 },
          counters := { s.tu.counters with restarted := s.tu.counters.restarted + 1 } },
        sent := frame 0x04 (leBytes 2 t.id ++ leBytes 3 t.number ++ [t.chain.byte] ++ leBytes 4 t.length) :: s.sent } :
        State).raised .tetherChange [4])) ∧
    (e.kind = .stored → e.row = none → e.source = .card → t.length ≤ 512 * t.nextSector →
      (s.tu.link = .sending → (o.toNat % 1408 = 0 ∨ o.toNat = t.length) → t.acked < o.toNat → o.toNat ≤ t.high →
        let moved : Transfer := { t with acked := o.toNat, next := max t.next o.toNat, timeouts := 0 }
        (o.toNat ≠ t.length →
          exec (.ack h id o) s = .next { heard with tu := { heard.tu with
            ackTimer := decide (o.toNat < t.high), underTimer := false, transfer := some moved,
            buffers := s.tu.buffers.map (Buffer.freeBelow o.toNat) } }) ∧
        (o.toNat = t.length →
          exec (.ack h id o) s = .next (({ heard with
            tu := { heard.tu with
              link := .finishing, ackTimer := true, underTimer := false, transfer := some moved,
              buffers := s.tu.buffers.map (Buffer.freeBelow o.toNat) },
            sent := frame 0x07 (leBytes 2 t.id ++ leBytes 4 t.length ++ leBytes 4 (~~~ t.crc).toNat) :: s.sent } :
            State).raised .tetherChange [5]))) ∧
      (s.tu.link = .finishing →
        let closed : Tu := { heard.tu with
          link := .boundIdle, transfer := none, queue := [], ackTimer := false, underTimer := false,
          buffers := s.tu.buffers.map Buffer.giveBack }
        exec (.finack h id 0) s = .next ((({ heard with tu := closed } : State).raised .sendDone
          (leBytes 3 e.number ++ [e.chain.byte])).raised .tetherChange [3]) ∧
        (t.bad ≠ 0 → s.tu.counters.failed < 254 →
          exec (.finack h id 1) s = .next ((({ heard with
            tu := { closed with counters := { s.tu.counters with failed := s.tu.counters.failed + 1 } } } : State).raised
            .sendFailed (leBytes 3 e.number ++ [e.chain.byte, 0])).raised .tetherChange [3]))) ∧
      (s.tu.ackTimer = true → s.tu.link = .sending → s.tu.counters.ackTimeouts < 254 →
        let counted : Counters := { s.tu.counters with ackTimeouts := s.tu.counters.ackTimeouts + 1 }
        (t.timeouts < 4 →
          exec .ackTimerExpiry s = .next { s with tu := { s.tu with
            ackTimer := false, underTimer := false, counters := counted,
            transfer := some { t with timeouts := t.timeouts + 1, next := t.acked } } }) ∧
        (4 ≤ t.timeouts → s.tu.counters.failed < 254 →
          exec .ackTimerExpiry s = .next (({ s with
            tu := { s.tu with
              link := .unbound, bound := none, transfer := none, queue := [{ e with sending := false }],
              ackTimer := false, underTimer := false, helloTimer := true, deskTimer := false,
              counters := { counted with failed := s.tu.counters.failed + 1 },
              buffers := s.tu.buffers.map Buffer.giveBack },
            sent := .desk (helloFrame s.tu.settings m) :: s.sent } : State).raised .tetherChange [2]))))

/-- R44, R150, R167, R168, R170, R173: a REQUEST of the bound desk draws NAK and DESK_REQUEST for an unknown shot and, once
a supply warning has stopped the tether, for every shot; during a transfer it joins the send queue at priority 2, or raises
the entry that waits below it. A REMOTE draws NAK unless the setting lets it release, with the reason of R44 (that a count
out of range is judged before the power state and the drive is log entry 13). A frame that fails R150 is dropped and
counted, but in OFF and DOWN not even that. -/
def Obligations.DeskRequestsAreServed : Prop :=
  ∀ (h : DeskHead) (m : BitVec 48) (n : BitVec 24) (chain count : Byte) (s : State), s.steady →
    s.tu.settings.ownMac = some m →
    let nak (f : List Byte) : Output := .desk (wireFrame h.src m s.tu.settings.etherType 0x0C f)
    let heard : State := { s with tu := { s.tu with deskTimer := true } }
    let dropped : State := { s with tu := { s.tu with
      counters := { s.tu.counters with dropped := s.tu.counters.dropped + 1 } } }
    ((s.tu.link = .off ∨ s.tu.link = .down) → ∀ f,
      exec (.deskFrameDropped f) s = .next s ∧ exec (.request h n chain) s = .next s ∧
        exec (.remote h count) s = .next s) ∧
    (s.tu.link ≠ .off → s.tu.link ≠ .down → s.tu.counters.dropped < 254 →
      (∀ f : List Byte, f.length < 19 ∨ 1518 < f.length ∨ frameCheck f = false ∨
          byteAt f 14 ∉ [0x02, 0x03, 0x06, 0x08, 0x0A, 0x0B] →
        exec (.deskFrameDropped f) s = .next dropped) ∧
      (h.etherType ≠ s.tu.settings.etherType → exec (.request h n chain) s = .next dropped ∧
        exec (.remote h count) s = .next dropped)) ∧
    (s.tu.link = .boundIdle ∨ s.tu.link = .sending ∨ s.tu.link = .finishing → h.etherType = s.tu.settings.etherType →
      h.dst = m → s.tu.bound = some h.src →
      (s.tu.stopped = true ∨ (chain.toNat ≤ 1 ∧ 1 ≤ n.toNat ∧ s.bm.numbered? n.toNat = none) →
        exec (.request h n chain) s = .next (({ heard with
          sent := nak ([0x0A] ++ leBytes 3 n.toNat ++ [chain, 0, if s.tu.stopped then 8 else 4]) :: s.sent } :
          State).raised .deskRequest (leBytes 3 n.toNat ++ [chain]))) ∧
      (s.tu.link ≠ .boundIdle → s.tu.stopped = false → 1 ≤ n.toNat → s.tu.queue.length < 64 →
        ∀ r, s.bm.numbered? n.toNat = some r → r.discarding = false →
        (chain = 0 → r.life = .held → r.raw ≠ none → r.tethers = [] → s.tu.entry? n.toNat .raw = none →
          let e : Entry := { number := n.toNat, chain := .raw, kind := .duty, row := some r.index, sending := false,
                             source := .buffer, copy := none, prio := 2, early := false }
          exec (.request h n chain) s = .next { heard with
            bm := s.bm.mapRow r.index fun x => { x with
              tethers := x.tethers ++ [{ chain := .raw, state := .pending, source := .buffer, prio := 2, early := false,
                                         cause := none }] },
            tu := { heard.tu with queue := insertTail e s.tu.queue } }) ∧
        (∀ e, chain = e.chain.byte → s.tu.entry? n.toNat e.chain = some e → e.row = none → e.sending = false →
          e.prio < 2 →
          exec (.request h n chain) s = .next { heard with tu := { heard.tu with
            queue := insertTail { e with prio := 2 }
              (s.tu.queue.filter fun x => !decide (x.number = n.toNat ∧ x.chain = e.chain)) } })) ∧
      (s.tu.settings.remote = false ∨ (1 ≤ count.toNat ∧ count.toNat ≤ 99 ∧
          (s.pwc.latched = true ∨ (s.inRun ∧ s.rdu.drive ≠ .idle ∧ s.rdu.drive ≠ .ready))) →
        exec (.remote h count) s = .next { heard with sent := nak [0x0B, 0, 0, 0, 0, count, 8] :: s.sent }) ∧
      (s.tu.settings.remote = true → count.toNat = 0 ∨ 99 < count.toNat →
        exec (.remote h count) s = .next { heard with sent := nak [0x0B, 0, 0, 0, 0, count, 3] :: s.sent }) ∧
      (s.tu.settings.remote = true → s.inRun → 1 ≤ count.toNat → count.toNat ≤ 99 →
        (s.rdu.drive = .idle ∨ s.rdu.drive = .ready) → s.rdu.active.priority = .focus → s.fu.active.mode = .single →
        s.fu.state ∈ [.idle, .seeking, .noTarget] →
        ∃ u, exec (.remote h count) s = .next u ∧
          u.rdu = { s.rdu with
            remoteCount := if s.rdu.active.mode = .single then 1 else count.toNat, waiter := some .remoteDesk,
            focusWait := true, drive := .waitingFocus, viewOn := true, halfPress := true } ∧
          u.tu = heard.tu ∧ u.bm = s.bm ∧ u.mem = s.mem ∧ u.de = s.de ∧ u.cw = s.cw ∧ u.sent = s.sent ∧ u.pwc = s.pwc))
end

