-- ==== Sys2Proof/Laws/State.lean ====
section
/-! SUPPORT. What the smallest operations over a step do to the state and to the reports: true by rfl. A field of the
state after an operation is read through the first lemma of each pair. Then what the bytes shifted out leave alone. -/

namespace Sys2Proof.Machine

variable (w : Work)

@[simp] theorem Work.post_toState (r : Report) : (w.post r).toState = w.toState := rfl
@[simp] theorem Work.post_bus (r : Report) : (w.post r).bus = w.bus ++ [r] := rfl
@[simp] theorem Work.emit_toState (o : Output) : (w.emit o).toState = { w.toState with sent := o :: w.sent } := rfl
@[simp] theorem Work.emit_bus (o : Output) : (w.emit o).bus = w.bus := rfl
@[simp] theorem Work.raise_toState (k : Notice) (s : List Byte) :
    (w.raise k s).toState = { w.toState with cp := w.cp.raise k s } := rfl
@[simp] theorem Work.raise_bus (k : Notice) (s : List Byte) : (w.raise k s).bus = w.bus := rfl
@[simp] theorem Work.reply_toState (kind tag : Byte) (p : List Byte) :
    (w.reply kind tag p).toState = { w.toState with cp := w.cp.append (.reply kind tag p) } := rfl
@[simp] theorem Work.reply_bus (kind tag : Byte) (p : List Byte) : (w.reply kind tag p).bus = w.bus := rfl
@[simp] theorem Work.mapRow_toState (i : Nat) (f : Row → Row) :
    (w.mapRow i f).toState = { w.toState with bm := w.bm.mapRow i f } := rfl
@[simp] theorem Work.mapRow_bus (i : Nat) (f : Row → Row) : (w.mapRow i f).bus = w.bus := rfl


/-! ### Bytes shifted out -/

variable (c : Cp) (s : State) (n : Nat)

@[simp] theorem Cp.repost_rx (k : Notice) : (c.repost k).rx = c.rx := by unfold Cp.repost; split <;> rfl
@[simp] theorem Cp.repost_strays (k : Notice) : (c.repost k).strays = c.strays := by unfold Cp.repost; split <;> rfl
@[simp] theorem Cp.repost_muted (k : Notice) : (c.repost k).muted = c.muted := by unfold Cp.repost; split <;> rfl
@[simp] theorem Cp.repost_enabled (k : Notice) : (c.repost k).enabled = c.enabled := by unfold Cp.repost; split <;> rfl
@[simp] theorem Cp.repost_garbled (k : Notice) : (c.repost k).garbled = c.garbled := by unfold Cp.repost; split <;> rfl
@[simp] theorem Cp.repost_overrun (k : Notice) : (c.repost k).overrun = c.overrun := by unfold Cp.repost; split <;> rfl
@[simp] theorem Cp.repost_cause (k : Notice) : (c.repost k).cause = c.cause := by unfold Cp.repost; split <;> rfl
@[simp] theorem Cp.repost_held (k : Notice) : (c.repost k).held = c.held := by unfold Cp.repost; split <;> rfl

/-- A byte shifted out leaves of CP all but the queue, its head's progress and the latches. -/
theorem Cp.advance_keeps :
    (c.advance.rx, c.advance.strays, c.advance.muted, c.advance.enabled, c.advance.garbled, c.advance.overrun, c.advance.cause, c.advance.held) =
      (c.rx, c.strays, c.muted, c.enabled, c.garbled, c.overrun, c.cause, c.held) := by
  simp only [Cp.advance, Cp.fixHead, Cp.frameLeft]
  repeat' split
  all_goals first | rfl | simp only [Cp.repost_rx, Cp.repost_strays, Cp.repost_muted, Cp.repost_enabled, Cp.repost_garbled, Cp.repost_overrun, Cp.repost_cause, Cp.repost_held]

/-- The bytes shifted out change CP and the log of outputs alone. -/
theorem State.shiftOuts_frame :
    s.shiftOuts n = { s with cp := (s.shiftOuts n).cp, sent := (s.shiftOuts n).sent } := by
  induction n generalizing s with
  | zero => rfl
  | succ n ih => exact ih s.shiftOut

/-- What neither a byte shifted out nor the mark of a transaction changes, no number of bytes changes. -/
theorem State.shiftOuts_cp {α : Type} (f : Cp → α) (h : ∀ c : Cp, f { c.advance with busy := true } = f c) :
    f (s.shiftOuts n).cp = f s.cp := by
  induction n generalizing s with
  | zero => rfl
  | succ n ih => exact (ih s.shiftOut).trans (h s.cp)

@[simp] theorem State.shiftOuts_pwc : (s.shiftOuts n).pwc = s.pwc := by rw [State.shiftOuts_frame]
@[simp] theorem State.shiftOuts_rdu : (s.shiftOuts n).rdu = s.rdu := by rw [State.shiftOuts_frame]
@[simp] theorem State.shiftOuts_sru : (s.shiftOuts n).sru = s.sru := by rw [State.shiftOuts_frame]
@[simp] theorem State.shiftOuts_fu : (s.shiftOuts n).fu = s.fu := by rw [State.shiftOuts_frame]
@[simp] theorem State.shiftOuts_bm : (s.shiftOuts n).bm = s.bm := by rw [State.shiftOuts_frame]
@[simp] theorem State.shiftOuts_mem : (s.shiftOuts n).mem = s.mem := by rw [State.shiftOuts_frame]
@[simp] theorem State.shiftOuts_de : (s.shiftOuts n).de = s.de := by rw [State.shiftOuts_frame]
@[simp] theorem State.shiftOuts_cw : (s.shiftOuts n).cw = s.cw := by rw [State.shiftOuts_frame]
@[simp] theorem State.shiftOuts_tu : (s.shiftOuts n).tu = s.tu := by rw [State.shiftOuts_frame]
@[simp] theorem State.shiftOuts_pins : (s.shiftOuts n).pins = s.pins := by rw [State.shiftOuts_frame]
@[simp] theorem State.shiftOuts_now : (s.shiftOuts n).now = s.now := by rw [State.shiftOuts_frame]
@[simp] theorem State.shiftOuts_freeUsed : (s.shiftOuts n).freeUsed = s.freeUsed := by rw [State.shiftOuts_frame]
@[simp] theorem State.shiftOuts_pending : (s.shiftOuts n).pending = s.pending := by rw [State.shiftOuts_frame]
@[simp] theorem State.shiftOuts_cp_rx : (s.shiftOuts n).cp.rx = s.cp.rx :=
  s.shiftOuts_cp n Cp.rx fun c => congrArg (fun x => x.1) c.advance_keeps
@[simp] theorem State.shiftOuts_cp_strays : (s.shiftOuts n).cp.strays = s.cp.strays :=
  s.shiftOuts_cp n Cp.strays fun c => congrArg (fun x => x.2.1) c.advance_keeps
@[simp] theorem State.shiftOuts_cp_muted : (s.shiftOuts n).cp.muted = s.cp.muted :=
  s.shiftOuts_cp n Cp.muted fun c => congrArg (fun x => x.2.2.1) c.advance_keeps
@[simp] theorem State.shiftOuts_cp_enabled : (s.shiftOuts n).cp.enabled = s.cp.enabled :=
  s.shiftOuts_cp n Cp.enabled fun c => congrArg (fun x => x.2.2.2.1) c.advance_keeps
@[simp] theorem State.shiftOuts_cp_garbled : (s.shiftOuts n).cp.garbled = s.cp.garbled :=
  s.shiftOuts_cp n Cp.garbled fun c => congrArg (fun x => x.2.2.2.2.1) c.advance_keeps
@[simp] theorem State.shiftOuts_cp_overrun : (s.shiftOuts n).cp.overrun = s.cp.overrun :=
  s.shiftOuts_cp n Cp.overrun fun c => congrArg (fun x => x.2.2.2.2.2.1) c.advance_keeps
@[simp] theorem State.shiftOuts_cp_cause : (s.shiftOuts n).cp.cause = s.cp.cause :=
  s.shiftOuts_cp n Cp.cause fun c => congrArg (fun x => x.2.2.2.2.2.2.1) c.advance_keeps
@[simp] theorem State.shiftOuts_cp_held : (s.shiftOuts n).cp.held = s.cp.held :=
  s.shiftOuts_cp n Cp.held fun c => congrArg (fun x => x.2.2.2.2.2.2.2) c.advance_keeps
/-- Bytes that are shifted out are bytes of a transaction. -/
theorem State.shiftOuts_busy : (s.shiftOuts (n + 1)).cp.busy = true := by
  induction n generalizing s with
  | zero => rfl
  | succ n ih => exact ih s.shiftOut

@[simp] theorem Work.shiftOuts_toState : (w.shiftOuts n).toState = w.toState.shiftOuts n := rfl
@[simp] theorem Work.shiftOuts_bus : (w.shiftOuts n).bus = w.bus := rfl

/-- A notice that is posted again is no reply. -/
theorem Cp.repost_replies (k : Notice) :
    (c.repost k).queue.filter OutFrame.isReply = c.queue.filter OutFrame.isReply := by
  simp only [Cp.repost]
  split
  · simp [Cp.append, OutFrame.isReply]
  · rfl

/-- No byte shifted out adds a reply. -/
theorem Cp.advance_replies : (c.advance.queue.filter OutFrame.isReply).length ≤ (c.queue.filter OutFrame.isReply).length := by
  cases hq : c.queue with
  | nil => simp [Cp.advance, hq]
  | cons f rest =>
    cases f <;> simp only [Cp.advance, Cp.fixHead, Cp.frameLeft, hq] <;> repeat' split
    all_goals simp [hq, Cp.setLatch, Cp.repost_replies, List.filter_cons, OutFrame.isReply]

/-- The replies outstanding do not grow while bytes go out. -/
theorem State.shiftOuts_outstanding : (s.shiftOuts n).cp.outstanding ≤ s.cp.outstanding := by
  induction n generalizing s with
  | zero => exact Nat.le_refl _
  | succ n ih =>
    refine Nat.le_trans (ih s.shiftOut) ?_
    have h1 := s.cp.advance_replies
    have h2 : s.shiftOut.cp.held = s.cp.held := s.shiftOuts_cp_held 1
    simp only [Cp.outstanding, h2]
    exact Nat.add_le_add_right h1 _

end Sys2Proof.Machine
end

