-- ==== Sys2Proof/Laws/Front.lean ====
section
/-! SUPPORT. What the operations of BM, CW, DE and TU leave as it is: RDU, SRU, FU, the part of every row that no duty
changes, and the settings of BM; and that they post reports to each other only. One lemma per operation. -/

namespace Sys2Proof.Machine


/-- The part of a row that its duties and chains do not change. -/
abbrev Row.fixed (r : Row) :=
  (r.index, r.number, r.precapture, r.mark, r.origin, r.burst, r.timestamp, r.protect, r.discarding, r.damage, r.focus,
    r.flash, r.look, r.policy)

/-- RDU, SRU, FU, the fixed part of every row in order, and the settings of BM. -/
def State.front (s : State) :=
  (s.rdu, s.sru, s.fu, s.bm.rows.map Row.fixed, s.bm.nextNumber, s.bm.reserve, s.bm.threshold)

theorem State.front_mk (a b c d e f g h i j k l m n o) :
    State.front ⟨a, b, c, d, e, f, g, h, i, j, k, l, m, n, o⟩ =
      (c, d, e, f.rows.map Row.fixed, f.nextNumber, f.reserve, f.threshold) := rfl

theorem State.front_fold (s : State) :
    (s.rdu, s.sru, s.fu, s.bm.rows.map Row.fixed, s.bm.nextNumber, s.bm.reserve, s.bm.threshold) = s.front := rfl

theorem Row.fixed_mk (r : Row) : r.fixed =
  (r.index, r.number, r.precapture, r.mark, r.origin, r.burst, r.timestamp, r.protect, r.discarding, r.damage, r.focus,
    r.flash, r.look, r.policy) := rfl

theorem Bm.mapRow_fixed (b : Bm) (i : Nat) (f : Row → Row) (h : ∀ r, (f r).fixed = r.fixed) :
    (b.mapRow i f).rows.map Row.fixed = b.rows.map Row.fixed := by
  simp only [Bm.mapRow, List.map_map]
  congr 1
  funext r
  simp only [Function.comp]
  split
  · exact h r
  · rfl

theorem Work.mapRow_front {f : Row → Row} (h : ∀ r, (f r).fixed = r.fixed) (i : Nat) (w : Work) :
    (w.mapRow i f).toState.front = w.toState.front := by
  simp only [Work.mapRow_toState, State.front, Bm.mapRow_fixed _ _ _ h]
  rfl
@[simp] theorem Work.raise_front (k : Notice) (s : List Byte) (w : Work) : (w.raise k s).toState.front = w.toState.front := rfl
theorem foldl_front {α : Type} (f : Work → α → Work) (h : ∀ v x, (f v x).toState.front = v.toState.front) :
    ∀ (l : List α) (w : Work), (l.foldl f w).toState.front = w.toState.front
  | [], _ => rfl
  | x :: l, w => by rw [List.foldl_cons, foldl_front f h l, h]
@[simp] theorem Work.freePages_front (pages : List Nat) (w : Work) : (Work.freePages pages w).toState.front = w.toState.front := by
  simp only [Work.freePages]
  repeat' split
  all_goals first | rfl | simp (disch := (intro r; rfl)) [State.front_mk, State.front_fold, Work.mapRow_front, -Work.mapRow_toState]
@[simp] theorem Work.takePages_front (n : Nat) (w : Work) : (Work.takePages n w).toState.front = w.toState.front := by
  simp only [Work.takePages]
  repeat' split
  all_goals first | rfl | simp (disch := (intro r; rfl)) [State.front_mk, State.front_fold, Work.mapRow_front, -Work.mapRow_toState]
theorem Work.proofAlloc_front (i : Nat) (w v : Work) (h : w.proofAlloc i = some v) : v.toState.front = w.toState.front := by
  simp only [Work.proofAlloc] at h
  split at h
  · cases h; simp (disch := (intro r; rfl)) [State.front_mk, State.front_fold, Work.mapRow_front, -Work.mapRow_toState]
  · cases h
@[simp] theorem Work.releaseRaw_front (i : Nat) (w : Work) : (Work.releaseRaw i w).toState.front = w.toState.front := by
  simp only [Work.releaseRaw]
  repeat' split
  all_goals first | rfl | simp (disch := (intro r; rfl)) [State.front_mk, State.front_fold, Work.mapRow_front, -Work.mapRow_toState]
@[simp] theorem Work.releaseProof_front (i : Nat) (w : Work) : (Work.releaseProof i w).toState.front = w.toState.front := by
  simp only [Work.releaseProof]
  repeat' split
  all_goals first | rfl | simp (disch := (intro r; rfl)) [State.front_mk, State.front_fold, Work.mapRow_front, -Work.mapRow_toState]
@[simp] theorem Work.releaseCheck_front (i : Nat) (w : Work) : (Work.releaseCheck i w).toState.front = w.toState.front := by
  simp only [Work.releaseCheck]
  repeat' split
  all_goals first | rfl | simp (disch := (intro r; rfl)) [State.front_mk, State.front_fold, Work.mapRow_front, -Work.mapRow_toState]
@[simp] theorem Work.settleCheck_front (i : Nat) (w : Work) : (Work.settleCheck i w).toState.front = w.toState.front := by
  simp only [Work.settleCheck]
  repeat' split
  all_goals first | rfl | simp (disch := (intro r; rfl)) [State.front_mk, State.front_fold, Work.mapRow_front, -Work.mapRow_toState]
@[simp] theorem Work.check_front (i : Nat) (w : Work) : (Work.check i w).toState.front = w.toState.front := by
  simp only [Work.check]
  repeat' split
  all_goals first | rfl | simp (disch := (intro r; rfl)) [State.front_mk, State.front_fold, Work.mapRow_front, -Work.mapRow_toState]
@[simp] theorem Work.mapSlot_front (s : SlotId) (f : Slot → Slot) (w : Work) : (Work.mapSlot s f w).toState.front = w.toState.front := by
  simp only [Work.mapSlot]
  repeat' split
  all_goals first | rfl | simp (disch := (intro r; rfl)) [State.front_mk, State.front_fold, Work.mapRow_front, -Work.mapRow_toState]
@[simp] theorem Work.slotChanged_front (w : Work) : (Work.slotChanged w).toState.front = w.toState.front := by
  simp only [Work.slotChanged]
  repeat' split
  all_goals first | rfl | simp (disch := (intro r; rfl)) [State.front_mk, State.front_fold, Work.mapRow_front, -Work.mapRow_toState]
@[simp] theorem Work.enterSlot_front (s : SlotId) (st : SlotState) (w : Work) : (Work.enterSlot s st w).toState.front = w.toState.front := by
  simp only [Work.enterSlot]
  repeat' split
  all_goals first | rfl | simp (disch := (intro r; rfl)) [State.front_mk, State.front_fold, Work.mapRow_front, -Work.mapRow_toState]
@[simp] theorem Work.mapDuty_front (d : DutyRef) (f : CardDuty → CardDuty) (w : Work) : (Work.mapDuty d f w).toState.front = w.toState.front := by
  simp only [Work.mapDuty]
  repeat' split
  all_goals first | rfl | simp (disch := (intro r; rfl)) [State.front_mk, State.front_fold, Work.mapRow_front, -Work.mapRow_toState]
@[simp] theorem Work.setExtents_front (s : SlotId) (q : List Piece) (w : Work) : (Work.setExtents s q w).toState.front = w.toState.front := by
  simp only [Work.setExtents]
  repeat' split
  all_goals first | rfl | simp (disch := (intro r; rfl)) [State.front_mk, State.front_fold, Work.mapRow_front, -Work.mapRow_toState]
@[simp] theorem Work.startRun_front (s : SlotId) (w : Work) : (Work.startRun s w).toState.front = w.toState.front := by
  simp only [Work.startRun]
  repeat' split
  all_goals first | rfl | simp (disch := (intro r; rfl)) [State.front_mk, State.front_fold, Work.mapRow_front, -Work.mapRow_toState]
@[simp] theorem Work.startRead_front (s : SlotId) (w : Work) : (Work.startRead s w).toState.front = w.toState.front := by
  simp only [Work.startRead]
  repeat' split
  all_goals first | rfl | simp (disch := (intro r; rfl)) [State.front_mk, State.front_fold, Work.mapRow_front, -Work.mapRow_toState]
@[simp] theorem Work.walk_front (s : SlotId) : ∀ (q : List DutyRef) (w : Work), (Work.walk s q w).2.toState.front = w.toState.front
  | [], _ => rfl
  | d :: q, w => by
    simp only [Work.walk]
    repeat' split
    all_goals simp [Work.walk_front s q, State.front_mk, State.front_fold, Work.mapRow_front, -Work.mapRow_toState]

theorem Work.walk_front' {s : SlotId} {q : List DutyRef} {w v : Work} {o : Option DutyRef} (h : Work.walk s q w = (o, v)) :
    v.toState.front = w.toState.front := by
  have := Work.walk_front s q w
  rwa [h] at this
@[simp] theorem Work.beginChain_front (s : SlotId) (d : DutyRef) (w : Work) : (Work.beginChain s d w).toState.front = w.toState.front := by
  simp only [Work.beginChain]
  repeat' split
  all_goals first | rfl | simp (disch := (intro r; rfl)) [State.front_mk, State.front_fold, Work.mapRow_front, -Work.mapRow_toState]
@[simp] theorem Work.selectDuty_front (s : SlotId) (w : Work) : (Work.selectDuty s w).toState.front = w.toState.front := by
  simp only [Work.selectDuty]
  repeat' split
  all_goals first
    | rfl
    | (rename_i h; simp (disch := (intro r; rfl)) [State.front_mk, State.front_fold, Work.walk_front' h])
@[simp] theorem Work.afterChain_front (s : SlotId) (w : Work) : (Work.afterChain s w).toState.front = w.toState.front := by
  simp only [Work.afterChain]
  repeat' split
  all_goals first
    | (rename_i h _; simp (disch := (intro r; rfl)) [State.front_mk, State.front_fold, Work.walk_front' h])
    | (rename_i h; simp (disch := (intro r; rfl)) [State.front_mk, State.front_fold, Work.walk_front' h])
    | simp (disch := (intro r; rfl)) [State.front_mk, State.front_fold, Work.mapRow_front, -Work.mapRow_toState]
@[simp] theorem Work.addCard_front (i : Nat) (s : SlotId) (c : Chain) (st : CardState) (again : Bool) (w : Work) : (Work.addCard i s c st again w).toState.front = w.toState.front := by
  simp only [Work.addCard]
  repeat' split
  all_goals first | rfl | simp (disch := (intro r; rfl)) [State.front_mk, State.front_fold, Work.mapRow_front, -Work.mapRow_toState]
@[simp] theorem Work.storeFail_front (d : DutyRef) (cause : CardCause) (spoiled : Bool) (w : Work) : (Work.storeFail d cause spoiled w).toState.front = w.toState.front := by
  simp only [Work.storeFail]
  repeat' split
  all_goals first | rfl | simp (disch := (intro r; rfl)) [State.front_mk, State.front_fold, Work.mapRow_front, -Work.mapRow_toState]
@[simp] theorem Work.failDuty_front (d : DutyRef) (cause : CardCause) (spoiled : Bool) (w : Work) : (Work.failDuty d cause spoiled w).toState.front = w.toState.front := by
  simp only [Work.failDuty]
  repeat' split
  all_goals first | rfl | simp (disch := (intro r; rfl)) [State.front_mk, State.front_fold, Work.mapRow_front, -Work.mapRow_toState]
@[simp] theorem Work.firstState_front (d : DutyRef) (w : Work) : (Work.firstState d w).toState.front = w.toState.front := by
  simp only [Work.firstState]
  repeat' split
  all_goals first | rfl | simp (disch := (intro r; rfl)) [State.front_mk, State.front_fold, Work.mapRow_front, -Work.mapRow_toState]
@[simp] theorem Work.unlist_front (d : DutyRef) (w : Work) : (Work.unlist d w).toState.front = w.toState.front := by
  simp only [Work.unlist]
  repeat' split
  all_goals first | rfl | simp (disch := (intro r; rfl)) [State.front_mk, State.front_fold, Work.mapRow_front, -Work.mapRow_toState]
@[simp] theorem Work.failQueue_front (s : SlotId) (cause : CardCause) (w : Work) : (Work.failQueue s cause w).toState.front = w.toState.front := by
  simp only [Work.failQueue]
  repeat' split
  all_goals first
    | rfl
    | (refine (foldl_front _ (fun v x => ?_) _ _).trans ?_
       · repeat' split
         all_goals simp (disch := (intro r; rfl)) [State.front_mk, State.front_fold, Work.mapRow_front, -Work.mapRow_toState]
       · repeat' split
         all_goals simp (disch := (intro r; rfl)) [State.front_mk, State.front_fold, Work.mapRow_front, -Work.mapRow_toState])
@[simp] theorem Work.giveUp_front (s : SlotId) (cause : CardCause) (w : Work) : (Work.giveUp s cause w).toState.front = w.toState.front := by
  simp only [Work.giveUp]
  repeat' split
  all_goals first
    | rfl
    | (refine (foldl_front _ (fun v x => ?_) _ _).trans ?_
       · repeat' split
         all_goals simp (disch := (intro r; rfl)) [State.front_mk, State.front_fold, Work.mapRow_front, -Work.mapRow_toState]
       · repeat' split
         all_goals simp (disch := (intro r; rfl)) [State.front_mk, State.front_fold, Work.mapRow_front, -Work.mapRow_toState])
@[simp] theorem Work.failReads_front (s : SlotId) (w : Work) : (Work.failReads s w).toState.front = w.toState.front := by
  simp only [Work.failReads]
  refine (foldl_front _ (fun v x => ?_) _ _).trans ?_
  · simp (disch := (intro r; rfl)) [State.front_mk, State.front_fold, Work.mapRow_front, -Work.mapRow_toState]
  · simp only [Work.mapSlot_front]
    repeat' split
    all_goals first | rfl | simp (disch := (intro r; rfl)) [State.front_mk, State.front_fold, Work.mapRow_front, -Work.mapRow_toState]
@[simp] theorem Work.suspend_front (s : SlotId) (w : Work) : (Work.suspend s w).toState.front = w.toState.front := by
  simp only [Work.suspend]
  repeat' split
  all_goals first | rfl | simp (disch := (intro r; rfl)) [State.front_mk, State.front_fold, Work.mapRow_front, -Work.mapRow_toState]
@[simp] theorem Work.resume_front (s : SlotId) (w : Work) : (Work.resume s w).toState.front = w.toState.front := by
  simp only [Work.resume]
  repeat' split
  all_goals first | rfl | simp (disch := (intro r; rfl)) [State.front_mk, State.front_fold, Work.mapRow_front, -Work.mapRow_toState]
@[simp] theorem Work.askRead_front (s : SlotId) (r : ReadRequest) (w : Work) : (Work.askRead s r w).toState.front = w.toState.front := by
  simp only [Work.askRead]
  repeat' split
  all_goals first | rfl | simp (disch := (intro r; rfl)) [State.front_mk, State.front_fold, Work.mapRow_front, -Work.mapRow_toState]
@[simp] theorem Work.readEnd_front (s : SlotId) (data : Option (List Byte)) (w : Work) : (Work.readEnd s data w).toState.front = w.toState.front := by
  simp only [Work.readEnd]
  repeat' split
  all_goals first | rfl | simp (disch := (intro r; rfl)) [State.front_mk, State.front_fold, Work.mapRow_front, -Work.mapRow_toState]
@[simp] theorem Work.readArrives_front (s : SlotId) (data : List Byte) (w : Work) :
    (Work.readArrives s data w).toState.front = w.toState.front := by
  simp only [Work.readArrives]
  split
  · split
    · exact Work.readEnd_front s (some data) w
    · rfl
  · rfl
  · rfl
@[simp] theorem Work.detachActs_front (s : SlotId) (w : Work) : (Work.detachActs s w).toState.front = w.toState.front := by
  simp only [Work.detachActs]
  repeat' split
  all_goals first | rfl | simp (disch := (intro r; rfl)) [State.front_mk, State.front_fold, Work.mapRow_front, -Work.mapRow_toState]
@[simp] theorem Work.enterLocked_front (s : SlotId) (w : Work) : (Work.enterLocked s w).toState.front = w.toState.front := by
  simp only [Work.enterLocked]
  repeat' split
  all_goals first | rfl | simp (disch := (intro r; rfl)) [State.front_mk, State.front_fold, Work.mapRow_front, -Work.mapRow_toState]
@[simp] theorem Work.enterFault_front (s : SlotId) (w : Work) : (Work.enterFault s w).toState.front = w.toState.front := by
  simp only [Work.enterFault]
  repeat' split
  all_goals first | rfl | simp (disch := (intro r; rfl)) [State.front_mk, State.front_fold, Work.mapRow_front, -Work.mapRow_toState]
@[simp] theorem Work.nextSlot_front (s : SlotId) (w : Work) : (Work.nextSlot s w).toState.front = w.toState.front := by
  simp only [Work.nextSlot]
  repeat' split
  all_goals first | rfl | simp (disch := (intro r; rfl)) [State.front_mk, State.front_fold, Work.mapRow_front, -Work.mapRow_toState]
@[simp] theorem Work.decideRun_front (s : SlotId) (done failed : Bool) (w : Work) : (Work.decideRun s done failed w).toState.front = w.toState.front := by
  simp only [Work.decideRun]
  repeat' split
  all_goals first | rfl | simp (disch := (intro r; rfl)) [State.front_mk, State.front_fold, Work.mapRow_front, -Work.mapRow_toState]
@[simp] theorem Work.runEnd_front (s : SlotId) (fail : Option FailKind) (w : Work) : (Work.runEnd s fail w).toState.front = w.toState.front := by
  simp only [Work.runEnd]
  repeat' split
  all_goals first | rfl | simp (disch := (intro r; rfl)) [State.front_mk, State.front_fold, Work.mapRow_front, -Work.mapRow_toState]
@[simp] theorem Work.runSourceLost_front (s : SlotId) (w : Work) : (Work.runSourceLost s w).toState.front = w.toState.front := by
  simp only [Work.runSourceLost]
  repeat' split
  all_goals first | rfl | simp (disch := (intro r; rfl)) [State.front_mk, State.front_fold, Work.mapRow_front, -Work.mapRow_toState]
@[simp] theorem Work.askStop_front (s : SlotId) (c : Stop) (w : Work) : (Work.askStop s c w).toState.front = w.toState.front := by
  simp only [Work.askStop]
  repeat' split
  all_goals first | rfl | simp (disch := (intro r; rfl)) [State.front_mk, State.front_fold, Work.mapRow_front, -Work.mapRow_toState]
@[simp] theorem Work.lockLine_front (s : SlotId) (on : Bool) (w : Work) : (Work.lockLine s on w).toState.front = w.toState.front := by
  simp only [Work.lockLine]
  repeat' split
  all_goals first | rfl | simp (disch := (intro r; rfl)) [State.front_mk, State.front_fold, Work.mapRow_front, -Work.mapRow_toState]
@[simp] theorem Work.removeCard_front (s : SlotId) (w : Work) : (Work.removeCard s w).toState.front = w.toState.front := by
  simp only [Work.removeCard]
  repeat' split
  all_goals first | rfl | simp (disch := (intro r; rfl)) [State.front_mk, State.front_fold, Work.mapRow_front, -Work.mapRow_toState]
@[simp] theorem Work.cardLine_front (s : SlotId) (inserted : Bool) (w : Work) : (Work.cardLine s inserted w).toState.front = w.toState.front := by
  simp only [Work.cardLine]
  repeat' split
  all_goals first | rfl | simp (disch := (intro r; rfl)) [State.front_mk, State.front_fold, Work.mapRow_front, -Work.mapRow_toState]
@[simp] theorem Work.serveWaiting_front (s : SlotId) (w : Work) : (Work.serveWaiting s w).toState.front = w.toState.front := by
  simp only [Work.serveWaiting]
  split
  · rfl
  · split
    · rw [Work.selectDuty_front]
      exact (foldl_front _ (fun v x => by simp (disch := (intro r; rfl)) [State.front_mk, State.front_fold, Work.mapRow_front, -Work.mapRow_toState]) _ _).trans (by simp (disch := (intro r; rfl)) [State.front_mk, State.front_fold, Work.mapRow_front, -Work.mapRow_toState])
    · exact (foldl_front _ (fun v x => by simp (disch := (intro r; rfl)) [State.front_mk, State.front_fold, Work.mapRow_front, -Work.mapRow_toState]) _ _).trans (by simp (disch := (intro r; rfl)) [State.front_mk, State.front_fold, Work.mapRow_front, -Work.mapRow_toState])
@[simp] theorem Work.proofExists_front (i : Nat) (w : Work) : (Work.proofExists i w).toState.front = w.toState.front := by
  simp only [Work.proofExists]
  repeat' split
  all_goals first
    | rfl
    | (refine (foldl_front _ (fun v x => ?_) _ _).trans ?_
       · repeat' split
         all_goals simp (disch := (intro r; rfl)) [State.front_mk, State.front_fold, Work.mapRow_front, -Work.mapRow_toState]
       · repeat' split
         all_goals simp (disch := (intro r; rfl)) [State.front_mk, State.front_fold, Work.mapRow_front, -Work.mapRow_toState])
@[simp] theorem Work.cardProofLost_front (i : Nat) (w : Work) : (Work.cardProofLost i w).toState.front = w.toState.front := by
  simp only [Work.cardProofLost]
  repeat' split
  all_goals first
    | rfl
    | (refine (foldl_front _ (fun v x => ?_) _ _).trans ?_
       · repeat' split
         all_goals simp (disch := (intro r; rfl)) [State.front_mk, State.front_fold, Work.mapRow_front, -Work.mapRow_toState]
       · repeat' split
         all_goals simp (disch := (intro r; rfl)) [State.front_mk, State.front_fold, Work.mapRow_front, -Work.mapRow_toState])
@[simp] theorem Work.discardCards_front (i : Nat) (w : Work) : (Work.discardCards i w).toState.front = w.toState.front := by
  simp only [Work.discardCards]
  repeat' split
  all_goals first
    | rfl
    | (refine (foldl_front _ (fun v x => ?_) _ _).trans ?_
       · repeat' split
         all_goals simp (disch := (intro r; rfl)) [State.front_mk, State.front_fold, Work.mapRow_front, -Work.mapRow_toState]
       · repeat' split
         all_goals simp (disch := (intro r; rfl)) [State.front_mk, State.front_fold, Work.mapRow_front, -Work.mapRow_toState])
@[simp] theorem Work.cardWarning_front (w : Work) : (Work.cardWarning w).toState.front = w.toState.front := by
  simp only [Work.cardWarning]
  repeat' split
  all_goals first | rfl | simp (disch := (intro r; rfl)) [State.front_mk, State.front_fold, Work.mapRow_front, -Work.mapRow_toState]
@[simp] theorem Work.setDevelop_front (i : Nat) (st : DevelopState) (w : Work) :
    (Work.setDevelop i st w).toState.front = w.toState.front := by
  rw [Work.setDevelop, Work.post_toState, Work.mapRow_front]
  intro r
  split <;> rfl
@[simp] theorem Work.createDevelop_front (i : Nat) (c : DevelopClass) (w : Work) : (Work.createDevelop i c w).toState.front = w.toState.front := by
  simp only [Work.createDevelop]
  repeat' split
  all_goals first | rfl | simp (disch := (intro r; rfl)) [State.front_mk, State.front_fold, Work.mapRow_front, -Work.mapRow_toState]
@[simp] theorem Work.promoteJob_front (i : Nat) (w : Work) : (Work.promoteJob i w).toState.front = w.toState.front := by
  simp only [Work.promoteJob]
  repeat' split
  all_goals first | rfl | simp (disch := (intro r; rfl)) [State.front_mk, State.front_fold, Work.mapRow_front, -Work.mapRow_toState]
@[simp] theorem Work.startJob_front (i : Nat) (w : Work) : (Work.startJob i w).toState.front = w.toState.front := by
  simp only [Work.startJob]
  repeat' split
  all_goals first | rfl | simp (disch := (intro r; rfl)) [State.front_mk, State.front_fold, Work.mapRow_front, -Work.mapRow_toState]
@[simp] theorem Work.lookHead_front (w : Work) : (Work.lookHead w).toState.front = w.toState.front := by
  simp only [Work.lookHead]
  repeat' split
  all_goals first
    | rfl
    | (rename_i h; simp (disch := (intro r; rfl)) [State.front_mk, State.front_fold, Work.proofAlloc_front _ _ _ h])
    | simp (disch := (intro r; rfl)) [State.front_mk, State.front_fold, Work.mapRow_front, -Work.mapRow_toState]
@[simp] theorem Work.nextJob_front (w : Work) : (Work.nextJob w).toState.front = w.toState.front := by
  simp only [Work.nextJob]
  repeat' split
  all_goals first | rfl | simp (disch := (intro r; rfl)) [State.front_mk, State.front_fold, Work.mapRow_front, -Work.mapRow_toState]
@[simp] theorem Work.loseProof_front (i : Nat) (w : Work) : (Work.loseProof i w).toState.front = w.toState.front := by
  simp only [Work.loseProof]
  repeat' split
  all_goals first | rfl | simp (disch := (intro r; rfl)) [State.front_mk, State.front_fold, Work.mapRow_front, -Work.mapRow_toState]
@[simp] theorem Work.completeJob_front (j : Job) (w : Work) : (Work.completeJob j w).toState.front = w.toState.front := by
  simp only [Work.completeJob]
  repeat' split
  all_goals first | rfl | simp (disch := (intro r; rfl)) [State.front_mk, State.front_fold, Work.mapRow_front, -Work.mapRow_toState]
@[simp] theorem Work.stopJob_front (j : Job) (w : Work) : (Work.stopJob j w).toState.front = w.toState.front := by
  simp only [Work.stopJob]
  repeat' split
  all_goals first | rfl | simp (disch := (intro r; rfl)) [State.front_mk, State.front_fold, Work.mapRow_front, -Work.mapRow_toState]
@[simp] theorem Work.putRow_front (j : Job) (r : Row) (pixels : List Pixel) (w : Work) : (Work.putRow j r pixels w).toState.front = w.toState.front := by
  simp only [Work.putRow]
  repeat' split
  all_goals first | rfl | simp (disch := (intro r; rfl)) [State.front_mk, State.front_fold, Work.mapRow_front, -Work.mapRow_toState]
@[simp] theorem Work.afterRow_front (j : Job) (written : Nat) (w : Work) : (Work.afterRow j written w).toState.front = w.toState.front := by
  simp only [Work.afterRow]
  repeat' split
  all_goals first | rfl | simp (disch := (intro r; rfl)) [State.front_mk, State.front_fold, Work.mapRow_front, -Work.mapRow_toState]
@[simp] theorem Work.writeRow_front (w : Work) : (Work.writeRow w).toState.front = w.toState.front := by
  simp only [Work.writeRow]
  repeat' split
  all_goals first | rfl | simp (disch := (intro r; rfl)) [State.front_mk, State.front_fold, Work.mapRow_front, -Work.mapRow_toState]
@[simp] theorem Work.failJob_front (w : Work) : (Work.failJob w).toState.front = w.toState.front := by
  simp only [Work.failJob]
  repeat' split
  all_goals first | rfl | simp (disch := (intro r; rfl)) [State.front_mk, State.front_fold, Work.mapRow_front, -Work.mapRow_toState]
@[simp] theorem Work.cancelPending_front (i : Nat) (w : Work) : (Work.cancelPending i w).toState.front = w.toState.front := by
  simp only [Work.cancelPending]
  repeat' split
  all_goals first | rfl | simp (disch := (intro r; rfl)) [State.front_mk, State.front_fold, Work.mapRow_front, -Work.mapRow_toState]
@[simp] theorem Work.discardDevelop_front (i : Nat) (w : Work) : (Work.discardDevelop i w).toState.front = w.toState.front := by
  simp only [Work.discardDevelop]
  repeat' split
  all_goals first | rfl | simp (disch := (intro r; rfl)) [State.front_mk, State.front_fold, Work.mapRow_front, -Work.mapRow_toState]
@[simp] theorem Work.developWarning_front (w : Work) : (Work.developWarning w).toState.front = w.toState.front := by
  simp only [Work.developWarning]
  repeat' split
  all_goals first | rfl | simp (disch := (intro r; rfl)) [State.front_mk, State.front_fold, Work.mapRow_front, -Work.mapRow_toState]
@[simp] theorem Work.bump_front (k : CounterKind) (w : Work) : (Work.bump k w).toState.front = w.toState.front := by
  simp only [Work.bump]
  repeat' split
  all_goals first | rfl | simp (disch := (intro r; rfl)) [State.front_mk, State.front_fold, Work.mapRow_front, -Work.mapRow_toState]
@[simp] theorem Work.enterLink_front (l : Link) (w : Work) : (Work.enterLink l w).toState.front = w.toState.front := by
  simp only [Work.enterLink]
  repeat' split
  all_goals first | rfl | simp (disch := (intro r; rfl)) [State.front_mk, State.front_fold, Work.mapRow_front, -Work.mapRow_toState]
@[simp] theorem Work.sendTo_front (dst : BitVec 48) (kind : Byte) (fields : List Byte) (w : Work) : (Work.sendTo dst kind fields w).toState.front = w.toState.front := by
  simp only [Work.sendTo]
  repeat' split
  all_goals first | rfl | simp (disch := (intro r; rfl)) [State.front_mk, State.front_fold, Work.mapRow_front, -Work.mapRow_toState]
@[simp] theorem Work.sendDesk_front (kind : Byte) (fields : List Byte) (w : Work) : (Work.sendDesk kind fields w).toState.front = w.toState.front := by
  simp only [Work.sendDesk]
  repeat' split
  all_goals first | rfl | simp (disch := (intro r; rfl)) [State.front_mk, State.front_fold, Work.mapRow_front, -Work.mapRow_toState]
@[simp] theorem Work.sendHello_front (w : Work) : (Work.sendHello w).toState.front = w.toState.front := by
  simp only [Work.sendHello]
  repeat' split
  all_goals first | rfl | simp (disch := (intro r; rfl)) [State.front_mk, State.front_fold, Work.mapRow_front, -Work.mapRow_toState]
@[simp] theorem Work.enterUnbound_front (w : Work) : (Work.enterUnbound w).toState.front = w.toState.front := by
  simp only [Work.enterUnbound]
  repeat' split
  all_goals first | rfl | simp (disch := (intro r; rfl)) [State.front_mk, State.front_fold, Work.mapRow_front, -Work.mapRow_toState]
@[simp] theorem Work.mapTether_front (i : Nat) (c : Chain) (f : TetherDuty → TetherDuty) (w : Work) : (Work.mapTether i c f w).toState.front = w.toState.front := by
  simp only [Work.mapTether]
  repeat' split
  all_goals first | rfl | simp (disch := (intro r; rfl)) [State.front_mk, State.front_fold, Work.mapRow_front, -Work.mapRow_toState]
@[simp] theorem Work.mirror_front (e : Entry) (w : Work) : (Work.mirror e w).toState.front = w.toState.front := by
  simp only [Work.mirror]
  repeat' split
  all_goals first | rfl | simp (disch := (intro r; rfl)) [State.front_mk, State.front_fold, Work.mapRow_front, -Work.mapRow_toState]
@[simp] theorem Work.endEntry_front (e : Entry) (st : TetherState) (cause : Option TetherCause) (w : Work) : (Work.endEntry e st cause w).toState.front = w.toState.front := by
  simp only [Work.endEntry]
  repeat' split
  all_goals first | rfl | simp (disch := (intro r; rfl)) [State.front_mk, State.front_fold, Work.mapRow_front, -Work.mapRow_toState]
@[simp] theorem Work.demote_front (e : Entry) (w : Work) : (Work.demote e w).toState.front = w.toState.front := by
  simp only [Work.demote]
  repeat' split
  all_goals first | rfl | simp (disch := (intro r; rfl)) [State.front_mk, State.front_fold, Work.mapRow_front, -Work.mapRow_toState]
@[simp] theorem Work.demoteAll_front (w : Work) : (Work.demoteAll w).toState.front = w.toState.front := by
  simp only [Work.demoteAll]
  repeat' split
  all_goals first
    | rfl
    | (refine (foldl_front _ (fun v x => ?_) _ _).trans ?_
       · repeat' split
         all_goals simp (disch := (intro r; rfl)) [State.front_mk, State.front_fold, Work.mapRow_front, -Work.mapRow_toState]
       · repeat' split
         all_goals simp (disch := (intro r; rfl)) [State.front_mk, State.front_fold, Work.mapRow_front, -Work.mapRow_toState])
theorem Work.askOne_front (w v : Work) (h : w.askOne = some v) : v.toState.front = w.toState.front := by
  simp only [Work.askOne] at h
  repeat' split at h
  all_goals first | cases h; done | skip
  cases h; simp (disch := (intro r; rfl)) [State.front_mk, State.front_fold, Work.mapRow_front, -Work.mapRow_toState]
@[simp] theorem Work.askReads_front : ∀ (k : Nat) (w : Work), (Work.askReads k w).toState.front = w.toState.front
  | 0, _ => rfl
  | k + 1, w => by
    simp only [Work.askReads]
    split
    · rename_i v h
      rw [Work.askReads_front k, Work.askOne_front _ _ h]
    · rfl
@[simp] theorem Work.updateWait_front (w : Work) : (Work.updateWait w).toState.front = w.toState.front := by
  simp only [Work.updateWait]
  repeat' split
  all_goals first | rfl | simp (disch := (intro r; rfl)) [State.front_mk, State.front_fold, Work.mapRow_front, -Work.mapRow_toState]
@[simp] theorem Work.sendOffer_front (t : Transfer) (w : Work) : (Work.sendOffer t w).toState.front = w.toState.front := by
  simp only [Work.sendOffer]
  repeat' split
  all_goals first | rfl | simp (disch := (intro r; rfl)) [State.front_mk, State.front_fold, Work.mapRow_front, -Work.mapRow_toState]
@[simp] theorem Work.sendFin_front (t : Transfer) (w : Work) : (Work.sendFin t w).toState.front = w.toState.front := by
  simp only [Work.sendFin]
  repeat' split
  all_goals first | rfl | simp (disch := (intro r; rfl)) [State.front_mk, State.front_fold, Work.mapRow_front, -Work.mapRow_toState]
@[simp] theorem Work.startTransfer_front (e : Entry) (w : Work) : (Work.startTransfer e w).toState.front = w.toState.front := by
  simp only [Work.startTransfer]
  repeat' split
  all_goals first | rfl | simp (disch := (intro r; rfl)) [State.front_mk, State.front_fold, Work.mapRow_front, -Work.mapRow_toState]
@[simp] theorem Work.selectEntry_front (w : Work) : (Work.selectEntry w).toState.front = w.toState.front := by
  simp only [Work.selectEntry]
  repeat' split
  all_goals first | rfl | simp (disch := (intro r; rfl)) [State.front_mk, State.front_fold, Work.mapRow_front, -Work.mapRow_toState]
@[simp] theorem Work.sendData_front (w : Work) : (Work.sendData w).toState.front = w.toState.front := by
  simp only [Work.sendData]
  repeat' split
  all_goals first | rfl | simp (disch := (intro r; rfl)) [State.front_mk, State.front_fold, Work.mapRow_front, -Work.mapRow_toState]
@[simp] theorem Work.returnEntry_front (e : Entry) (front : Bool) (early : Bool) (w : Work) : (Work.returnEntry e front early w).toState.front = w.toState.front := by
  simp only [Work.returnEntry]
  repeat' split
  all_goals first | rfl | simp (disch := (intro r; rfl)) [State.front_mk, State.front_fold, Work.mapRow_front, -Work.mapRow_toState]
@[simp] theorem Work.settleEntry_front (x : TransferEnd) (e : Entry) (w : Work) : (Work.settleEntry x e w).toState.front = w.toState.front := by
  simp only [Work.settleEntry]
  repeat' split
  all_goals first | rfl | simp (disch := (intro r; rfl)) [State.front_mk, State.front_fold, Work.mapRow_front, -Work.mapRow_toState]
@[simp] theorem Work.loseDesk_front (w : Work) : (Work.loseDesk w).toState.front = w.toState.front := by
  simp only [Work.loseDesk]
  repeat' split
  all_goals first | rfl | simp (disch := (intro r; rfl)) [State.front_mk, State.front_fold, Work.mapRow_front, -Work.mapRow_toState]
@[simp] theorem Work.linkAfter_front (x : TransferEnd) (w : Work) : (Work.linkAfter x w).toState.front = w.toState.front := by
  simp only [Work.linkAfter]
  repeat' split
  all_goals first | rfl | simp (disch := (intro r; rfl)) [State.front_mk, State.front_fold, Work.mapRow_front, -Work.mapRow_toState]
@[simp] theorem Work.endTransfer_front (x : TransferEnd) (w : Work) : (Work.endTransfer x w).toState.front = w.toState.front := by
  simp only [Work.endTransfer]
  repeat' split
  all_goals first | rfl | simp (disch := (intro r; rfl)) [State.front_mk, State.front_fold, Work.mapRow_front, -Work.mapRow_toState]
@[simp] theorem Work.sendLost_front (w : Work) : (Work.sendLost w).toState.front = w.toState.front := by
  simp only [Work.sendLost]
  repeat' split
  all_goals first | rfl | simp (disch := (intro r; rfl)) [State.front_mk, State.front_fold, Work.mapRow_front, -Work.mapRow_toState]
@[simp] theorem Work.ackExpires_front (w : Work) : (Work.ackExpires w).toState.front = w.toState.front := by
  simp only [Work.ackExpires]
  repeat' split
  all_goals first | rfl | simp (disch := (intro r; rfl)) [State.front_mk, State.front_fold, Work.mapRow_front, -Work.mapRow_toState]
@[simp] theorem Work.takeAck_front (id offset : Nat) (w : Work) : (Work.takeAck id offset w).toState.front = w.toState.front := by
  simp only [Work.takeAck]
  repeat' split
  all_goals first | rfl | simp (disch := (intro r; rfl)) [State.front_mk, State.front_fold, Work.mapRow_front, -Work.mapRow_toState]
@[simp] theorem Work.restartTransfer_front (t : Transfer) (w : Work) : (Work.restartTransfer t w).toState.front = w.toState.front := by
  simp only [Work.restartTransfer]
  repeat' split
  all_goals first | rfl | simp (disch := (intro r; rfl)) [State.front_mk, State.front_fold, Work.mapRow_front, -Work.mapRow_toState]
@[simp] theorem Work.takeFinack_front (id : Nat) (good : Bool) (w : Work) : (Work.takeFinack id good w).toState.front = w.toState.front := by
  simp only [Work.takeFinack]
  repeat' split
  all_goals first | rfl | simp (disch := (intro r; rfl)) [State.front_mk, State.front_fold, Work.mapRow_front, -Work.mapRow_toState]
@[simp] theorem Work.takeRead_front (b : Nat) (data : Option (List Byte)) (w : Work) : (Work.takeRead b data w).toState.front = w.toState.front := by
  simp only [Work.takeRead]
  repeat' split
  all_goals first | rfl | simp (disch := (intro r; rfl)) [State.front_mk, State.front_fold, Work.mapRow_front, -Work.mapRow_toState]
@[simp] theorem Work.deskExpires_front (w : Work) : (Work.deskExpires w).toState.front = w.toState.front := by
  simp only [Work.deskExpires]
  repeat' split
  all_goals first | rfl | simp (disch := (intro r; rfl)) [State.front_mk, State.front_fold, Work.mapRow_front, -Work.mapRow_toState]
@[simp] theorem Work.underrunExpires_front (w : Work) : (Work.underrunExpires w).toState.front = w.toState.front := by
  simp only [Work.underrunExpires]
  repeat' split
  all_goals first | rfl | simp (disch := (intro r; rfl)) [State.front_mk, State.front_fold, Work.mapRow_front, -Work.mapRow_toState]
@[simp] theorem Work.helloExpires_front (w : Work) : (Work.helloExpires w).toState.front = w.toState.front := by
  simp only [Work.helloExpires]
  repeat' split
  all_goals first | rfl | simp (disch := (intro r; rfl)) [State.front_mk, State.front_fold, Work.mapRow_front, -Work.mapRow_toState]
@[simp] theorem Work.cancelEntry_front (e : Entry) (w : Work) : (Work.cancelEntry e w).toState.front = w.toState.front := by
  simp only [Work.cancelEntry]
  repeat' split
  all_goals first | rfl | simp (disch := (intro r; rfl)) [State.front_mk, State.front_fold, Work.mapRow_front, -Work.mapRow_toState]
@[simp] theorem Work.discardTethers_front (i : Nat) (w : Work) : (Work.discardTethers i w).toState.front = w.toState.front := by
  simp only [Work.discardTethers]
  repeat' split
  all_goals first
    | rfl
    | (refine (foldl_front _ (fun v x => ?_) _ _).trans ?_
       · repeat' split
         all_goals simp (disch := (intro r; rfl)) [State.front_mk, State.front_fold, Work.mapRow_front, -Work.mapRow_toState]
       · repeat' split
         all_goals simp (disch := (intro r; rfl)) [State.front_mk, State.front_fold, Work.mapRow_front, -Work.mapRow_toState])
@[simp] theorem Work.tetherProofLost_front (i : Nat) (w : Work) : (Work.tetherProofLost i w).toState.front = w.toState.front := by
  simp only [Work.tetherProofLost]
  repeat' split
  all_goals first
    | rfl
    | (refine (foldl_front _ (fun v x => ?_) _ _).trans ?_
       · repeat' split
         all_goals simp (disch := (intro r; rfl)) [State.front_mk, State.front_fold, Work.mapRow_front, -Work.mapRow_toState]
       · repeat' split
         all_goals simp (disch := (intro r; rfl)) [State.front_mk, State.front_fold, Work.mapRow_front, -Work.mapRow_toState])
@[simp] theorem Work.joinSend_front (p : SendPlan) (n prio : Nat) (early : Bool) (w : Work) : (Work.joinSend p n prio early w).toState.front = w.toState.front := by
  simp only [Work.joinSend]
  repeat' split
  all_goals first | rfl | simp (disch := (intro r; rfl)) [State.front_mk, State.front_fold, Work.mapRow_front, -Work.mapRow_toState]
@[simp] theorem Work.failFull_front (i n prio : Nat) (src : Source) (w : Work) : (Work.failFull i n prio src w).toState.front = w.toState.front := by
  simp only [Work.failFull]
  repeat' split
  all_goals first | rfl | simp (disch := (intro r; rfl)) [State.front_mk, State.front_fold, Work.mapRow_front, -Work.mapRow_toState]
@[simp] theorem Work.linkDown_front (w : Work) : (Work.linkDown w).toState.front = w.toState.front := by
  simp only [Work.linkDown]
  repeat' split
  all_goals first | rfl | simp (disch := (intro r; rfl)) [State.front_mk, State.front_fold, Work.mapRow_front, -Work.mapRow_toState]
@[simp] theorem Work.phyDown_front (w : Work) : (Work.phyDown w).toState.front = w.toState.front := by
  simp only [Work.phyDown]
  repeat' split
  all_goals first | rfl | simp (disch := (intro r; rfl)) [State.front_mk, State.front_fold, Work.mapRow_front, -Work.mapRow_toState]
@[simp] theorem Work.phyUp_front (w : Work) : (Work.phyUp w).toState.front = w.toState.front := by
  simp only [Work.phyUp]
  repeat' split
  all_goals first | rfl | simp (disch := (intro r; rfl)) [State.front_mk, State.front_fold, Work.mapRow_front, -Work.mapRow_toState]
@[simp] theorem Work.tetherWake_front (w : Work) : (Work.tetherWake w).toState.front = w.toState.front := by
  simp only [Work.tetherWake]
  repeat' split
  all_goals first | rfl | simp (disch := (intro r; rfl)) [State.front_mk, State.front_fold, Work.mapRow_front, -Work.mapRow_toState]
@[simp] theorem Work.tetherHalt_front (w : Work) : (Work.tetherHalt w).toState.front = w.toState.front := by
  simp only [Work.tetherHalt]
  repeat' split
  all_goals first | rfl | simp (disch := (intro r; rfl)) [State.front_mk, State.front_fold, Work.mapRow_front, -Work.mapRow_toState]
@[simp] theorem Work.tetherWarning_front (w : Work) : (Work.tetherWarning w).toState.front = w.toState.front := by
  simp only [Work.tetherWarning]
  repeat' split
  all_goals first | rfl | simp (disch := (intro r; rfl)) [State.front_mk, State.front_fold, Work.mapRow_front, -Work.mapRow_toState]
@[simp] theorem Work.disableTether_front (w : Work) : (Work.disableTether w).toState.front = w.toState.front := by
  simp only [Work.disableTether]
  repeat' split
  all_goals first | rfl | simp (disch := (intro r; rfl)) [State.front_mk, State.front_fold, Work.mapRow_front, -Work.mapRow_toState]
@[simp] theorem Work.resetTether_front (w : Work) : (Work.resetTether w).toState.front = w.toState.front := by
  have h1 : ∀ (l : List Entry) (v : Work),
      (l.foldl (fun v e => v.endEntry e .failed (some .reset)) v).toState.front = v.toState.front :=
    foldl_front _ (fun v x => by simp (disch := (intro r; rfl)) [State.front_mk, State.front_fold, Work.mapRow_front, -Work.mapRow_toState])
  simp [Work.resetTether, State.front_mk, State.front_fold, h1]
@[simp] theorem Work.giveRaw_front (i : Nat) (s : SlotId) (w : Work) : (Work.giveRaw i s w).toState.front = w.toState.front := by
  simp only [Work.giveRaw]
  repeat' split
  all_goals first | rfl | simp (disch := (intro r; rfl)) [State.front_mk, State.front_fold, Work.mapRow_front, -Work.mapRow_toState]
@[simp] theorem Work.giveProofSend_front (i n prio : Nat) (w : Work) : (Work.giveProofSend i n prio w).toState.front = w.toState.front := by
  simp only [Work.giveProofSend]
  repeat' split
  all_goals first | rfl | simp (disch := (intro r; rfl)) [State.front_mk, State.front_fold, Work.mapRow_front, -Work.mapRow_toState]
/-- The duties of a row that enters HELD leave of the front all but the row's policy (R15). -/
theorem Work.createDuties_front (i n : Nat) (w : Work) : (Work.createDuties i n w).toState.front =
    (w.mapRow i fun r => { r with policy := some w.cw.policy }).toState.front := by
  have h1 : ∀ (l : List SlotId) (v : Work), (l.foldl (fun v s => v.giveRaw i s) v).toState.front = v.toState.front :=
    foldl_front _ (fun v x => by simp (disch := (intro r; rfl)) [State.front_mk, State.front_fold, Work.mapRow_front, -Work.mapRow_toState])
  have h2 : ∀ (l : List SlotId) (v : Work),
      (l.foldl (fun v s => v.addCard i s .proof .waitingSource false) v).toState.front = v.toState.front :=
    foldl_front _ (fun v x => by simp (disch := (intro r; rfl)) [State.front_mk, State.front_fold, Work.mapRow_front, -Work.mapRow_toState])
  simp only [Work.createDuties]
  repeat' split
  all_goals simp (disch := (intro r; rfl)) [State.front_mk, State.front_fold, h1, h2, Work.mapRow_front, -Work.mapRow_toState]
@[simp] theorem Work.protectSend_front (r : Row) (n : Nat) (w : Work) : (Work.protectSend r n w).toState.front = w.toState.front := by
  simp only [Work.protectSend]
  repeat' split
  all_goals first | rfl | simp (disch := (intro r; rfl)) [State.front_mk, State.front_fold, Work.mapRow_front, -Work.mapRow_toState]
@[simp] theorem Work.takeReclaim_front (up : Bool) (w : Work) : (Work.takeReclaim up w).toState.front = w.toState.front := by
  simp only [Work.takeReclaim]
  repeat' split
  all_goals first | rfl | simp (disch := (intro r; rfl)) [State.front_mk, State.front_fold, Work.mapRow_front, -Work.mapRow_toState]
@[simp] theorem Work.takeCardDone_front (i : Nat) (c : Chain) (w : Work) : (Work.takeCardDone i c w).toState.front = w.toState.front := by
  simp only [Work.takeCardDone]
  repeat' split
  all_goals first
    | rfl
    | (refine (foldl_front _ (fun v x => ?_) _ _).trans ?_
       · repeat' split
         all_goals simp (disch := (intro r; rfl)) [State.front_mk, State.front_fold, Work.mapRow_front, -Work.mapRow_toState]
       · repeat' split
         all_goals simp (disch := (intro r; rfl)) [State.front_mk, State.front_fold, Work.mapRow_front, -Work.mapRow_toState])
@[simp] theorem Work.takeDevelop_front (i : Nat) (w : Work) : (Work.takeDevelop i w).toState.front = w.toState.front := by
  simp only [Work.takeDevelop]
  repeat' split
  all_goals first | rfl | simp (disch := (intro r; rfl)) [State.front_mk, State.front_fold, Work.mapRow_front, -Work.mapRow_toState]
@[simp] theorem Work.nakRequest_front (n : Nat) (chain : Byte) (code : Result) (w : Work) : (Work.nakRequest n chain code w).toState.front = w.toState.front := by
  simp only [Work.nakRequest]
  repeat' split
  all_goals first | rfl | simp (disch := (intro r; rfl)) [State.front_mk, State.front_fold, Work.mapRow_front, -Work.mapRow_toState]
@[simp] theorem Work.nakRemote_front (count : Byte) (code : Result) (w : Work) : (Work.nakRemote count code w).toState.front = w.toState.front := by
  simp only [Work.nakRemote]
  repeat' split
  all_goals first | rfl | simp (disch := (intro r; rfl)) [State.front_mk, State.front_fold, Work.mapRow_front, -Work.mapRow_toState]
@[simp] theorem Work.takeBind_front (src : BitVec 48) (w : Work) : (Work.takeBind src w).toState.front = w.toState.front := by
  simp only [Work.takeBind]
  repeat' split
  all_goals first | rfl | simp (disch := (intro r; rfl)) [State.front_mk, State.front_fold, Work.mapRow_front, -Work.mapRow_toState]
@[simp] theorem Work.raiseEntry_front (e : Entry) (w : Work) : (Work.raiseEntry e w).toState.front = w.toState.front := by
  simp only [Work.raiseEntry]
  repeat' split
  all_goals first | rfl | simp (disch := (intro r; rfl)) [State.front_mk, State.front_fold, Work.mapRow_front, -Work.mapRow_toState]
@[simp] theorem Work.refuseRequest_front (n : Nat) (chain : Byte) (code : Result) (w : Work) : (Work.refuseRequest n chain code w).toState.front = w.toState.front := by
  simp only [Work.refuseRequest]
  repeat' split
  all_goals first | rfl | simp (disch := (intro r; rfl)) [State.front_mk, State.front_fold, Work.mapRow_front, -Work.mapRow_toState]
@[simp] theorem Work.takeRequest_front (n : Nat) (chain : Byte) (w : Work) : (Work.takeRequest n chain w).toState.front = w.toState.front := by
  simp only [Work.takeRequest]
  repeat' split
  all_goals first | rfl | simp (disch := (intro r; rfl)) [State.front_mk, State.front_fold, Work.mapRow_front, -Work.mapRow_toState]
/-- A report that no block of the front half takes: BM, CW, DE and TU take it. -/
def Report.isBack : Report → Bool
  | .deLook | .reclaim _ | .readEnded _ _ | .cardDone _ _ | .developChanged _ | .frontier _ | .proofLost _ | .select => true
  | .focus _ | .rowEnded _ _ _ => false

/-- Every report waiting is for the back half. -/
def Work.calm (w : Work) : Bool := w.bus.all Report.isBack

theorem Work.calm_mk (s : State) (b : List Report) : Work.calm ⟨s, b⟩ = b.all Report.isBack := rfl
theorem Work.calm_fold (w : Work) : w.bus.all Report.isBack = w.calm := rfl
@[simp] theorem Work.post_calm (r : Report) (w : Work) : (w.post r).calm = (w.calm && r.isBack) := by
  simp [Work.calm]
@[simp] theorem Work.raise_calm (k : Notice) (s : List Byte) (w : Work) : (w.raise k s).calm = w.calm := rfl
@[simp] theorem Work.emit_calm (o : Output) (w : Work) : (w.emit o).calm = w.calm := rfl
@[simp] theorem Work.mapRow_calm (i : Nat) (f : Row → Row) (w : Work) : (w.mapRow i f).calm = w.calm := rfl
theorem foldl_calm {α : Type} (f : Work → α → Work) (h : ∀ v x, (f v x).calm = v.calm) :
    ∀ (l : List α) (w : Work), (l.foldl f w).calm = w.calm
  | [], _ => rfl
  | x :: l, w => by rw [List.foldl_cons, foldl_calm f h l, h]
@[simp] theorem Work.freePages_calm (pages : List Nat) (w : Work) : (Work.freePages pages w).calm = w.calm := by
  simp only [Work.freePages]
  repeat' split
  all_goals first | rfl | simp [Work.calm_mk, Work.calm_fold, Report.isBack]
@[simp] theorem Work.takePages_calm (n : Nat) (w : Work) : (Work.takePages n w).calm = w.calm := by
  simp only [Work.takePages]
  repeat' split
  all_goals first | rfl | simp [Work.calm_mk, Work.calm_fold, Report.isBack]
theorem Work.proofAlloc_calm (i : Nat) (w v : Work) (h : w.proofAlloc i = some v) : v.calm = w.calm := by
  simp only [Work.proofAlloc] at h
  split at h
  · cases h; simp [Work.calm_mk, Work.calm_fold, Report.isBack]
  · cases h
@[simp] theorem Work.releaseRaw_calm (i : Nat) (w : Work) : (Work.releaseRaw i w).calm = w.calm := by
  simp only [Work.releaseRaw]
  repeat' split
  all_goals first | rfl | simp [Work.calm_mk, Work.calm_fold, Report.isBack]
@[simp] theorem Work.releaseProof_calm (i : Nat) (w : Work) : (Work.releaseProof i w).calm = w.calm := by
  simp only [Work.releaseProof]
  repeat' split
  all_goals first | rfl | simp [Work.calm_mk, Work.calm_fold, Report.isBack]
@[simp] theorem Work.releaseCheck_calm (i : Nat) (w : Work) : (Work.releaseCheck i w).calm = w.calm := by
  simp only [Work.releaseCheck]
  repeat' split
  all_goals first | rfl | simp [Work.calm_mk, Work.calm_fold, Report.isBack]
@[simp] theorem Work.settleCheck_calm (i : Nat) (w : Work) : (Work.settleCheck i w).calm = w.calm := by
  simp only [Work.settleCheck]
  repeat' split
  all_goals first | rfl | simp [Work.calm_mk, Work.calm_fold, Report.isBack]
@[simp] theorem Work.check_calm (i : Nat) (w : Work) : (Work.check i w).calm = w.calm := by
  simp only [Work.check]
  repeat' split
  all_goals first | rfl | simp [Work.calm_mk, Work.calm_fold, Report.isBack]
@[simp] theorem Work.mapSlot_calm (s : SlotId) (f : Slot → Slot) (w : Work) : (Work.mapSlot s f w).calm = w.calm := by
  simp only [Work.mapSlot]
  repeat' split
  all_goals first | rfl | simp [Work.calm_mk, Work.calm_fold, Report.isBack]
@[simp] theorem Work.slotChanged_calm (w : Work) : (Work.slotChanged w).calm = w.calm := by
  simp only [Work.slotChanged]
  repeat' split
  all_goals first | rfl | simp [Work.calm_mk, Work.calm_fold, Report.isBack]
@[simp] theorem Work.enterSlot_calm (s : SlotId) (st : SlotState) (w : Work) : (Work.enterSlot s st w).calm = w.calm := by
  simp only [Work.enterSlot]
  repeat' split
  all_goals first | rfl | simp [Work.calm_mk, Work.calm_fold, Report.isBack]
@[simp] theorem Work.mapDuty_calm (d : DutyRef) (f : CardDuty → CardDuty) (w : Work) : (Work.mapDuty d f w).calm = w.calm := by
  simp only [Work.mapDuty]
  repeat' split
  all_goals first | rfl | simp [Work.calm_mk, Work.calm_fold, Report.isBack]
@[simp] theorem Work.setExtents_calm (s : SlotId) (q : List Piece) (w : Work) : (Work.setExtents s q w).calm = w.calm := by
  simp only [Work.setExtents]
  repeat' split
  all_goals first | rfl | simp [Work.calm_mk, Work.calm_fold, Report.isBack]
@[simp] theorem Work.startRun_calm (s : SlotId) (w : Work) : (Work.startRun s w).calm = w.calm := by
  simp only [Work.startRun]
  repeat' split
  all_goals first | rfl | simp [Work.calm_mk, Work.calm_fold, Report.isBack]
@[simp] theorem Work.startRead_calm (s : SlotId) (w : Work) : (Work.startRead s w).calm = w.calm := by
  simp only [Work.startRead]
  repeat' split
  all_goals first | rfl | simp [Work.calm_mk, Work.calm_fold, Report.isBack]
@[simp] theorem Work.walk_calm (s : SlotId) : ∀ (q : List DutyRef) (w : Work), (Work.walk s q w).2.calm = w.calm
  | [], _ => rfl
  | d :: q, w => by
    simp only [Work.walk]
    repeat' split
    all_goals simp [Work.walk_calm s q, Work.calm_mk, Work.calm_fold]

theorem Work.walk_calm' {s : SlotId} {q : List DutyRef} {w v : Work} {o : Option DutyRef} (h : Work.walk s q w = (o, v)) :
    v.calm = w.calm := by
  have := Work.walk_calm s q w
  rwa [h] at this
@[simp] theorem Work.beginChain_calm (s : SlotId) (d : DutyRef) (w : Work) : (Work.beginChain s d w).calm = w.calm := by
  simp only [Work.beginChain]
  repeat' split
  all_goals first | rfl | simp [Work.calm_mk, Work.calm_fold, Report.isBack]
@[simp] theorem Work.selectDuty_calm (s : SlotId) (w : Work) : (Work.selectDuty s w).calm = w.calm := by
  simp only [Work.selectDuty]
  repeat' split
  all_goals first
    | rfl
    | (rename_i h; simp [Work.calm_mk, Work.calm_fold, Report.isBack, Work.walk_calm' h])
@[simp] theorem Work.afterChain_calm (s : SlotId) (w : Work) : (Work.afterChain s w).calm = w.calm := by
  simp only [Work.afterChain]
  repeat' split
  all_goals first
    | (rename_i h _; simp [Work.calm_mk, Work.calm_fold, Report.isBack, Work.walk_calm' h])
    | (rename_i h; simp [Work.calm_mk, Work.calm_fold, Report.isBack, Work.walk_calm' h])
    | simp [Work.calm_mk, Work.calm_fold, Report.isBack]
@[simp] theorem Work.addCard_calm (i : Nat) (s : SlotId) (c : Chain) (st : CardState) (again : Bool) (w : Work) : (Work.addCard i s c st again w).calm = w.calm := by
  simp only [Work.addCard]
  repeat' split
  all_goals first | rfl | simp [Work.calm_mk, Work.calm_fold, Report.isBack]
@[simp] theorem Work.storeFail_calm (d : DutyRef) (cause : CardCause) (spoiled : Bool) (w : Work) : (Work.storeFail d cause spoiled w).calm = w.calm := by
  simp only [Work.storeFail]
  repeat' split
  all_goals first | rfl | simp [Work.calm_mk, Work.calm_fold, Report.isBack]
@[simp] theorem Work.failDuty_calm (d : DutyRef) (cause : CardCause) (spoiled : Bool) (w : Work) : (Work.failDuty d cause spoiled w).calm = w.calm := by
  simp only [Work.failDuty]
  repeat' split
  all_goals first | rfl | simp [Work.calm_mk, Work.calm_fold, Report.isBack]
@[simp] theorem Work.firstState_calm (d : DutyRef) (w : Work) : (Work.firstState d w).calm = w.calm := by
  simp only [Work.firstState]
  repeat' split
  all_goals first | rfl | simp [Work.calm_mk, Work.calm_fold, Report.isBack]
@[simp] theorem Work.unlist_calm (d : DutyRef) (w : Work) : (Work.unlist d w).calm = w.calm := by
  simp only [Work.unlist]
  repeat' split
  all_goals first | rfl | simp [Work.calm_mk, Work.calm_fold, Report.isBack]
@[simp] theorem Work.failQueue_calm (s : SlotId) (cause : CardCause) (w : Work) : (Work.failQueue s cause w).calm = w.calm := by
  simp only [Work.failQueue]
  repeat' split
  all_goals first
    | rfl
    | (refine (foldl_calm _ (fun v x => ?_) _ _).trans ?_
       · repeat' split
         all_goals simp [Work.calm_mk, Work.calm_fold, Report.isBack]
       · repeat' split
         all_goals simp [Work.calm_mk, Work.calm_fold, Report.isBack])
@[simp] theorem Work.giveUp_calm (s : SlotId) (cause : CardCause) (w : Work) : (Work.giveUp s cause w).calm = w.calm := by
  simp only [Work.giveUp]
  repeat' split
  all_goals first
    | rfl
    | (refine (foldl_calm _ (fun v x => ?_) _ _).trans ?_
       · repeat' split
         all_goals simp [Work.calm_mk, Work.calm_fold, Report.isBack]
       · repeat' split
         all_goals simp [Work.calm_mk, Work.calm_fold, Report.isBack])
@[simp] theorem Work.failReads_calm (s : SlotId) (w : Work) : (Work.failReads s w).calm = w.calm := by
  simp only [Work.failReads]
  refine (foldl_calm _ (fun v x => ?_) _ _).trans ?_
  · simp [Work.calm_mk, Work.calm_fold, Report.isBack]
  · simp only [Work.mapSlot_calm]
    repeat' split
    all_goals first | rfl | simp [Work.calm_mk, Work.calm_fold, Report.isBack]
@[simp] theorem Work.suspend_calm (s : SlotId) (w : Work) : (Work.suspend s w).calm = w.calm := by
  simp only [Work.suspend]
  repeat' split
  all_goals first | rfl | simp [Work.calm_mk, Work.calm_fold, Report.isBack]
@[simp] theorem Work.resume_calm (s : SlotId) (w : Work) : (Work.resume s w).calm = w.calm := by
  simp only [Work.resume]
  repeat' split
  all_goals first | rfl | simp [Work.calm_mk, Work.calm_fold, Report.isBack]
@[simp] theorem Work.askRead_calm (s : SlotId) (r : ReadRequest) (w : Work) : (Work.askRead s r w).calm = w.calm := by
  simp only [Work.askRead]
  repeat' split
  all_goals first | rfl | simp [Work.calm_mk, Work.calm_fold, Report.isBack]
@[simp] theorem Work.readEnd_calm (s : SlotId) (data : Option (List Byte)) (w : Work) : (Work.readEnd s data w).calm = w.calm := by
  simp only [Work.readEnd]
  repeat' split
  all_goals first | rfl | simp [Work.calm_mk, Work.calm_fold, Report.isBack]
@[simp] theorem Work.readArrives_calm (s : SlotId) (data : List Byte) (w : Work) :
    (Work.readArrives s data w).calm = w.calm := by
  simp only [Work.readArrives]
  split
  · split
    · exact Work.readEnd_calm s (some data) w
    · rfl
  · rfl
  · rfl
@[simp] theorem Work.detachActs_calm (s : SlotId) (w : Work) : (Work.detachActs s w).calm = w.calm := by
  simp only [Work.detachActs]
  repeat' split
  all_goals first | rfl | simp [Work.calm_mk, Work.calm_fold, Report.isBack]
@[simp] theorem Work.enterLocked_calm (s : SlotId) (w : Work) : (Work.enterLocked s w).calm = w.calm := by
  simp only [Work.enterLocked]
  repeat' split
  all_goals first | rfl | simp [Work.calm_mk, Work.calm_fold, Report.isBack]
@[simp] theorem Work.enterFault_calm (s : SlotId) (w : Work) : (Work.enterFault s w).calm = w.calm := by
  simp only [Work.enterFault]
  repeat' split
  all_goals first | rfl | simp [Work.calm_mk, Work.calm_fold, Report.isBack]
@[simp] theorem Work.nextSlot_calm (s : SlotId) (w : Work) : (Work.nextSlot s w).calm = w.calm := by
  simp only [Work.nextSlot]
  repeat' split
  all_goals first | rfl | simp [Work.calm_mk, Work.calm_fold, Report.isBack]
@[simp] theorem Work.decideRun_calm (s : SlotId) (done failed : Bool) (w : Work) : (Work.decideRun s done failed w).calm = w.calm := by
  simp only [Work.decideRun]
  repeat' split
  all_goals first | rfl | simp [Work.calm_mk, Work.calm_fold, Report.isBack]
@[simp] theorem Work.runEnd_calm (s : SlotId) (fail : Option FailKind) (w : Work) : (Work.runEnd s fail w).calm = w.calm := by
  simp only [Work.runEnd]
  repeat' split
  all_goals first | rfl | simp [Work.calm_mk, Work.calm_fold, Report.isBack]
@[simp] theorem Work.runSourceLost_calm (s : SlotId) (w : Work) : (Work.runSourceLost s w).calm = w.calm := by
  simp only [Work.runSourceLost]
  repeat' split
  all_goals first | rfl | simp [Work.calm_mk, Work.calm_fold, Report.isBack]
@[simp] theorem Work.askStop_calm (s : SlotId) (c : Stop) (w : Work) : (Work.askStop s c w).calm = w.calm := by
  simp only [Work.askStop]
  repeat' split
  all_goals first | rfl | simp [Work.calm_mk, Work.calm_fold, Report.isBack]
@[simp] theorem Work.lockLine_calm (s : SlotId) (on : Bool) (w : Work) : (Work.lockLine s on w).calm = w.calm := by
  simp only [Work.lockLine]
  repeat' split
  all_goals first | rfl | simp [Work.calm_mk, Work.calm_fold, Report.isBack]
@[simp] theorem Work.removeCard_calm (s : SlotId) (w : Work) : (Work.removeCard s w).calm = w.calm := by
  simp only [Work.removeCard]
  repeat' split
  all_goals first | rfl | simp [Work.calm_mk, Work.calm_fold, Report.isBack]
@[simp] theorem Work.cardLine_calm (s : SlotId) (inserted : Bool) (w : Work) : (Work.cardLine s inserted w).calm = w.calm := by
  simp only [Work.cardLine]
  repeat' split
  all_goals first | rfl | simp [Work.calm_mk, Work.calm_fold, Report.isBack]
@[simp] theorem Work.serveWaiting_calm (s : SlotId) (w : Work) : (Work.serveWaiting s w).calm = w.calm := by
  simp only [Work.serveWaiting]
  split
  · rfl
  · split
    · rw [Work.selectDuty_calm]
      exact (foldl_calm _ (fun v x => by simp [Work.calm_mk, Work.calm_fold, Report.isBack]) _ _).trans (by simp [Work.calm_mk, Work.calm_fold, Report.isBack])
    · exact (foldl_calm _ (fun v x => by simp [Work.calm_mk, Work.calm_fold, Report.isBack]) _ _).trans (by simp [Work.calm_mk, Work.calm_fold, Report.isBack])
@[simp] theorem Work.proofExists_calm (i : Nat) (w : Work) : (Work.proofExists i w).calm = w.calm := by
  simp only [Work.proofExists]
  repeat' split
  all_goals first
    | rfl
    | (refine (foldl_calm _ (fun v x => ?_) _ _).trans ?_
       · repeat' split
         all_goals simp [Work.calm_mk, Work.calm_fold, Report.isBack]
       · repeat' split
         all_goals simp [Work.calm_mk, Work.calm_fold, Report.isBack])
@[simp] theorem Work.cardProofLost_calm (i : Nat) (w : Work) : (Work.cardProofLost i w).calm = w.calm := by
  simp only [Work.cardProofLost]
  repeat' split
  all_goals first
    | rfl
    | (refine (foldl_calm _ (fun v x => ?_) _ _).trans ?_
       · repeat' split
         all_goals simp [Work.calm_mk, Work.calm_fold, Report.isBack]
       · repeat' split
         all_goals simp [Work.calm_mk, Work.calm_fold, Report.isBack])
@[simp] theorem Work.discardCards_calm (i : Nat) (w : Work) : (Work.discardCards i w).calm = w.calm := by
  simp only [Work.discardCards]
  repeat' split
  all_goals first
    | rfl
    | (refine (foldl_calm _ (fun v x => ?_) _ _).trans ?_
       · repeat' split
         all_goals simp [Work.calm_mk, Work.calm_fold, Report.isBack]
       · repeat' split
         all_goals simp [Work.calm_mk, Work.calm_fold, Report.isBack])
@[simp] theorem Work.cardWarning_calm (w : Work) : (Work.cardWarning w).calm = w.calm := by
  simp only [Work.cardWarning]
  repeat' split
  all_goals first | rfl | simp [Work.calm_mk, Work.calm_fold, Report.isBack]
@[simp] theorem Work.setDevelop_calm (i : Nat) (st : DevelopState) (w : Work) :
    (Work.setDevelop i st w).calm = w.calm := by
  simp [Work.setDevelop, Report.isBack]
@[simp] theorem Work.createDevelop_calm (i : Nat) (c : DevelopClass) (w : Work) : (Work.createDevelop i c w).calm = w.calm := by
  simp only [Work.createDevelop]
  repeat' split
  all_goals first | rfl | simp [Work.calm_mk, Work.calm_fold, Report.isBack]
@[simp] theorem Work.promoteJob_calm (i : Nat) (w : Work) : (Work.promoteJob i w).calm = w.calm := by
  simp only [Work.promoteJob]
  repeat' split
  all_goals first | rfl | simp [Work.calm_mk, Work.calm_fold, Report.isBack]
@[simp] theorem Work.startJob_calm (i : Nat) (w : Work) : (Work.startJob i w).calm = w.calm := by
  simp only [Work.startJob]
  repeat' split
  all_goals first | rfl | simp [Work.calm_mk, Work.calm_fold, Report.isBack]
@[simp] theorem Work.lookHead_calm (w : Work) : (Work.lookHead w).calm = w.calm := by
  simp only [Work.lookHead]
  repeat' split
  all_goals first
    | rfl
    | (rename_i h; simp [Work.calm_mk, Work.calm_fold, Report.isBack, Work.proofAlloc_calm _ _ _ h])
    | simp [Work.calm_mk, Work.calm_fold, Report.isBack]
@[simp] theorem Work.nextJob_calm (w : Work) : (Work.nextJob w).calm = w.calm := by
  simp only [Work.nextJob]
  repeat' split
  all_goals first | rfl | simp [Work.calm_mk, Work.calm_fold, Report.isBack]
@[simp] theorem Work.loseProof_calm (i : Nat) (w : Work) : (Work.loseProof i w).calm = w.calm := by
  simp only [Work.loseProof]
  repeat' split
  all_goals first | rfl | simp [Work.calm_mk, Work.calm_fold, Report.isBack]
@[simp] theorem Work.completeJob_calm (j : Job) (w : Work) : (Work.completeJob j w).calm = w.calm := by
  simp only [Work.completeJob]
  repeat' split
  all_goals first | rfl | simp [Work.calm_mk, Work.calm_fold, Report.isBack]
@[simp] theorem Work.stopJob_calm (j : Job) (w : Work) : (Work.stopJob j w).calm = w.calm := by
  simp only [Work.stopJob]
  repeat' split
  all_goals first | rfl | simp [Work.calm_mk, Work.calm_fold, Report.isBack]
@[simp] theorem Work.putRow_calm (j : Job) (r : Row) (pixels : List Pixel) (w : Work) : (Work.putRow j r pixels w).calm = w.calm := by
  simp only [Work.putRow]
  repeat' split
  all_goals first | rfl | simp [Work.calm_mk, Work.calm_fold, Report.isBack]
@[simp] theorem Work.afterRow_calm (j : Job) (written : Nat) (w : Work) : (Work.afterRow j written w).calm = w.calm := by
  simp only [Work.afterRow]
  repeat' split
  all_goals first | rfl | simp [Work.calm_mk, Work.calm_fold, Report.isBack]
@[simp] theorem Work.writeRow_calm (w : Work) : (Work.writeRow w).calm = w.calm := by
  simp only [Work.writeRow]
  repeat' split
  all_goals first | rfl | simp [Work.calm_mk, Work.calm_fold, Report.isBack]
@[simp] theorem Work.failJob_calm (w : Work) : (Work.failJob w).calm = w.calm := by
  simp only [Work.failJob]
  repeat' split
  all_goals first | rfl | simp [Work.calm_mk, Work.calm_fold, Report.isBack]
@[simp] theorem Work.cancelPending_calm (i : Nat) (w : Work) : (Work.cancelPending i w).calm = w.calm := by
  simp only [Work.cancelPending]
  repeat' split
  all_goals first | rfl | simp [Work.calm_mk, Work.calm_fold, Report.isBack]
@[simp] theorem Work.discardDevelop_calm (i : Nat) (w : Work) : (Work.discardDevelop i w).calm = w.calm := by
  simp only [Work.discardDevelop]
  repeat' split
  all_goals first | rfl | simp [Work.calm_mk, Work.calm_fold, Report.isBack]
@[simp] theorem Work.developWarning_calm (w : Work) : (Work.developWarning w).calm = w.calm := by
  simp only [Work.developWarning]
  repeat' split
  all_goals first | rfl | simp [Work.calm_mk, Work.calm_fold, Report.isBack]
@[simp] theorem Work.bump_calm (k : CounterKind) (w : Work) : (Work.bump k w).calm = w.calm := by
  simp only [Work.bump]
  repeat' split
  all_goals first | rfl | simp [Work.calm_mk, Work.calm_fold, Report.isBack]
@[simp] theorem Work.enterLink_calm (l : Link) (w : Work) : (Work.enterLink l w).calm = w.calm := by
  simp only [Work.enterLink]
  repeat' split
  all_goals first | rfl | simp [Work.calm_mk, Work.calm_fold, Report.isBack]
@[simp] theorem Work.sendTo_calm (dst : BitVec 48) (kind : Byte) (fields : List Byte) (w : Work) : (Work.sendTo dst kind fields w).calm = w.calm := by
  simp only [Work.sendTo]
  repeat' split
  all_goals first | rfl | simp [Work.calm_mk, Work.calm_fold, Report.isBack]
@[simp] theorem Work.sendDesk_calm (kind : Byte) (fields : List Byte) (w : Work) : (Work.sendDesk kind fields w).calm = w.calm := by
  simp only [Work.sendDesk]
  repeat' split
  all_goals first | rfl | simp [Work.calm_mk, Work.calm_fold, Report.isBack]
@[simp] theorem Work.sendHello_calm (w : Work) : (Work.sendHello w).calm = w.calm := by
  simp only [Work.sendHello]
  repeat' split
  all_goals first | rfl | simp [Work.calm_mk, Work.calm_fold, Report.isBack]
@[simp] theorem Work.enterUnbound_calm (w : Work) : (Work.enterUnbound w).calm = w.calm := by
  simp only [Work.enterUnbound]
  repeat' split
  all_goals first | rfl | simp [Work.calm_mk, Work.calm_fold, Report.isBack]
@[simp] theorem Work.mapTether_calm (i : Nat) (c : Chain) (f : TetherDuty → TetherDuty) (w : Work) : (Work.mapTether i c f w).calm = w.calm := by
  simp only [Work.mapTether]
  repeat' split
  all_goals first | rfl | simp [Work.calm_mk, Work.calm_fold, Report.isBack]
@[simp] theorem Work.mirror_calm (e : Entry) (w : Work) : (Work.mirror e w).calm = w.calm := by
  simp only [Work.mirror]
  repeat' split
  all_goals first | rfl | simp [Work.calm_mk, Work.calm_fold, Report.isBack]
@[simp] theorem Work.endEntry_calm (e : Entry) (st : TetherState) (cause : Option TetherCause) (w : Work) : (Work.endEntry e st cause w).calm = w.calm := by
  simp only [Work.endEntry]
  repeat' split
  all_goals first | rfl | simp [Work.calm_mk, Work.calm_fold, Report.isBack]
@[simp] theorem Work.demote_calm (e : Entry) (w : Work) : (Work.demote e w).calm = w.calm := by
  simp only [Work.demote]
  repeat' split
  all_goals first | rfl | simp [Work.calm_mk, Work.calm_fold, Report.isBack]
@[simp] theorem Work.demoteAll_calm (w : Work) : (Work.demoteAll w).calm = w.calm := by
  simp only [Work.demoteAll]
  repeat' split
  all_goals first
    | rfl
    | (refine (foldl_calm _ (fun v x => ?_) _ _).trans ?_
       · repeat' split
         all_goals simp [Work.calm_mk, Work.calm_fold, Report.isBack]
       · repeat' split
         all_goals simp [Work.calm_mk, Work.calm_fold, Report.isBack])
theorem Work.askOne_calm (w v : Work) (h : w.askOne = some v) : v.calm = w.calm := by
  simp only [Work.askOne] at h
  repeat' split at h
  all_goals first | cases h; done | skip
  cases h; simp [Work.calm_mk, Work.calm_fold, Report.isBack]
@[simp] theorem Work.askReads_calm : ∀ (k : Nat) (w : Work), (Work.askReads k w).calm = w.calm
  | 0, _ => rfl
  | k + 1, w => by
    simp only [Work.askReads]
    split
    · rename_i v h
      rw [Work.askReads_calm k, Work.askOne_calm _ _ h]
    · rfl
@[simp] theorem Work.updateWait_calm (w : Work) : (Work.updateWait w).calm = w.calm := by
  simp only [Work.updateWait]
  repeat' split
  all_goals first | rfl | simp [Work.calm_mk, Work.calm_fold, Report.isBack]
@[simp] theorem Work.sendOffer_calm (t : Transfer) (w : Work) : (Work.sendOffer t w).calm = w.calm := by
  simp only [Work.sendOffer]
  repeat' split
  all_goals first | rfl | simp [Work.calm_mk, Work.calm_fold, Report.isBack]
@[simp] theorem Work.sendFin_calm (t : Transfer) (w : Work) : (Work.sendFin t w).calm = w.calm := by
  simp only [Work.sendFin]
  repeat' split
  all_goals first | rfl | simp [Work.calm_mk, Work.calm_fold, Report.isBack]
@[simp] theorem Work.startTransfer_calm (e : Entry) (w : Work) : (Work.startTransfer e w).calm = w.calm := by
  simp only [Work.startTransfer]
  repeat' split
  all_goals first | rfl | simp [Work.calm_mk, Work.calm_fold, Report.isBack]
@[simp] theorem Work.selectEntry_calm (w : Work) : (Work.selectEntry w).calm = w.calm := by
  simp only [Work.selectEntry]
  repeat' split
  all_goals first | rfl | simp [Work.calm_mk, Work.calm_fold, Report.isBack]
@[simp] theorem Work.sendData_calm (w : Work) : (Work.sendData w).calm = w.calm := by
  simp only [Work.sendData]
  repeat' split
  all_goals first | rfl | simp [Work.calm_mk, Work.calm_fold, Report.isBack]
@[simp] theorem Work.returnEntry_calm (e : Entry) (front : Bool) (early : Bool) (w : Work) : (Work.returnEntry e front early w).calm = w.calm := by
  simp only [Work.returnEntry]
  repeat' split
  all_goals first | rfl | simp [Work.calm_mk, Work.calm_fold, Report.isBack]
@[simp] theorem Work.settleEntry_calm (x : TransferEnd) (e : Entry) (w : Work) : (Work.settleEntry x e w).calm = w.calm := by
  simp only [Work.settleEntry]
  repeat' split
  all_goals first | rfl | simp [Work.calm_mk, Work.calm_fold, Report.isBack]
@[simp] theorem Work.loseDesk_calm (w : Work) : (Work.loseDesk w).calm = w.calm := by
  simp only [Work.loseDesk]
  repeat' split
  all_goals first | rfl | simp [Work.calm_mk, Work.calm_fold, Report.isBack]
@[simp] theorem Work.linkAfter_calm (x : TransferEnd) (w : Work) : (Work.linkAfter x w).calm = w.calm := by
  simp only [Work.linkAfter]
  repeat' split
  all_goals first | rfl | simp [Work.calm_mk, Work.calm_fold, Report.isBack]
@[simp] theorem Work.endTransfer_calm (x : TransferEnd) (w : Work) : (Work.endTransfer x w).calm = w.calm := by
  simp only [Work.endTransfer]
  repeat' split
  all_goals first | rfl | simp [Work.calm_mk, Work.calm_fold, Report.isBack]
@[simp] theorem Work.sendLost_calm (w : Work) : (Work.sendLost w).calm = w.calm := by
  simp only [Work.sendLost]
  repeat' split
  all_goals first | rfl | simp [Work.calm_mk, Work.calm_fold, Report.isBack]
@[simp] theorem Work.ackExpires_calm (w : Work) : (Work.ackExpires w).calm = w.calm := by
  simp only [Work.ackExpires]
  repeat' split
  all_goals first | rfl | simp [Work.calm_mk, Work.calm_fold, Report.isBack]
@[simp] theorem Work.takeAck_calm (id offset : Nat) (w : Work) : (Work.takeAck id offset w).calm = w.calm := by
  simp only [Work.takeAck]
  repeat' split
  all_goals first | rfl | simp [Work.calm_mk, Work.calm_fold, Report.isBack]
@[simp] theorem Work.restartTransfer_calm (t : Transfer) (w : Work) : (Work.restartTransfer t w).calm = w.calm := by
  simp only [Work.restartTransfer]
  repeat' split
  all_goals first | rfl | simp [Work.calm_mk, Work.calm_fold, Report.isBack]
@[simp] theorem Work.takeFinack_calm (id : Nat) (good : Bool) (w : Work) : (Work.takeFinack id good w).calm = w.calm := by
  simp only [Work.takeFinack]
  repeat' split
  all_goals first | rfl | simp [Work.calm_mk, Work.calm_fold, Report.isBack]
@[simp] theorem Work.takeRead_calm (b : Nat) (data : Option (List Byte)) (w : Work) : (Work.takeRead b data w).calm = w.calm := by
  simp only [Work.takeRead]
  repeat' split
  all_goals first | rfl | simp [Work.calm_mk, Work.calm_fold, Report.isBack]
@[simp] theorem Work.deskExpires_calm (w : Work) : (Work.deskExpires w).calm = w.calm := by
  simp only [Work.deskExpires]
  repeat' split
  all_goals first | rfl | simp [Work.calm_mk, Work.calm_fold, Report.isBack]
@[simp] theorem Work.underrunExpires_calm (w : Work) : (Work.underrunExpires w).calm = w.calm := by
  simp only [Work.underrunExpires]
  repeat' split
  all_goals first | rfl | simp [Work.calm_mk, Work.calm_fold, Report.isBack]
@[simp] theorem Work.helloExpires_calm (w : Work) : (Work.helloExpires w).calm = w.calm := by
  simp only [Work.helloExpires]
  repeat' split
  all_goals first | rfl | simp [Work.calm_mk, Work.calm_fold, Report.isBack]
@[simp] theorem Work.cancelEntry_calm (e : Entry) (w : Work) : (Work.cancelEntry e w).calm = w.calm := by
  simp only [Work.cancelEntry]
  repeat' split
  all_goals first | rfl | simp [Work.calm_mk, Work.calm_fold, Report.isBack]
@[simp] theorem Work.discardTethers_calm (i : Nat) (w : Work) : (Work.discardTethers i w).calm = w.calm := by
  simp only [Work.discardTethers]
  repeat' split
  all_goals first
    | rfl
    | (refine (foldl_calm _ (fun v x => ?_) _ _).trans ?_
       · repeat' split
         all_goals simp [Work.calm_mk, Work.calm_fold, Report.isBack]
       · repeat' split
         all_goals simp [Work.calm_mk, Work.calm_fold, Report.isBack])
@[simp] theorem Work.tetherProofLost_calm (i : Nat) (w : Work) : (Work.tetherProofLost i w).calm = w.calm := by
  simp only [Work.tetherProofLost]
  repeat' split
  all_goals first
    | rfl
    | (refine (foldl_calm _ (fun v x => ?_) _ _).trans ?_
       · repeat' split
         all_goals simp [Work.calm_mk, Work.calm_fold, Report.isBack]
       · repeat' split
         all_goals simp [Work.calm_mk, Work.calm_fold, Report.isBack])
@[simp] theorem Work.joinSend_calm (p : SendPlan) (n prio : Nat) (early : Bool) (w : Work) : (Work.joinSend p n prio early w).calm = w.calm := by
  simp only [Work.joinSend]
  repeat' split
  all_goals first | rfl | simp [Work.calm_mk, Work.calm_fold, Report.isBack]
@[simp] theorem Work.failFull_calm (i n prio : Nat) (src : Source) (w : Work) : (Work.failFull i n prio src w).calm = w.calm := by
  simp only [Work.failFull]
  repeat' split
  all_goals first | rfl | simp [Work.calm_mk, Work.calm_fold, Report.isBack]
@[simp] theorem Work.linkDown_calm (w : Work) : (Work.linkDown w).calm = w.calm := by
  simp only [Work.linkDown]
  repeat' split
  all_goals first | rfl | simp [Work.calm_mk, Work.calm_fold, Report.isBack]
@[simp] theorem Work.phyDown_calm (w : Work) : (Work.phyDown w).calm = w.calm := by
  simp only [Work.phyDown]
  repeat' split
  all_goals first | rfl | simp [Work.calm_mk, Work.calm_fold, Report.isBack]
@[simp] theorem Work.phyUp_calm (w : Work) : (Work.phyUp w).calm = w.calm := by
  simp only [Work.phyUp]
  repeat' split
  all_goals first | rfl | simp [Work.calm_mk, Work.calm_fold, Report.isBack]
@[simp] theorem Work.tetherWake_calm (w : Work) : (Work.tetherWake w).calm = w.calm := by
  simp only [Work.tetherWake]
  repeat' split
  all_goals first | rfl | simp [Work.calm_mk, Work.calm_fold, Report.isBack]
@[simp] theorem Work.tetherHalt_calm (w : Work) : (Work.tetherHalt w).calm = w.calm := by
  simp only [Work.tetherHalt]
  repeat' split
  all_goals first | rfl | simp [Work.calm_mk, Work.calm_fold, Report.isBack]
@[simp] theorem Work.tetherWarning_calm (w : Work) : (Work.tetherWarning w).calm = w.calm := by
  simp only [Work.tetherWarning]
  repeat' split
  all_goals first | rfl | simp [Work.calm_mk, Work.calm_fold, Report.isBack]
@[simp] theorem Work.disableTether_calm (w : Work) : (Work.disableTether w).calm = w.calm := by
  simp only [Work.disableTether]
  repeat' split
  all_goals first | rfl | simp [Work.calm_mk, Work.calm_fold, Report.isBack]
@[simp] theorem Work.resetTether_calm (w : Work) : (Work.resetTether w).calm = w.calm := by
  have h1 : ∀ (l : List Entry) (v : Work),
      (l.foldl (fun v e => v.endEntry e .failed (some .reset)) v).calm = v.calm :=
    foldl_calm _ (fun v x => by simp [Work.calm_mk, Work.calm_fold, Report.isBack])
  simp [Work.resetTether, Work.calm_mk, Work.calm_fold, h1]
@[simp] theorem Work.giveRaw_calm (i : Nat) (s : SlotId) (w : Work) : (Work.giveRaw i s w).calm = w.calm := by
  simp only [Work.giveRaw]
  repeat' split
  all_goals first | rfl | simp [Work.calm_mk, Work.calm_fold, Report.isBack]
@[simp] theorem Work.giveProofSend_calm (i n prio : Nat) (w : Work) : (Work.giveProofSend i n prio w).calm = w.calm := by
  simp only [Work.giveProofSend]
  repeat' split
  all_goals first | rfl | simp [Work.calm_mk, Work.calm_fold, Report.isBack]
@[simp] theorem Work.createDuties_calm (i n : Nat) (w : Work) : (Work.createDuties i n w).calm = w.calm := by
  have h1 : ∀ (l : List SlotId) (v : Work), (l.foldl (fun v s => v.giveRaw i s) v).calm = v.calm :=
    foldl_calm _ (fun v x => by simp [Work.calm_mk, Work.calm_fold, Report.isBack])
  have h2 : ∀ (l : List SlotId) (v : Work),
      (l.foldl (fun v s => v.addCard i s .proof .waitingSource false) v).calm = v.calm :=
    foldl_calm _ (fun v x => by simp [Work.calm_mk, Work.calm_fold, Report.isBack])
  simp only [Work.createDuties]
  repeat' split
  all_goals simp [Work.calm_mk, Work.calm_fold, Report.isBack, h1, h2]
@[simp] theorem Work.protectSend_calm (r : Row) (n : Nat) (w : Work) : (Work.protectSend r n w).calm = w.calm := by
  simp only [Work.protectSend]
  repeat' split
  all_goals first | rfl | simp [Work.calm_mk, Work.calm_fold, Report.isBack]
@[simp] theorem Work.takeReclaim_calm (up : Bool) (w : Work) : (Work.takeReclaim up w).calm = w.calm := by
  simp only [Work.takeReclaim]
  repeat' split
  all_goals first | rfl | simp [Work.calm_mk, Work.calm_fold, Report.isBack]
@[simp] theorem Work.takeCardDone_calm (i : Nat) (c : Chain) (w : Work) : (Work.takeCardDone i c w).calm = w.calm := by
  simp only [Work.takeCardDone]
  repeat' split
  all_goals first
    | rfl
    | (refine (foldl_calm _ (fun v x => ?_) _ _).trans ?_
       · repeat' split
         all_goals simp [Work.calm_mk, Work.calm_fold, Report.isBack]
       · repeat' split
         all_goals simp [Work.calm_mk, Work.calm_fold, Report.isBack])
@[simp] theorem Work.takeDevelop_calm (i : Nat) (w : Work) : (Work.takeDevelop i w).calm = w.calm := by
  simp only [Work.takeDevelop]
  repeat' split
  all_goals first | rfl | simp [Work.calm_mk, Work.calm_fold, Report.isBack]
@[simp] theorem Work.nakRequest_calm (n : Nat) (chain : Byte) (code : Result) (w : Work) : (Work.nakRequest n chain code w).calm = w.calm := by
  simp only [Work.nakRequest]
  repeat' split
  all_goals first | rfl | simp [Work.calm_mk, Work.calm_fold, Report.isBack]
@[simp] theorem Work.nakRemote_calm (count : Byte) (code : Result) (w : Work) : (Work.nakRemote count code w).calm = w.calm := by
  simp only [Work.nakRemote]
  repeat' split
  all_goals first | rfl | simp [Work.calm_mk, Work.calm_fold, Report.isBack]
@[simp] theorem Work.takeBind_calm (src : BitVec 48) (w : Work) : (Work.takeBind src w).calm = w.calm := by
  simp only [Work.takeBind]
  repeat' split
  all_goals first | rfl | simp [Work.calm_mk, Work.calm_fold, Report.isBack]
@[simp] theorem Work.raiseEntry_calm (e : Entry) (w : Work) : (Work.raiseEntry e w).calm = w.calm := by
  simp only [Work.raiseEntry]
  repeat' split
  all_goals first | rfl | simp [Work.calm_mk, Work.calm_fold, Report.isBack]
@[simp] theorem Work.refuseRequest_calm (n : Nat) (chain : Byte) (code : Result) (w : Work) : (Work.refuseRequest n chain code w).calm = w.calm := by
  simp only [Work.refuseRequest]
  repeat' split
  all_goals first | rfl | simp [Work.calm_mk, Work.calm_fold, Report.isBack]
@[simp] theorem Work.takeRequest_calm (n : Nat) (chain : Byte) (w : Work) : (Work.takeRequest n chain w).calm = w.calm := by
  simp only [Work.takeRequest]
  repeat' split
  all_goals first | rfl | simp [Work.calm_mk, Work.calm_fold, Report.isBack]
theorem Work.handle_front (r : Report) (w : Work) (h : r.isBack = true) : (w.handle r).toState.front = w.toState.front := by
  cases r <;> first | simp [Work.handle]; done | simp [Report.isBack] at h

theorem Work.handle_calm (r : Report) (w : Work) (h : r.isBack = true) : (w.handle r).calm = w.calm := by
  cases r <;> first | simp [Work.handle]; done | simp [Report.isBack] at h

theorem Work.drain_front : ∀ (k : Nat) (w : Work), w.calm = true → (Work.drain k w).toState.front = w.toState.front
  | 0, _, _ => rfl
  | k + 1, w, h => by
    simp only [Work.drain]
    split
    · rfl
    · rename_i r rest hb
      have h2 : r.isBack = true ∧ rest.all Report.isBack = true := by
        rw [← Bool.and_eq_true, ← List.all_cons, ← hb]; exact h
      rw [Work.drain_front k _ ((Work.handle_calm r ({ w with bus := rest } : Work) h2.1).trans h2.2),
        Work.handle_front r _ h2.1]

/-- Reports of the back half leave RDU, SRU, FU, the fixed part of every row and BM's settings as they are. -/
theorem Work.settle_front (w : Work) (h : w.calm = true) : w.settle.toState.front = w.toState.front :=
  Work.drain_front _ w h

end Sys2Proof.Machine
end

