-- ==== Sys2Proof/Laws/Memory.lean ====
section
/-! SUPPORT. Frame memory: every operation keeps the canonical form, a read after a write gives the byte written, and
a write leaves every other address alone. -/

namespace Sys2Proof.Machine

theorem Memory.read_below : ∀ {m : Memory} {low a : Nat}, m.wfFrom low = true → a < low → m.read a = 0
  | [], _, _, _, _ => rfl
  | (b, x) :: m, low, a, h, ha => by
    simp only [Memory.wfFrom, Bool.and_eq_true, decide_eq_true_eq] at h
    have hb : ¬ b = a := by omega
    simp only [Memory.read, hb, if_false]
    exact Memory.read_below h.2 (by omega)

theorem Memory.wfFrom_mono : ∀ {m : Memory} {low low' : Nat}, m.wfFrom low = true → low' ≤ low →
    m.wfFrom low' = true
  | [], _, _, _, _ => rfl
  | (b, x) :: m, low, low', h, hl => by
    simp only [Memory.wfFrom, Bool.and_eq_true, decide_eq_true_eq] at h ⊢
    exact ⟨⟨by omega, h.1.2⟩, h.2⟩

theorem Memory.write_wfFrom : ∀ {m : Memory} {low a : Nat} (v : Byte), m.wfFrom low = true → low ≤ a →
    (m.write a v).wfFrom low = true
  | [], low, a, v, _, ha => by
    simp only [Memory.write]
    split <;> simp_all [Memory.wfFrom]
  | (b, x) :: m, low, a, v, h, ha => by
    simp only [Memory.wfFrom, Bool.and_eq_true, decide_eq_true_eq] at h
    simp only [Memory.write]
    split
    · simp only [Memory.wfFrom, Bool.and_eq_true, decide_eq_true_eq]
      exact ⟨h.1, Memory.write_wfFrom v h.2 (by omega)⟩
    · split
      · split
        · exact Memory.wfFrom_mono h.2 (by omega)
        · simp only [Memory.wfFrom, Bool.and_eq_true, decide_eq_true_eq]
          exact ⟨⟨ha, by assumption⟩, by subst b; exact h.2⟩
      · split
        · simp only [Memory.wfFrom, Bool.and_eq_true, decide_eq_true_eq]
          exact h
        · simp only [Memory.wfFrom, Bool.and_eq_true, decide_eq_true_eq]
          exact ⟨⟨ha, by assumption⟩, ⟨⟨by omega, h.1.2⟩, h.2⟩⟩

/-- A write keeps the canonical form. -/
theorem Memory.write_wf {m : Memory} (a : Nat) (v : Byte) (h : m.wf = true) : (m.write a v).wf = true :=
  Memory.write_wfFrom v h (Nat.zero_le a)

theorem Memory.read_write_from : ∀ {m : Memory} {low : Nat} (a : Nat) (v : Byte) (c : Nat), m.wfFrom low = true →
    (m.write a v).read c = if c = a then v else m.read c
  | [], low, a, v, c, _ => by
    simp only [Memory.write]
    split <;> simp only [Memory.read] <;> split <;> simp_all
    · rename_i hv h1
      intro h2
      exact absurd h2.symm h1
  | (b, x) :: m, low, a, v, c, h => by
    have hw := h
    simp only [Memory.wfFrom, Bool.and_eq_true, decide_eq_true_eq] at h
    simp only [Memory.write]
    split
    · rename_i hb
      simp only [Memory.read]
      split
      · rename_i hc
        have : ¬ c = a := by omega
        simp [this]
      · exact Memory.read_write_from a v c h.2
    · rename_i hb
      split
      · rename_i hba
        split
        · rename_i hv
          by_cases hc : c = a
          · subst hc; subst hba
            simp only [if_true, hv]
            exact Memory.read_below h.2 (by omega)
          · have : ¬ b = c := by omega
            simp [Memory.read, hc, this]
        · by_cases hc : c = a
          · subst hc; simp [Memory.read]
          · have h1 : ¬ a = c := by omega
            have h2 : ¬ b = c := by omega
            simp [Memory.read, hc, h1, h2]
      · rename_i hba
        split
        · rename_i hv
          by_cases hc : c = a
          · subst hc
            simp only [if_true, hv]
            exact Memory.read_below (low := b) (by simpa [Memory.wfFrom] using ⟨h.1.2, h.2⟩) (by omega)
          · simp [hc]
        · by_cases hc : c = a
          · subst hc; simp [Memory.read]
          · have h1 : ¬ a = c := by omega
            simp [Memory.read, hc, h1]

/-- A read after a write: the byte written at its address, the byte before elsewhere. -/
theorem Memory.read_write {m : Memory} (a : Nat) (v : Byte) (c : Nat) (h : m.wf = true) :
    (m.write a v).read c = if c = a then v else m.read c :=
  Memory.read_write_from a v c h

/-- Writing a chain keeps the canonical form. -/
theorem chainWrite_wf {pages : List Nat} : ∀ {m : Memory} {o : Nat} (bs : List Byte), m.wf = true →
    (chainWrite m pages o bs).wf = true
  | _, _, [], h => h
  | m, o, b :: bs, h => by
    simp only [chainWrite]
    split
    · exact chainWrite_wf bs (Memory.write_wf _ _ h)
    · exact chainWrite_wf bs h

/-- Writing a chain leaves every address alone that is no address of the bytes written. -/
theorem chainWrite_read_of_not_mem {pages : List Nat} : ∀ {m : Memory} {o : Nat} (bs : List Byte) {a : Nat},
    m.wf = true → (∀ i, i < bs.length → chainAddr pages (o + i) ≠ some a) →
    (chainWrite m pages o bs).read a = m.read a
  | _, _, [], _, _, _ => rfl
  | m, o, b :: bs, a, hw, h => by
    have h0 := h 0 (by simp)
    have ih : ∀ i, i < bs.length → chainAddr pages (o + 1 + i) ≠ some a := by
      intro i hi
      have := h (i + 1) (by simpa using hi)
      rwa [show o + 1 + i = o + (i + 1) by omega]
    simp only [chainWrite]
    split
    · rename_i x hx
      rw [chainWrite_read_of_not_mem bs (Memory.write_wf _ _ hw) ih, Memory.read_write _ _ _ hw]
      simp only [Nat.add_zero, hx, ne_eq, Option.some.injEq] at h0
      simp [Ne.symm h0]
    · exact chainWrite_read_of_not_mem bs hw ih

end Sys2Proof.Machine
end

