-- ==== Sys2Proof/Laws/MemFrames.lean ====
section
/-! SUPPORT. Which operations leave frame memory as it is, one lemma each; and that those which write it keep its
canonical form. -/

namespace Sys2Proof.Machine

theorem foldl_mem {α : Type} (f : Work → α → Work) (h : ∀ v x, (f v x).toState.mem = v.toState.mem) :
    ∀ (l : List α) (w : Work), (l.foldl f w).toState.mem = w.toState.mem
  | [], _ => rfl
  | x :: l, w => by rw [List.foldl_cons, foldl_mem f h l, h]
@[simp] theorem Work.freePages_mem (pages : List Nat) (w : Work) : (Work.freePages pages w).toState.mem = w.toState.mem := by
  simp only [Work.freePages]
  repeat' split
  all_goals first | rfl | simp [State.mem]
@[simp] theorem Work.takePages_mem (n : Nat) (w : Work) : (Work.takePages n w).toState.mem = w.toState.mem := by
  simp only [Work.takePages]
  repeat' split
  all_goals first | rfl | simp [State.mem]
@[simp] theorem Work.createRow_mem (i : Nat) (origin : Origin) (burst : Nat) (ring : Bool) (look : Nat) (w : Work) : (Work.createRow i origin burst ring look w).toState.mem = w.toState.mem := by
  simp only [Work.createRow]
  repeat' split
  all_goals first | rfl | simp [State.mem]
theorem Work.proofAlloc_mem (i : Nat) (w v : Work) (h : w.proofAlloc i = some v) : v.toState.mem = w.toState.mem := by
  simp only [Work.proofAlloc] at h
  split at h
  · cases h; simp [State.mem]
  · cases h
@[simp] theorem Work.releaseRaw_mem (i : Nat) (w : Work) : (Work.releaseRaw i w).toState.mem = w.toState.mem := by
  simp only [Work.releaseRaw]
  repeat' split
  all_goals first | rfl | simp [State.mem]
@[simp] theorem Work.releaseProof_mem (i : Nat) (w : Work) : (Work.releaseProof i w).toState.mem = w.toState.mem := by
  simp only [Work.releaseProof]
  repeat' split
  all_goals first | rfl | simp [State.mem]
@[simp] theorem Work.releaseCheck_mem (i : Nat) (w : Work) : (Work.releaseCheck i w).toState.mem = w.toState.mem := by
  simp only [Work.releaseCheck]
  repeat' split
  all_goals first | rfl | simp [State.mem]
@[simp] theorem Work.settleCheck_mem (i : Nat) (w : Work) : (Work.settleCheck i w).toState.mem = w.toState.mem := by
  simp only [Work.settleCheck]
  repeat' split
  all_goals first | rfl | simp [State.mem]
@[simp] theorem Work.check_mem (i : Nat) (w : Work) : (Work.check i w).toState.mem = w.toState.mem := by
  simp only [Work.check]
  repeat' split
  all_goals first | rfl | simp [State.mem]
@[simp] theorem Work.removeRow_mem (i : Nat) (w : Work) : (Work.removeRow i w).toState.mem = w.toState.mem := by
  simp only [Work.removeRow]
  repeat' split
  all_goals first | rfl | simp [State.mem]
@[simp] theorem Work.abortRow_mem (i : Nat) (cause : ShotOutcome) (w : Work) : (Work.abortRow i cause w).toState.mem = w.toState.mem := by
  simp only [Work.abortRow]
  repeat' split
  all_goals first | rfl | simp [State.mem]
@[simp] theorem Work.evictRow_mem (i : Nat) (w : Work) : (Work.evictRow i w).toState.mem = w.toState.mem := by
  simp only [Work.evictRow]
  repeat' split
  all_goals first | rfl | simp [State.mem]
@[simp] theorem Work.dropRing_mem (w : Work) : (Work.dropRing w).toState.mem = w.toState.mem := by
  simp only [Work.dropRing]
  repeat' split
  all_goals first
    | rfl
    | (refine (foldl_mem _ (fun v x => ?_) _ _).trans ?_
       · repeat' split
         all_goals simp [State.mem]
       · repeat' split
         all_goals simp [State.mem])
@[simp] theorem Work.mapSlot_mem (s : SlotId) (f : Slot → Slot) (w : Work) : (Work.mapSlot s f w).toState.mem = w.toState.mem := by
  simp only [Work.mapSlot]
  repeat' split
  all_goals first | rfl | simp [State.mem]
@[simp] theorem Work.slotChanged_mem (w : Work) : (Work.slotChanged w).toState.mem = w.toState.mem := by
  simp only [Work.slotChanged]
  repeat' split
  all_goals first | rfl | simp [State.mem]
@[simp] theorem Work.enterSlot_mem (s : SlotId) (st : SlotState) (w : Work) : (Work.enterSlot s st w).toState.mem = w.toState.mem := by
  simp only [Work.enterSlot]
  repeat' split
  all_goals first | rfl | simp [State.mem]
@[simp] theorem Work.mapDuty_mem (d : DutyRef) (f : CardDuty → CardDuty) (w : Work) : (Work.mapDuty d f w).toState.mem = w.toState.mem := by
  simp only [Work.mapDuty]
  repeat' split
  all_goals first | rfl | simp [State.mem]
@[simp] theorem Work.setExtents_mem (s : SlotId) (q : List Piece) (w : Work) : (Work.setExtents s q w).toState.mem = w.toState.mem := by
  simp only [Work.setExtents]
  repeat' split
  all_goals first | rfl | simp [State.mem]
@[simp] theorem Work.startRun_mem (s : SlotId) (w : Work) : (Work.startRun s w).toState.mem = w.toState.mem := by
  simp only [Work.startRun]
  repeat' split
  all_goals first | rfl | simp [State.mem]
@[simp] theorem Work.startRead_mem (s : SlotId) (w : Work) : (Work.startRead s w).toState.mem = w.toState.mem := by
  simp only [Work.startRead]
  repeat' split
  all_goals first | rfl | simp [State.mem]
@[simp] theorem Work.walk_mem (s : SlotId) : ∀ (q : List DutyRef) (w : Work), (Work.walk s q w).2.toState.mem = w.toState.mem
  | [], _ => rfl
  | d :: q, w => by
    simp only [Work.walk]
    repeat' split
    all_goals simp [Work.walk_mem s q, State.mem]

theorem Work.walk_mem' {s : SlotId} {q : List DutyRef} {w v : Work} {o : Option DutyRef} (h : Work.walk s q w = (o, v)) :
    v.toState.mem = w.toState.mem := by
  have := Work.walk_mem s q w
  rwa [h] at this
@[simp] theorem Work.beginChain_mem (s : SlotId) (d : DutyRef) (w : Work) : (Work.beginChain s d w).toState.mem = w.toState.mem := by
  simp only [Work.beginChain]
  repeat' split
  all_goals first | rfl | simp [State.mem]
@[simp] theorem Work.selectDuty_mem (s : SlotId) (w : Work) : (Work.selectDuty s w).toState.mem = w.toState.mem := by
  simp only [Work.selectDuty]
  repeat' split
  all_goals first
    | rfl
    | (rename_i h; simp [State.mem, Work.walk_mem' h])
@[simp] theorem Work.afterChain_mem (s : SlotId) (w : Work) : (Work.afterChain s w).toState.mem = w.toState.mem := by
  simp only [Work.afterChain]
  repeat' split
  all_goals first
    | (rename_i h _; simp [State.mem, Work.walk_mem' h])
    | (rename_i h; simp [State.mem, Work.walk_mem' h])
    | simp [State.mem]
@[simp] theorem Work.addCard_mem (i : Nat) (s : SlotId) (c : Chain) (st : CardState) (again : Bool) (w : Work) : (Work.addCard i s c st again w).toState.mem = w.toState.mem := by
  simp only [Work.addCard]
  repeat' split
  all_goals first | rfl | simp [State.mem]
@[simp] theorem Work.storeFail_mem (d : DutyRef) (cause : CardCause) (spoiled : Bool) (w : Work) : (Work.storeFail d cause spoiled w).toState.mem = w.toState.mem := by
  simp only [Work.storeFail]
  repeat' split
  all_goals first | rfl | simp [State.mem]
@[simp] theorem Work.failDuty_mem (d : DutyRef) (cause : CardCause) (spoiled : Bool) (w : Work) : (Work.failDuty d cause spoiled w).toState.mem = w.toState.mem := by
  simp only [Work.failDuty]
  repeat' split
  all_goals first | rfl | simp [State.mem]
@[simp] theorem Work.firstState_mem (d : DutyRef) (w : Work) : (Work.firstState d w).toState.mem = w.toState.mem := by
  simp only [Work.firstState]
  repeat' split
  all_goals first | rfl | simp [State.mem]
@[simp] theorem Work.unlist_mem (d : DutyRef) (w : Work) : (Work.unlist d w).toState.mem = w.toState.mem := by
  simp only [Work.unlist]
  repeat' split
  all_goals first | rfl | simp [State.mem]
@[simp] theorem Work.failQueue_mem (s : SlotId) (cause : CardCause) (w : Work) : (Work.failQueue s cause w).toState.mem = w.toState.mem := by
  simp only [Work.failQueue]
  repeat' split
  all_goals first
    | rfl
    | (refine (foldl_mem _ (fun v x => ?_) _ _).trans ?_
       · repeat' split
         all_goals simp [State.mem]
       · repeat' split
         all_goals simp [State.mem])
@[simp] theorem Work.giveUp_mem (s : SlotId) (cause : CardCause) (w : Work) : (Work.giveUp s cause w).toState.mem = w.toState.mem := by
  simp only [Work.giveUp]
  repeat' split
  all_goals first
    | rfl
    | (refine (foldl_mem _ (fun v x => ?_) _ _).trans ?_
       · repeat' split
         all_goals simp [State.mem]
       · repeat' split
         all_goals simp [State.mem])
@[simp] theorem Work.failReads_mem (s : SlotId) (w : Work) : (Work.failReads s w).toState.mem = w.toState.mem := by
  simp only [Work.failReads]
  refine (foldl_mem _ (fun v x => ?_) _ _).trans ?_
  · simp [State.mem]
  · simp only [Work.mapSlot_mem]
    repeat' split
    all_goals first | rfl | simp [State.mem]
@[simp] theorem Work.suspend_mem (s : SlotId) (w : Work) : (Work.suspend s w).toState.mem = w.toState.mem := by
  simp only [Work.suspend]
  repeat' split
  all_goals first | rfl | simp [State.mem]
@[simp] theorem Work.resume_mem (s : SlotId) (w : Work) : (Work.resume s w).toState.mem = w.toState.mem := by
  simp only [Work.resume]
  repeat' split
  all_goals first | rfl | simp [State.mem]
@[simp] theorem Work.askRead_mem (s : SlotId) (r : ReadRequest) (w : Work) : (Work.askRead s r w).toState.mem = w.toState.mem := by
  simp only [Work.askRead]
  repeat' split
  all_goals first | rfl | simp [State.mem]
@[simp] theorem Work.readEnd_mem (s : SlotId) (data : Option (List Byte)) (w : Work) : (Work.readEnd s data w).toState.mem = w.toState.mem := by
  simp only [Work.readEnd]
  repeat' split
  all_goals first | rfl | simp [State.mem]
@[simp] theorem Work.readArrives_mem (s : SlotId) (data : List Byte) (w : Work) :
    (Work.readArrives s data w).toState.mem = w.toState.mem := by
  simp only [Work.readArrives]
  split
  · split
    · exact Work.readEnd_mem s (some data) w
    · rfl
  · rfl
  · rfl
@[simp] theorem Work.detachActs_mem (s : SlotId) (w : Work) : (Work.detachActs s w).toState.mem = w.toState.mem := by
  simp only [Work.detachActs]
  repeat' split
  all_goals first | rfl | simp [State.mem]
@[simp] theorem Work.enterLocked_mem (s : SlotId) (w : Work) : (Work.enterLocked s w).toState.mem = w.toState.mem := by
  simp only [Work.enterLocked]
  repeat' split
  all_goals first | rfl | simp [State.mem]
@[simp] theorem Work.enterFault_mem (s : SlotId) (w : Work) : (Work.enterFault s w).toState.mem = w.toState.mem := by
  simp only [Work.enterFault]
  repeat' split
  all_goals first | rfl | simp [State.mem]
@[simp] theorem Work.nextSlot_mem (s : SlotId) (w : Work) : (Work.nextSlot s w).toState.mem = w.toState.mem := by
  simp only [Work.nextSlot]
  repeat' split
  all_goals first | rfl | simp [State.mem]
@[simp] theorem Work.decideRun_mem (s : SlotId) (done failed : Bool) (w : Work) : (Work.decideRun s done failed w).toState.mem = w.toState.mem := by
  simp only [Work.decideRun]
  repeat' split
  all_goals first | rfl | simp [State.mem]
@[simp] theorem Work.runEnd_mem (s : SlotId) (fail : Option FailKind) (w : Work) : (Work.runEnd s fail w).toState.mem = w.toState.mem := by
  simp only [Work.runEnd]
  repeat' split
  all_goals first | rfl | simp [State.mem]
@[simp] theorem Work.runSourceLost_mem (s : SlotId) (w : Work) : (Work.runSourceLost s w).toState.mem = w.toState.mem := by
  simp only [Work.runSourceLost]
  repeat' split
  all_goals first | rfl | simp [State.mem]
@[simp] theorem Work.askStop_mem (s : SlotId) (c : Stop) (w : Work) : (Work.askStop s c w).toState.mem = w.toState.mem := by
  simp only [Work.askStop]
  repeat' split
  all_goals first | rfl | simp [State.mem]
@[simp] theorem Work.lockLine_mem (s : SlotId) (on : Bool) (w : Work) : (Work.lockLine s on w).toState.mem = w.toState.mem := by
  simp only [Work.lockLine]
  repeat' split
  all_goals first | rfl | simp [State.mem]
@[simp] theorem Work.removeCard_mem (s : SlotId) (w : Work) : (Work.removeCard s w).toState.mem = w.toState.mem := by
  simp only [Work.removeCard]
  repeat' split
  all_goals first | rfl | simp [State.mem]
@[simp] theorem Work.cardLine_mem (s : SlotId) (inserted : Bool) (w : Work) : (Work.cardLine s inserted w).toState.mem = w.toState.mem := by
  simp only [Work.cardLine]
  repeat' split
  all_goals first | rfl | simp [State.mem]
@[simp] theorem Work.serveWaiting_mem (s : SlotId) (w : Work) : (Work.serveWaiting s w).toState.mem = w.toState.mem := by
  simp only [Work.serveWaiting]
  split
  · rfl
  · split
    · rw [Work.selectDuty_mem]
      exact (foldl_mem _ (fun v x => by simp [State.mem]) _ _).trans (by simp [State.mem])
    · exact (foldl_mem _ (fun v x => by simp [State.mem]) _ _).trans (by simp [State.mem])
@[simp] theorem Work.proofExists_mem (i : Nat) (w : Work) : (Work.proofExists i w).toState.mem = w.toState.mem := by
  simp only [Work.proofExists]
  repeat' split
  all_goals first
    | rfl
    | (refine (foldl_mem _ (fun v x => ?_) _ _).trans ?_
       · repeat' split
         all_goals simp [State.mem]
       · repeat' split
         all_goals simp [State.mem])
@[simp] theorem Work.cardProofLost_mem (i : Nat) (w : Work) : (Work.cardProofLost i w).toState.mem = w.toState.mem := by
  simp only [Work.cardProofLost]
  repeat' split
  all_goals first
    | rfl
    | (refine (foldl_mem _ (fun v x => ?_) _ _).trans ?_
       · repeat' split
         all_goals simp [State.mem]
       · repeat' split
         all_goals simp [State.mem])
@[simp] theorem Work.discardCards_mem (i : Nat) (w : Work) : (Work.discardCards i w).toState.mem = w.toState.mem := by
  simp only [Work.discardCards]
  repeat' split
  all_goals first
    | rfl
    | (refine (foldl_mem _ (fun v x => ?_) _ _).trans ?_
       · repeat' split
         all_goals simp [State.mem]
       · repeat' split
         all_goals simp [State.mem])
@[simp] theorem Work.cardWarning_mem (w : Work) : (Work.cardWarning w).toState.mem = w.toState.mem := by
  simp only [Work.cardWarning]
  repeat' split
  all_goals first | rfl | simp [State.mem]
@[simp] theorem Work.setDevelop_mem (i : Nat) (st : DevelopState) (w : Work) : (Work.setDevelop i st w).toState.mem = w.toState.mem := by
  simp only [Work.setDevelop]
  repeat' split
  all_goals first | rfl | simp [State.mem]
@[simp] theorem Work.createDevelop_mem (i : Nat) (c : DevelopClass) (w : Work) : (Work.createDevelop i c w).toState.mem = w.toState.mem := by
  simp only [Work.createDevelop]
  repeat' split
  all_goals first | rfl | simp [State.mem]
@[simp] theorem Work.promoteJob_mem (i : Nat) (w : Work) : (Work.promoteJob i w).toState.mem = w.toState.mem := by
  simp only [Work.promoteJob]
  repeat' split
  all_goals first | rfl | simp [State.mem]
@[simp] theorem Work.loseProof_mem (i : Nat) (w : Work) : (Work.loseProof i w).toState.mem = w.toState.mem := by
  simp only [Work.loseProof]
  repeat' split
  all_goals first | rfl | simp [State.mem]
@[simp] theorem Work.cancelPending_mem (i : Nat) (w : Work) : (Work.cancelPending i w).toState.mem = w.toState.mem := by
  simp only [Work.cancelPending]
  repeat' split
  all_goals first | rfl | simp [State.mem]
@[simp] theorem Work.discardDevelop_mem (i : Nat) (w : Work) : (Work.discardDevelop i w).toState.mem = w.toState.mem := by
  simp only [Work.discardDevelop]
  repeat' split
  all_goals first | rfl | simp [State.mem]
@[simp] theorem Work.developWarning_mem (w : Work) : (Work.developWarning w).toState.mem = w.toState.mem := by
  simp only [Work.developWarning]
  repeat' split
  all_goals first | rfl | simp [State.mem]
@[simp] theorem Work.bump_mem (k : CounterKind) (w : Work) : (Work.bump k w).toState.mem = w.toState.mem := by
  simp only [Work.bump]
  repeat' split
  all_goals first | rfl | simp [State.mem]
@[simp] theorem Work.enterLink_mem (l : Link) (w : Work) : (Work.enterLink l w).toState.mem = w.toState.mem := by
  simp only [Work.enterLink]
  repeat' split
  all_goals first | rfl | simp [State.mem]
@[simp] theorem Work.sendTo_mem (dst : BitVec 48) (kind : Byte) (fields : List Byte) (w : Work) : (Work.sendTo dst kind fields w).toState.mem = w.toState.mem := by
  simp only [Work.sendTo]
  repeat' split
  all_goals first | rfl | simp [State.mem]
@[simp] theorem Work.sendDesk_mem (kind : Byte) (fields : List Byte) (w : Work) : (Work.sendDesk kind fields w).toState.mem = w.toState.mem := by
  simp only [Work.sendDesk]
  repeat' split
  all_goals first | rfl | simp [State.mem]
@[simp] theorem Work.sendHello_mem (w : Work) : (Work.sendHello w).toState.mem = w.toState.mem := by
  simp only [Work.sendHello]
  repeat' split
  all_goals first | rfl | simp [State.mem]
@[simp] theorem Work.enterUnbound_mem (w : Work) : (Work.enterUnbound w).toState.mem = w.toState.mem := by
  simp only [Work.enterUnbound]
  repeat' split
  all_goals first | rfl | simp [State.mem]
@[simp] theorem Work.mapTether_mem (i : Nat) (c : Chain) (f : TetherDuty → TetherDuty) (w : Work) : (Work.mapTether i c f w).toState.mem = w.toState.mem := by
  simp only [Work.mapTether]
  repeat' split
  all_goals first | rfl | simp [State.mem]
@[simp] theorem Work.mirror_mem (e : Entry) (w : Work) : (Work.mirror e w).toState.mem = w.toState.mem := by
  simp only [Work.mirror]
  repeat' split
  all_goals first | rfl | simp [State.mem]
@[simp] theorem Work.endEntry_mem (e : Entry) (st : TetherState) (cause : Option TetherCause) (w : Work) : (Work.endEntry e st cause w).toState.mem = w.toState.mem := by
  simp only [Work.endEntry]
  repeat' split
  all_goals first | rfl | simp [State.mem]
@[simp] theorem Work.demote_mem (e : Entry) (w : Work) : (Work.demote e w).toState.mem = w.toState.mem := by
  simp only [Work.demote]
  repeat' split
  all_goals first | rfl | simp [State.mem]
@[simp] theorem Work.demoteAll_mem (w : Work) : (Work.demoteAll w).toState.mem = w.toState.mem := by
  simp only [Work.demoteAll]
  repeat' split
  all_goals first
    | rfl
    | (refine (foldl_mem _ (fun v x => ?_) _ _).trans ?_
       · repeat' split
         all_goals simp [State.mem]
       · repeat' split
         all_goals simp [State.mem])
theorem Work.askOne_mem (w v : Work) (h : w.askOne = some v) : v.toState.mem = w.toState.mem := by
  simp only [Work.askOne] at h
  repeat' split at h
  all_goals first | cases h; done | skip
  cases h; simp [State.mem]
@[simp] theorem Work.askReads_mem : ∀ (k : Nat) (w : Work), (Work.askReads k w).toState.mem = w.toState.mem
  | 0, _ => rfl
  | k + 1, w => by
    simp only [Work.askReads]
    split
    · rename_i v h
      rw [Work.askReads_mem k, Work.askOne_mem _ _ h]
    · rfl
@[simp] theorem Work.updateWait_mem (w : Work) : (Work.updateWait w).toState.mem = w.toState.mem := by
  simp only [Work.updateWait]
  repeat' split
  all_goals first | rfl | simp [State.mem]
@[simp] theorem Work.sendOffer_mem (t : Transfer) (w : Work) : (Work.sendOffer t w).toState.mem = w.toState.mem := by
  simp only [Work.sendOffer]
  repeat' split
  all_goals first | rfl | simp [State.mem]
@[simp] theorem Work.sendFin_mem (t : Transfer) (w : Work) : (Work.sendFin t w).toState.mem = w.toState.mem := by
  simp only [Work.sendFin]
  repeat' split
  all_goals first | rfl | simp [State.mem]
@[simp] theorem Work.startTransfer_mem (e : Entry) (w : Work) : (Work.startTransfer e w).toState.mem = w.toState.mem := by
  simp only [Work.startTransfer]
  repeat' split
  all_goals first | rfl | simp [State.mem]
@[simp] theorem Work.selectEntry_mem (w : Work) : (Work.selectEntry w).toState.mem = w.toState.mem := by
  simp only [Work.selectEntry]
  repeat' split
  all_goals first | rfl | simp [State.mem]
@[simp] theorem Work.sendData_mem (w : Work) : (Work.sendData w).toState.mem = w.toState.mem := by
  simp only [Work.sendData]
  repeat' split
  all_goals first | rfl | simp [State.mem]
@[simp] theorem Work.returnEntry_mem (e : Entry) (front : Bool) (early : Bool) (w : Work) : (Work.returnEntry e front early w).toState.mem = w.toState.mem := by
  simp only [Work.returnEntry]
  repeat' split
  all_goals first | rfl | simp [State.mem]
@[simp] theorem Work.settleEntry_mem (x : TransferEnd) (e : Entry) (w : Work) : (Work.settleEntry x e w).toState.mem = w.toState.mem := by
  simp only [Work.settleEntry]
  repeat' split
  all_goals first | rfl | simp [State.mem]
@[simp] theorem Work.loseDesk_mem (w : Work) : (Work.loseDesk w).toState.mem = w.toState.mem := by
  simp only [Work.loseDesk]
  repeat' split
  all_goals first | rfl | simp [State.mem]
@[simp] theorem Work.linkAfter_mem (x : TransferEnd) (w : Work) : (Work.linkAfter x w).toState.mem = w.toState.mem := by
  simp only [Work.linkAfter]
  repeat' split
  all_goals first | rfl | simp [State.mem]
@[simp] theorem Work.endTransfer_mem (x : TransferEnd) (w : Work) : (Work.endTransfer x w).toState.mem = w.toState.mem := by
  simp only [Work.endTransfer]
  repeat' split
  all_goals first | rfl | simp [State.mem]
@[simp] theorem Work.sendLost_mem (w : Work) : (Work.sendLost w).toState.mem = w.toState.mem := by
  simp only [Work.sendLost]
  repeat' split
  all_goals first | rfl | simp [State.mem]
@[simp] theorem Work.ackExpires_mem (w : Work) : (Work.ackExpires w).toState.mem = w.toState.mem := by
  simp only [Work.ackExpires]
  repeat' split
  all_goals first | rfl | simp [State.mem]
@[simp] theorem Work.takeAck_mem (id offset : Nat) (w : Work) : (Work.takeAck id offset w).toState.mem = w.toState.mem := by
  simp only [Work.takeAck]
  repeat' split
  all_goals first | rfl | simp [State.mem]
@[simp] theorem Work.restartTransfer_mem (t : Transfer) (w : Work) : (Work.restartTransfer t w).toState.mem = w.toState.mem := by
  simp only [Work.restartTransfer]
  repeat' split
  all_goals first | rfl | simp [State.mem]
@[simp] theorem Work.takeFinack_mem (id : Nat) (good : Bool) (w : Work) : (Work.takeFinack id good w).toState.mem = w.toState.mem := by
  simp only [Work.takeFinack]
  repeat' split
  all_goals first | rfl | simp [State.mem]
@[simp] theorem Work.takeRead_mem (b : Nat) (data : Option (List Byte)) (w : Work) : (Work.takeRead b data w).toState.mem = w.toState.mem := by
  simp only [Work.takeRead]
  repeat' split
  all_goals first | rfl | simp [State.mem]
@[simp] theorem Work.deskExpires_mem (w : Work) : (Work.deskExpires w).toState.mem = w.toState.mem := by
  simp only [Work.deskExpires]
  repeat' split
  all_goals first | rfl | simp [State.mem]
@[simp] theorem Work.underrunExpires_mem (w : Work) : (Work.underrunExpires w).toState.mem = w.toState.mem := by
  simp only [Work.underrunExpires]
  repeat' split
  all_goals first | rfl | simp [State.mem]
@[simp] theorem Work.helloExpires_mem (w : Work) : (Work.helloExpires w).toState.mem = w.toState.mem := by
  simp only [Work.helloExpires]
  repeat' split
  all_goals first | rfl | simp [State.mem]
@[simp] theorem Work.cancelEntry_mem (e : Entry) (w : Work) : (Work.cancelEntry e w).toState.mem = w.toState.mem := by
  simp only [Work.cancelEntry]
  repeat' split
  all_goals first | rfl | simp [State.mem]
@[simp] theorem Work.discardTethers_mem (i : Nat) (w : Work) : (Work.discardTethers i w).toState.mem = w.toState.mem := by
  simp only [Work.discardTethers]
  repeat' split
  all_goals first
    | rfl
    | (refine (foldl_mem _ (fun v x => ?_) _ _).trans ?_
       · repeat' split
         all_goals simp [State.mem]
       · repeat' split
         all_goals simp [State.mem])
@[simp] theorem Work.tetherProofLost_mem (i : Nat) (w : Work) : (Work.tetherProofLost i w).toState.mem = w.toState.mem := by
  simp only [Work.tetherProofLost]
  repeat' split
  all_goals first
    | rfl
    | (refine (foldl_mem _ (fun v x => ?_) _ _).trans ?_
       · repeat' split
         all_goals simp [State.mem]
       · repeat' split
         all_goals simp [State.mem])
@[simp] theorem Work.joinSend_mem (p : SendPlan) (n prio : Nat) (early : Bool) (w : Work) : (Work.joinSend p n prio early w).toState.mem = w.toState.mem := by
  simp only [Work.joinSend]
  repeat' split
  all_goals first | rfl | simp [State.mem]
@[simp] theorem Work.failFull_mem (i n prio : Nat) (src : Source) (w : Work) : (Work.failFull i n prio src w).toState.mem = w.toState.mem := by
  simp only [Work.failFull]
  repeat' split
  all_goals first | rfl | simp [State.mem]
@[simp] theorem Work.linkDown_mem (w : Work) : (Work.linkDown w).toState.mem = w.toState.mem := by
  simp only [Work.linkDown]
  repeat' split
  all_goals first | rfl | simp [State.mem]
@[simp] theorem Work.phyDown_mem (w : Work) : (Work.phyDown w).toState.mem = w.toState.mem := by
  simp only [Work.phyDown]
  repeat' split
  all_goals first | rfl | simp [State.mem]
@[simp] theorem Work.phyUp_mem (w : Work) : (Work.phyUp w).toState.mem = w.toState.mem := by
  simp only [Work.phyUp]
  repeat' split
  all_goals first | rfl | simp [State.mem]
@[simp] theorem Work.tetherWake_mem (w : Work) : (Work.tetherWake w).toState.mem = w.toState.mem := by
  simp only [Work.tetherWake]
  repeat' split
  all_goals first | rfl | simp [State.mem]
@[simp] theorem Work.tetherHalt_mem (w : Work) : (Work.tetherHalt w).toState.mem = w.toState.mem := by
  simp only [Work.tetherHalt]
  repeat' split
  all_goals first | rfl | simp [State.mem]
@[simp] theorem Work.tetherWarning_mem (w : Work) : (Work.tetherWarning w).toState.mem = w.toState.mem := by
  simp only [Work.tetherWarning]
  repeat' split
  all_goals first | rfl | simp [State.mem]
@[simp] theorem Work.disableTether_mem (w : Work) : (Work.disableTether w).toState.mem = w.toState.mem := by
  simp only [Work.disableTether]
  repeat' split
  all_goals first | rfl | simp [State.mem]
@[simp] theorem Work.resetTether_mem (w : Work) : (Work.resetTether w).toState.mem = w.toState.mem := by
  have h1 : ∀ (l : List Entry) (v : Work),
      (l.foldl (fun v e => v.endEntry e .failed (some .reset)) v).toState.mem = v.toState.mem :=
    foldl_mem _ (fun v x => by simp [State.mem])
  simp [Work.resetTether, State.mem, h1]
@[simp] theorem Work.giveRaw_mem (i : Nat) (s : SlotId) (w : Work) : (Work.giveRaw i s w).toState.mem = w.toState.mem := by
  simp only [Work.giveRaw]
  repeat' split
  all_goals first | rfl | simp [State.mem]
@[simp] theorem Work.giveProofSend_mem (i n prio : Nat) (w : Work) : (Work.giveProofSend i n prio w).toState.mem = w.toState.mem := by
  simp only [Work.giveProofSend]
  repeat' split
  all_goals first | rfl | simp [State.mem]
@[simp] theorem Work.createDuties_mem (i n : Nat) (w : Work) : (Work.createDuties i n w).toState.mem = w.toState.mem := by
  have h1 : ∀ (l : List SlotId) (v : Work), (l.foldl (fun v s => v.giveRaw i s) v).toState.mem = v.toState.mem :=
    foldl_mem _ (fun v x => by simp [State.mem])
  have h2 : ∀ (l : List SlotId) (v : Work),
      (l.foldl (fun v s => v.addCard i s .proof .waitingSource false) v).toState.mem = v.toState.mem :=
    foldl_mem _ (fun v x => by simp [State.mem])
  simp only [Work.createDuties]
  repeat' split
  all_goals simp [State.mem, h1, h2]
@[simp] theorem Work.protectSend_mem (r : Row) (n : Nat) (w : Work) : (Work.protectSend r n w).toState.mem = w.toState.mem := by
  simp only [Work.protectSend]
  repeat' split
  all_goals first | rfl | simp [State.mem]
@[simp] theorem Work.protectRow_mem (r : Row) (on : Bool) (w : Work) : (Work.protectRow r on w).toState.mem = w.toState.mem := by
  simp only [Work.protectRow]
  repeat' split
  all_goals first | rfl | simp [State.mem]
@[simp] theorem Work.discardRow_mem (i : Nat) (w : Work) : (Work.discardRow i w).toState.mem = w.toState.mem := by
  simp only [Work.discardRow]
  repeat' split
  all_goals first | rfl | simp [State.mem]
@[simp] theorem Work.raiseFocus_mem (w : Work) : (Work.raiseFocus w).toState.mem = w.toState.mem := by
  simp only [Work.raiseFocus]
  repeat' split
  all_goals first | rfl | simp [State.mem]
@[simp] theorem Work.putFu_mem (f : Fu) (w : Work) : (Work.putFu f w).toState.mem = w.toState.mem := by
  simp only [Work.putFu]
  repeat' split
  all_goals first | rfl | simp [State.mem]
@[simp] theorem Work.sendQuery_mem (bare : Bool) (w : Work) : (Work.sendQuery bare w).toState.mem = w.toState.mem := by
  simp only [Work.sendQuery]
  repeat' split
  all_goals first | rfl | simp [State.mem]
@[simp] theorem Work.moveLens_mem (target : Nat) (origin : MoveOrigin) (w : Work) : (Work.moveLens target origin w).toState.mem = w.toState.mem := by
  simp only [Work.moveLens]
  repeat' split
  all_goals first | rfl | simp [State.mem]
@[simp] theorem Work.haltLens_mem (w : Work) : (Work.haltLens w).toState.mem = w.toState.mem := by
  simp only [Work.haltLens]
  repeat' split
  all_goals first | rfl | simp [State.mem]
@[simp] theorem Work.faultLens_mem (w : Work) : (Work.faultLens w).toState.mem = w.toState.mem := by
  simp only [Work.faultLens]
  repeat' split
  all_goals first | rfl | simp [State.mem]
@[simp] theorem Work.setHalfPress_mem (up : Bool) (w : Work) : (Work.setHalfPress up w).toState.mem = w.toState.mem := by
  unfold Work.setHalfPress
  dsimp only
  repeat' split
  all_goals simp [State.mem]
@[simp] theorem Work.completeFrame_mem (w : Work) : (Work.completeFrame w).toState.mem = w.toState.mem := by
  simp only [Work.completeFrame]
  repeat' split
  all_goals first | rfl | simp [State.mem]
@[simp] theorem Work.settleFrame_mem (position : Option Nat) (moving : Bool) (w : Work) : (Work.settleFrame position moving w).toState.mem = w.toState.mem := by
  simp only [Work.settleFrame]
  repeat' split
  all_goals first | rfl | simp [State.mem]
@[simp] theorem Work.focusFrameStart_mem (kind : FrameKind) (id timestamp : Nat) (w : Work) : (Work.focusFrameStart kind id timestamp w).toState.mem = w.toState.mem := by
  simp only [Work.focusFrameStart]
  repeat' split
  all_goals first | rfl | simp [State.mem]
@[simp] theorem Work.takePos_mem (position : Nat) (moving : Bool) (w : Work) : (Work.takePos position moving w).toState.mem = w.toState.mem := by
  simp only [Work.takePos]
  repeat' split
  all_goals first | rfl | simp [State.mem]
@[simp] theorem Work.answerExpires_mem (w : Work) : (Work.answerExpires w).toState.mem = w.toState.mem := by
  simp only [Work.answerExpires]
  repeat' split
  all_goals first | rfl | simp [State.mem]
@[simp] theorem Work.takeArrived_mem (position : Nat) (w : Work) : (Work.takeArrived position w).toState.mem = w.toState.mem := by
  simp only [Work.takeArrived]
  repeat' split
  all_goals first | rfl | simp [State.mem]
@[simp] theorem Work.moveExpires_mem (w : Work) : (Work.moveExpires w).toState.mem = w.toState.mem := by
  simp only [Work.moveExpires]
  repeat' split
  all_goals first | rfl | simp [State.mem]
@[simp] theorem Work.adoptAf_mem (w : Work) : (Work.adoptAf w).toState.mem = w.toState.mem := by
  simp only [Work.adoptAf]
  repeat' split
  all_goals first | rfl | simp [State.mem]
@[simp] theorem Work.requestAf_mem (s : AfSettings) (w : Work) : (Work.requestAf s w).toState.mem = w.toState.mem := by
  simp only [Work.requestAf]
  repeat' split
  all_goals first | rfl | simp [State.mem]
@[simp] theorem Work.takeAfBlock_mem (id : Nat) (zones : List AfZone) (w : Work) : (Work.takeAfBlock id zones w).toState.mem = w.toState.mem := by
  simp only [Work.takeAfBlock]
  repeat' split
  all_goals first | rfl | simp [State.mem]
@[simp] theorem Work.reportStart_mem (kind : FrameKind) (id : Nat) (w : Work) : (Work.reportStart kind id w).toState.mem = w.toState.mem := by
  simp only [Work.reportStart]
  repeat' split
  all_goals first | rfl | simp [State.mem]
@[simp] theorem Work.reportAf_mem (id : Nat) (zones : List AfZone) (w : Work) : (Work.reportAf id zones w).toState.mem = w.toState.mem := by
  simp only [Work.reportAf]
  repeat' split
  all_goals first | rfl | simp [State.mem]
@[simp] theorem Work.attachLens_mem (d : Descriptor) (w : Work) : (Work.attachLens d w).toState.mem = w.toState.mem := by
  simp only [Work.attachLens]
  repeat' split
  all_goals first | rfl | simp [State.mem]
@[simp] theorem Work.detachLens_mem (w : Work) : (Work.detachLens w).toState.mem = w.toState.mem := by
  simp only [Work.detachLens]
  repeat' split
  all_goals first | rfl | simp [State.mem]
@[simp] theorem Work.focusHalt_mem (w : Work) : (Work.focusHalt w).toState.mem = w.toState.mem := by
  simp only [Work.focusHalt]
  repeat' split
  all_goals first | rfl | simp [State.mem]
@[simp] theorem Work.focusFromQuiet_mem (w : Work) : (Work.focusFromQuiet w).toState.mem = w.toState.mem := by
  simp only [Work.focusFromQuiet]
  repeat' split
  all_goals first | rfl | simp [State.mem]
@[simp] theorem Work.focusFromHalt_mem (w : Work) : (Work.focusFromHalt w).toState.mem = w.toState.mem := by
  simp only [Work.focusFromHalt]
  repeat' split
  all_goals first | rfl | simp [State.mem]
@[simp] theorem Work.focusWarning_mem (w : Work) : (Work.focusWarning w).toState.mem = w.toState.mem := by
  simp only [Work.focusWarning]
  repeat' split
  all_goals first | rfl | simp [State.mem]
@[simp] theorem Work.openReadout_mem (kind : FrameKind) (row : Nat) (gate : GateOutcome) (w : Work) : (Work.openReadout kind row gate w).toState.mem = w.toState.mem := by
  simp only [Work.openReadout]
  repeat' split
  all_goals first | rfl | simp [State.mem]
@[simp] theorem Work.requestCapture_mem (row : Nat) (gate : GateOutcome) (w : Work) : (Work.requestCapture row gate w).toState.mem = w.toState.mem := by
  simp only [Work.requestCapture]
  repeat' split
  all_goals first | rfl | simp [State.mem]
@[simp] theorem Work.serveCapture_mem (w : Work) : (Work.serveCapture w).toState.mem = w.toState.mem := by
  simp only [Work.serveCapture]
  repeat' split
  all_goals first | rfl | simp [State.mem]
@[simp] theorem Work.endReadout_mem (r : Readout) (cause : ShotOutcome) (w : Work) :
    (Work.endReadout r cause w).toState.mem = w.toState.mem := by
  simp only [Work.endReadout]
  split
  all_goals simp
@[simp] theorem Work.setView_mem (on : Bool) (w : Work) : (Work.setView on w).toState.mem = w.toState.mem := by
  simp only [Work.setView]
  repeat' split
  all_goals first | rfl | simp [State.mem]
@[simp] theorem Work.viewExpires_mem (w : Work) : (Work.viewExpires w).toState.mem = w.toState.mem := by
  simp only [Work.viewExpires]
  repeat' split
  all_goals first | rfl | simp [State.mem]
@[simp] theorem Work.startExpires_mem (w : Work) : (Work.startExpires w).toState.mem = w.toState.mem := by
  simp only [Work.startExpires]
  repeat' split
  all_goals first | rfl | simp [State.mem]
@[simp] theorem Work.endExpires_mem (w : Work) : (Work.endExpires w).toState.mem = w.toState.mem := by
  simp only [Work.endExpires]
  repeat' split
  all_goals first | rfl | simp [State.mem]
@[simp] theorem Work.decideFlash_mem (row : Nat) (ready : Bool) (w : Work) : (Work.decideFlash row ready w).toState.mem = w.toState.mem := by
  simp only [Work.decideFlash]
  repeat' split
  all_goals first | rfl | simp [State.mem]
@[simp] theorem Work.frameStarts_mem (kind : FrameKind) (id : Nat) (ready : Bool) (w : Work) : (Work.frameStarts kind id ready w).toState.mem = w.toState.mem := by
  simp only [Work.frameStarts]
  repeat' split
  all_goals first | rfl | simp [State.mem]
@[simp] theorem Work.afArrives_mem (zones : List AfZone) (w : Work) : (Work.afArrives zones w).toState.mem = w.toState.mem := by
  simp only [Work.afArrives]
  repeat' split
  all_goals first | rfl | simp [State.mem]
@[simp] theorem Work.sensorStop_mem (w : Work) : (Work.sensorStop w).toState.mem = w.toState.mem := by
  simp only [Work.sensorStop]
  repeat' split
  all_goals first | rfl | simp [State.mem]
@[simp] theorem Work.withRdu_mem (f : Rdu → Rdu) (w : Work) : (Work.withRdu f w).toState.mem = w.toState.mem := by
  simp only [Work.withRdu]
  repeat' split
  all_goals first | rfl | simp [State.mem]
@[simp] theorem Work.publishDrive_mem (w : Work) : (Work.publishDrive w).toState.mem = w.toState.mem := by
  simp only [Work.publishDrive]
  repeat' split
  all_goals first | rfl | simp [State.mem]
@[simp] theorem Work.setDrive_mem (d : Drive) (w : Work) : (Work.setDrive d w).toState.mem = w.toState.mem := by
  simp only [Work.setDrive]
  repeat' split
  all_goals first | rfl | simp [State.mem]
@[simp] theorem Work.skipAttempt_mem (c : SkipCause) (w : Work) : (Work.skipAttempt c w).toState.mem = w.toState.mem := by
  simp only [Work.skipAttempt, Work.setDrive_mem, Work.raise_toState, Work.withRdu_mem]
@[simp] theorem Work.evictOldest_mem (w : Work) : (Work.evictOldest w).toState.mem = w.toState.mem := by
  simp only [Work.evictOldest]
  repeat' split
  all_goals first | rfl | simp [State.mem]
@[simp] theorem Work.countUp_mem (n : Nat) (w : Work) : (w.countUp n).2.toState.mem = w.toState.mem := by
  simp only [Work.countUp]
  split <;> rfl
@[simp] theorem Work.grantRing_mem (i : Nat) (w : Work) : (Work.grantRing i w).toState.mem = w.toState.mem := by
  simp only [Work.grantRing]
  repeat' split
  all_goals first | rfl | simp [State.mem]
@[simp] theorem Work.grantBurst_mem (i : Nat) (x : Release) (w : Work) : (Work.grantBurst i x w).toState.mem = w.toState.mem := by
  simp only [Work.grantBurst]
  repeat' split
  all_goals first | rfl | simp [State.mem]
@[simp] theorem Work.grantRow_mem (i : Nat) (w : Work) : (Work.grantRow i w).toState.mem = w.toState.mem := by
  simp only [Work.grantRow]
  repeat' split
  all_goals first | rfl | simp [State.mem]
@[simp] theorem Work.allocate_mem (w : Work) : (Work.allocate w).toState.mem = w.toState.mem := by
  simp only [Work.allocate]
  repeat' split
  all_goals first | rfl | simp [State.mem]
@[simp] theorem Work.attempt_mem (w : Work) : (Work.attempt w).toState.mem = w.toState.mem := by
  simp only [Work.attempt]
  repeat' split
  all_goals first | rfl | simp [State.mem]
@[simp] theorem Work.enterPrecapturing_mem (w : Work) : (Work.enterPrecapturing w).toState.mem = w.toState.mem := by
  simp only [Work.enterPrecapturing]
  repeat' split
  all_goals first | rfl | simp [State.mem]
@[simp] theorem Work.enterReady_mem (w : Work) : (Work.enterReady w).toState.mem = w.toState.mem := by
  simp only [Work.enterReady]
  repeat' split
  all_goals first | rfl | simp [State.mem]
@[simp] theorem Work.enterIdle_mem (w : Work) : (Work.enterIdle w).toState.mem = w.toState.mem := by
  simp only [Work.enterIdle]
  repeat' split
  all_goals first | rfl | simp [State.mem]
@[simp] theorem Work.enterRest_mem (w : Work) : (Work.enterRest w).toState.mem = w.toState.mem := by
  simp only [Work.enterRest]
  repeat' split
  all_goals first | rfl | simp [State.mem]
@[simp] theorem Work.openBurst_mem (origin : Origin) (gate : GateOutcome) (w : Work) : (Work.openBurst origin gate w).toState.mem = w.toState.mem := by
  simp only [Work.openBurst]
  repeat' split
  all_goals first | rfl | simp [State.mem]
@[simp] theorem Work.startRelease_mem (origin : Origin) (w : Work) : (Work.startRelease origin w).toState.mem = w.toState.mem := by
  simp only [Work.startRelease]
  repeat' split
  all_goals first | rfl | simp [State.mem]
@[simp] theorem Work.closeRecord_mem (cause : EndCause) (w : Work) : (Work.closeRecord cause w).toState.mem = w.toState.mem := by
  simp only [Work.closeRecord]
  repeat' split
  all_goals first | rfl | simp [State.mem]
@[simp] theorem Work.meetEnd_mem (cause : EndCause) (w : Work) : (Work.meetEnd cause w).toState.mem = w.toState.mem := by
  simp only [Work.meetEnd]
  repeat' split
  all_goals first | rfl | simp [State.mem]
@[simp] theorem Work.dropTheRing_mem (w : Work) : (Work.dropTheRing w).toState.mem = w.toState.mem := by
  simp only [Work.dropTheRing]
  repeat' split
  all_goals first | rfl | simp [State.mem]
@[simp] theorem Work.s1Released_mem (w : Work) : (Work.s1Released w).toState.mem = w.toState.mem := by
  simp only [Work.s1Released]
  repeat' split
  all_goals first | rfl | simp [State.mem]
@[simp] theorem Work.s2Released_mem (w : Work) : (Work.s2Released w).toState.mem = w.toState.mem := by
  simp only [Work.s2Released]
  repeat' split
  all_goals first | rfl | simp [State.mem]
@[simp] theorem Work.takeRemote_mem (origin : Origin) (count : Nat) (w : Work) : (Work.takeRemote origin count w).toState.mem = w.toState.mem := by
  simp only [Work.takeRemote]
  repeat' split
  all_goals first | rfl | simp [State.mem]
@[simp] theorem Work.frameTimerExpires_mem (w : Work) : (Work.frameTimerExpires w).toState.mem = w.toState.mem := by
  simp only [Work.frameTimerExpires]
  repeat' split
  all_goals first | rfl | simp [State.mem]
@[simp] theorem Work.focusWaitExpires_mem (w : Work) : (Work.focusWaitExpires w).toState.mem = w.toState.mem := by
  simp only [Work.focusWaitExpires]
  repeat' split
  all_goals first | rfl | simp [State.mem]
@[simp] theorem Work.gateAgain_mem (g : Option GateOutcome) (w : Work) : (Work.gateAgain g w).toState.mem = w.toState.mem := by
  simp only [Work.gateAgain]
  repeat' split
  all_goals first | rfl | simp [State.mem]
@[simp] theorem Work.burstCaptureEnds_mem (x : Release) (life : Option Life) (number : Option Nat) (w : Work) : (Work.burstCaptureEnds x life number w).toState.mem = w.toState.mem := by
  simp only [Work.burstCaptureEnds]
  repeat' split
  all_goals first | rfl | simp [State.mem]
@[simp] theorem Work.captureEnds_mem (row : Nat) (life : Option Life) (number : Option Nat) (w : Work) : (Work.captureEnds row life number w).toState.mem = w.toState.mem := by
  simp only [Work.captureEnds]
  repeat' split
  all_goals first | rfl | simp [State.mem]
@[simp] theorem Work.driveWarning_mem (w : Work) : (Work.driveWarning w).toState.mem = w.toState.mem := by
  simp only [Work.driveWarning]
  repeat' split
  all_goals first | rfl | simp [State.mem]
@[simp] theorem Work.takeReclaim_mem (up : Bool) (w : Work) : (Work.takeReclaim up w).toState.mem = w.toState.mem := by
  simp only [Work.takeReclaim]
  repeat' split
  all_goals first | rfl | simp [State.mem]
@[simp] theorem Work.takeCardDone_mem (i : Nat) (c : Chain) (w : Work) : (Work.takeCardDone i c w).toState.mem = w.toState.mem := by
  simp only [Work.takeCardDone]
  repeat' split
  all_goals first
    | rfl
    | (refine (foldl_mem _ (fun v x => ?_) _ _).trans ?_
       · repeat' split
         all_goals simp [State.mem]
       · repeat' split
         all_goals simp [State.mem])
@[simp] theorem Work.takeDevelop_mem (i : Nat) (w : Work) : (Work.takeDevelop i w).toState.mem = w.toState.mem := by
  simp only [Work.takeDevelop]
  repeat' split
  all_goals first | rfl | simp [State.mem]
@[simp] theorem Work.setPower_mem (p : Power) (w : Work) : (Work.setPower p w).toState.mem = w.toState.mem := by
  simp only [Work.setPower]
  repeat' split
  all_goals first | rfl | simp [State.mem]
@[simp] theorem Work.lookS1_mem (w : Work) : (Work.lookS1 w).toState.mem = w.toState.mem := by
  simp only [Work.lookS1]
  repeat' split
  all_goals first | rfl | simp [State.mem]
@[simp] theorem Work.enterQuiet_mem (w : Work) : (Work.enterQuiet w).toState.mem = w.toState.mem := by
  simp only [Work.enterQuiet]
  repeat' split
  all_goals first | rfl | simp [State.mem]
@[simp] theorem Work.enterHalt_mem (w : Work) : (Work.enterHalt w).toState.mem = w.toState.mem := by
  simp only [Work.enterHalt]
  repeat' split
  all_goals first | rfl | simp [State.mem]
@[simp] theorem Work.leaveQuiet_mem (w : Work) : (Work.leaveQuiet w).toState.mem = w.toState.mem := by
  simp only [Work.leaveQuiet]
  repeat' split
  all_goals first | rfl | simp [State.mem]
@[simp] theorem Work.wake_mem (c : WakeCause) (w : Work) : (Work.wake c w).toState.mem = w.toState.mem := by
  simp only [Work.wake]
  repeat' split
  all_goals first | rfl | simp [State.mem]
@[simp] theorem Work.warn_mem (w : Work) : (Work.warn w).toState.mem = w.toState.mem := by
  simp only [Work.warn]
  repeat' split
  all_goals first | rfl | simp [State.mem]
@[simp] theorem Work.nakRequest_mem (n : Nat) (chain : Byte) (code : Result) (w : Work) : (Work.nakRequest n chain code w).toState.mem = w.toState.mem := by
  simp only [Work.nakRequest]
  repeat' split
  all_goals first | rfl | simp [State.mem]
@[simp] theorem Work.nakRemote_mem (count : Byte) (code : Result) (w : Work) : (Work.nakRemote count code w).toState.mem = w.toState.mem := by
  simp only [Work.nakRemote]
  repeat' split
  all_goals first | rfl | simp [State.mem]
@[simp] theorem Work.takeBind_mem (src : BitVec 48) (w : Work) : (Work.takeBind src w).toState.mem = w.toState.mem := by
  simp only [Work.takeBind]
  repeat' split
  all_goals first | rfl | simp [State.mem]
@[simp] theorem Work.raiseEntry_mem (e : Entry) (w : Work) : (Work.raiseEntry e w).toState.mem = w.toState.mem := by
  simp only [Work.raiseEntry]
  repeat' split
  all_goals first | rfl | simp [State.mem]
@[simp] theorem Work.refuseRequest_mem (n : Nat) (chain : Byte) (code : Result) (w : Work) : (Work.refuseRequest n chain code w).toState.mem = w.toState.mem := by
  simp only [Work.refuseRequest]
  repeat' split
  all_goals first | rfl | simp [State.mem]
@[simp] theorem Work.takeRequest_mem (n : Nat) (chain : Byte) (w : Work) : (Work.takeRequest n chain w).toState.mem = w.toState.mem := by
  simp only [Work.takeRequest]
  repeat' split
  all_goals first | rfl | simp [State.mem]
@[simp] theorem Work.takeDeskRemote_mem (count : Byte) (w : Work) : (Work.takeDeskRemote count w).toState.mem = w.toState.mem := by
  simp only [Work.takeDeskRemote]
  repeat' split
  all_goals first | rfl | simp [State.mem]
@[simp] theorem Work.takeBound_mem (m : DeskMsg) (w : Work) : (Work.takeBound m w).toState.mem = w.toState.mem := by
  simp only [Work.takeBound]
  repeat' split
  all_goals first | rfl | simp [State.mem]
@[simp] theorem Work.takePassed_mem (src : BitVec 48) (m : DeskMsg) (w : Work) : (Work.takePassed src m w).toState.mem = w.toState.mem := by
  simp only [Work.takePassed]
  repeat' split
  all_goals first | rfl | simp [State.mem]
@[simp] theorem Work.takeDesk_mem (h : DeskHead) (m : DeskMsg) (w : Work) : (Work.takeDesk h m w).toState.mem = w.toState.mem := by
  simp only [Work.takeDesk]
  repeat' split
  all_goals first | rfl | simp [State.mem]
@[simp] theorem Work.rawDeskFrame_mem (f : List Byte) (w : Work) : (Work.rawDeskFrame f w).toState.mem = w.toState.mem := by
  simp only [Work.rawDeskFrame]
  repeat' split
  all_goals first | rfl | simp [State.mem]
/-! ### The operations that write frame memory keep its canonical form -/

theorem foldl_wf {α : Type} (f : Work → α → Work) (h : ∀ v x, v.mem.wf = true → (f v x).mem.wf = true) :
    ∀ (l : List α) (w : Work), w.mem.wf = true → (l.foldl f w).mem.wf = true
  | [], _, hw => hw
  | x :: l, w, hw => by rw [List.foldl_cons]; exact foldl_wf f h l _ (h w x hw)

theorem Work.numberRow_wf (i : Nat) (w : Work) (h : w.mem.wf = true) : (w.numberRow i).mem.wf = true := by
  simp only [Work.numberRow]
  exact chainWrite_wf _ h

theorem Work.startJob_wf (i : Nat) (w : Work) (h : w.mem.wf = true) : (w.startJob i).mem.wf = true := by
  simp only [Work.startJob]
  split
  · exact chainWrite_wf _ (by simpa using h)
  · exact h

theorem Work.lookHead_wf (w : Work) (h : w.mem.wf = true) : w.lookHead.mem.wf = true := by
  simp only [Work.lookHead]
  repeat' split
  all_goals first
    | exact h
    | (rename_i hp; exact Work.startJob_wf _ _ (by rw [Work.proofAlloc_mem _ _ _ hp]; exact h))

theorem Work.nextJob_wf (w : Work) (h : w.mem.wf = true) : w.nextJob.mem.wf = true := by
  simp only [Work.nextJob]
  exact Work.lookHead_wf _ h

theorem Work.completeJob_wf (j : Job) (w : Work) (h : w.mem.wf = true) : (w.completeJob j).mem.wf = true := by
  simp only [Work.completeJob]
  exact Work.nextJob_wf _ (by simpa using h)

theorem Work.stopJob_wf (j : Job) (w : Work) (h : w.mem.wf = true) : (w.stopJob j).mem.wf = true := by
  simp only [Work.stopJob]
  apply Work.nextJob_wf
  split <;> simpa using h

theorem Work.putRow_wf (j : Job) (r : Row) (px : List Pixel) (w : Work) (h : w.mem.wf = true) :
    (w.putRow j r px).mem.wf = true := by
  simp only [Work.putRow]
  exact chainWrite_wf _ h

theorem Work.afterRow_wf (j : Job) (n : Nat) (w : Work) (h : w.mem.wf = true) : (w.afterRow j n).mem.wf = true := by
  simp only [Work.afterRow]
  split
  · exact Work.completeJob_wf _ _ h
  · split
    · exact Work.stopJob_wf _ _ h
    · exact h

theorem Work.writeRow_wf (w : Work) (h : w.mem.wf = true) : w.writeRow.mem.wf = true := by
  simp only [Work.writeRow]
  repeat' split
  · exact Work.afterRow_wf _ _ _ (Work.putRow_wf _ _ _ _ h)
  · exact h
  · exact h

theorem Work.failJob_wf (w : Work) (h : w.mem.wf = true) : w.failJob.mem.wf = true := by
  simp only [Work.failJob]
  split
  · exact Work.nextJob_wf _ (by simpa using h)
  · exact h

theorem Work.hold_wf (i : Nat) (w : Work) (h : w.mem.wf = true) : (w.hold i).mem.wf = true := by
  simp only [Work.hold, Work.createDuties_mem, Work.raise_toState, Work.mapRow_toState]
  exact Work.numberRow_wf i w h

theorem Work.frameEndRow_wf (i : Nat) (w : Work) (h : w.mem.wf = true) : (w.frameEndRow i).mem.wf = true := by
  simp only [Work.frameEndRow]
  repeat' split
  all_goals first
    | exact h
    | exact Work.hold_wf i w h
    | simpa using h

theorem Work.promoteRing_wf (w : Work) (h : w.mem.wf = true) : w.promoteRing.mem.wf = true := by
  simp only [Work.promoteRing]
  refine foldl_wf _ (fun v x hv => ?_) _ _ (foldl_wf _ (fun v x hv => ?_) _ _ h)
  · split
    · exact Work.hold_wf _ _ hv
    · exact hv
  · split
    · exact hv
    · exact hv

theorem Work.promoteTheRing_wf (w : Work) (h : w.mem.wf = true) : w.promoteTheRing.mem.wf = true := by
  simp only [Work.promoteTheRing, Work.setDrive_mem, Work.withRdu_mem]
  exact Work.promoteRing_wf w h

theorem Work.lineArrives_wf (samples : List Byte) (crc : BitVec 16) (w : Work) (h : w.mem.wf = true) :
    (w.lineArrives samples crc).mem.wf = true := by
  simp only [Work.lineArrives]
  repeat' split
  all_goals first
    | exact h
    | exact chainWrite_wf _ h

theorem Work.closeFrame_wf (r : Readout) (w : Work) (h : w.mem.wf = true) : (w.closeFrame r).mem.wf = true := by
  simp only [Work.closeFrame]
  split
  · exact Work.frameEndRow_wf _ _ (chainWrite_wf _ h)
  · exact h

theorem Work.frameEnds_wf (count : Nat) (w : Work) (h : w.mem.wf = true) : (w.frameEnds count).mem.wf = true := by
  simp only [Work.frameEnds]
  repeat' split
  · exact Work.closeFrame_wf _ _ h
  · rw [Work.endReadout_mem]; exact h
  · exact h
  · exact h

theorem Work.s2Pressed_wf (w : Work) (h : w.mem.wf = true) : w.s2Pressed.mem.wf = true := by
  simp only [Work.s2Pressed]
  repeat' split
  all_goals first
    | exact h
    | exact Work.promoteTheRing_wf w h
    | simpa using h

theorem Work.handle_wf (r : Report) (w : Work) (h : w.mem.wf = true) : (w.handle r).mem.wf = true := by
  cases r
  case deLook => exact Work.lookHead_wf w h
  all_goals simpa [Work.handle] using h

theorem Work.drain_wf : ∀ (k : Nat) (w : Work), w.mem.wf = true → (Work.drain k w).mem.wf = true
  | 0, _, h => h
  | k + 1, w, h => by
    simp only [Work.drain]
    split
    · exact h
    · exact Work.drain_wf k _ (Work.handle_wf _ _ h)

/-- Taking the reports of a step keeps frame memory in its canonical form. -/
theorem Work.settle_wf (w : Work) (h : w.mem.wf = true) : w.settle.mem.wf = true := Work.drain_wf _ w h

end Sys2Proof.Machine
end

