-- ==== Sys2Proof/Laws/Outer.lean ====
section
/-! SUPPORT. What no operation of a block but Power Control changes: the outer part of the state, which holds the power
state, the levels outside the part, the clock, the queue of commands, the sensor state, and of CP all but its latches
and notice entries. One lemma per operation. -/

namespace Sys2Proof.Machine

/-- What of CP no occurrence changes. -/
def Cp.core (c : Cp) :=
  (c.rx, c.strays, c.busy, c.muted, c.queue.filter OutFrame.isReply, c.fixed, c.place, c.enabled, c.garbled,
    c.overrun, c.cause, c.held)

theorem filter_isReply_update (k : Notice) (n : Nat) (s : List Byte) (q : List OutFrame) :
    (q.map fun f => if f.isNotice k then OutFrame.notice k n s else f).filter OutFrame.isReply =
      q.filter OutFrame.isReply := by
  induction q with
  | nil => rfl
  | cons f q ih =>
    rw [List.map_cons, List.filter_cons, List.filter_cons, ih]
    cases f with
    | reply _ _ _ => rfl
    | notice k' n' s' =>
      have : (if (OutFrame.notice k' n' s').isNotice k = true then OutFrame.notice k n s
          else OutFrame.notice k' n' s').isReply = false := by split <;> rfl
      rw [this]; rfl

@[simp] theorem Cp.raise_core (c : Cp) (k : Notice) (s : List Byte) : (c.raise k s).core = c.core := by
  simp only [Cp.raise]
  repeat' split
  all_goals simp [Cp.core, Cp.setLatch, Cp.update, Cp.append, filter_isReply_update, OutFrame.isReply, List.filter_append]

/-- What of the state only Power Control, the pins, the clock and the Control Port change. -/
def State.outer (s : State) := (s.cp.core, s.pwc, s.pins, s.now, s.pending, s.sru.missed, s.sru.fault, s.sru.running)

theorem State.outer_mk (a b c d e f g h i j k l m n o) :
    State.outer ⟨a, b, c, d, e, f, g, h, i, j, k, l, m, n, o⟩ = (a.core, b, k, l, o, d.missed, d.fault, d.running) := rfl

theorem State.outer_fold (s : State) :
    (s.cp.core, s.pwc, s.pins, s.now, s.pending, s.sru.missed, s.sru.fault, s.sru.running) = s.outer := rfl

theorem foldl_outer {α : Type} (f : Work → α → Work) (h : ∀ v x, (f v x).toState.outer = v.toState.outer) :
    ∀ (l : List α) (w : Work), (l.foldl f w).toState.outer = w.toState.outer
  | [], _ => rfl
  | x :: l, w => by rw [List.foldl_cons, foldl_outer f h l, h]

theorem Work.raise_outer (k : Notice) (s : List Byte) (w : Work) : (w.raise k s).toState.outer = w.toState.outer := by
  simp [State.outer_mk, State.outer_fold]
@[simp] theorem Work.freePages_outer (pages : List Nat) (w : Work) : (Work.freePages pages w).toState.outer = w.toState.outer := by
  simp only [Work.freePages]
  repeat' split
  all_goals first | rfl | simp [State.outer_mk, State.outer_fold]
@[simp] theorem Work.takePages_outer (n : Nat) (w : Work) : (Work.takePages n w).toState.outer = w.toState.outer := by
  simp only [Work.takePages]
  repeat' split
  all_goals first | rfl | simp [State.outer_mk, State.outer_fold]
@[simp] theorem Work.createRow_outer (i : Nat) (origin : Origin) (burst : Nat) (ring : Bool) (look : Nat) (w : Work) : (Work.createRow i origin burst ring look w).toState.outer = w.toState.outer := by
  simp only [Work.createRow]
  repeat' split
  all_goals first | rfl | simp [State.outer_mk, State.outer_fold]
theorem Work.proofAlloc_outer (i : Nat) (w v : Work) (h : w.proofAlloc i = some v) : v.toState.outer = w.toState.outer := by
  simp only [Work.proofAlloc] at h
  split at h
  · cases h; simp [State.outer_mk, State.outer_fold]
  · cases h
@[simp] theorem Work.releaseRaw_outer (i : Nat) (w : Work) : (Work.releaseRaw i w).toState.outer = w.toState.outer := by
  simp only [Work.releaseRaw]
  repeat' split
  all_goals first | rfl | simp [State.outer_mk, State.outer_fold]
@[simp] theorem Work.releaseProof_outer (i : Nat) (w : Work) : (Work.releaseProof i w).toState.outer = w.toState.outer := by
  simp only [Work.releaseProof]
  repeat' split
  all_goals first | rfl | simp [State.outer_mk, State.outer_fold]
@[simp] theorem Work.releaseCheck_outer (i : Nat) (w : Work) : (Work.releaseCheck i w).toState.outer = w.toState.outer := by
  simp only [Work.releaseCheck]
  repeat' split
  all_goals first | rfl | simp [State.outer_mk, State.outer_fold]
@[simp] theorem Work.settleCheck_outer (i : Nat) (w : Work) : (Work.settleCheck i w).toState.outer = w.toState.outer := by
  simp only [Work.settleCheck]
  repeat' split
  all_goals first | rfl | simp [State.outer_mk, State.outer_fold]
@[simp] theorem Work.check_outer (i : Nat) (w : Work) : (Work.check i w).toState.outer = w.toState.outer := by
  simp only [Work.check]
  repeat' split
  all_goals first | rfl | simp [State.outer_mk, State.outer_fold]
@[simp] theorem Work.removeRow_outer (i : Nat) (w : Work) : (Work.removeRow i w).toState.outer = w.toState.outer := by
  simp only [Work.removeRow]
  repeat' split
  all_goals first | rfl | simp [State.outer_mk, State.outer_fold]
@[simp] theorem Work.numberRow_outer (i : Nat) (w : Work) : (Work.numberRow i w).toState.outer = w.toState.outer := by
  simp only [Work.numberRow]
  repeat' split
  all_goals first | rfl | simp [State.outer_mk, State.outer_fold]
@[simp] theorem Work.abortRow_outer (i : Nat) (cause : ShotOutcome) (w : Work) : (Work.abortRow i cause w).toState.outer = w.toState.outer := by
  simp only [Work.abortRow]
  repeat' split
  all_goals first | rfl | simp [State.outer_mk, State.outer_fold]
@[simp] theorem Work.evictRow_outer (i : Nat) (w : Work) : (Work.evictRow i w).toState.outer = w.toState.outer := by
  simp only [Work.evictRow]
  repeat' split
  all_goals first | rfl | simp [State.outer_mk, State.outer_fold]
@[simp] theorem Work.dropRing_outer (w : Work) : (Work.dropRing w).toState.outer = w.toState.outer := by
  simp only [Work.dropRing]
  repeat' split
  all_goals first
    | rfl
    | (refine (foldl_outer _ (fun v x => ?_) _ _).trans ?_
       · repeat' split
         all_goals simp [State.outer_mk, State.outer_fold]
       · repeat' split
         all_goals simp [State.outer_mk, State.outer_fold])
@[simp] theorem Work.mapSlot_outer (s : SlotId) (f : Slot → Slot) (w : Work) : (Work.mapSlot s f w).toState.outer = w.toState.outer := by
  simp only [Work.mapSlot]
  repeat' split
  all_goals first | rfl | simp [State.outer_mk, State.outer_fold]
@[simp] theorem Work.slotChanged_outer (w : Work) : (Work.slotChanged w).toState.outer = w.toState.outer := by
  simp only [Work.slotChanged]
  repeat' split
  all_goals first | rfl | simp [State.outer_mk, State.outer_fold]
@[simp] theorem Work.enterSlot_outer (s : SlotId) (st : SlotState) (w : Work) : (Work.enterSlot s st w).toState.outer = w.toState.outer := by
  simp only [Work.enterSlot]
  repeat' split
  all_goals first | rfl | simp [State.outer_mk, State.outer_fold]
@[simp] theorem Work.mapDuty_outer (d : DutyRef) (f : CardDuty → CardDuty) (w : Work) : (Work.mapDuty d f w).toState.outer = w.toState.outer := by
  simp only [Work.mapDuty]
  repeat' split
  all_goals first | rfl | simp [State.outer_mk, State.outer_fold]
@[simp] theorem Work.setExtents_outer (s : SlotId) (q : List Piece) (w : Work) : (Work.setExtents s q w).toState.outer = w.toState.outer := by
  simp only [Work.setExtents]
  repeat' split
  all_goals first | rfl | simp [State.outer_mk, State.outer_fold]
@[simp] theorem Work.startRun_outer (s : SlotId) (w : Work) : (Work.startRun s w).toState.outer = w.toState.outer := by
  simp only [Work.startRun]
  repeat' split
  all_goals first | rfl | simp [State.outer_mk, State.outer_fold]
@[simp] theorem Work.startRead_outer (s : SlotId) (w : Work) : (Work.startRead s w).toState.outer = w.toState.outer := by
  simp only [Work.startRead]
  repeat' split
  all_goals first | rfl | simp [State.outer_mk, State.outer_fold]
@[simp] theorem Work.walk_outer (s : SlotId) : ∀ (q : List DutyRef) (w : Work), (Work.walk s q w).2.toState.outer = w.toState.outer
  | [], _ => rfl
  | d :: q, w => by
    simp only [Work.walk]
    repeat' split
    all_goals simp [Work.walk_outer s q, State.outer_mk, State.outer_fold]

theorem Work.walk_outer' {s : SlotId} {q : List DutyRef} {w v : Work} {o : Option DutyRef} (h : Work.walk s q w = (o, v)) :
    v.toState.outer = w.toState.outer := by
  have := Work.walk_outer s q w
  rwa [h] at this
@[simp] theorem Work.beginChain_outer (s : SlotId) (d : DutyRef) (w : Work) : (Work.beginChain s d w).toState.outer = w.toState.outer := by
  simp only [Work.beginChain]
  repeat' split
  all_goals first | rfl | simp [State.outer_mk, State.outer_fold]
@[simp] theorem Work.selectDuty_outer (s : SlotId) (w : Work) : (Work.selectDuty s w).toState.outer = w.toState.outer := by
  simp only [Work.selectDuty]
  repeat' split
  all_goals first
    | rfl
    | (rename_i h; simp [State.outer_mk, State.outer_fold, Work.walk_outer' h])
@[simp] theorem Work.afterChain_outer (s : SlotId) (w : Work) : (Work.afterChain s w).toState.outer = w.toState.outer := by
  simp only [Work.afterChain]
  repeat' split
  all_goals first
    | (rename_i h _; simp [State.outer_mk, State.outer_fold, Work.walk_outer' h])
    | (rename_i h; simp [State.outer_mk, State.outer_fold, Work.walk_outer' h])
    | simp [State.outer_mk, State.outer_fold]
@[simp] theorem Work.addCard_outer (i : Nat) (s : SlotId) (c : Chain) (st : CardState) (again : Bool) (w : Work) : (Work.addCard i s c st again w).toState.outer = w.toState.outer := by
  simp only [Work.addCard]
  repeat' split
  all_goals first | rfl | simp [State.outer_mk, State.outer_fold]
@[simp] theorem Work.storeFail_outer (d : DutyRef) (cause : CardCause) (spoiled : Bool) (w : Work) : (Work.storeFail d cause spoiled w).toState.outer = w.toState.outer := by
  simp only [Work.storeFail]
  repeat' split
  all_goals first | rfl | simp [State.outer_mk, State.outer_fold]
@[simp] theorem Work.failDuty_outer (d : DutyRef) (cause : CardCause) (spoiled : Bool) (w : Work) : (Work.failDuty d cause spoiled w).toState.outer = w.toState.outer := by
  simp only [Work.failDuty]
  repeat' split
  all_goals first | rfl | simp [State.outer_mk, State.outer_fold]
@[simp] theorem Work.firstState_outer (d : DutyRef) (w : Work) : (Work.firstState d w).toState.outer = w.toState.outer := by
  simp only [Work.firstState]
  repeat' split
  all_goals first | rfl | simp [State.outer_mk, State.outer_fold]
@[simp] theorem Work.unlist_outer (d : DutyRef) (w : Work) : (Work.unlist d w).toState.outer = w.toState.outer := by
  simp only [Work.unlist]
  repeat' split
  all_goals first | rfl | simp [State.outer_mk, State.outer_fold]
@[simp] theorem Work.failQueue_outer (s : SlotId) (cause : CardCause) (w : Work) : (Work.failQueue s cause w).toState.outer = w.toState.outer := by
  simp only [Work.failQueue]
  repeat' split
  all_goals first
    | rfl
    | (refine (foldl_outer _ (fun v x => ?_) _ _).trans ?_
       · repeat' split
         all_goals simp [State.outer_mk, State.outer_fold]
       · repeat' split
         all_goals simp [State.outer_mk, State.outer_fold])
@[simp] theorem Work.giveUp_outer (s : SlotId) (cause : CardCause) (w : Work) : (Work.giveUp s cause w).toState.outer = w.toState.outer := by
  simp only [Work.giveUp]
  repeat' split
  all_goals first
    | rfl
    | (refine (foldl_outer _ (fun v x => ?_) _ _).trans ?_
       · repeat' split
         all_goals simp [State.outer_mk, State.outer_fold]
       · repeat' split
         all_goals simp [State.outer_mk, State.outer_fold])
@[simp] theorem Work.failReads_outer (s : SlotId) (w : Work) : (Work.failReads s w).toState.outer = w.toState.outer := by
  simp only [Work.failReads]
  refine (foldl_outer _ (fun v x => ?_) _ _).trans ?_
  · simp [State.outer_mk, State.outer_fold]
  · simp only [Work.mapSlot_outer]
    repeat' split
    all_goals first | rfl | simp [State.outer_mk, State.outer_fold]
@[simp] theorem Work.suspend_outer (s : SlotId) (w : Work) : (Work.suspend s w).toState.outer = w.toState.outer := by
  simp only [Work.suspend]
  repeat' split
  all_goals first | rfl | simp [State.outer_mk, State.outer_fold]
@[simp] theorem Work.resume_outer (s : SlotId) (w : Work) : (Work.resume s w).toState.outer = w.toState.outer := by
  simp only [Work.resume]
  repeat' split
  all_goals first | rfl | simp [State.outer_mk, State.outer_fold]
@[simp] theorem Work.askRead_outer (s : SlotId) (r : ReadRequest) (w : Work) : (Work.askRead s r w).toState.outer = w.toState.outer := by
  simp only [Work.askRead]
  repeat' split
  all_goals first | rfl | simp [State.outer_mk, State.outer_fold]
@[simp] theorem Work.readEnd_outer (s : SlotId) (data : Option (List Byte)) (w : Work) : (Work.readEnd s data w).toState.outer = w.toState.outer := by
  simp only [Work.readEnd]
  repeat' split
  all_goals first | rfl | simp [State.outer_mk, State.outer_fold]
@[simp] theorem Work.readArrives_outer (s : SlotId) (data : List Byte) (w : Work) :
    (Work.readArrives s data w).toState.outer = w.toState.outer := by
  simp only [Work.readArrives]
  split
  · split
    · exact Work.readEnd_outer s (some data) w
    · rfl
  · rfl
  · rfl
@[simp] theorem Work.detachActs_outer (s : SlotId) (w : Work) : (Work.detachActs s w).toState.outer = w.toState.outer := by
  simp only [Work.detachActs]
  repeat' split
  all_goals first | rfl | simp [State.outer_mk, State.outer_fold]
@[simp] theorem Work.enterLocked_outer (s : SlotId) (w : Work) : (Work.enterLocked s w).toState.outer = w.toState.outer := by
  simp only [Work.enterLocked]
  repeat' split
  all_goals first | rfl | simp [State.outer_mk, State.outer_fold]
@[simp] theorem Work.enterFault_outer (s : SlotId) (w : Work) : (Work.enterFault s w).toState.outer = w.toState.outer := by
  simp only [Work.enterFault]
  repeat' split
  all_goals first | rfl | simp [State.outer_mk, State.outer_fold]
@[simp] theorem Work.nextSlot_outer (s : SlotId) (w : Work) : (Work.nextSlot s w).toState.outer = w.toState.outer := by
  simp only [Work.nextSlot]
  repeat' split
  all_goals first | rfl | simp [State.outer_mk, State.outer_fold]
@[simp] theorem Work.decideRun_outer (s : SlotId) (done failed : Bool) (w : Work) : (Work.decideRun s done failed w).toState.outer = w.toState.outer := by
  simp only [Work.decideRun]
  repeat' split
  all_goals first | rfl | simp [State.outer_mk, State.outer_fold]
@[simp] theorem Work.runEnd_outer (s : SlotId) (fail : Option FailKind) (w : Work) : (Work.runEnd s fail w).toState.outer = w.toState.outer := by
  simp only [Work.runEnd]
  repeat' split
  all_goals first | rfl | simp [State.outer_mk, State.outer_fold]
@[simp] theorem Work.runSourceLost_outer (s : SlotId) (w : Work) : (Work.runSourceLost s w).toState.outer = w.toState.outer := by
  simp only [Work.runSourceLost]
  repeat' split
  all_goals first | rfl | simp [State.outer_mk, State.outer_fold]
@[simp] theorem Work.askStop_outer (s : SlotId) (c : Stop) (w : Work) : (Work.askStop s c w).toState.outer = w.toState.outer := by
  simp only [Work.askStop]
  repeat' split
  all_goals first | rfl | simp [State.outer_mk, State.outer_fold]
@[simp] theorem Work.lockLine_outer (s : SlotId) (on : Bool) (w : Work) : (Work.lockLine s on w).toState.outer = w.toState.outer := by
  simp only [Work.lockLine]
  repeat' split
  all_goals first | rfl | simp [State.outer_mk, State.outer_fold]
@[simp] theorem Work.removeCard_outer (s : SlotId) (w : Work) : (Work.removeCard s w).toState.outer = w.toState.outer := by
  simp only [Work.removeCard]
  repeat' split
  all_goals first | rfl | simp [State.outer_mk, State.outer_fold]
@[simp] theorem Work.cardLine_outer (s : SlotId) (inserted : Bool) (w : Work) : (Work.cardLine s inserted w).toState.outer = w.toState.outer := by
  simp only [Work.cardLine]
  repeat' split
  all_goals first | rfl | simp [State.outer_mk, State.outer_fold]
@[simp] theorem Work.serveWaiting_outer (s : SlotId) (w : Work) : (Work.serveWaiting s w).toState.outer = w.toState.outer := by
  simp only [Work.serveWaiting]
  split
  · rfl
  · split
    · rw [Work.selectDuty_outer]
      exact (foldl_outer _ (fun v x => by simp [State.outer_mk, State.outer_fold]) _ _).trans (by simp [State.outer_mk, State.outer_fold])
    · exact (foldl_outer _ (fun v x => by simp [State.outer_mk, State.outer_fold]) _ _).trans (by simp [State.outer_mk, State.outer_fold])
@[simp] theorem Work.proofExists_outer (i : Nat) (w : Work) : (Work.proofExists i w).toState.outer = w.toState.outer := by
  simp only [Work.proofExists]
  repeat' split
  all_goals first
    | rfl
    | (refine (foldl_outer _ (fun v x => ?_) _ _).trans ?_
       · repeat' split
         all_goals simp [State.outer_mk, State.outer_fold]
       · repeat' split
         all_goals simp [State.outer_mk, State.outer_fold])
@[simp] theorem Work.cardProofLost_outer (i : Nat) (w : Work) : (Work.cardProofLost i w).toState.outer = w.toState.outer := by
  simp only [Work.cardProofLost]
  repeat' split
  all_goals first
    | rfl
    | (refine (foldl_outer _ (fun v x => ?_) _ _).trans ?_
       · repeat' split
         all_goals simp [State.outer_mk, State.outer_fold]
       · repeat' split
         all_goals simp [State.outer_mk, State.outer_fold])
@[simp] theorem Work.discardCards_outer (i : Nat) (w : Work) : (Work.discardCards i w).toState.outer = w.toState.outer := by
  simp only [Work.discardCards]
  repeat' split
  all_goals first
    | rfl
    | (refine (foldl_outer _ (fun v x => ?_) _ _).trans ?_
       · repeat' split
         all_goals simp [State.outer_mk, State.outer_fold]
       · repeat' split
         all_goals simp [State.outer_mk, State.outer_fold])
@[simp] theorem Work.cardWarning_outer (w : Work) : (Work.cardWarning w).toState.outer = w.toState.outer := by
  simp only [Work.cardWarning]
  repeat' split
  all_goals first | rfl | simp [State.outer_mk, State.outer_fold]
@[simp] theorem Work.setDevelop_outer (i : Nat) (st : DevelopState) (w : Work) : (Work.setDevelop i st w).toState.outer = w.toState.outer := by
  simp only [Work.setDevelop]
  repeat' split
  all_goals first | rfl | simp [State.outer_mk, State.outer_fold]
@[simp] theorem Work.createDevelop_outer (i : Nat) (c : DevelopClass) (w : Work) : (Work.createDevelop i c w).toState.outer = w.toState.outer := by
  simp only [Work.createDevelop]
  repeat' split
  all_goals first | rfl | simp [State.outer_mk, State.outer_fold]
@[simp] theorem Work.promoteJob_outer (i : Nat) (w : Work) : (Work.promoteJob i w).toState.outer = w.toState.outer := by
  simp only [Work.promoteJob]
  repeat' split
  all_goals first | rfl | simp [State.outer_mk, State.outer_fold]
@[simp] theorem Work.startJob_outer (i : Nat) (w : Work) : (Work.startJob i w).toState.outer = w.toState.outer := by
  simp only [Work.startJob]
  repeat' split
  all_goals first | rfl | simp [State.outer_mk, State.outer_fold]
@[simp] theorem Work.lookHead_outer (w : Work) : (Work.lookHead w).toState.outer = w.toState.outer := by
  simp only [Work.lookHead]
  repeat' split
  all_goals first
    | rfl
    | (rename_i h; simp [State.outer_mk, State.outer_fold, Work.proofAlloc_outer _ _ _ h])
    | simp [State.outer_mk, State.outer_fold]
@[simp] theorem Work.nextJob_outer (w : Work) : (Work.nextJob w).toState.outer = w.toState.outer := by
  simp only [Work.nextJob]
  repeat' split
  all_goals first | rfl | simp [State.outer_mk, State.outer_fold]
@[simp] theorem Work.loseProof_outer (i : Nat) (w : Work) : (Work.loseProof i w).toState.outer = w.toState.outer := by
  simp only [Work.loseProof]
  repeat' split
  all_goals first | rfl | simp [State.outer_mk, State.outer_fold]
@[simp] theorem Work.completeJob_outer (j : Job) (w : Work) : (Work.completeJob j w).toState.outer = w.toState.outer := by
  simp only [Work.completeJob]
  repeat' split
  all_goals first | rfl | simp [State.outer_mk, State.outer_fold]
@[simp] theorem Work.stopJob_outer (j : Job) (w : Work) : (Work.stopJob j w).toState.outer = w.toState.outer := by
  simp only [Work.stopJob]
  repeat' split
  all_goals first | rfl | simp [State.outer_mk, State.outer_fold]
@[simp] theorem Work.putRow_outer (j : Job) (r : Row) (pixels : List Pixel) (w : Work) : (Work.putRow j r pixels w).toState.outer = w.toState.outer := by
  simp only [Work.putRow]
  repeat' split
  all_goals first | rfl | simp [State.outer_mk, State.outer_fold]
@[simp] theorem Work.afterRow_outer (j : Job) (written : Nat) (w : Work) : (Work.afterRow j written w).toState.outer = w.toState.outer := by
  simp only [Work.afterRow]
  repeat' split
  all_goals first | rfl | simp [State.outer_mk, State.outer_fold]
@[simp] theorem Work.writeRow_outer (w : Work) : (Work.writeRow w).toState.outer = w.toState.outer := by
  simp only [Work.writeRow]
  repeat' split
  all_goals first | rfl | simp [State.outer_mk, State.outer_fold]
@[simp] theorem Work.failJob_outer (w : Work) : (Work.failJob w).toState.outer = w.toState.outer := by
  simp only [Work.failJob]
  repeat' split
  all_goals first | rfl | simp [State.outer_mk, State.outer_fold]
@[simp] theorem Work.cancelPending_outer (i : Nat) (w : Work) : (Work.cancelPending i w).toState.outer = w.toState.outer := by
  simp only [Work.cancelPending]
  repeat' split
  all_goals first | rfl | simp [State.outer_mk, State.outer_fold]
@[simp] theorem Work.discardDevelop_outer (i : Nat) (w : Work) : (Work.discardDevelop i w).toState.outer = w.toState.outer := by
  simp only [Work.discardDevelop]
  repeat' split
  all_goals first | rfl | simp [State.outer_mk, State.outer_fold]
@[simp] theorem Work.developWarning_outer (w : Work) : (Work.developWarning w).toState.outer = w.toState.outer := by
  simp only [Work.developWarning]
  repeat' split
  all_goals first | rfl | simp [State.outer_mk, State.outer_fold]
@[simp] theorem Work.bump_outer (k : CounterKind) (w : Work) : (Work.bump k w).toState.outer = w.toState.outer := by
  simp only [Work.bump]
  repeat' split
  all_goals first | rfl | simp [State.outer_mk, State.outer_fold]
@[simp] theorem Work.enterLink_outer (l : Link) (w : Work) : (Work.enterLink l w).toState.outer = w.toState.outer := by
  simp only [Work.enterLink]
  repeat' split
  all_goals first | rfl | simp [State.outer_mk, State.outer_fold]
@[simp] theorem Work.sendTo_outer (dst : BitVec 48) (kind : Byte) (fields : List Byte) (w : Work) : (Work.sendTo dst kind fields w).toState.outer = w.toState.outer := by
  simp only [Work.sendTo]
  repeat' split
  all_goals first | rfl | simp [State.outer_mk, State.outer_fold]
@[simp] theorem Work.sendDesk_outer (kind : Byte) (fields : List Byte) (w : Work) : (Work.sendDesk kind fields w).toState.outer = w.toState.outer := by
  simp only [Work.sendDesk]
  repeat' split
  all_goals first | rfl | simp [State.outer_mk, State.outer_fold]
@[simp] theorem Work.sendHello_outer (w : Work) : (Work.sendHello w).toState.outer = w.toState.outer := by
  simp only [Work.sendHello]
  repeat' split
  all_goals first | rfl | simp [State.outer_mk, State.outer_fold]
@[simp] theorem Work.enterUnbound_outer (w : Work) : (Work.enterUnbound w).toState.outer = w.toState.outer := by
  simp only [Work.enterUnbound]
  repeat' split
  all_goals first | rfl | simp [State.outer_mk, State.outer_fold]
@[simp] theorem Work.mapTether_outer (i : Nat) (c : Chain) (f : TetherDuty → TetherDuty) (w : Work) : (Work.mapTether i c f w).toState.outer = w.toState.outer := by
  simp only [Work.mapTether]
  repeat' split
  all_goals first | rfl | simp [State.outer_mk, State.outer_fold]
@[simp] theorem Work.mirror_outer (e : Entry) (w : Work) : (Work.mirror e w).toState.outer = w.toState.outer := by
  simp only [Work.mirror]
  repeat' split
  all_goals first | rfl | simp [State.outer_mk, State.outer_fold]
@[simp] theorem Work.endEntry_outer (e : Entry) (st : TetherState) (cause : Option TetherCause) (w : Work) : (Work.endEntry e st cause w).toState.outer = w.toState.outer := by
  simp only [Work.endEntry]
  repeat' split
  all_goals first | rfl | simp [State.outer_mk, State.outer_fold]
@[simp] theorem Work.demote_outer (e : Entry) (w : Work) : (Work.demote e w).toState.outer = w.toState.outer := by
  simp only [Work.demote]
  repeat' split
  all_goals first | rfl | simp [State.outer_mk, State.outer_fold]
@[simp] theorem Work.demoteAll_outer (w : Work) : (Work.demoteAll w).toState.outer = w.toState.outer := by
  simp only [Work.demoteAll]
  repeat' split
  all_goals first
    | rfl
    | (refine (foldl_outer _ (fun v x => ?_) _ _).trans ?_
       · repeat' split
         all_goals simp [State.outer_mk, State.outer_fold]
       · repeat' split
         all_goals simp [State.outer_mk, State.outer_fold])
theorem Work.askOne_outer (w v : Work) (h : w.askOne = some v) : v.toState.outer = w.toState.outer := by
  simp only [Work.askOne] at h
  repeat' split at h
  all_goals first | cases h; done | skip
  cases h; simp [State.outer_mk, State.outer_fold]
@[simp] theorem Work.askReads_outer : ∀ (k : Nat) (w : Work), (Work.askReads k w).toState.outer = w.toState.outer
  | 0, _ => rfl
  | k + 1, w => by
    simp only [Work.askReads]
    split
    · rename_i v h
      rw [Work.askReads_outer k, Work.askOne_outer _ _ h]
    · rfl
@[simp] theorem Work.updateWait_outer (w : Work) : (Work.updateWait w).toState.outer = w.toState.outer := by
  simp only [Work.updateWait]
  repeat' split
  all_goals first | rfl | simp [State.outer_mk, State.outer_fold]
@[simp] theorem Work.sendOffer_outer (t : Transfer) (w : Work) : (Work.sendOffer t w).toState.outer = w.toState.outer := by
  simp only [Work.sendOffer]
  repeat' split
  all_goals first | rfl | simp [State.outer_mk, State.outer_fold]
@[simp] theorem Work.sendFin_outer (t : Transfer) (w : Work) : (Work.sendFin t w).toState.outer = w.toState.outer := by
  simp only [Work.sendFin]
  repeat' split
  all_goals first | rfl | simp [State.outer_mk, State.outer_fold]
@[simp] theorem Work.startTransfer_outer (e : Entry) (w : Work) : (Work.startTransfer e w).toState.outer = w.toState.outer := by
  simp only [Work.startTransfer]
  repeat' split
  all_goals first | rfl | simp [State.outer_mk, State.outer_fold]
@[simp] theorem Work.selectEntry_outer (w : Work) : (Work.selectEntry w).toState.outer = w.toState.outer := by
  simp only [Work.selectEntry]
  repeat' split
  all_goals first | rfl | simp [State.outer_mk, State.outer_fold]
@[simp] theorem Work.sendData_outer (w : Work) : (Work.sendData w).toState.outer = w.toState.outer := by
  simp only [Work.sendData]
  repeat' split
  all_goals first | rfl | simp [State.outer_mk, State.outer_fold]
@[simp] theorem Work.returnEntry_outer (e : Entry) (front : Bool) (early : Bool) (w : Work) : (Work.returnEntry e front early w).toState.outer = w.toState.outer := by
  simp only [Work.returnEntry]
  repeat' split
  all_goals first | rfl | simp [State.outer_mk, State.outer_fold]
@[simp] theorem Work.settleEntry_outer (x : TransferEnd) (e : Entry) (w : Work) : (Work.settleEntry x e w).toState.outer = w.toState.outer := by
  simp only [Work.settleEntry]
  repeat' split
  all_goals first | rfl | simp [State.outer_mk, State.outer_fold]
@[simp] theorem Work.loseDesk_outer (w : Work) : (Work.loseDesk w).toState.outer = w.toState.outer := by
  simp only [Work.loseDesk]
  repeat' split
  all_goals first | rfl | simp [State.outer_mk, State.outer_fold]
@[simp] theorem Work.linkAfter_outer (x : TransferEnd) (w : Work) : (Work.linkAfter x w).toState.outer = w.toState.outer := by
  simp only [Work.linkAfter]
  repeat' split
  all_goals first | rfl | simp [State.outer_mk, State.outer_fold]
@[simp] theorem Work.endTransfer_outer (x : TransferEnd) (w : Work) : (Work.endTransfer x w).toState.outer = w.toState.outer := by
  simp only [Work.endTransfer]
  repeat' split
  all_goals first | rfl | simp [State.outer_mk, State.outer_fold]
@[simp] theorem Work.sendLost_outer (w : Work) : (Work.sendLost w).toState.outer = w.toState.outer := by
  simp only [Work.sendLost]
  repeat' split
  all_goals first | rfl | simp [State.outer_mk, State.outer_fold]
@[simp] theorem Work.ackExpires_outer (w : Work) : (Work.ackExpires w).toState.outer = w.toState.outer := by
  simp only [Work.ackExpires]
  repeat' split
  all_goals first | rfl | simp [State.outer_mk, State.outer_fold]
@[simp] theorem Work.takeAck_outer (id offset : Nat) (w : Work) : (Work.takeAck id offset w).toState.outer = w.toState.outer := by
  simp only [Work.takeAck]
  repeat' split
  all_goals first | rfl | simp [State.outer_mk, State.outer_fold]
@[simp] theorem Work.restartTransfer_outer (t : Transfer) (w : Work) : (Work.restartTransfer t w).toState.outer = w.toState.outer := by
  simp only [Work.restartTransfer]
  repeat' split
  all_goals first | rfl | simp [State.outer_mk, State.outer_fold]
@[simp] theorem Work.takeFinack_outer (id : Nat) (good : Bool) (w : Work) : (Work.takeFinack id good w).toState.outer = w.toState.outer := by
  simp only [Work.takeFinack]
  repeat' split
  all_goals first | rfl | simp [State.outer_mk, State.outer_fold]
@[simp] theorem Work.takeRead_outer (b : Nat) (data : Option (List Byte)) (w : Work) : (Work.takeRead b data w).toState.outer = w.toState.outer := by
  simp only [Work.takeRead]
  repeat' split
  all_goals first | rfl | simp [State.outer_mk, State.outer_fold]
@[simp] theorem Work.deskExpires_outer (w : Work) : (Work.deskExpires w).toState.outer = w.toState.outer := by
  simp only [Work.deskExpires]
  repeat' split
  all_goals first | rfl | simp [State.outer_mk, State.outer_fold]
@[simp] theorem Work.underrunExpires_outer (w : Work) : (Work.underrunExpires w).toState.outer = w.toState.outer := by
  simp only [Work.underrunExpires]
  repeat' split
  all_goals first | rfl | simp [State.outer_mk, State.outer_fold]
@[simp] theorem Work.helloExpires_outer (w : Work) : (Work.helloExpires w).toState.outer = w.toState.outer := by
  simp only [Work.helloExpires]
  repeat' split
  all_goals first | rfl | simp [State.outer_mk, State.outer_fold]
@[simp] theorem Work.cancelEntry_outer (e : Entry) (w : Work) : (Work.cancelEntry e w).toState.outer = w.toState.outer := by
  simp only [Work.cancelEntry]
  repeat' split
  all_goals first | rfl | simp [State.outer_mk, State.outer_fold]
@[simp] theorem Work.discardTethers_outer (i : Nat) (w : Work) : (Work.discardTethers i w).toState.outer = w.toState.outer := by
  simp only [Work.discardTethers]
  repeat' split
  all_goals first
    | rfl
    | (refine (foldl_outer _ (fun v x => ?_) _ _).trans ?_
       · repeat' split
         all_goals simp [State.outer_mk, State.outer_fold]
       · repeat' split
         all_goals simp [State.outer_mk, State.outer_fold])
@[simp] theorem Work.tetherProofLost_outer (i : Nat) (w : Work) : (Work.tetherProofLost i w).toState.outer = w.toState.outer := by
  simp only [Work.tetherProofLost]
  repeat' split
  all_goals first
    | rfl
    | (refine (foldl_outer _ (fun v x => ?_) _ _).trans ?_
       · repeat' split
         all_goals simp [State.outer_mk, State.outer_fold]
       · repeat' split
         all_goals simp [State.outer_mk, State.outer_fold])
@[simp] theorem Work.joinSend_outer (p : SendPlan) (n prio : Nat) (early : Bool) (w : Work) : (Work.joinSend p n prio early w).toState.outer = w.toState.outer := by
  simp only [Work.joinSend]
  repeat' split
  all_goals first | rfl | simp [State.outer_mk, State.outer_fold]
@[simp] theorem Work.failFull_outer (i n prio : Nat) (src : Source) (w : Work) : (Work.failFull i n prio src w).toState.outer = w.toState.outer := by
  simp only [Work.failFull]
  repeat' split
  all_goals first | rfl | simp [State.outer_mk, State.outer_fold]
@[simp] theorem Work.linkDown_outer (w : Work) : (Work.linkDown w).toState.outer = w.toState.outer := by
  simp only [Work.linkDown]
  repeat' split
  all_goals first | rfl | simp [State.outer_mk, State.outer_fold]
@[simp] theorem Work.tetherWake_outer (w : Work) : (Work.tetherWake w).toState.outer = w.toState.outer := by
  simp only [Work.tetherWake]
  repeat' split
  all_goals first | rfl | simp [State.outer_mk, State.outer_fold]
@[simp] theorem Work.tetherHalt_outer (w : Work) : (Work.tetherHalt w).toState.outer = w.toState.outer := by
  simp only [Work.tetherHalt]
  repeat' split
  all_goals first | rfl | simp [State.outer_mk, State.outer_fold]
@[simp] theorem Work.tetherWarning_outer (w : Work) : (Work.tetherWarning w).toState.outer = w.toState.outer := by
  simp only [Work.tetherWarning]
  repeat' split
  all_goals first | rfl | simp [State.outer_mk, State.outer_fold]
@[simp] theorem Work.disableTether_outer (w : Work) : (Work.disableTether w).toState.outer = w.toState.outer := by
  simp only [Work.disableTether]
  repeat' split
  all_goals first | rfl | simp [State.outer_mk, State.outer_fold]
@[simp] theorem Work.resetTether_outer (w : Work) : (Work.resetTether w).toState.outer = w.toState.outer := by
  have h1 : ∀ (l : List Entry) (v : Work),
      (l.foldl (fun v e => v.endEntry e .failed (some .reset)) v).toState.outer = v.toState.outer :=
    foldl_outer _ (fun v x => by simp [State.outer_mk, State.outer_fold])
  simp [Work.resetTether, State.outer_mk, State.outer_fold, h1]
@[simp] theorem Work.giveRaw_outer (i : Nat) (s : SlotId) (w : Work) : (Work.giveRaw i s w).toState.outer = w.toState.outer := by
  simp only [Work.giveRaw]
  repeat' split
  all_goals first | rfl | simp [State.outer_mk, State.outer_fold]
@[simp] theorem Work.giveProofSend_outer (i n prio : Nat) (w : Work) : (Work.giveProofSend i n prio w).toState.outer = w.toState.outer := by
  simp only [Work.giveProofSend]
  repeat' split
  all_goals first | rfl | simp [State.outer_mk, State.outer_fold]
@[simp] theorem Work.createDuties_outer (i n : Nat) (w : Work) : (Work.createDuties i n w).toState.outer = w.toState.outer := by
  have h1 : ∀ (l : List SlotId) (v : Work), (l.foldl (fun v s => v.giveRaw i s) v).toState.outer = v.toState.outer :=
    foldl_outer _ (fun v x => by simp [State.outer_mk, State.outer_fold])
  have h2 : ∀ (l : List SlotId) (v : Work),
      (l.foldl (fun v s => v.addCard i s .proof .waitingSource false) v).toState.outer = v.toState.outer :=
    foldl_outer _ (fun v x => by simp [State.outer_mk, State.outer_fold])
  simp only [Work.createDuties]
  repeat' split
  all_goals simp [State.outer_mk, State.outer_fold, h1, h2]
@[simp] theorem Work.hold_outer (i : Nat) (w : Work) : (Work.hold i w).toState.outer = w.toState.outer := by
  simp only [Work.hold]
  repeat' split
  all_goals first | rfl | simp [State.outer_mk, State.outer_fold]
@[simp] theorem Work.frameEndRow_outer (i : Nat) (w : Work) : (Work.frameEndRow i w).toState.outer = w.toState.outer := by
  simp only [Work.frameEndRow]
  repeat' split
  all_goals first | rfl | simp [State.outer_mk, State.outer_fold]
@[simp] theorem Work.promoteRing_outer (w : Work) : (Work.promoteRing w).toState.outer = w.toState.outer := by
  simp only [Work.promoteRing]
  repeat' split
  all_goals first
    | rfl
    | (refine (foldl_outer _ (fun v x => ?_) _ _).trans ?_
       · repeat' split
         all_goals simp [State.outer_mk, State.outer_fold]
       · refine (foldl_outer _ (fun v x => ?_) _ _).trans ?_
         · repeat' split
           all_goals simp [State.outer_mk, State.outer_fold]
         · rfl)
@[simp] theorem Work.protectSend_outer (r : Row) (n : Nat) (w : Work) : (Work.protectSend r n w).toState.outer = w.toState.outer := by
  simp only [Work.protectSend]
  repeat' split
  all_goals first | rfl | simp [State.outer_mk, State.outer_fold]
@[simp] theorem Work.protectRow_outer (r : Row) (on : Bool) (w : Work) : (Work.protectRow r on w).toState.outer = w.toState.outer := by
  simp only [Work.protectRow]
  repeat' split
  all_goals first | rfl | simp [State.outer_mk, State.outer_fold]
@[simp] theorem Work.discardRow_outer (i : Nat) (w : Work) : (Work.discardRow i w).toState.outer = w.toState.outer := by
  simp only [Work.discardRow]
  repeat' split
  all_goals first | rfl | simp [State.outer_mk, State.outer_fold]
@[simp] theorem Work.raiseFocus_outer (w : Work) : (Work.raiseFocus w).toState.outer = w.toState.outer := by
  simp only [Work.raiseFocus]
  repeat' split
  all_goals first | rfl | simp [State.outer_mk, State.outer_fold]
@[simp] theorem Work.putFu_outer (f : Fu) (w : Work) : (Work.putFu f w).toState.outer = w.toState.outer := by
  simp only [Work.putFu]
  repeat' split
  all_goals first | rfl | simp [State.outer_mk, State.outer_fold]
@[simp] theorem Work.sendQuery_outer (bare : Bool) (w : Work) : (Work.sendQuery bare w).toState.outer = w.toState.outer := by
  simp only [Work.sendQuery]
  repeat' split
  all_goals first | rfl | simp [State.outer_mk, State.outer_fold]
@[simp] theorem Work.moveLens_outer (target : Nat) (origin : MoveOrigin) (w : Work) : (Work.moveLens target origin w).toState.outer = w.toState.outer := by
  simp only [Work.moveLens]
  repeat' split
  all_goals first | rfl | simp [State.outer_mk, State.outer_fold]
@[simp] theorem Work.haltLens_outer (w : Work) : (Work.haltLens w).toState.outer = w.toState.outer := by
  simp only [Work.haltLens]
  repeat' split
  all_goals first | rfl | simp [State.outer_mk, State.outer_fold]
@[simp] theorem Work.faultLens_outer (w : Work) : (Work.faultLens w).toState.outer = w.toState.outer := by
  simp only [Work.faultLens]
  repeat' split
  all_goals first | rfl | simp [State.outer_mk, State.outer_fold]
@[simp] theorem Work.setHalfPress_outer (up : Bool) (w : Work) : (Work.setHalfPress up w).toState.outer = w.toState.outer := by
  unfold Work.setHalfPress
  dsimp only
  repeat' split
  all_goals simp [State.outer_mk, State.outer_fold]
@[simp] theorem Work.completeFrame_outer (w : Work) : (Work.completeFrame w).toState.outer = w.toState.outer := by
  simp only [Work.completeFrame]
  repeat' split
  all_goals first | rfl | simp [State.outer_mk, State.outer_fold]
@[simp] theorem Work.settleFrame_outer (position : Option Nat) (moving : Bool) (w : Work) : (Work.settleFrame position moving w).toState.outer = w.toState.outer := by
  simp only [Work.settleFrame]
  repeat' split
  all_goals first | rfl | simp [State.outer_mk, State.outer_fold]
@[simp] theorem Work.focusFrameStart_outer (kind : FrameKind) (id timestamp : Nat) (w : Work) : (Work.focusFrameStart kind id timestamp w).toState.outer = w.toState.outer := by
  simp only [Work.focusFrameStart]
  repeat' split
  all_goals first | rfl | simp [State.outer_mk, State.outer_fold]
@[simp] theorem Work.takePos_outer (position : Nat) (moving : Bool) (w : Work) : (Work.takePos position moving w).toState.outer = w.toState.outer := by
  simp only [Work.takePos]
  repeat' split
  all_goals first | rfl | simp [State.outer_mk, State.outer_fold]
@[simp] theorem Work.answerExpires_outer (w : Work) : (Work.answerExpires w).toState.outer = w.toState.outer := by
  simp only [Work.answerExpires]
  repeat' split
  all_goals first | rfl | simp [State.outer_mk, State.outer_fold]
@[simp] theorem Work.takeArrived_outer (position : Nat) (w : Work) : (Work.takeArrived position w).toState.outer = w.toState.outer := by
  simp only [Work.takeArrived]
  repeat' split
  all_goals first | rfl | simp [State.outer_mk, State.outer_fold]
@[simp] theorem Work.moveExpires_outer (w : Work) : (Work.moveExpires w).toState.outer = w.toState.outer := by
  simp only [Work.moveExpires]
  repeat' split
  all_goals first | rfl | simp [State.outer_mk, State.outer_fold]
@[simp] theorem Work.adoptAf_outer (w : Work) : (Work.adoptAf w).toState.outer = w.toState.outer := by
  simp only [Work.adoptAf]
  repeat' split
  all_goals first | rfl | simp [State.outer_mk, State.outer_fold]
@[simp] theorem Work.requestAf_outer (s : AfSettings) (w : Work) : (Work.requestAf s w).toState.outer = w.toState.outer := by
  simp only [Work.requestAf]
  repeat' split
  all_goals first | rfl | simp [State.outer_mk, State.outer_fold]
@[simp] theorem Work.takeAfBlock_outer (id : Nat) (zones : List AfZone) (w : Work) : (Work.takeAfBlock id zones w).toState.outer = w.toState.outer := by
  simp only [Work.takeAfBlock]
  repeat' split
  all_goals first | rfl | simp [State.outer_mk, State.outer_fold]
@[simp] theorem Work.reportStart_outer (kind : FrameKind) (id : Nat) (w : Work) : (Work.reportStart kind id w).toState.outer = w.toState.outer := by
  simp only [Work.reportStart]
  repeat' split
  all_goals first | rfl | simp [State.outer_mk, State.outer_fold]
@[simp] theorem Work.reportAf_outer (id : Nat) (zones : List AfZone) (w : Work) : (Work.reportAf id zones w).toState.outer = w.toState.outer := by
  simp only [Work.reportAf]
  repeat' split
  all_goals first | rfl | simp [State.outer_mk, State.outer_fold]
@[simp] theorem Work.attachLens_outer (d : Descriptor) (w : Work) : (Work.attachLens d w).toState.outer = w.toState.outer := by
  simp only [Work.attachLens]
  repeat' split
  all_goals first | rfl | simp [State.outer_mk, State.outer_fold]
@[simp] theorem Work.detachLens_outer (w : Work) : (Work.detachLens w).toState.outer = w.toState.outer := by
  simp only [Work.detachLens]
  repeat' split
  all_goals first | rfl | simp [State.outer_mk, State.outer_fold]
@[simp] theorem Work.focusHalt_outer (w : Work) : (Work.focusHalt w).toState.outer = w.toState.outer := by
  simp only [Work.focusHalt]
  repeat' split
  all_goals first | rfl | simp [State.outer_mk, State.outer_fold]
@[simp] theorem Work.focusFromQuiet_outer (w : Work) : (Work.focusFromQuiet w).toState.outer = w.toState.outer := by
  simp only [Work.focusFromQuiet]
  repeat' split
  all_goals first | rfl | simp [State.outer_mk, State.outer_fold]
@[simp] theorem Work.focusFromHalt_outer (w : Work) : (Work.focusFromHalt w).toState.outer = w.toState.outer := by
  simp only [Work.focusFromHalt]
  repeat' split
  all_goals first | rfl | simp [State.outer_mk, State.outer_fold]
@[simp] theorem Work.focusWarning_outer (w : Work) : (Work.focusWarning w).toState.outer = w.toState.outer := by
  simp only [Work.focusWarning]
  repeat' split
  all_goals first | rfl | simp [State.outer_mk, State.outer_fold]
@[simp] theorem Work.openReadout_outer (kind : FrameKind) (row : Nat) (gate : GateOutcome) (w : Work) : (Work.openReadout kind row gate w).toState.outer = w.toState.outer := by
  simp only [Work.openReadout]
  repeat' split
  all_goals first | rfl | simp [State.outer_mk, State.outer_fold]
@[simp] theorem Work.requestCapture_outer (row : Nat) (gate : GateOutcome) (w : Work) : (Work.requestCapture row gate w).toState.outer = w.toState.outer := by
  simp only [Work.requestCapture]
  repeat' split
  all_goals first | rfl | simp [State.outer_mk, State.outer_fold]
@[simp] theorem Work.serveCapture_outer (w : Work) : (Work.serveCapture w).toState.outer = w.toState.outer := by
  simp only [Work.serveCapture]
  repeat' split
  all_goals first | rfl | simp [State.outer_mk, State.outer_fold]
@[simp] theorem Work.endReadout_outer (r : Readout) (cause : ShotOutcome) (w : Work) :
    (Work.endReadout r cause w).toState.outer = w.toState.outer := by
  simp only [Work.endReadout]
  split
  all_goals simp [State.outer_mk]; rfl
@[simp] theorem Work.setView_outer (on : Bool) (w : Work) : (Work.setView on w).toState.outer = w.toState.outer := by
  simp only [Work.setView]
  repeat' split
  all_goals first | rfl | simp [State.outer_mk, State.outer_fold]
@[simp] theorem Work.viewExpires_outer (w : Work) : (Work.viewExpires w).toState.outer = w.toState.outer := by
  simp only [Work.viewExpires]
  repeat' split
  all_goals first | rfl | simp [State.outer_mk, State.outer_fold]
@[simp] theorem Work.endExpires_outer (w : Work) : (Work.endExpires w).toState.outer = w.toState.outer := by
  simp only [Work.endExpires]
  repeat' split
  all_goals first | rfl | simp [State.outer_mk, State.outer_fold]
@[simp] theorem Work.decideFlash_outer (row : Nat) (ready : Bool) (w : Work) : (Work.decideFlash row ready w).toState.outer = w.toState.outer := by
  simp only [Work.decideFlash]
  repeat' split
  all_goals first | rfl | simp [State.outer_mk, State.outer_fold]
@[simp] theorem Work.afArrives_outer (zones : List AfZone) (w : Work) : (Work.afArrives zones w).toState.outer = w.toState.outer := by
  simp only [Work.afArrives]
  repeat' split
  all_goals first | rfl | simp [State.outer_mk, State.outer_fold]
@[simp] theorem Work.lineArrives_outer (samples : List Byte) (crc : BitVec 16) (w : Work) : (Work.lineArrives samples crc w).toState.outer = w.toState.outer := by
  simp only [Work.lineArrives]
  repeat' split
  all_goals first | rfl | simp [State.outer_mk, State.outer_fold]
@[simp] theorem Work.closeFrame_outer (r : Readout) (w : Work) :
    (Work.closeFrame r w).toState.outer = w.toState.outer := by
  simp only [Work.closeFrame]
  split
  all_goals simp [State.outer_mk]; rfl
@[simp] theorem Work.frameEnds_outer (count : Nat) (w : Work) : (Work.frameEnds count w).toState.outer = w.toState.outer := by
  simp only [Work.frameEnds]
  repeat' split
  all_goals first | rfl | simp [State.outer_mk, State.outer_fold]
@[simp] theorem Work.withRdu_outer (f : Rdu → Rdu) (w : Work) : (Work.withRdu f w).toState.outer = w.toState.outer := by
  simp only [Work.withRdu]
  repeat' split
  all_goals first | rfl | simp [State.outer_mk, State.outer_fold]
@[simp] theorem Work.publishDrive_outer (w : Work) : (Work.publishDrive w).toState.outer = w.toState.outer := by
  simp only [Work.publishDrive]
  repeat' split
  all_goals first | rfl | simp [State.outer_mk, State.outer_fold]
@[simp] theorem Work.setDrive_outer (d : Drive) (w : Work) : (Work.setDrive d w).toState.outer = w.toState.outer := by
  simp only [Work.setDrive]
  repeat' split
  all_goals first | rfl | simp [State.outer_mk, State.outer_fold]
@[simp] theorem Work.skipAttempt_outer (c : SkipCause) (w : Work) : (Work.skipAttempt c w).toState.outer = w.toState.outer := by
  simp only [Work.skipAttempt, Work.setDrive_outer, Work.raise_outer, Work.withRdu_outer]
@[simp] theorem Work.evictOldest_outer (w : Work) : (Work.evictOldest w).toState.outer = w.toState.outer := by
  simp only [Work.evictOldest]
  repeat' split
  all_goals first | rfl | simp [State.outer_mk, State.outer_fold]
@[simp] theorem Work.countUp_outer (n : Nat) (w : Work) : (w.countUp n).2.toState.outer = w.toState.outer := by
  simp only [Work.countUp]
  split <;> rfl
@[simp] theorem Work.grantRing_outer (i : Nat) (w : Work) : (Work.grantRing i w).toState.outer = w.toState.outer := by
  simp only [Work.grantRing]
  repeat' split
  all_goals first | rfl | simp [State.outer_mk, State.outer_fold]
@[simp] theorem Work.grantBurst_outer (i : Nat) (x : Release) (w : Work) : (Work.grantBurst i x w).toState.outer = w.toState.outer := by
  simp only [Work.grantBurst]
  repeat' split
  all_goals first | rfl | simp [State.outer_mk, State.outer_fold]
@[simp] theorem Work.grantRow_outer (i : Nat) (w : Work) : (Work.grantRow i w).toState.outer = w.toState.outer := by
  simp only [Work.grantRow]
  repeat' split
  all_goals first | rfl | simp [State.outer_mk, State.outer_fold]
@[simp] theorem Work.allocate_outer (w : Work) : (Work.allocate w).toState.outer = w.toState.outer := by
  simp only [Work.allocate]
  repeat' split
  all_goals first | rfl | simp [State.outer_mk, State.outer_fold]
@[simp] theorem Work.attempt_outer (w : Work) : (Work.attempt w).toState.outer = w.toState.outer := by
  simp only [Work.attempt]
  repeat' split
  all_goals first | rfl | simp [State.outer_mk, State.outer_fold]
@[simp] theorem Work.enterPrecapturing_outer (w : Work) : (Work.enterPrecapturing w).toState.outer = w.toState.outer := by
  simp only [Work.enterPrecapturing]
  repeat' split
  all_goals first | rfl | simp [State.outer_mk, State.outer_fold]
@[simp] theorem Work.enterReady_outer (w : Work) : (Work.enterReady w).toState.outer = w.toState.outer := by
  simp only [Work.enterReady]
  repeat' split
  all_goals first | rfl | simp [State.outer_mk, State.outer_fold]
@[simp] theorem Work.enterIdle_outer (w : Work) : (Work.enterIdle w).toState.outer = w.toState.outer := by
  simp only [Work.enterIdle]
  repeat' split
  all_goals first | rfl | simp [State.outer_mk, State.outer_fold]
@[simp] theorem Work.enterRest_outer (w : Work) : (Work.enterRest w).toState.outer = w.toState.outer := by
  simp only [Work.enterRest]
  repeat' split
  all_goals first | rfl | simp [State.outer_mk, State.outer_fold]
@[simp] theorem Work.openBurst_outer (origin : Origin) (gate : GateOutcome) (w : Work) : (Work.openBurst origin gate w).toState.outer = w.toState.outer := by
  simp only [Work.openBurst]
  repeat' split
  all_goals first | rfl | simp [State.outer_mk, State.outer_fold]
@[simp] theorem Work.startRelease_outer (origin : Origin) (w : Work) : (Work.startRelease origin w).toState.outer = w.toState.outer := by
  simp only [Work.startRelease]
  repeat' split
  all_goals first | rfl | simp [State.outer_mk, State.outer_fold]
@[simp] theorem Work.closeRecord_outer (cause : EndCause) (w : Work) : (Work.closeRecord cause w).toState.outer = w.toState.outer := by
  simp only [Work.closeRecord]
  repeat' split
  all_goals first | rfl | simp [State.outer_mk, State.outer_fold]
@[simp] theorem Work.meetEnd_outer (cause : EndCause) (w : Work) : (Work.meetEnd cause w).toState.outer = w.toState.outer := by
  simp only [Work.meetEnd]
  repeat' split
  all_goals first | rfl | simp [State.outer_mk, State.outer_fold]
@[simp] theorem Work.dropTheRing_outer (w : Work) : (Work.dropTheRing w).toState.outer = w.toState.outer := by
  simp only [Work.dropTheRing]
  repeat' split
  all_goals first | rfl | simp [State.outer_mk, State.outer_fold]
@[simp] theorem Work.promoteTheRing_outer (w : Work) : (Work.promoteTheRing w).toState.outer = w.toState.outer := by
  simp only [Work.promoteTheRing]
  repeat' split
  all_goals first | rfl | simp [State.outer_mk, State.outer_fold]
@[simp] theorem Work.s1Released_outer (w : Work) : (Work.s1Released w).toState.outer = w.toState.outer := by
  simp only [Work.s1Released]
  repeat' split
  all_goals first | rfl | simp [State.outer_mk, State.outer_fold]
@[simp] theorem Work.s2Pressed_outer (w : Work) : (Work.s2Pressed w).toState.outer = w.toState.outer := by
  simp only [Work.s2Pressed]
  repeat' split
  all_goals first | rfl | simp [State.outer_mk, State.outer_fold]
@[simp] theorem Work.s2Released_outer (w : Work) : (Work.s2Released w).toState.outer = w.toState.outer := by
  simp only [Work.s2Released]
  repeat' split
  all_goals first | rfl | simp [State.outer_mk, State.outer_fold]
@[simp] theorem Work.takeRemote_outer (origin : Origin) (count : Nat) (w : Work) : (Work.takeRemote origin count w).toState.outer = w.toState.outer := by
  simp only [Work.takeRemote]
  repeat' split
  all_goals first | rfl | simp [State.outer_mk, State.outer_fold]
@[simp] theorem Work.frameTimerExpires_outer (w : Work) : (Work.frameTimerExpires w).toState.outer = w.toState.outer := by
  simp only [Work.frameTimerExpires]
  repeat' split
  all_goals first | rfl | simp [State.outer_mk, State.outer_fold]
@[simp] theorem Work.focusWaitExpires_outer (w : Work) : (Work.focusWaitExpires w).toState.outer = w.toState.outer := by
  simp only [Work.focusWaitExpires]
  repeat' split
  all_goals first | rfl | simp [State.outer_mk, State.outer_fold]
@[simp] theorem Work.gateAgain_outer (g : Option GateOutcome) (w : Work) : (Work.gateAgain g w).toState.outer = w.toState.outer := by
  simp only [Work.gateAgain]
  repeat' split
  all_goals first | rfl | simp [State.outer_mk, State.outer_fold]
@[simp] theorem Work.burstCaptureEnds_outer (x : Release) (life : Option Life) (number : Option Nat) (w : Work) : (Work.burstCaptureEnds x life number w).toState.outer = w.toState.outer := by
  simp only [Work.burstCaptureEnds]
  repeat' split
  all_goals first | rfl | simp [State.outer_mk, State.outer_fold]
@[simp] theorem Work.captureEnds_outer (row : Nat) (life : Option Life) (number : Option Nat) (w : Work) : (Work.captureEnds row life number w).toState.outer = w.toState.outer := by
  simp only [Work.captureEnds]
  repeat' split
  all_goals first | rfl | simp [State.outer_mk, State.outer_fold]
@[simp] theorem Work.driveWarning_outer (w : Work) : (Work.driveWarning w).toState.outer = w.toState.outer := by
  simp only [Work.driveWarning]
  repeat' split
  all_goals first | rfl | simp [State.outer_mk, State.outer_fold]
@[simp] theorem Work.takeReclaim_outer (up : Bool) (w : Work) : (Work.takeReclaim up w).toState.outer = w.toState.outer := by
  simp only [Work.takeReclaim]
  repeat' split
  all_goals first | rfl | simp [State.outer_mk, State.outer_fold]
@[simp] theorem Work.takeCardDone_outer (i : Nat) (c : Chain) (w : Work) : (Work.takeCardDone i c w).toState.outer = w.toState.outer := by
  simp only [Work.takeCardDone]
  repeat' split
  all_goals first
    | rfl
    | (refine (foldl_outer _ (fun v x => ?_) _ _).trans ?_
       · repeat' split
         all_goals simp [State.outer_mk, State.outer_fold]
       · repeat' split
         all_goals simp [State.outer_mk, State.outer_fold])
@[simp] theorem Work.takeDevelop_outer (i : Nat) (w : Work) : (Work.takeDevelop i w).toState.outer = w.toState.outer := by
  simp only [Work.takeDevelop]
  repeat' split
  all_goals first | rfl | simp [State.outer_mk, State.outer_fold]
@[simp] theorem Work.handle_outer (r : Report) (w : Work) : (Work.handle r w).toState.outer = w.toState.outer := by
  simp only [Work.handle]
  repeat' split
  all_goals first | rfl | simp [State.outer_mk, State.outer_fold]
@[simp] theorem Work.drain_outer : ∀ (k : Nat) (w : Work), (Work.drain k w).toState.outer = w.toState.outer
  | 0, _ => rfl
  | k + 1, w => by
    simp only [Work.drain]
    split
    · rfl
    · rw [Work.drain_outer k]
      simp
@[simp] theorem Work.settle_outer (w : Work) : w.settle.toState.outer = w.toState.outer := Work.drain_outer _ w
@[simp] theorem Work.nakRequest_outer (n : Nat) (chain : Byte) (code : Result) (w : Work) : (Work.nakRequest n chain code w).toState.outer = w.toState.outer := by
  simp only [Work.nakRequest]
  repeat' split
  all_goals first | rfl | simp [State.outer_mk, State.outer_fold]
@[simp] theorem Work.nakRemote_outer (count : Byte) (code : Result) (w : Work) : (Work.nakRemote count code w).toState.outer = w.toState.outer := by
  simp only [Work.nakRemote]
  repeat' split
  all_goals first | rfl | simp [State.outer_mk, State.outer_fold]
@[simp] theorem Work.takeBind_outer (src : BitVec 48) (w : Work) : (Work.takeBind src w).toState.outer = w.toState.outer := by
  simp only [Work.takeBind]
  repeat' split
  all_goals first | rfl | simp [State.outer_mk, State.outer_fold]
@[simp] theorem Work.raiseEntry_outer (e : Entry) (w : Work) : (Work.raiseEntry e w).toState.outer = w.toState.outer := by
  simp only [Work.raiseEntry]
  repeat' split
  all_goals first | rfl | simp [State.outer_mk, State.outer_fold]
@[simp] theorem Work.refuseRequest_outer (n : Nat) (chain : Byte) (code : Result) (w : Work) : (Work.refuseRequest n chain code w).toState.outer = w.toState.outer := by
  simp only [Work.refuseRequest]
  repeat' split
  all_goals first | rfl | simp [State.outer_mk, State.outer_fold]
@[simp] theorem Work.takeRequest_outer (n : Nat) (chain : Byte) (w : Work) : (Work.takeRequest n chain w).toState.outer = w.toState.outer := by
  simp only [Work.takeRequest]
  repeat' split
  all_goals first | rfl | simp [State.outer_mk, State.outer_fold]
@[simp] theorem Work.takeDeskRemote_outer (count : Byte) (w : Work) : (Work.takeDeskRemote count w).toState.outer = w.toState.outer := by
  simp only [Work.takeDeskRemote]
  repeat' split
  all_goals first | rfl | simp [State.outer_mk, State.outer_fold]
@[simp] theorem Work.takeBound_outer (m : DeskMsg) (w : Work) : (Work.takeBound m w).toState.outer = w.toState.outer := by
  simp only [Work.takeBound]
  repeat' split
  all_goals first | rfl | simp [State.outer_mk, State.outer_fold]
@[simp] theorem Work.takePassed_outer (src : BitVec 48) (m : DeskMsg) (w : Work) : (Work.takePassed src m w).toState.outer = w.toState.outer := by
  simp only [Work.takePassed]
  repeat' split
  all_goals first | rfl | simp [State.outer_mk, State.outer_fold]
@[simp] theorem Work.takeDesk_outer (h : DeskHead) (m : DeskMsg) (w : Work) : (Work.takeDesk h m w).toState.outer = w.toState.outer := by
  simp only [Work.takeDesk]
  repeat' split
  all_goals first | rfl | simp [State.outer_mk, State.outer_fold]
@[simp] theorem Work.rawDeskFrame_outer (f : List Byte) (w : Work) : (Work.rawDeskFrame f w).toState.outer = w.toState.outer := by
  simp only [Work.rawDeskFrame]
  repeat' split
  all_goals first | rfl | simp [State.outer_mk, State.outer_fold]

end Sys2Proof.Machine
end

