-- ==== Sys2Proof/Laws/Run.lean ====
section
/-! SUPPORT. How a step ends: with no report waiting, a step is its operation alone; and what a request frame that
arrives at an open port comes to. -/

namespace Sys2Proof.Machine

/-- A late answer of a card has no effect (R133, R140). -/
@[simp] theorem Work.takeAnswer_late (i : SlotId) (acts : SlotId → Work → Work) (w : Work) :
    Work.takeAnswer ⟨i, true⟩ acts w = w := rfl

/-- Any other answer acts on its slot. -/
@[simp] theorem Work.takeAnswer_current (i : SlotId) (acts : SlotId → Work → Work) (w : Work) :
    Work.takeAnswer ⟨i, false⟩ acts w = acts i w := rfl

/-- What its act keeps, an answer keeps. -/
theorem Work.takeAnswer_keeps {β : Type} (f : Work → β) (a : CardAnswer) (acts : SlotId → Work → Work) (w : Work)
    (h : f (acts a.slot w) = f w) : f (Work.takeAnswer a acts w) = f w := by
  simp only [Work.takeAnswer]
  split
  · rfl
  · exact h

/-- With no report waiting nothing is taken. -/
theorem Work.settle_nil (w : Work) (h : w.bus = []) : w.settle = w := by
  simp only [Work.settle, Work.drain, h]

/-- The first report waiting is handled first. -/
theorem Work.drain_cons (k : Nat) (w : Work) (r : Report) (rest : List Report) (h : w.bus = r :: rest) :
    Work.drain (k + 1) w = Work.drain k (({ w with bus := rest } : Work).handle r) := by
  simp only [Work.drain, h]

/-- While the warning sequence stands as it is, the end of a step adds nothing to it. -/
theorem Work.finishWarning_steady (w : Work) (h : w.toState.steady) : w.finishWarning = w := by
  simp only [Work.finishWarning]
  split
  · rename_i r hr
    obtain ⟨h1, h2⟩ := h r hr
    subst h1
    rw [h2]
    have : ({ Responses.delivered false with cw := false } : Responses).allDone = false := by decide
    rw [if_neg (by rw [this]; decide)]
    obtain ⟨s, b⟩ := w
    obtain ⟨a1, ⟨p, l, q⟩, a3, a4, a5, a6, a7, a8, a9, a10, a11, a12, a13, a14, a15⟩ := s
    simp only at hr
    subst hr
    rfl
  · rfl

/-- A step whose operation leaves no report and a warning sequence that stands as it is: the operation alone. -/
theorem run_quiet (op : Work → Work) (s : State) (hb : (op { toState := s, bus := [] }).bus = [])
    (hs : (op { toState := s, bus := [] }).toState.steady) : run op s = (op { toState := s, bus := [] }).toState := by
  simp only [run]
  rw [Work.settle_nil _ hb, Work.finishWarning_steady _ hs]

/-- A step whose operation leaves one report, which leaves none. -/
theorem run_one (op : Work → Work) (s : State) (r : Report) (hb : (op { toState := s, bus := [] }).bus = [r])
    (hb' : (({ op { toState := s, bus := [] } with bus := [] } : Work).handle r).bus = [])
    (hs : (({ op { toState := s, bus := [] } with bus := [] } : Work).handle r).toState.steady) :
    run op s = (({ op { toState := s, bus := [] } with bus := [] } : Work).handle r).toState := by
  simp only [run, Work.settle]
  rw [Work.drain_cons _ _ _ _ hb]
  have := Work.settle_nil _ hb'
  simp only [Work.drain, hb']
  rw [Work.finishWarning_steady _ hs]

/-- A frame that arrives at an open port outside HALT is judged as it stands, once its bytes have been clocked. -/
theorem Work.hostFrame_open (kind tag : Byte) (p : List Byte) (s : State) (h : s.portOpen)
    (hp : p.length ≤ Config.maxPayload) (hw : s.pwc.power ≠ .halt) :
    Work.hostFrame kind tag p { toState := s, bus := [] } =
      Work.judge kind tag p { toState := s.heard (p.length + 7), bus := [] } := by
  obtain ⟨hr, hm, ho⟩ := h
  have h1 := s.shiftOuts_outstanding (p.length + 7)
  have ho' : ¬ Config.maxReplies ≤ (s.heard (p.length + 7)).cp.outstanding := by
    simp only [State.heard, Cp.outstanding] at h1 ho ⊢; omega
  have hw' : (s.heard (p.length + 7)).pwc.power ≠ .halt := by
    simp only [State.heard, State.shiftOuts_pwc]; exact hw
  have hb : (({ toState := s, bus := [] } : Work).shiftOuts (p.length + 7)).endStrays =
      { toState := s.heard (p.length + 7), bus := [] } := by
    have hbusy : (s.shiftOuts (p.length + 7)).cp.busy = true := s.shiftOuts_busy (p.length + 6)
    simp only [Work.endStrays, State.heard, Work.shiftOuts, ← hbusy]
  simp only [Work.hostFrame, hr, hm, hp, if_true, hb, Work.take, Work.wakeForFrame, hw', if_false, ho']

/-- Every request has the kind byte the catalogue gives it. -/
theorem Request.ofKind_kind (r : Request) : Request.ofKind r.kind = some r := by cases r <;> rfl

/-- The steady part of the state is not CP's. -/
theorem State.steady_congr {s t : State} (h1 : t.pwc = s.pwc) (h2 : t.cw = s.cw) (h : s.steady) : t.steady := by
  intro r hr
  rw [h1] at hr
  rw [h2]
  exact h r hr

/-- A request at an open port in RUN or QUIET reaches its owner; where the owner refuses, the reply carries the code alone
and nothing else changes. -/
theorem request_refused (r : Request) (tag : Byte) (p : List Byte) (s : State) (c : Result) (h : s.answers)
    (hp : p.length ≤ Config.maxPayload) (hl : r.allows p.length = true) (h1 : r ≠ .noticeMaskSet) (h2 : r ≠ .resetPart)
    (ho : r.owner p { toState := s.heard (p.length + 7), bus := [] } = .refused c) :
    request r tag p s = .next ((s.heard (p.length + 7)).answered r tag [c.byte]) := by
  obtain ⟨ha, hs, hw⟩ := h
  have hw1 : s.pwc.power ≠ .halt := by rcases hw with hw | hw <;> rw [hw] <;> decide
  have hw2 : s.pwc.power ≠ .failsafe := by rcases hw with hw | hw <;> rw [hw] <;> decide
  have hj : Work.hostFrame r.kind tag p { toState := s, bus := [] } =
      (({ toState := s.heard (p.length + 7), bus := [] } : Work).reply (replyKind r.kind) tag [c.byte]) := by
    rw [Work.hostFrame_open _ _ _ _ ha hp hw1]
    have hf : (s.heard (p.length + 7)).pwc.power ≠ .failsafe := by
      simp only [State.heard, State.shiftOuts_pwc]; exact hw2
    simp only [Work.judge, Request.ofKind_kind, hl, Bool.true_eq_false, if_false, hf, false_and]
    have : ∀ w : Work, w.decide r tag p = w.answer r tag (r.owner p w) := by
      intro w; cases r <;> first | rfl | exact absurd rfl h1 | exact absurd rfl h2
    rw [this, ho]
    rfl
  simp only [request]
  rw [run_quiet]
  · rw [hj]; rfl
  · rw [hj]; rfl
  · rw [hj]; exact State.steady_congr (s.shiftOuts_pwc _) (s.shiftOuts_cw _) hs

/-- A request at an open port in RUN or QUIET reaches its owner; where the owner takes it and posts no report, the reply
carries OK and the content after what the owner did. -/
theorem request_taken (r : Request) (tag : Byte) (p : List Byte) (s : State) (v : Work) (body : List Byte)
    (h : s.answers) (hp : p.length ≤ Config.maxPayload) (hl : r.allows p.length = true) (h1 : r ≠ .noticeMaskSet)
    (h2 : r ≠ .resetPart) (ho : r.owner p { toState := s.heard (p.length + 7), bus := [] } = .taken v body)
    (hb : v.settle.bus = []) (hs : v.settle.toState.steady) :
    request r tag p s = .next (v.settle.toState.answered r tag (0 :: body)) := by
  obtain ⟨ha, _, hw⟩ := h
  have hw1 : s.pwc.power ≠ .halt := by rcases hw with hw | hw <;> rw [hw] <;> decide
  have hw2 : s.pwc.power ≠ .failsafe := by rcases hw with hw | hw <;> rw [hw] <;> decide
  have hj : Work.hostFrame r.kind tag p { toState := s, bus := [] } =
      v.settle.reply (replyKind r.kind) tag (0 :: body) := by
    rw [Work.hostFrame_open _ _ _ _ ha hp hw1]
    have hf : (s.heard (p.length + 7)).pwc.power ≠ .failsafe := by
      simp only [State.heard, State.shiftOuts_pwc]; exact hw2
    simp only [Work.judge, Request.ofKind_kind, hl, Bool.true_eq_false, if_false, hf, false_and]
    have : ∀ w : Work, w.decide r tag p = w.answer r tag (r.owner p w) := by
      intro w; cases r <;> first | rfl | exact absurd rfl h1 | exact absurd rfl h2
    rw [this, ho]
    rfl
  simp only [request]
  rw [run_quiet]
  · rw [hj]; rfl
  · rw [hj]; exact hb
  · rw [hj]; exact State.steady_congr rfl rfl hs

/-- Every command answers a next state. -/
theorem exec_next (c : Instr) (s : State) : ∃ t, exec c s = .next t := by cases c <;> exact ⟨_, rfl⟩

end Sys2Proof.Machine
end

