-- ==== Sys2Proof/Laws/Table.lean ====
section
/-! SUPPORT. The shot table and the page pool: what the operations of BM on rows, indices, numbers and pages keep (R1, R2,
R7, R12). -/

namespace Sys2Proof.Machine

/-! ### The free set -/

theorem insertPage_perm (p : Nat) (l : List Nat) : (insertPage p l).Perm (p :: l) := by
  induction l with
  | nil => exact .refl _
  | cons q l ih =>
    simp only [insertPage]
    split
    · exact .refl _
    · exact (ih.cons q).trans (.swap _ _ _)

/-- Pages returned to the free set are the pages and those that were free (R1). -/
theorem returned_perm (ps l : List Nat) : (ps.foldr insertPage l).Perm (ps ++ l) := by
  induction ps with
  | nil => exact .refl _
  | cons p ps ih => exact (insertPage_perm p _).trans (ih.cons p)

theorem insertPage_sorted {p : Nat} {l : List Nat} (h : l.Pairwise (· < ·)) (hp : p ∉ l) :
    (insertPage p l).Pairwise (· < ·) := by
  induction l with
  | nil => simp [insertPage]
  | cons q l ih =>
    obtain ⟨hq, hl⟩ := List.pairwise_cons.1 h
    simp only [List.mem_cons, not_or] at hp
    simp only [insertPage]
    split
    · rename_i hlt
      refine List.pairwise_cons.2 ⟨fun x hx => ?_, h⟩
      rcases List.mem_cons.1 hx with rfl | hx
      · exact hlt
      · exact Nat.lt_trans hlt (hq x hx)
    · refine List.pairwise_cons.2 ⟨fun x hx => ?_, ih hl hp.2⟩
      rcases List.mem_cons.1 ((insertPage_perm p l).mem_iff.1 hx) with rfl | hx
      · omega
      · exact hq x hx

/-- The free set stays in ascending order when pages that are not in it return, each once (R1). -/
theorem returned_sorted {ps l : List Nat} (h : l.Pairwise (· < ·)) (hn : (ps ++ l).Nodup) :
    (ps.foldr insertPage l).Pairwise (· < ·) := by
  induction ps with
  | nil => exact h
  | cons p ps ih =>
    obtain ⟨hp, hn⟩ := List.nodup_cons.1 hn
    exact insertPage_sorted (ih hn) fun hm => hp ((returned_perm ps l).mem_iff.1 hm)

/-! ### Rows -/

theorem Bm.row?_some {b : Bm} {i : Nat} {r : Row} (h : b.row? i = some r) : r ∈ b.rows ∧ r.index = i :=
  ⟨List.mem_of_find?_eq_some h, by simpa using List.find?_some h⟩

theorem Bm.row?_none {b : Bm} {i : Nat} (h : b.row? i = none) : i ∉ b.rows.map Row.index := by
  simp only [Bm.row?, List.find?_eq_none, decide_eq_true_eq] at h
  simpa using h

/-- With distinct indices a row is found by its index (R7). -/
theorem Bm.row?_of_mem {b : Bm} {r : Row} (h : (b.rows.map Row.index).Nodup) (hr : r ∈ b.rows) :
    b.row? r.index = some r := by
  obtain ⟨x, hx⟩ : ∃ x, b.row? r.index = some x := by
    cases hc : b.row? r.index with
    | some x => exact ⟨x, rfl⟩
    | none => exact absurd (List.mem_map_of_mem (f := Row.index) hr) (Bm.row?_none hc)
  have := List.inj_on_of_nodup_map h (Bm.row?_some hx).1 hr (Bm.row?_some hx).2
  rw [hx, this]

@[simp] theorem Bm.mapRow_free (b : Bm) (i : Nat) (f : Row → Row) : (b.mapRow i f).free = b.free := rfl
@[simp] theorem Bm.mapRow_nextNumber (b : Bm) (i : Nat) (f : Row → Row) : (b.mapRow i f).nextNumber = b.nextNumber := rfl
@[simp] theorem Bm.remove_free (b : Bm) (i : Nat) : (b.remove i).free = b.free := rfl
@[simp] theorem Bm.remove_nextNumber (b : Bm) (i : Nat) : (b.remove i).nextNumber = b.nextNumber := rfl

/-- What a change of one row leaves of an item of every row. -/
theorem Bm.mapRow_map {α : Type} (g : Row → α) {f : Row → Row} (b : Bm) (i : Nat) (h : ∀ r, g (f r) = g r) :
    (b.mapRow i f).rows.map g = b.rows.map g := by
  simp only [Bm.mapRow, List.map_map]
  refine List.map_congr_left fun r _ => ?_
  simp only [Function.comp_apply]
  split <;> simp [h]

theorem Bm.mapRow_filterMap {α : Type} (g : Row → Option α) {f : Row → Row} (b : Bm) (i : Nat) (h : ∀ r, g (f r) = g r) :
    (b.mapRow i f).rows.filterMap g = b.rows.filterMap g := by
  simp only [Bm.mapRow, List.filterMap_map]
  refine List.filterMap_congr fun r _ => ?_
  simp only [Function.comp_apply]
  split <;> simp [h]

/-- The table around the row with an index: the rows before it, the row, and the rows after it (R7). -/
theorem Bm.split_row {b : Bm} {i : Nat} {r : Row} (h : (b.rows.map Row.index).Nodup) (hr : b.row? i = some r) :
    ∃ x y, b.rows = x ++ r :: y ∧ (∀ f, (b.mapRow i f).rows = x ++ f r :: y) ∧ (b.remove i).rows = x ++ y := by
  obtain ⟨hm, rfl⟩ := Bm.row?_some hr
  obtain ⟨x, y, hxy⟩ := List.append_of_mem hm
  rw [hxy] at h
  simp only [List.map_append, List.map_cons, List.nodup_append, List.nodup_cons, List.mem_map, List.mem_cons] at h
  have hx : ∀ z ∈ x, z.index ≠ r.index := fun z hz e => h.2.2 _ ⟨z, hz, rfl⟩ _ (.inl rfl) e
  have hy : ∀ z ∈ y, z.index ≠ r.index := fun z hz e => h.2.1.1 ⟨z, hz, e⟩
  refine ⟨x, y, hxy, fun f => ?_, ?_⟩
  · have hx' : x.map (fun z => if z.index = r.index then f z else z) = x := by
      rw [List.map_congr_left (g := id) fun z hz => by simp [hx z hz], List.map_id]
    have hy' : y.map (fun z => if z.index = r.index then f z else z) = y := by
      rw [List.map_congr_left (g := id) fun z hz => by simp [hy z hz], List.map_id]
    simp [Bm.mapRow, hxy, hx', hy']
  · simp only [Bm.remove, hxy, List.filter_append, List.filter_cons]
    rw [List.filter_eq_self.2 fun z hz => by simp [hx z hz], List.filter_eq_self.2 fun z hz => by simp [hy z hz]]
    simp

/-! ### Indices and numbers -/

/-- The table holds at most 128 rows (R7). -/
theorem Bm.indices_length {b : Bm} (h : b.indicesOk) : b.rows.length ≤ Config.tableRows := by
  have hs : (b.rows.map Row.index) ⊆ List.range Config.tableRows := fun i hi => by
    obtain ⟨r, hr, rfl⟩ := List.mem_map.1 hi
    exact List.mem_range.2 (h.2 r hr)
  simpa using (h.1.subperm hs).length_le

/-- The index of a granted allocation is in no row's use (R7). -/
theorem Bm.freeIndex_spec {b : Bm} (h : b.indicesOk) (hl : b.rows.length < Config.tableRows) :
    b.freeIndex < Config.tableRows ∧ b.freeIndex ∉ b.rows.map Row.index := by
  have hf : ∃ i, (List.range Config.tableRows).find? (fun i => (b.row? i).isNone) = some i := by
    by_contra hc
    have hn := Option.eq_none_iff_forall_ne_some.2 fun i hi => hc ⟨i, hi⟩
    rw [List.find?_eq_none] at hn
    have hs : List.range Config.tableRows ⊆ b.rows.map Row.index := fun i hi => by
      by_contra hm
      refine hn i hi ?_
      cases hr : b.row? i with
      | none => rfl
      | some r => exact absurd (List.mem_map.2 ⟨r, Bm.row?_some hr⟩) hm
    have := (List.nodup_range.subperm hs).length_le
    simp at this
    omega
  obtain ⟨i, hi⟩ := hf
  have hfree : b.freeIndex = i := by simp only [Bm.freeIndex, hi, Option.getD_some]
  rw [hfree]
  refine ⟨List.mem_range.1 (List.mem_of_find?_eq_some hi), Bm.row?_none ?_⟩
  simpa using List.find?_some hi

/-- The number after `n`, counted from 0 round the range (R12). -/
theorem numberAfter_spec {n : Nat} (h : 1 ≤ n ∧ n ≤ Config.maxShot) :
    1 ≤ numberAfter n ∧ numberAfter n ≤ Config.maxShot ∧ numberAfter n - 1 = (n - 1 + 1) % Config.maxShot := by
  unfold numberAfter
  by_cases hn : n = Config.maxShot
  · simp [hn, Config.maxShot]
  · rw [if_neg hn]
    simp only [Config.maxShot] at *
    omega

theorem Bm.numbered?_none {b : Bm} {n : Nat} (h : (b.numbered? n).isSome = false) : n ∉ b.rows.filterMap Row.number := by
  simp only [Bm.numbered?, Option.isSome_eq_false_iff, Option.isNone_iff_eq_none, List.find?_eq_none,
    decide_eq_true_eq] at h
  simpa using h

/-- The numbers that are tried from `n` on lie in the range, and within `k` steps one is free, or all of them are taken. -/
theorem Bm.freeNumber_spec (b : Bm) : ∀ (k n : Nat), 1 ≤ n ∧ n ≤ Config.maxShot →
    (1 ≤ b.freeNumber k n ∧ b.freeNumber k n ≤ Config.maxShot) ∧
    (b.freeNumber k n ∉ b.rows.filterMap Row.number ∨
      ∀ j < k, (n - 1 + j) % Config.maxShot + 1 ∈ b.rows.filterMap Row.number) := by
  intro k
  induction k with
  | zero => exact fun n h => ⟨h, .inr (by omega)⟩
  | succ k ih =>
    intro n h
    simp only [Bm.freeNumber]
    split
    · rename_i ht
      obtain ⟨h1, h2, h3⟩ := numberAfter_spec h
      obtain ⟨hr, hf⟩ := ih (numberAfter n) ⟨h1, h2⟩
      refine ⟨hr, hf.imp id fun hj j hlt => ?_⟩
      cases j with
      | zero =>
        have : (n - 1 + 0) % Config.maxShot + 1 = n := by
          rw [Nat.add_zero, Nat.mod_eq_of_lt (by omega)]
          omega
        rw [this]
        obtain ⟨r, hr⟩ := Option.isSome_iff_exists.1 ht
        exact List.mem_filterMap.2 ⟨r, List.mem_of_find?_eq_some hr, by simpa using List.find?_some hr⟩
      | succ j =>
        have := hj j (by omega)
        rw [h3, Nat.mod_add_mod] at this
        rwa [show n - 1 + (j + 1) = n - 1 + 1 + j by omega]
    · rename_i ht
      exact ⟨h, .inl (Bm.numbered?_none (by simpa using ht))⟩

/-- The number a row takes is in 1..16,777,215, and no row carries it (R12). -/
theorem Bm.pickNumber_spec {b : Bm} (h : b.numbersOk) (hl : b.rows.length ≤ Config.tableRows) :
    (1 ≤ b.pickNumber ∧ b.pickNumber ≤ Config.maxShot) ∧ b.pickNumber ∉ b.rows.filterMap Row.number := by
  obtain ⟨hr, hf⟩ := b.freeNumber_spec 129 b.nextNumber (h.2 _ List.mem_cons_self)
  refine ⟨hr, hf.resolve_right fun hall => ?_⟩
  have hn : ((List.range 129).map fun j => (b.nextNumber - 1 + j) % Config.maxShot + 1).Nodup := by
    refine List.nodup_range.map_on fun x hx y hy e => ?_
    simp only [List.mem_range, Config.maxShot] at hx hy e
    omega
  have hs : ((List.range 129).map fun j => (b.nextNumber - 1 + j) % Config.maxShot + 1) ⊆
      b.rows.filterMap Row.number := fun n hm => by
    obtain ⟨j, hj, rfl⟩ := List.mem_map.1 hm
    exact hall j (List.mem_range.1 hj)
  have h1 := (hn.subperm hs).length_le
  have h2 := List.length_filterMap_le Row.number b.rows
  simp [Config.tableRows] at h1 hl
  omega

/-! ### Pages -/

/-- The pages that all chains hold. -/
theorem Bm.pages_nodup {b : Bm} (h : b.pagesOk) : (b.free ++ (b.rows.map Row.pages).flatten).Nodup :=
  h.1.nodup_iff.2 List.nodup_range

/-- Pages move between the free set and the chain of one row: what the table holds stands when what the row loses is what
the free set gains, or the other way about (R1, R2). -/
theorem Bm.pagesOk_move {b c : Bm} {x y : List Row} {r r' : Row} (h : b.pagesOk) (hb : b.rows = x ++ r :: y)
    (hc : c.rows = x ++ r' :: y) (hp : (c.free ++ r'.pages).Perm (b.free ++ r.pages)) (hs : c.free.Pairwise (· < ·)) :
    c.pagesOk := by
  refine ⟨.trans ?_ h.1, hs⟩
  rw [hb, hc]
  simp only [List.map_append, List.map_cons, List.flatten_append, List.flatten_cons]
  have e (f p u v : List Nat) : (f ++ (u ++ (p ++ v))).Perm ((f ++ p) ++ (u ++ v)) := by
    rw [List.append_assoc]
    exact (List.perm_append_comm_assoc u p v).append_left f
  exact (e _ _ _ _).trans ((hp.append_right _).trans (e _ _ _ _).symm)

/-- The pages that a row gives back (R16): the free set takes them, and each page is in one place as before. -/
theorem Bm.pagesOk_give {b c : Bm} {x y : List Row} {r r' : Row} {ps : List Nat} (h : b.pagesOk)
    (hb : b.rows = x ++ r :: y) (hc : c.rows = x ++ r' :: y) (hf : c.free = ps.foldr insertPage b.free)
    (hp : r.pages.Perm (ps ++ r'.pages)) : c.pagesOk := by
  refine Bm.pagesOk_move h hb hc ?_ ?_
  · rw [hf]
    refine ((returned_perm ps b.free).append_right _).trans (.trans ?_ (hp.symm.append_left _))
    rw [List.append_assoc]
    exact (List.perm_append_comm_assoc ps b.free r'.pages)
  · rw [hf]
    refine returned_sorted h.2 ?_
    have hn := Bm.pages_nodup h
    rw [hb] at hn
    simp only [List.map_append, List.map_cons, List.flatten_append, List.flatten_cons, List.nodup_append,
      List.mem_append] at hn ⊢
    obtain ⟨h1, ⟨-, ⟨h3, -⟩, -⟩, h5⟩ := hn
    have h3 := (hp.nodup_iff.1 h3)
    refine ⟨(List.nodup_append.1 h3).1, h1, fun p hp' q hq e => ?_⟩
    exact h5 q hq p (.inr (.inl (hp.mem_iff.2 (List.mem_append_left _ hp')))) e.symm

/-- The lowest free pages go to a row that had none of them (R2): each page is in one place as before. -/
theorem Bm.pagesOk_take {b c : Bm} {x y : List Row} {r r' : Row} {n : Nat} (h : b.pagesOk) (hb : b.rows = x ++ r :: y)
    (hc : c.rows = x ++ r' :: y) (hf : c.free = b.free.drop n) (hp : r'.pages.Perm (b.free.take n ++ r.pages)) :
    c.pagesOk := by
  refine Bm.pagesOk_move h hb hc ?_ ?_
  · rw [hf]
    refine (hp.append_left _).trans ?_
    rw [← List.append_assoc]
    exact (List.perm_append_comm.trans (.of_eq (List.take_append_drop n b.free))).append_right _
  · rw [hf]
    exact h.2.sublist (List.drop_sublist n b.free)

/-- A row that joins the order with the lowest free pages (R3). -/
theorem Bm.pagesOk_join {b c : Bm} {r : Row} {n : Nat} (h : b.pagesOk) (hc : c.rows = b.rows ++ [r])
    (hf : c.free = b.free.drop n) (hp : r.pages = b.free.take n) : c.pagesOk := by
  refine ⟨.trans ?_ h.1, hf ▸ h.2.sublist (List.drop_sublist n b.free)⟩
  rw [hc, hf]
  simp only [List.map_append, List.map_cons, List.map_nil, List.flatten_append, List.flatten_cons, List.flatten_nil,
    List.append_nil, hp]
  refine (List.perm_append_comm.append_left _).trans ?_
  rw [← List.append_assoc]
  exact (List.perm_append_comm.trans (.of_eq (List.take_append_drop n b.free))).append_right _

/-- A row without pages leaves the table (R7). -/
theorem Bm.pagesOk_leave {b c : Bm} {x y : List Row} {r : Row} (h : b.pagesOk) (hb : b.rows = x ++ r :: y)
    (hc : c.rows = x ++ y) (hf : c.free = b.free) (hp : r.pages = []) : c.pagesOk := by
  have hrows : c.free ++ (c.rows.map Row.pages).flatten = b.free ++ (b.rows.map Row.pages).flatten := by
    simp [hb, hc, hf, hp]
  exact ⟨hrows ▸ h.1, hf ▸ h.2⟩

/-! ### The operations of BM -/

/-- Distinct indices and numbers, and every page in one place. -/
def Bm.sound (b : Bm) : Prop := b.indicesOk ∧ b.numbersOk ∧ b.pagesOk

/-- A change of one row that leaves its index, number and pages. -/
theorem Bm.mapRow_sound {b : Bm} (i : Nat) {f : Row → Row} (h : b.sound) (hi : ∀ r, (f r).index = r.index)
    (hn : ∀ r, (f r).number = r.number) (hp : ∀ r, (f r).pages = r.pages) : (b.mapRow i f).sound := by
  obtain ⟨⟨h1, h2⟩, ⟨h3, h4⟩, h5, h6⟩ := h
  have e1 := Bm.mapRow_map Row.index b i hi
  have e2 := Bm.mapRow_filterMap Row.number b i hn
  have e3 := Bm.mapRow_map Row.pages b i hp
  refine ⟨⟨e1 ▸ h1, fun r hr => ?_⟩, ⟨e2 ▸ h3, ?_⟩, ?_, h6⟩
  · obtain ⟨x, hx, hxr⟩ := List.mem_map.1 (e1 ▸ List.mem_map_of_mem (f := Row.index) hr)
    exact hxr ▸ h2 x hx
  · rw [e2]
    exact h4
  · rw [e3]
    exact h5

/-- A row of a sound table changed to one of the same index whose number is none, its own, or one that no row carries. -/
theorem Bm.sound_replace {b c : Bm} {x y : List Row} {r r' : Row} (h : b.sound) (hb : b.rows = x ++ r :: y)
    (hc : c.rows = x ++ r' :: y) (hi : r'.index = r.index) (hp : c.pagesOk)
    (hn : 1 ≤ c.nextNumber ∧ c.nextNumber ≤ Config.maxShot)
    (hr : ∀ n, r'.number = some n →
      r.number = some n ∨ (n ∉ b.rows.filterMap Row.number ∧ 1 ≤ n ∧ n ≤ Config.maxShot)) : c.sound := by
  obtain ⟨⟨h1, h2⟩, ⟨h3, h4⟩, -⟩ := h
  have e : c.rows.map Row.index = b.rows.map Row.index := by simp [hb, hc, hi]
  refine ⟨⟨e ▸ h1, fun z hz => ?_⟩, ⟨?_, fun n hm => ?_⟩, hp⟩
  · obtain ⟨w, hw, hwz⟩ := List.mem_map.1 (e ▸ List.mem_map_of_mem (f := Row.index) hz)
    exact hwz ▸ h2 w hw
  · rw [hc]
    rw [hb] at h3 hr
    simp only [List.filterMap_append, List.filterMap_cons] at h3 hr ⊢
    cases hn' : r'.number with
    | none =>
      refine List.Nodup.sublist ?_ h3
      cases r.number <;> simp
    | some n =>
      have := hr n hn'
      cases hn0 : r.number with
      | none =>
        simp only [hn0, reduceCtorEq, false_or] at this h3
        rw [List.nodup_middle, List.nodup_cons]
        exact ⟨this.1, h3⟩
      | some k =>
        simp only [hn0, Option.some.injEq] at this h3
        rw [List.nodup_middle, List.nodup_cons] at h3 ⊢
        refine ⟨?_, h3.2⟩
        rcases this with rfl | this
        · exact h3.1
        · intro hm
          refine this.1 ?_
          rw [List.mem_append] at hm ⊢
          exact hm.imp_right (List.mem_cons_of_mem _)
  · rcases List.mem_cons.1 hm with rfl | hm
    · exact hn
    · rw [hc, List.filterMap_append, List.mem_append, List.filterMap_cons] at hm
      have hold : ∀ m, m ∈ x.filterMap Row.number ∨ m ∈ y.filterMap Row.number → 1 ≤ m ∧ m ≤ Config.maxShot := by
        intro m hm
        refine h4 m (List.mem_cons_of_mem _ ?_)
        rw [hb, List.filterMap_append, List.mem_append]
        refine hm.imp_right fun hm => ?_
        obtain ⟨z, hz, hzm⟩ := List.mem_filterMap.1 hm
        exact List.mem_filterMap.2 ⟨z, List.mem_cons_of_mem _ hz, hzm⟩
      cases hn' : r'.number with
      | none =>
        rw [hn'] at hm
        exact hold n hm
      | some k =>
        rw [hn'] at hm
        rcases hm with hm | hm
        · exact hold n (.inl hm)
        · rcases List.mem_cons.1 hm with rfl | hm
          · rcases hr n hn' with hr | hr
            · refine h4 n (List.mem_cons_of_mem _ ?_)
              rw [hb]
              exact List.mem_filterMap.2 ⟨r, by simp, hr⟩
            · exact hr.2
          · exact hold n (.inr hm)

/-- A row that leaves a sound table without pages (R7). -/
theorem Bm.remove_sound {b : Bm} {i : Nat} {r : Row} (h : b.sound) (hr : b.row? i = some r) (hp : r.pages = []) :
    (b.remove i).sound := by
  obtain ⟨x, y, hb, -, hc⟩ := Bm.split_row h.1.1 hr
  have hs : (b.remove i).rows.Sublist b.rows := List.filter_sublist
  exact ⟨⟨h.1.1.sublist (hs.map _), fun z hz => h.1.2 z (hs.subset hz)⟩,
    ⟨h.2.1.1.sublist (hs.filterMap _), fun n hn => h.2.1.2 n (by
      rcases List.mem_cons.1 hn with rfl | hn
      · exact List.mem_cons_self
      · exact List.mem_cons_of_mem _ ((hs.filterMap _).subset hn))⟩,
    Bm.pagesOk_leave h.2.2 hb hc rfl hp⟩

/-- The release of a raw chain returns its pages and leaves the row without it (R16). -/
theorem Work.releaseRaw_sound (i : Nat) {w : Work} (h : w.bm.sound) : (w.releaseRaw i).bm.sound := by
  unfold Work.releaseRaw
  split
  · rename_i c hc
    obtain ⟨r, hr, hrc⟩ := Option.bind_eq_some_iff.1 hc
    obtain ⟨x, y, hb, hm, -⟩ := Bm.split_row h.1.1 hr
    refine Bm.sound_replace h hb (hm fun r => { r with raw := none }) rfl ?_ (h.2.1.2 _ List.mem_cons_self) fun n hn => .inl hn
    exact Bm.pagesOk_give h.2.2 hb (hm _) rfl (by simp [Row.pages, Row.pagesOf, hrc])
  · exact h

/-- The release of a proof chain returns its pages and leaves the row without it (R16). -/
theorem Work.releaseProof_sound (i : Nat) {w : Work} (h : w.bm.sound) : (w.releaseProof i).bm.sound := by
  unfold Work.releaseProof
  split
  · rename_i c hc
    obtain ⟨r, hr, hrc⟩ := Option.bind_eq_some_iff.1 hc
    obtain ⟨x, y, hb, hm, -⟩ := Bm.split_row h.1.1 hr
    refine Bm.sound_replace h hb (hm fun r => { r with proof := none }) rfl ?_ (h.2.1.2 _ List.mem_cons_self) fun n hn => .inl hn
    exact Bm.pagesOk_give h.2.2 hb (hm _) rfl (by
      simpa [Row.pages, Row.pagesOf, hrc] using List.perm_append_comm)
  · exact h

/-- A granted raw allocation adds a row of its own index with the lowest 41 free pages (R3, R7). -/
theorem Work.createRow_sound {i : Nat} (origin : Origin) (burst : Nat) (ring : Bool) (look : Nat) {w : Work}
    (h : w.bm.sound) (hg : w.judgeRaw = .granted i) : (w.createRow i origin burst ring look).bm.sound := by
  have hg : w.bm.rows.length < Config.tableRows ∧ i = w.bm.freeIndex := by
    simp only [Work.judgeRaw] at hg
    split at hg
    · cases hg
    · split at hg
      · cases hg
      · split at hg
        · cases hg
        · exact ⟨by omega, by injection hg with hg; exact hg.symm⟩
  obtain ⟨hl, rfl⟩ := hg
  obtain ⟨hlt, hnew⟩ := Bm.freeIndex_spec h.1 hl
  refine ⟨⟨?_, ?_⟩, ⟨?_, ?_⟩, Bm.pagesOk_join (r := Row.fresh w.bm.freeIndex origin burst ring look
    (w.bm.free.take Config.rawPages)) h.2.2 rfl rfl (by simp [Row.pages, Row.pagesOf, Row.fresh])⟩
  · simp only [Work.createRow, Work.takePages, Work.post, List.map_append, List.map_cons, List.map_nil]
    exact List.nodup_append.2 ⟨h.1.1, by simp, fun a ha b hb e => hnew (by
      rw [List.mem_singleton] at hb
      rw [show w.bm.freeIndex = a from (e.trans hb).symm]
      exact ha)⟩
  · intro r hr
    rcases List.mem_append.1 hr with hr | hr
    · exact h.1.2 r hr
    · rw [List.mem_singleton.1 hr]
      exact hlt
  · simpa [Work.createRow, Work.takePages, Work.post, Row.fresh] using h.2.1.1
  · intro n hn
    refine h.2.1.2 n ?_
    simpa [Work.createRow, Work.takePages, Work.post, Row.fresh] using hn

/-- A proof allocation for a row without a proof chain takes the lowest 12 free pages (R4). -/
theorem Work.proofAlloc_sound {i : Nat} {r : Row} {w v : Work} (h : w.bm.sound) (hr : w.bm.row? i = some r)
    (hp : r.proof = none) (hv : w.proofAlloc i = some v) : v.bm.sound := by
  unfold Work.proofAlloc at hv
  split at hv
  · cases hv
    obtain ⟨x, y, hb, hm, -⟩ := Bm.split_row h.1.1 hr
    refine Bm.sound_replace h hb (hm fun r => { r with
        proof := some { pages := w.bm.free.take Config.proofPages, length := Config.proofLength, frontier := 0 } })
      rfl ?_ (h.2.1.2 _ List.mem_cons_self) fun n hn => .inl hn
    exact Bm.pagesOk_take h.2.2 hb (hm _) rfl (by
      simpa [Row.pages, Row.pagesOf, hp] using List.perm_append_comm)
  · cases hv

/-- Numbering gives a row a number that no row carries (R12). -/
theorem Work.numberRow_sound {i : Nat} {r : Row} {w : Work} (h : w.bm.sound) (hr : w.bm.row? i = some r) :
    (w.numberRow i).bm.sound := by
  obtain ⟨hn, hf⟩ := Bm.pickNumber_spec h.2.1 (Bm.indices_length h.1)
  obtain ⟨x, y, hb, hm, -⟩ := Bm.split_row h.1.1 hr
  have ha := numberAfter_spec hn
  refine Bm.sound_replace h hb (hm fun r => { r with number := some w.bm.pickNumber }) rfl ?_ ⟨ha.1, ha.2.1⟩ fun n hn' => ?_
  · have e := Bm.mapRow_map Row.pages w.bm i (f := fun r => { r with number := some w.bm.pickNumber }) fun _ => rfl
    refine ⟨?_, h.2.2.2⟩
    change (w.bm.free ++ ((w.bm.mapRow i _).rows.map Row.pages).flatten).Perm _
    rw [e]
    exact h.2.2.1
  · cases hn'
    exact .inr ⟨hf, hn⟩

/-- The release check and the settle check keep the table sound (R16, R17). -/
theorem Work.check_sound (i : Nat) {w : Work} (h : w.bm.sound) : (w.check i).bm.sound := by
  have hr : (w.releaseCheck i).bm.sound := by
    unfold Work.releaseCheck
    split
    · split
      · have h1 : ∀ b : Bool, (if b then w else w.releaseRaw i).bm.sound := fun b => by
          cases b
          · exact Work.releaseRaw_sound i h
          · exact h
        dsimp only
        split
        · exact h1 _
        · exact Work.releaseProof_sound i (h1 _)
      · exact h
    · exact h
  unfold Work.check Work.settleCheck
  split
  · split
    · exact Bm.mapRow_sound i hr (fun _ => rfl) (fun _ => rfl) fun _ => rfl
    · exact hr
  · exact hr

/-- A report of DE on a develop duty keeps the table sound (R9). -/
theorem Work.setDevelop_sound (i : Nat) (st : DevelopState) {w : Work} (h : w.bm.sound) :
    (w.setDevelop i st).bm.sound := by
  refine Bm.mapRow_sound i h (fun r => ?_) (fun r => ?_) fun r => ?_ <;> split <;> rfl

end Sys2Proof.Machine
end

