-- ==== Sys2Proof/Tests/Slice0.lean ====
section
/-! SUPPORT. Tests: ill-formed commands, figures worked out in the spec, and for each statement states and operands that
meet its hypotheses. -/

namespace Sys2Proof.Tests

open Sys2Proof.Machine

/-! ### States -/

/-- The part after reset. -/
def base : State := State.reset

/-- A state with another power state. -/
def inPower (p : Power) (latched : Bool) (s : State) : State :=
  { s with pwc := { power := p, latched := latched, responses := none } }

/-- A state with the given rows and sixty free pages. -/
def withRows (rows : List Row) : State :=
  { base with bm := { free := (List.range 60).map (· + 100), rows := rows, nextNumber := 2, reserve := 0, threshold := 10 } }

/-- A capture that has its row and no frame yet. -/
def exposingRow : Row := Row.fresh 0 .release 0 false 0 [0]

/-- A card duty on slot A. -/
def cardDuty (c : Chain) (st : CardState) : CardDuty :=
  { slot := .a, chain := c, state := st, pieces := [{ start := 1000, count := 82032 }], spoiled := false, cause := none,
    reassigned := false }

/-- Shot 1, HELD, with its RAW chain, waiting for slot A. -/
def heldRow : Row :=
  { exposingRow with number := some 1, life := .held, policy := some .singleA, cards := [cardDuty .raw .waitingSlot] }

/-- Shot 1 with a proof being developed. -/
def developRow (frontier : Nat) : Row :=
  { heldRow with
    develop := .running, cls := .urgent, proof := some { pages := [50], length := 12000064, frontier := frontier } }

/-- The job that develops `developRow`. -/
def job : Job :=
  { row := 0, slot := 0, look := Look.defaults, bins := List.replicate 64 0, clip := 0, cancel := false, discard := false }

/-- The part while DE develops shot 1. -/
def developing (frontier : Nat) : State :=
  { withRows [developRow frontier] with de := { De.reset with engine := .running, job := some job } }

/-- An open burst of captures. -/
def burst : BurstRecord :=
  { id := 0, firstShot := 0, captured := 1, skipBusy := 0, skipBuffer := 0, skipTable := 0, cause := .opened }

/-- The release that runs. -/
def openRelease : Release := { single := false, origin := .release, gate := .focused, granted := true, ending := none }

/-- RDU in an open burst. -/
def firingRdu : Rdu :=
  { Rdu.reset with
    drive := .firing, timer := true, record := some burst, release := some openRelease, halfPress := true, nextBurst := 1 }

/-- A burst with no capture in flight. -/
def firing : State := { withRows [] with rdu := firingRdu }

/-- A readout of the capture in row 0. -/
def readout (reading : Bool) (lines : Nat) : Readout :=
  { kind := .capture, reading := reading, row := 0, gate := .focused, frameId := if reading then some 7 else none,
    timestamp := 100, focusAt := .noLens, afTaken := false, lines := lines, bad := 0 }

/-- A burst with a capture in flight. -/
def capturing (reading : Bool) (lines : Nat) : State :=
  { withRows [exposingRow] with
    rdu := { firingRdu with capture := some { row := 0, ofBurst := true } },
    sru := { Sru.reset with readout := some (readout reading lines), startTimer := !reading, endTimer := reading } }

/-- A view frame that is requested or read. -/
def viewing (reading : Bool) : State :=
  { base with sru := { Sru.reset with
    readout := some { readout reading 0 with kind := .view }, startTimer := !reading, endTimer := reading, viewTimer := true } }

/-- A lens. -/
def lens : Descriptor := { lensMax := 20000, k16 := 400, tolerance := 10, timeout := 300 }

/-- FU with a lens in a focus state. -/
def lensFu (st : FocusState) : Fu := { Fu.reset with descriptor := some lens, known := true, position := 500, state := st }

/-- The part with a lens. -/
def withLens (f : Fu) : State := { base with fu := f }

/-- The record of frame 7. -/
def frame (formed : Option (List ZoneShape)) : FrameRecord :=
  { frameId := 7, kind := .view, timestamp := 100, settled := false, position := none, moving := false, formed := formed }

/-- A move of the lens from position 500. -/
def move (origin : MoveOrigin) (halted : Bool) : MoveRecord :=
  { target := 900, origin := origin, startPos := 500, startTime := 0, halted := halted }

/-- A slot with a card. -/
def slot (st : SlotState) : Slot := { Slot.reset with state := st, cardIn := true, capacity := some 1000000 }

/-- The part with a record in a slot. -/
def withSlot (i : SlotId) (x : Slot) : State := base.setSlot i x

/-- Slot A while it writes shot 1. -/
def writingSlot (written : Nat) : Slot :=
  { slot .writing with
    writing := some { duty := { row := 0, place := 0 }, written := written }, op := .run 1000 256 [], runsSince := 1 }

/-- The part while slot A writes shot 1. -/
def writing (written : Nat) : State :=
  { withRows [{ heldRow with develop := .pending, cards := [cardDuty .raw .writing] }] with
    cw := { Cw.reset with a := writingSlot written } }

/-- The own MAC and the desk's. -/
def ownMac : BitVec 48 := 0x020000000002
def deskMac : BitVec 48 := 0x020000000004

/-- Tether settings. -/
def tetherSettings : TetherSettings := { TetherSettings.defaults with ownMac := some ownMac }

/-- The head of a frame from the desk. -/
def head : DeskHead := { dst := ownMac, src := deskMac, etherType := 0x88B5 }

/-- TU with its link in a state. -/
def linkTu (l : Link) : Tu :=
  { Tu.reset with
    settings := tetherSettings, link := l, bound := match l with
      | .boundIdle | .sending | .finishing => some deskMac
      | .off | .down | .unbound => none }

/-- The part with TU. -/
def withTu (t : Tu) : State := { base with tu := t }

/-- An entry for shot 1. -/
def entry (k : EntryKind) (c : Chain) (row : Option Nat) (sending : Bool) : Entry :=
  { number := 1, chain := c, kind := k, row := row, sending := sending,
    source := if k = .duty then .buffer else .card,
    copy := if k = .duty then none else some { slot := .a, pieces := [{ start := 1000, count := 82032 }], length := 42000064 },
    prio := 1, early := decide (c = .proof) }

/-- A transfer of shot 1. -/
def transfer (c : Chain) (length next acked : Nat) : Transfer :=
  { id := 3, number := 1, chain := c, length := length, next := next, high := next, acked := acked, timeouts := 0, bad := 0,
    window := 32, ackTimeout := 200, crc := crc32Init, nextSector := 82032 }

/-- TU during a transfer. -/
def sendingTu (l : Link) (e : Entry) (t : Transfer) : Tu :=
  { linkTu l with queue := [e], transfer := some t, deskTimer := true }

/-! ### Ill-formed commands: one for each check of `Instr.wf` -/

theorem test_long_payload_refused : (Instr.identify 1 (List.replicate 513 0)).wf = false := by decide +kernel
theorem test_long_dropped_frame_refused : (Instr.requestDropped 1 1 (List.replicate 513 0)).wf = false := by decide +kernel
theorem test_reset_all_is_not_tether : (Instr.resetPartAll 1 [1]).wf = false := by decide
theorem test_reset_tether_is_not_all : (Instr.resetPartTether 1 [0]).wf = false := by decide
theorem test_power_run_is_not_quiet : (Instr.powerSetRun 1 [1]).wf = false := by decide
theorem test_power_run_is_not_halt : (Instr.powerSetRun 1 [2]).wf = false := by decide
theorem test_power_quiet_is_not_run : (Instr.powerSetQuiet 1 [0]).wf = false := by decide
theorem test_power_halt_is_not_run : (Instr.powerSetHalt 1 [0]).wf = false := by decide
theorem test_lens_move_is_no_halt : (Instr.lensMove 1 [1, 0, 0]).wf = false := by decide
theorem test_lens_halt_is_no_move : (Instr.lensHalt 1 [0, 0, 0]).wf = false := by decide
theorem test_tether_on_is_not_off : (Instr.tetherEnableOn 1 [0]).wf = false := by decide
theorem test_tether_off_is_not_on : (Instr.tetherEnableOff 1 [1]).wf = false := by decide
theorem test_known_kind_refused : (Instr.unknownKind 0x2D 1 []).wf = false := by decide
theorem test_no_bytes_refused : (Instr.garbledFrame []).wf = false := by decide
theorem test_too_few_zones_refused : (Instr.afBlock []).wf = false := by decide
theorem test_short_zone_refused : (Instr.afBlock (List.replicate 117 { l := [], r := [] })).wf = false := by decide
theorem test_far_position_refused : (Instr.pos 32768 false).wf = false := by decide
theorem test_far_arrival_refused : (Instr.arrived 32768).wf = false := by decide
theorem test_empty_read_refused : (Instr.readOk ⟨.a, false⟩ []).wf = false := by decide
theorem test_part_sector_refused : (Instr.readOk ⟨.a, false⟩ [0]).wf = false := by decide

/-! ### Figures of the spec -/

/-- The table of R31. -/
theorem test_reload_table : [30, 24, 15, 10, 7, 1].map reloadOf = [332, 416, 666, 999, 1428, 9999] := by decide

/-- The pixel worked after R107: Y 42, Cb 120, Cr 134. -/
theorem test_pixel_case :
    (Quad.pixel ⟨2100, 3050, 3031, 1700⟩ { Look.defaults with bl := 512, gR := 2048, gG := 1024, gB := 1536, w := 16383 }) =
      { y := 42, cb := 120, cr := 134, clipped := false } := by decide +kernel

/-- The zone worked after R79: phase 52, lens at 12,000, 81 steps to 12,081. -/
theorem test_zone_case :
    estimateOf { lensMax := 20000, k16 := 400, tolerance := 10, timeout := 300 } (some 12000)
      { validity := .valid, p16 := 52, c := 2400, d := 1600 } =
      { validity := .valid, steps := 81, target := some 12081, c := 2400, d := 1600 } := by decide

/-- A zone at the end of the range (the same case): 400 steps. -/
theorem test_out_of_range_zone :
    (estimateOf { lensMax := 20000, k16 := 400, tolerance := 10, timeout := 300 } (some 12000)
      { validity := .outOfRange, p16 := 256, c := 2400, d := 0 }).steps = 400 := by decide

/-- The pieces for one raw chain, worked after R132. -/
theorem test_pieces_case :
    takePieces 82032 [⟨100000, 50000⟩, ⟨200000, 20000⟩, ⟨300000, 40000⟩, ⟨400000, 100000⟩] =
      ([⟨100000, 50000⟩, ⟨200000, 20000⟩, ⟨300000, 12032⟩], [⟨312032, 27968⟩, ⟨400000, 100000⟩]) := by decide

/-- The sector table of R131. -/
theorem test_sector_needs : (sectorNeed .raw, sectorNeed .proof) = (82032, 23438) := by decide

/-- R161's polynomial and bit order, on the digits 1 to 9: the published check value of CRC-32. -/
theorem test_crc32 : crc32 [0x31, 0x32, 0x33, 0x34, 0x35, 0x36, 0x37, 0x38, 0x39] = 0xCBF43926#32 := by decide +kernel

/-- 08 section 8.1's polynomial and initial value, on the digits 1 to 9: the published check value. -/
theorem test_crc16 : crc16 [0x31, 0x32, 0x33, 0x34, 0x35, 0x36, 0x37, 0x38, 0x39] = 0x29B1#16 := by decide +kernel

/-- The pair worked after R107, with the neutralised neighbour: bytes 42, 124, 255, 131. -/
theorem test_pair_case :
    packPixels [{ y := 42, cb := 120, cr := 134, clipped := false },
      Quad.pixel ⟨16383, 0, 0, 0⟩ Look.defaults] = [42, 124, 255, 131] := by decide

/-- The prediction worked after R82: 12,212 at 20 steps per ms, 12,180 at 3. -/
def tracking (speed : Nat) : Fu :=
  { lensFu .tracking with
    active := { AfSettings.defaults with mode := .continuous, prediction := true }, speed := speed,
    current := some { frameId := 6, timestamp := 0, position := some 11900, valid := true, zone := some (6, 4), steps := 50,
                      target := 11950, moveTarget := 11950, predicted := false, inFocus := false } }

theorem test_prediction_case :
    [20, 3].map (fun v => predictTarget (tracking v) lens 33300 33333 12081) = [some 12212, some 12180] := by decide

/-! ### Each statement's hypotheses are met -/

theorem portOpen_of {s : State} (h : s.cp = Cp.reset) : s.portOpen := by
  unfold State.portOpen
  rw [h]
  decide

theorem steady_of {s : State} (h : s.pwc.responses = none) : s.steady := by
  intro r hr
  simp [h] at hr

theorem answers_of {s : State} (h : s.cp = Cp.reset) (h2 : s.pwc = Pwc.reset) : s.answers :=
  ⟨portOpen_of h, steady_of (by rw [h2]; rfl), .inl (by rw [h2]; rfl)⟩

/-- Whether an outcome is a next state. -/
def runs (o : Host.Outcome State Fault Refusal) : Bool :=
  match o with
  | .next _ => true
  | .fault _ | .refused _ => false

theorem next_of {o : Host.Outcome State Fault Refusal} (h : runs o = true) : ∃ t, o = .next t := by
  cases o <;> simp_all [runs]

theorem met_StepRunsTheFrontCommandOrTicks :
    (base.pending = [] ∧ base.now + 1 < 2 ^ 64) ∧
    (({ base with now := 2 ^ 64 - 1 } : State).pending = [] ∧ 2 ^ 64 ≤ ({ base with now := 2 ^ 64 - 1 } : State).now + 1) := by
  decide

theorem met_MemoryStaysCanonical : base.memoryOk ∧ ∃ t, step { base with pending := [.phyLinkUp] } = .next t :=
  ⟨(by decide : Memory.wf base.mem = true), next_of (by decide)⟩

/-- The table and the pool right after reset are sound, whatever the other blocks but DE hold. -/
theorem tableOk_of {s : State} (h : s.bm = Bm.reset) (h2 : s.de = De.reset) : s.tableOk := by
  simp only [State.tableOk, State.jobsOk, h, h2]
  refine ⟨by simp [Bm.indicesOk, Bm.reset], by simp [Bm.numbersOk, Bm.reset, Config.maxShot], ⟨?_, ?_⟩, by simp [Bm.reset], ?_⟩
  · simp [Bm.reset, List.range_eq_range']
  · simpa [Bm.reset] using List.pairwise_lt_range
  · simp [De.reset, Bm.reset]

theorem met_RowsStayDistinct :
    ({ base with rdu := firingRdu, pending := [.frameTimerExpiry] } : State).tableOk ∧
      ∃ t, step { base with rdu := firingRdu, pending := [.frameTimerExpiry] } = .next t :=
  ⟨tableOk_of rfl rfl, next_of (by decide)⟩

theorem met_RepliesStayBounded :
    ({ base with pending := [.identify 1 []] } : State).repliesOk ∧ ∃ t, step { base with pending := [.identify 1 []] } = .next t :=
  ⟨(by decide : ({ base with pending := [.identify 1 []] } : State).cp.outstanding ≤ Config.maxReplies), next_of (by decide)⟩

theorem met_WarningSequenceStaysSound :
    ({ base with pending := [.supplyWarning true] } : State).warningOk ∧
      ∃ t, step { base with pending := [.supplyWarning true] } = .next t :=
  ⟨⟨steady_of rfl, fun h => absurd rfl h, fun h => absurd h (by decide)⟩, next_of (by decide)⟩

theorem met_FailsafeEndsOnlyAtReset :
    (Instr.supplyWarning false).wf = true ∧ mayReset (.supplyWarning false) = false ∧
      (inPower .failsafe true base).cp.rx = .hunt ∧ (inPower .failsafe true base).warningOk ∧
      (inPower .failsafe true base).pwc.power = .failsafe ∧
      ∃ t, exec (.supplyWarning false) (inPower .failsafe true base) = .next t :=
  ⟨by decide, by decide, by decide, ⟨steady_of rfl, fun h => absurd rfl h, fun _ => ⟨rfl, rfl⟩⟩, rfl, next_of (by decide)⟩

theorem met_CommandsLeaveQueueAndLevels : ∃ t, exec (.supplyWarning true) base = .next t := next_of (by decide)

theorem met_BackCommandsLeaveTheFront :
    base.steady ∧ ∃ t, exec .phyLinkUp base = .next t := ⟨steady_of rfl, next_of (by decide)⟩

theorem met_BackCommandsLeaveTheFront_run : (writing 0).steady ∧ ∃ t, exec (.runOk ⟨.a, false⟩) (writing 81776) = .next t :=
  ⟨steady_of rfl, next_of (by decide)⟩

theorem met_ChainWriteReadsBack :
    Memory.wf [(3, 5), (1048576, 7)] = true ∧ [2, 0, 1].Nodup ∧
      1048570 + [(1 : Byte), 2, 3].length ≤ Config.pageBytes * [2, 0, 1].length ∧
      ∀ i, i < [(1 : Byte), 2, 3].length → chainAddr [2, 0, 1] (1048570 + i) ≠ some 9 := by decide

theorem met_IdentifyIsAlwaysAnswered :
    (base.portOpen ∧ base.steady ∧ base.pwc.power ≠ .halt) ∧
    ((inPower .halt false base).portOpen ∧ (inPower .halt false base).steady ∧ (inPower .halt false base).pwc.power = .halt ∧
      (inPower .halt false base).pwc.responses = none) :=
  ⟨⟨portOpen_of rfl, steady_of rfl, by decide⟩, portOpen_of rfl, steady_of rfl, rfl, rfl⟩

theorem met_StatusRequestsOnlyReply :
    base.answers ∧ (withRows [heldRow]).answers ∧ (withRows [heldRow]).bm.numbered? 1 = some heldRow ∧
      base.de.looks[(7 : Byte).toNat]? = some Look.defaults ∧ base.de.histogram = none ∧
      ({ base with de := { De.reset with histogram := some { shot := 1, bins := [], clip := 0 } } } : State).answers ∧
      base.de.job = none ∧ base.tu.transfer = none ∧ [true, false, false, false, true].length = 5 :=
  ⟨answers_of rfl rfl, answers_of rfl rfl, by decide, by decide, rfl, answers_of rfl rfl, rfl, rfl, rfl⟩

theorem met_NoticeMaskSetReplacesTheEnableSet :
    base.answers ∧ base.cp.enabled.length = 19 ∧ (List.replicate 19 true).length = 19 ∧
      (List.replicate 19 (2 : Byte)).length = 19 ∧ ∃ b ∈ List.replicate 19 (2 : Byte), 1 < b.toNat :=
  ⟨answers_of rfl rfl, by decide, by decide, by decide, by decide⟩

/-- Eight replies wait to be shifted out, too long for the first to leave while a request arrives. -/
def owing : State :=
  { base with cp := { Cp.reset with queue := List.replicate 8 (.reply 0x81 1 (List.replicate 14 0)) } }

theorem met_RequestsAreJudgedInOrder :
    (owing.steady ∧ owing.pwc.power ≠ .halt ∧ owing.cp.rx = .hunt ∧ owing.cp.muted = false ∧
      8 ≤ (owing.heard 7).cp.outstanding) ∧
    (base.steady ∧ base.pwc.power ≠ .halt ∧ base.portOpen ∧ (0x2E : Byte).toNat > 0x2D ∧ (0x80 : Byte).toNat > 0x2D) ∧
    Request.identify.allows [(1 : Byte)].length = false ∧
    ((inPower .failsafe true base).steady ∧ (inPower .failsafe true base).portOpen ∧
      (inPower .failsafe true base).pwc.power = .failsafe ∧ Request.poolStatus.allows ([] : List Byte).length = true ∧
      Request.poolStatus ∉ [.identify, .portStatus, .shotGet, .shotList, .slotStatus, .resetPart]) :=
  ⟨⟨steady_of rfl, by decide, by decide, by decide, by decide⟩,
    ⟨steady_of rfl, by decide, portOpen_of rfl, by decide, by decide⟩, by decide,
    steady_of rfl, portOpen_of rfl, rfl, by decide, by decide⟩

theorem met_GarbledFramesAreCounted :
    base.steady ∧ base.cp.rx = .hunt ∧ base.cp.muted = false ∧ [(7 : Byte)] ≠ [] ∧
      (∀ b ∈ [(7 : Byte)], b ≠ 0xA5 ∧ b ≠ 0xFF) ∧ 0x1234#16 ≠ crc16 [1, 2] ∧
      (({ base with cp := { Cp.reset with rx := .discard } } : State).steady ∧
        ({ base with cp := { Cp.reset with rx := .discard } } : State).cp.rx = .discard) ∧
      ({ base with cp := { Cp.reset with muted := true } } : State).steady :=
  ⟨steady_of rfl, by decide, by decide, by decide, by decide, by decide +kernel, ⟨steady_of rfl, rfl⟩, steady_of rfl⟩

/-- A reply of 7 bytes at the head of the queue, with the bytes of it that are out. -/
def replying (place : Nat) : State :=
  { base with cp := { Cp.reset with queue := [.reply 0x81 1 []], fixed := decide (0 < place), place := place } }

/-- A notice of 8 bytes at the head of the queue, with the bytes of it that are out. -/
def noticing (place : Nat) : State :=
  { base with cp := { Cp.reset with queue := [.notice .ready 1 []], fixed := decide (0 < place), place := place } }

theorem met_OutboundFramesLeaveInOrder :
    (∀ n : Nat, (replying n).steady ∧ (replying n).cp.muted = false ∧ (replying n).cp.rx = .hunt ∧
      (replying n).cp.queue = [.reply 0x81 1 []] ∧ (replying n).cp.place = n) ∧
    (∀ n : Nat, (noticing n).steady ∧ (noticing n).cp.muted = false ∧ (noticing n).cp.rx = .hunt ∧
      (noticing n).cp.queue = [.notice .ready 1 []] ∧ (noticing n).cp.place = n) ∧
    (noticing 0).cp.fixed = false ∧
    ({ noticing 0 with cp := { (noticing 0).cp with fixed := true } } : State).steady :=
  ⟨fun _ => ⟨steady_of rfl, rfl, rfl, rfl, rfl⟩, fun _ => ⟨steady_of rfl, rfl, rfl, rfl, rfl⟩, rfl, steady_of rfl⟩

theorem met_OutboundFramesLeaveInOrder_idle :
    (({ base with cp := { Cp.reset with queue := [] } } : State).steady ∧
      ({ base with cp := { Cp.reset with queue := [] } } : State).cp.queue = []) ∧
    (({ base with cp := { Cp.reset with muted := true } } : State).steady ∧
      ({ base with cp := { Cp.reset with muted := true } } : State).cp.muted = true ∧
      ({ base with cp := { Cp.reset with muted := true } } : State).cp.place = 0) :=
  ⟨⟨steady_of rfl, rfl⟩, steady_of rfl, rfl, rfl⟩

theorem met_OccurrencesReachTheirLatch :
    Cp.reset.latches.length = 19 ∧ Notice.shotHeld ≠ .ready ∧ Cp.reset.isEnabled .ready = true ∧
      Cp.reset.isEnabled .shotHeld = false ∧
      ({ Cp.reset with queue := [] } : Cp).isEnabled .ready = true ∧ ({ Cp.reset with queue := [] } : Cp).hasEntry .ready = false := by
  decide

theorem met_PowerSetMovesBetweenStates :
    ((inPower .quiet false base).answers ∧ (inPower .quiet false base).rdu.s1.held = false ∧
      (inPower .quiet false base).fu.firstQuery = false) ∧
    (base.answers ∧ base.inRun ∧ base.rdu.drive = .idle ∧ base.fu.move = none ∧ base.bm.openDuties = 0 ∧
      base.sru.readout = none ∧ base.sru.waiting = none ∧ base.cw.a.op = .idle ∧ base.cw.a.reads = [] ∧
      base.cw.b.op = .idle ∧ base.cw.b.reads = [] ∧ base.tu.transfer = none ∧ base.tu.link = .off) ∧
    (firing.answers ∧ firing.pwc.power = .run ∧ firing.pwc.latched = false ∧ firing.rdu.drive ≠ .idle) ∧
    ((inPower .run true base).answers ∧ (inPower .run true base).pwc.latched = true) :=
  ⟨⟨⟨portOpen_of rfl, steady_of rfl, .inr rfl⟩, rfl, rfl⟩,
    ⟨answers_of rfl rfl, rfl, rfl, rfl, by decide, rfl, rfl, rfl, rfl, rfl, rfl, rfl, rfl⟩,
    ⟨answers_of rfl rfl, rfl, rfl, by decide⟩, ⟨portOpen_of rfl, steady_of rfl, .inl rfl⟩, rfl⟩

theorem met_SupplyWarningIsDelivered :
    ((inPower .run true base).steady ∧ (inPower .run true base).pwc.latched = true) ∧
    ((writing 0).steady ∧ (writing 0).pwc.latched = false ∧ (writing 0).cw.quiet = false) ∧
    ((firing).steady ∧ firing.pwc.latched = false ∧ firing.cw.quiet = true) :=
  ⟨⟨steady_of rfl, rfl⟩, ⟨steady_of rfl, rfl, by decide⟩, steady_of rfl, rfl, by decide⟩

theorem met_WholePartResetGivesResetValues :
    (base.pins.warning = false ∧ base.portOpen ∧ base.steady ∧ base.pwc.power ≠ .halt) ∧
    ({ base with pins := { base.pins with warning := true } } : State).pins.warning = true :=
  ⟨⟨rfl, portOpen_of rfl, steady_of rfl, by decide⟩, rfl⟩

/-- Drive settings at the ends of their ranges. -/
def farSettings : DriveSettings := { DriveSettings.defaults with mode := .burst, rate := 30, limit := 255, wait := 1000 }

theorem met_DriveSettingsAreTakenOrWait :
    (1 ≤ farSettings.rate ∧ farSettings.rate ≤ 30 ∧ farSettings.limit ≤ 255 ∧ 1 ≤ farSettings.depth ∧
      farSettings.depth ≤ 20 ∧ 50 ≤ farSettings.wait ∧ farSettings.wait ≤ 1000 ∧ farSettings.look ≤ 7) ∧
    (base.answers ∧ base.rdu.ring = [] ∧ base.rdu.drive = .idle) ∧
    (firing.answers ∧ firing.rdu.drive ≠ .idle ∧ firing.rdu.drive ≠ .ready) ∧
    ((3 :: List.replicate 8 (0 : Byte)).length = 9 ∧ 2 < (byteAt (3 :: List.replicate 8 (0 : Byte)) 0).toNat) :=
  ⟨by decide, ⟨answers_of rfl rfl, rfl, rfl⟩, ⟨answers_of rfl rfl, by decide, by decide⟩, by decide⟩

theorem met_ReleaseLinesTakePolarities :
    (base.answers ∧ base.rdu.drive = .idle ∧ base.rdu.s1.held = false ∧ base.rdu.waiter = none ∧ base.rdu.release = none ∧
      base.rdu.viewOn = false ∧ base.rdu.halfPress = false) ∧ (firing.answers ∧ firing.rdu.drive ≠ .idle) :=
  ⟨⟨answers_of rfl rfl, rfl, rfl, rfl, rfl, rfl, rfl⟩, answers_of rfl rfl, by decide⟩

/-- S1 armed. -/
def armed (s : State) : State := { s with rdu := { Rdu.reset with s1 := { Line.reset with armed := true } } }

/-- A line that is let go and armed, and one that is held. -/
def upLine : Line := { Line.reset with armed := true }
def heldLine : Line := { Line.reset with active := true, held := true }

/-- The lines in front of a state. -/
def lined (a b : Line) (s : State) : State := { s with rdu := { s.rdu with s1 := a, s2 := b } }

/-- READY, with a lens that is not locked. -/
def readyToFire (p : Priority) : State :=
  { withRows [] with
    rdu := { Rdu.reset with
      s1 := heldLine, s2 := upLine, drive := .ready, viewOn := true, halfPress := true,
      active := { DriveSettings.defaults with priority := p } },
    fu := { lensFu .seeking with halfPress := true } }

/-- A ring of one row, with another being exposed. -/
def preRow : Row := { Row.fresh 4 .precapture 3 true 0 [8] with life := .pre, mark := none }
def ringOn : State :=
  { withRows [preRow, heldRow, Row.fresh 9 .precapture 3 true 0 [9]] with
    rdu := { Rdu.reset with
      s1 := heldLine, s2 := upLine, drive := .precapturing, timer := true, ring := [4], openRow := some 9,
      capture := some { row := 9, ofBurst := false }, burstId := 3, halfPress := true },
    fu := { Fu.reset with halfPress := true } }

/-- A release that waits for focus. -/
def waitingS2 (s1 : Line) : State :=
  { readyToFire .focus with rdu := { (readyToFire .focus).rdu with
    s1 := s1, s2 := heldLine, drive := .waitingFocus, focusWait := true, waiter := some .release } }

/-- A burst with S2 held. -/
def bursting (s1 : Line) (inFlight : Bool) (x : Release) : State :=
  { withRows [exposingRow] with
    rdu := { firingRdu with
      s1 := s1, s2 := heldLine, release := some x,
      capture := if inFlight then some { row := 0, ofBurst := true } else none },
    fu := { Fu.reset with halfPress := true } }

theorem met_RemoteReleaseWaitsForFocus :
    ((withLens (lensFu .idle)).answers ∧ (withLens (lensFu .idle)).pwc.latched = false ∧ (withLens (lensFu .idle)).inRun ∧
      (withLens (lensFu .idle)).rdu.drive = .idle ∧ (withLens (lensFu .idle)).rdu.active.priority = .focus ∧
      (withLens (lensFu .idle)).fu.active.mode = .single ∧
      (withLens (lensFu .idle)).fu.state ∈ [.idle, .seeking, .noTarget]) ∧
    (1 ≤ (99 : Byte).toNat ∧ (99 : Byte).toNat ≤ 99 ∧ (0 : Byte).toNat = 0 ∧ 99 < (100 : Byte).toNat) ∧
    (firing.answers ∧ firing.pwc.latched = false ∧ firing.rdu.drive ≠ .idle ∧ firing.rdu.drive ≠ .ready) :=
  ⟨⟨answers_of rfl rfl, rfl, rfl, rfl, rfl, rfl, by decide⟩, by decide, answers_of rfl rfl, rfl, by decide, by decide⟩

/-- What RDU needs for a capture. -/
theorem canCapture_firing : firing.canCapture := by
  refine ⟨rfl, rfl, rfl, rfl, rfl, by decide, by decide⟩

/-- A burst or a ring that the pool or the table holds back. -/
def fullTable : List Row := (List.range 128).map fun i => { heldRow with index := i, number := some (100 + i) }
def lowPool (n : Nat) (rows : List Row) : Bm := { base.bm with free := List.range n, rows := rows, reserve := 0 }
def ringOf (b : Bm) (ring : List Nat) (depth : Nat) : State :=
  { base with
    bm := b,
    rdu := { ringOn.rdu with
      ring := ring, openRow := none, capture := none, active := { DriveSettings.defaults with depth := depth } } }

/-- A PRE row with 41 pages. -/
def wideRow : Row := { preRow with raw := some { pages := (List.range 41).map (· + 1000), length := 42000064 } }

/-- A release that waits for focus. -/
def waitingFocus : State :=
  { firing with rdu := { Rdu.reset with drive := .waitingFocus, focusWait := true, waiter := some .remoteHost, remoteCount := 1 } }

theorem met_FocusWaitExpiryOpensTheBurst :
    (base.steady ∧ base.rdu.focusWait = false) ∧
    (waitingFocus.steady ∧ waitingFocus.rdu.drive = .waitingFocus ∧ waitingFocus.rdu.focusWait = true ∧
      waitingFocus.rdu.waiter = some .remoteHost ∧ waitingFocus.canCapture ∧ waitingFocus.pwc.responses = none ∧
      1 ≤ waitingFocus.rdu.remoteCount) :=
  ⟨⟨steady_of rfl, rfl⟩, steady_of rfl, rfl, rfl, rfl, ⟨rfl, rfl, rfl, rfl, rfl, by decide, by decide⟩, rfl, by decide⟩

theorem met_ShotNumberSetJudgesItsNumber :
    base.answers ∧ (withRows [heldRow]).answers ∧ (∃ r ∈ (withRows [heldRow]).bm.rows, r.life = .held) ∧
      16777215 < 16777216 := ⟨answers_of rfl rfl, answers_of rfl rfl, ⟨heldRow, by decide, rfl⟩, by decide⟩

theorem met_PoolSetClampsAndSignals : base.answers ∧ 401 < 65536 ∧ 1001 < 65536 ∧ base.tu.queue = [] :=
  ⟨answers_of rfl rfl, by decide, by decide, rfl⟩

/-- Shot 1 with a finished proof and no raw chain, under auto-send PROTECTED. -/
def proofRow : Row := { developRow 2000 with develop := .done, raw := none }
def protecting : State := { withRows [proofRow] with tu := { linkTu .unbound with auto := .protectedProofs } }

theorem met_ShotProtectSetsTheFlag :
    base.answers ∧ base.bm.numbered? 1 = none ∧
    ((withRows [{ heldRow with discarding := true }]).answers ∧
      (withRows [{ heldRow with discarding := true }]).bm.numbered? 1 = some { heldRow with discarding := true }) ∧
    ((withRows [heldRow]).answers ∧ (withRows [heldRow]).bm.numbered? 1 = some heldRow ∧ heldRow.discarding = false ∧
      (withRows [heldRow]).tu.auto ≠ .protectedProofs) ∧
    (protecting.answers ∧ protecting.bm.numbered? 1 = some proofRow ∧ protecting.bm.row? proofRow.index = some proofRow ∧
      proofRow.discarding = false ∧ proofRow.protect = false ∧ proofRow.life = .held ∧
      protecting.tu.auto = .protectedProofs ∧ proofRow.develop = .done ∧ proofRow.raw = none ∧
      proofRow.proof = some { pages := [50], length := 12000064, frontier := 2000 } ∧ proofRow.tethers = [] ∧
      protecting.tu.queue = [] ∧ protecting.tu.link ≠ .boundIdle) :=
  ⟨answers_of rfl rfl, by decide, ⟨answers_of rfl rfl, by decide⟩, ⟨answers_of rfl rfl, by decide, rfl, by decide⟩,
    answers_of rfl rfl, by decide, by decide, rfl, rfl, rfl, rfl, rfl, rfl, rfl, rfl, rfl, by decide⟩

/-- A full send queue, in front of shot 1 without a develop duty. -/
def fullQueue : State :=
  { withRows [{ heldRow with cards := [cardDuty .raw .writing] }] with
    tu := { linkTu .unbound with
      auto := .protectedProofs,
      queue := List.replicate 64 { entry .stored .raw none false with number := 70 } },
    de := { De.reset with engine := .running } }

theorem met_ShotProtectSetsTheFlag_full :
    fullQueue.answers ∧ fullQueue.bm.numbered? 1 = some { heldRow with cards := [cardDuty .raw .writing] } ∧
    heldRow.develop = .absent ∧ heldRow.proof = none ∧ heldRow.tethers = [] ∧ 64 ≤ fullQueue.tu.queue.length ∧
    fullQueue.tu.entry? 1 .proof = none ∧ (∀ e ∈ fullQueue.tu.queue, e.chain = .proof → e.row ≠ some 0) ∧
    (cardDuty .raw .writing).state.isFinal = false ∧ (fullQueue.bm.rows.map Row.index).Nodup :=
  ⟨answers_of rfl rfl, by decide⟩

/-- Shot 1 with a develop duty that waits and a card duty that failed, while DE develops another shot. -/
def waitingRow : Row := { heldRow with develop := .pending, cards := [cardDuty .raw .failed] }
def discardable : State :=
  { withRows [waitingRow] with de := { De.reset with engine := .running, job := some { job with row := 3 }, normal := [0] } }

theorem met_ShotDiscardSettlesTheRow :
    ((withRows [{ heldRow with life := .settled }]).answers ∧
      (withRows [{ heldRow with life := .settled }]).bm.numbered? 1 = some { heldRow with life := .settled }) ∧
    ((withRows [{ heldRow with protect := true }]).answers ∧
      (withRows [{ heldRow with protect := true }]).bm.numbered? 1 = some { heldRow with protect := true }) ∧
    (discardable.answers ∧ (discardable.bm.rows.map Row.index).Nodup ∧ discardable.bm.numbered? 1 = some waitingRow ∧
      waitingRow.life = .held ∧ waitingRow.protect = false ∧ waitingRow.discarding = false ∧
      waitingRow.develop = .pending ∧ (∀ d ∈ waitingRow.cards, d.state.isFinal = true) ∧
      (∀ d ∈ waitingRow.tethers, d.state.isFinal = true) ∧
      waitingRow.raw = some { pages := [0], length := 42000064 } ∧ waitingRow.proof = none ∧
      discardable.de.engine = .running ∧ discardable.tu.queue = []) :=
  ⟨⟨answers_of rfl rfl, by decide⟩, ⟨answers_of rfl rfl, by decide⟩, answers_of rfl rfl, by decide, by decide, rfl, rfl, rfl,
    rfl, by decide, by decide, rfl, rfl, rfl, rfl⟩

theorem met_ShotCollectRemovesFinishedRows :
    base.answers ∧ (base.bm.rows.map Row.index).Nodup ∧ (0 : Byte).toNat = 0 ∧ 8 < (9 : Byte).toNat ∧
      1 ≤ (8 : Byte).toNat ∧ (8 : Byte).toNat ≤ 8 := ⟨answers_of rfl rfl, by decide, by decide, by decide, by decide, by decide⟩

/-- The sensor in FAULT. -/
def blind : State := { base with sru := { Sru.reset with fault := true, missed := 3 } }

/-- A view frame requested from a part with a lens. -/
def lensView (reading : Bool) : State := { viewing reading with fu := lensFu .idle }

theorem met_FrameStartsOpenTheReading :
    (base.steady ∧ base.sru.readout = none) ∧
    ((lensView false).steady ∧ (lensView false).sru.readout = some { readout false 0 with kind := .view } ∧
      (readout false 0).reading = false ∧ (lensView false).fu.live = true ∧ (lensView false).fu.frame = none ∧
      (lensView false).fu.query = false ∧ (lensView false).inRun ∧ (lensView false).sru.running = true) ∧
    ((capturing false 0).steady ∧ (capturing false 0).sru.readout = some (readout false 0) ∧
      (readout false 0).kind = .capture ∧ (capturing false 0).fu.live = false ∧ (capturing false 0).fu.frame = none ∧
      (capturing false 0).bm.row? 0 = some exposingRow ∧ exposingRow.mark = none) :=
  ⟨⟨steady_of rfl, rfl⟩, ⟨steady_of rfl, rfl, rfl, rfl, rfl, rfl, rfl, rfl⟩, steady_of rfl, rfl, rfl, rfl, rfl, by decide, rfl⟩

/-- A readout that QUIET found in flight. -/
def stopped (s : State) : State := { s with sru := { s.sru with running := false }, pwc := { s.pwc with power := .quiet } }

theorem met_FrameStartsOpenTheReading_quiet :
    ((stopped (lensView false)).steady ∧
      (stopped (lensView false)).sru.readout = some { readout false 0 with kind := .view } ∧
      (stopped (lensView false)).sru.running = false) ∧
    ((stopped (capturing false 0)).steady ∧ (stopped (capturing false 0)).sru.readout = some (readout false 0) ∧
      (stopped (capturing false 0)).sru.running = false) :=
  ⟨⟨steady_of rfl, rfl, rfl⟩, steady_of rfl, rfl, rfl⟩

/-- A view frame being read, whose AF block has come or not. -/
def afView (taken : Bool) : State :=
  { base with
    sru := { Sru.reset with readout := some { readout true 0 with kind := .view, afTaken := taken }, endTimer := true },
    fu := { lensFu .idle with frame := some (frame none) } }

theorem met_FrameDataGoesToItsPlace :
    (base.steady ∧ base.sru.readout = none) ∧ ((afView true).steady ∧ (readout true 0).reading = true ∧
      (afView true).sru.readout = some { readout true 0 with kind := .view, afTaken := true }) ∧
    ((afView false).steady ∧ (afView false).sru.readout = some { readout true 0 with kind := .view, afTaken := false } ∧
      (afView false).fu.live = true ∧ (afView false).fu.frame = some (frame none) ∧
      (readout true 0).frameId = some (frame none).frameId ∧ (frame none).settled = false ∧
      (afView false).fu.requested = none) ∧
    ((capturing true 4000).steady ∧ (capturing true 4000).sru.readout = some (readout true 4000) ∧
      4000 ≤ (readout true 4000).lines) ∧
    ((capturing true 3999).steady ∧ (capturing true 3999).sru.readout = some (readout true 3999) ∧
      (readout true 3999).lines < 4000 ∧ (capturing true 3999).bm.row? 0 = some exposingRow ∧
      exposingRow.raw = some { pages := [0], length := 42000064 } ∧
      2 = if [(1 : Byte)].length = 10500 ∧ crc16 [1] = 0 then 1 else 1 + 1) :=
  ⟨⟨steady_of rfl, rfl⟩, ⟨steady_of rfl, rfl, rfl⟩, ⟨steady_of rfl, rfl, rfl, rfl, rfl, rfl, rfl⟩,
    ⟨steady_of rfl, rfl, by decide⟩, steady_of rfl, rfl, by decide, by decide, rfl, by decide⟩

theorem met_FrameDataGoesToItsPlace_quiet :
    (stopped (afView false)).steady ∧ (stopped (afView false)).sru.running = false ∧
    (stopped (afView false)).sru.readout = some { readout true 0 with kind := .view, afTaken := false } ∧
    (readout true 0).frameId ≠ none ∧ (afView false).sru.running = true :=
  ⟨steady_of rfl, rfl, rfl, by decide, rfl⟩

/-- A lens that moves. -/
def movingFu (o : MoveOrigin) (halted : Bool) : Fu :=
  { lensFu .idle with move := some (move o halted), moveTimer := true, moving := true }

theorem met_LensAttachAndDetach :
    (base.answers ∧ base.fu.move = none ∧ base.inRun ∧ base.fu.halfPress = false ∧ base.rdu.drive ≠ .waitingFocus ∧
      1 ≤ 32767 ∧ 32767 ≤ 32767 ∧ (1 : Byte) ≠ 0 ∧ 65535 < 65536) ∧
    ((withLens (movingFu .host false)).answers ∧ (withLens (movingFu .host false)).fu.move ≠ none ∧
      (withLens (movingFu .host false)).fu.state ≠ .noLens ∧ (withLens (movingFu .host false)).rdu.drive ≠ .waitingFocus) :=
  ⟨⟨answers_of rfl rfl, rfl, rfl, rfl, by decide, by decide, by decide, by decide, by decide⟩, answers_of rfl rfl, by decide,
    by decide, by decide⟩

/-- A lens in CONTINUOUS mode with an AF move in flight. -/
def trackingMove : State :=
  withLens { movingFu .af false with active := { AfSettings.defaults with mode := .continuous } }

theorem met_FocusIsSetAndMovedByTheHost :
    (AfSettings.defaults.startCol ≤ 12 ∧ AfSettings.defaults.startRow ≤ 8 ∧ AfSettings.defaults.cMin ≤ 131040 ∧
      AfSettings.defaults.dMin ≤ 262080) ∧
    ((withLens { lensFu .seeking with halfPress := true }).answers ∧
      (withLens { lensFu .seeking with halfPress := true }).fu.live = true ∧
      (withLens { lensFu .seeking with halfPress := true }).fu.halfPress = true) ∧
    (base.answers ∧ base.fu.halfPress = false ∧ base.fu.move = none ∧ base.rdu.drive ≠ .waitingFocus ∧
      base.fu.live = false) ∧
    (trackingMove.answers ∧ trackingMove.fu.live = true ∧ trackingMove.fu.known = true ∧ trackingMove.inRun ∧
      trackingMove.fu.active.mode = .continuous ∧ trackingMove.fu.move = some (move .af false) ∧
      (move .af false).origin = .af ∧ trackingMove.fu.descriptor = some lens ∧ 20000 ≤ lens.lensMax) ∧
    ((withLens (lensFu .idle)).answers ∧ (withLens (lensFu .idle)).fu.live = true ∧ (withLens (lensFu .idle)).fu.known = true ∧
      (withLens (lensFu .idle)).inRun ∧ (withLens (lensFu .idle)).fu.descriptor = some lens ∧
      (withLens (lensFu .idle)).fu.move = none ∧ 20000 ≠ (withLens (lensFu .idle)).fu.position) ∧
    ((withLens (movingFu .host false)).answers ∧ (withLens (movingFu .host false)).fu.live = true ∧
      (withLens (movingFu .host false)).fu.known = true ∧ (withLens (movingFu .host false)).inRun ∧
      (withLens (movingFu .host false)).fu.active.mode ≠ .continuous ∧
      (withLens (movingFu .host false)).fu.move = some (move .host false) ∧ (move .host false).halted = false) :=
  ⟨by decide, ⟨answers_of rfl rfl, rfl, rfl⟩, ⟨answers_of rfl rfl, rfl, rfl, by decide, rfl⟩,
    ⟨answers_of rfl rfl, rfl, rfl, rfl, rfl, rfl, rfl, rfl, by decide⟩,
    ⟨answers_of rfl rfl, rfl, rfl, rfl, rfl, rfl, by decide⟩, answers_of rfl rfl, rfl, rfl, rfl, by decide, rfl, rfl⟩

/-- A lens that has been asked for its position, with some answers missing. -/
def asked (bare : Bool) (missing : Nat) (f : Option FrameRecord) : State :=
  withLens { lensFu .idle with query := true, bare := bare, missing := missing, frame := f }

theorem met_LensAnswersAndTimers :
    (base.steady ∧ base.rdu.drive ≠ .waitingFocus ∧ base.fu.query = false ∧ base.fu.moveTimer = false) ∧
    ((asked true 2 none).steady ∧ (asked true 2 none).fu.live = true ∧ (asked true 2 none).inRun ∧
      (asked true 2 none).fu.query = true ∧ (asked true 2 none).fu.bare = true ∧ (asked true 2 none).fu.frame = none ∧
      (asked true 2 none).fu.missing = 2 ∧ (asked true 2 none).fu.state ≠ .fault ∧ (asked true 1 none).fu.missing < 2) ∧
    ((asked false 0 (some (frame none))).fu.bare = false ∧ (asked false 0 (some (frame none))).fu.live = true ∧
      (asked false 0 (some (frame none))).fu.frame = some (frame none) ∧ (frame none).settled = false ∧
      (frame none).formed = none) ∧
    (({ withLens (movingFu .host false) with now := 5 } : State).steady ∧ (withLens (movingFu .host false)).fu.live = true ∧
      (withLens (movingFu .host false)).inRun ∧ (withLens (movingFu .host false)).fu.move = some (move .host false) ∧
      (move .host false).halted = false ∧
      50 ≤ ((550 : BitVec 16).toNat - (move .host false).startPos) + ((move .host false).startPos - (550 : BitVec 16).toNat) ∧
      (move .host false).startTime < 5 ∧
      ((549 : BitVec 16).toNat - (move .host false).startPos) + ((move .host false).startPos - (549 : BitVec 16).toNat) < 50 ∧
      (withLens (movingFu .host false)).fu.moveTimer = true ∧ (withLens (movingFu .host false)).fu.state ≠ .fault) :=
  ⟨⟨steady_of rfl, by decide, rfl, rfl⟩, ⟨steady_of rfl, rfl, rfl, rfl, rfl, rfl, rfl, by decide, by decide⟩,
    ⟨rfl, rfl, rfl, rfl, rfl⟩, steady_of rfl, rfl, rfl, rfl, rfl, by decide, by decide, by decide, rfl, by decide⟩

/-- A grid of valid zones with one phase. -/
def shapes (p : Int) : List ZoneShape :=
  (List.range 117).map fun _ => { validity := .valid, p16 := p, c := 1000, d := 100 }

/-- Seeking, with the frame formed and its position asked for. -/
def seeking (p : Int) : State := withLens { lensFu .seeking with query := true, frame := some (frame (some (shapes p))), seek := 5 }

/-- A look at the ends of its ranges. -/
def farLook : Look := { Look.defaults with bl := 4095, w := 16383, gR := 8191 }

theorem met_SettingsAreReplaced :
    base.answers ∧ (developing 4).answers ∧ (∃ j, (developing 4).de.job = some j ∧ j.slot = 0) ∧
    (∀ l ∈ [farLook, { farLook with w := 4095 }, { farLook with tone := farLook.tone.reverse }, { farLook with gB := 65535 }],
      l.bl < 65536 ∧ l.w < 65536 ∧ (∀ g ∈ [l.gR, l.gG, l.gB], g < 65536) ∧ l.tone.length = 33 ∧ (∀ v ∈ l.tone, v ≤ 255)) ∧
    (farLook.bl < farLook.w ∧ farLook.tone.Pairwise (· ≤ ·) ∧ ¬ farLook.tone.reverse.Pairwise (· ≤ ·)) ∧
    (4 < (5 : Byte).toNat ∧ 1 < (2 : Byte).toNat ∧ 2 < (3 : Byte).toNat) :=
  ⟨answers_of rfl rfl, answers_of rfl rfl, ⟨job, rfl, rfl⟩, by decide, by decide, by decide⟩

/-- Shot 1 with a develop duty that waits and a card duty that waits. -/
def queuedRow : Row := { heldRow with develop := .pending }

/-- DE develops another shot. -/
def busy (r : Row) : State :=
  { withRows [r] with de := { De.reset with engine := .running, job := some { job with row := 3 } } }

theorem met_DevelopJoinsAndCancelLeavesTheQueue :
    ((busy heldRow).answers ∧ ((busy heldRow).bm.rows.map Row.index).Nodup ∧ (busy heldRow).bm.numbered? 1 = some heldRow ∧
      (busy heldRow).tu.queue = [] ∧ heldRow.life = .held ∧ heldRow.discarding = false ∧ heldRow.develop = .absent ∧
      heldRow.raw = some { pages := [0], length := 42000064 } ∧ (busy heldRow).de.engine = .running) ∧
    ((withRows [heldRow]).answers ∧ (withRows [heldRow]).bm.numbered? 1 = some heldRow ∧
      (withRows [heldRow]).de.engine = .idle ∧ (withRows [heldRow]).de.urgent = [] ∧ (withRows [heldRow]).de.normal = [] ∧
      12 ≤ (withRows [heldRow]).bm.free.length ∧ (withRows [heldRow]).pwc.latched = false) ∧
    ((withRows [{ heldRow with life := .settled }]).answers ∧
      (withRows [{ heldRow with life := .settled }]).bm.numbered? 1 = some { heldRow with life := .settled }) ∧
    ((developing 4).answers ∧ (developing 4).bm.numbered? 1 = some (developRow 4) ∧ (developRow 4).develop = .running ∧
      (developRow 4).life = .held ∧ (developRow 4).discarding = false) ∧
    ((busy queuedRow).answers ∧ (busy queuedRow).bm.numbered? 1 = some queuedRow ∧ queuedRow.develop = .pending ∧
      queuedRow.life = .held ∧ (∃ d ∈ queuedRow.cards, d.state.isFinal = false) ∧ (∀ d ∈ queuedRow.cards, d.chain = .raw) ∧
      queuedRow.tethers = [] ∧ queuedRow.proof = none ∧ (busy queuedRow).de.engine = .running) :=
  ⟨⟨answers_of rfl rfl, by decide, by decide, rfl, rfl, rfl, rfl, rfl, rfl⟩,
    ⟨answers_of rfl rfl, by decide, rfl, rfl, rfl, by decide, rfl⟩, ⟨answers_of rfl rfl, by decide⟩,
    ⟨answers_of rfl rfl, by decide, rfl, rfl, rfl⟩, answers_of rfl rfl, by decide, rfl, rfl, by decide, by decide, rfl, rfl, rfl⟩

theorem met_ProofRowsAreWritten : (base.steady ∧ base.de.job = none) ∧ ∀ n ∈ [1998, 1999],
    (developing n).steady ∧ (developing n).de.job = some job ∧ (developing n).bm.row? 0 = some (developRow n) ∧
    (developRow n).proof = some { pages := [50], length := 12000064, frontier := n } ∧ job.cancel = false ∧
    job.discard = false ∧ ((developing n).bm.rows.map Row.index).Nodup ∧ (developRow n).life = .held ∧
    (developRow n).develop = .running ∧ (∃ d ∈ (developRow n).cards, d.state.isFinal = false) ∧
    (∀ d ∈ (developRow n).cards, d.chain = .raw) ∧ (developRow n).tethers = [] ∧ (developing n).de.urgent = [] ∧
    (developing n).de.normal = [] ∧ (developing n).tu.queue = [] ∧ (developing n).tu.underTimer = false ∧
    (developing n).tu.transfer = none :=
  ⟨⟨steady_of rfl, rfl⟩, fun n _ => ⟨steady_of rfl, rfl, rfl, rfl, rfl, rfl, by simp [developing, withRows, developRow], rfl,
    rfl, ⟨cardDuty .raw .waitingSlot, List.mem_singleton.2 rfl, rfl⟩, fun d hd => by
      rw [List.mem_singleton.1 hd]
      rfl, rfl, rfl, rfl, rfl, rfl, rfl⟩⟩

theorem met_ProofPixelsFollowTheStages :
    (16383 ≥ Look.defaults.w ∧ 2100 < Look.defaults.w) ∧ (Look.defaults.tone.length = 33 ∧
      Look.defaults.tone.Pairwise (· ≤ ·) ∧ (∀ x ∈ Look.defaults.tone, x ≤ 255) ∧ 16383 ≤ 16383) ∧
    (List.replicate 3000 (⟨0, 1, 1, false⟩ : Pixel)).length = 3000 ∧
    job.bins.length = 64 ∧ 252 ≤ 255 ∧
    (List.replicate 3000 (⟨0, 1, 1, false⟩ : Pixel))[2 * 1499 + 1]? = some ⟨0, 1, 1, false⟩ :=
  ⟨by decide, by decide, List.length_replicate, rfl, by decide, by rw [List.getElem?_replicate]; rfl⟩

/-- A slot whose card is not attached. -/
def present (lock : Bool) : Slot := { slot .present with capacity := none, lockOn := lock }

/-- A slot with a protected range at the card's start. -/
def ranged : Slot := { slot .locked with range := some ⟨0, 11⟩ }
/-- A slot whose extent queue is full. -/
def crowded : Slot := { slot .ready with extents := List.replicate 32 ⟨50, 1⟩ }
/-- A slot with the sectors of two raw chains. -/
def stocked : Slot := { slot .ready with extents := [⟨5000, 164064⟩] }

theorem met_ExtentsAreQueuedAndFlushed :
    (base.answers ∧ (base.cw.slot .a).state = .absent) ∧
    ((withSlot .a (slot .ready)).answers ∧ (slot .ready).state = .ready ∧ (slot .ready).capacity = some 1000000 ∧
      1000000 < 999900 + 101 ∧ 999900 + 100 ≤ 1000000 ∧ (slot .ready).writing = none ∧ (slot .ready).extents.length < 32 ∧
      (slot .ready).writeQ = [] ∧ (∀ o ∈ (slot .ready).range.toList ++ (slot .ready).extents,
        999900 + 100 ≤ o.start ∨ o.start + o.count ≤ 999900)) ∧
    ((withSlot .b ranged).answers ∧ ranged.state = .locked ∧ ranged.capacity = some 1000000 ∧ ranged.writing = none ∧
      ∃ o ∈ ranged.range.toList ++ ranged.extents, o.start < 10 + 200 ∧ 10 < o.start + o.count) ∧
    ((withSlot .a crowded).answers ∧ 32 ≤ crowded.extents.length ∧
      (∀ o ∈ crowded.range.toList ++ crowded.extents, 10 + 1 ≤ o.start ∨ o.start + o.count ≤ 10)) ∧
    ((withSlot .a stocked).answers ∧ stocked.state = .ready ∧ 164064 ≤ stocked.queued) ∧
    ((writing 0).answers ∧ (writing 0).cw.slot .a = writingSlot 0 ∧ (writingSlot 0).state = .writing) :=
  ⟨⟨answers_of rfl rfl, rfl⟩, ⟨answers_of rfl rfl, rfl, rfl, by decide, by decide, rfl, by decide, rfl, by decide⟩,
    ⟨answers_of rfl rfl, rfl, rfl, rfl, by decide⟩, ⟨answers_of rfl rfl, by decide, by decide⟩,
    ⟨answers_of rfl rfl, rfl, by decide⟩, answers_of rfl rfl, rfl, rfl⟩

/-- The row of `writing`. -/
def writtenRow : Row := { heldRow with develop := .pending, cards := [cardDuty .raw .writing] }

/-- The read that segment buffer 0 waits for. -/
def readOf0 : ReadRequest := { start := 5, count := 2, buffer := 0 }

/-- A slot that reads two sectors into buffer 3. -/
def readingSlot : Slot := { slot .ready with op := .read ⟨1000, 2, 3⟩ true }
/-- TU that has asked for them. -/
def askingTu (stale : Bool) (t : Tu) : Tu := { t with buffers := (List.replicate 8 .free).set 3 (.asked 4 2 stale) }
/-- The same during the transfer of a stored chain. -/
def askingStored : Tu :=
  askingTu false (sendingTu .sending (entry .stored .raw none true) (transfer .raw 42000064 2816 1408))

theorem met_ReadsFillSegmentBuffers :
    (base.steady ∧ (base.cw.slot .a).op = .idle) ∧
    (readingSlot.op = .read ⟨1000, 2, 3⟩ true ∧ readingSlot.state = .ready ∧ readingSlot.writeQ = [] ∧
      readingSlot.reads = []) ∧
    (({ withSlot .a readingSlot with tu := askingTu false (linkTu .boundIdle) } : State).steady ∧
      (askingTu false (linkTu .boundIdle)).buffers[3]? = some (.asked 4 2 false) ∧
      (List.replicate 1024 (7 : Byte)).length = 512 * 2) ∧
    (({ withSlot .b readingSlot with tu := askingTu true (linkTu .boundIdle) } : State).steady ∧
      (askingTu true (linkTu .boundIdle)).buffers[3]? = some (.asked 4 2 true) ∧
      (askingTu true (linkTu .boundIdle)).transfer = none) ∧
    (({ withSlot .b readingSlot with tu := askingStored } : State).steady ∧
      askingStored.buffers[3]? = some (.asked 4 2 false) ∧
      askingStored.transfer = some (transfer .raw 42000064 2816 1408) ∧ askingStored.queue = [entry .stored .raw none true] ∧
      (entry .stored .raw none true).number = (transfer .raw 42000064 2816 1408).number ∧
      (entry .stored .raw none true).chain = .raw ∧ (entry .stored .raw none true).row = none ∧ askingStored.link = .sending) :=
  ⟨⟨steady_of rfl, rfl⟩, ⟨rfl, rfl, rfl, rfl⟩, ⟨steady_of rfl, rfl, List.length_replicate⟩, ⟨steady_of rfl, rfl, rfl⟩,
    steady_of rfl, rfl, rfl, rfl, rfl, rfl, rfl, rfl⟩

theorem met_DutiesNameTheirSlots :
    Cw.reset.policy = .overflow ∧ ({ Cw.reset with policy := .mirror } : Cw).policy = .mirror ∧
    ({ Cw.reset with policy := .split, proofs := true } : Cw).proofs = true ∧
    ({ slot .ready with extents := [⟨0, 82032⟩] } : Slot).state = .ready ∧
    82032 ≤ ({ slot .ready with extents := [⟨0, 82032⟩] } : Slot).queued ∧
    ¬ 82032 ≤ ({ slot .ready with extents := [⟨0, 82031⟩] } : Slot).queued := by decide

theorem met_SectorsLieAcrossThePieces : 511 < 512 * 1 ∧ 99 < (⟨5000, 100⟩ : Piece).count := by decide

/-- TU that has settings and is OFF. -/
def offTu : Tu := { Tu.reset with settings := tetherSettings }
/-- The PHY is up. -/
def phyUp (s : State) : State := { s with pins := { s.pins with phyUp := true } }

theorem met_TetherIsSetAndEnabled :
    (tetherSettings.ownMac = some ownMac ∧ ownMac ≠ 0 ∧ ownMac.getLsbD 0 = false ∧ tetherSettings.deskMac = 0 ∧
      0x600 ≤ tetherSettings.etherType.toNat ∧ tetherSettings.name.length = 16 ∧
      (∀ b ∈ tetherSettings.name, 0x20 ≤ b.toNat ∧ b.toNat ≤ 0x7E) ∧ 16 ≤ tetherSettings.window ∧
      tetherSettings.window ≤ 64 ∧ 50 ≤ tetherSettings.ackTimeout ∧ tetherSettings.ackTimeout ≤ 2000) ∧
    (base.answers ∧ base.tu.stopped = false ∧ base.tu.settings.ownMac = none) ∧
    ((withTu { offTu with stopped := true }).answers ∧ (withTu { offTu with stopped := true }).tu.stopped = true) ∧
    ((withTu offTu).answers ∧ (withTu offTu).tu.link = .off ∧ (withTu offTu).tu.settings.ownMac = some ownMac ∧
      (withTu offTu).pins.phyUp = false ∧ (phyUp (withTu offTu)).answers ∧ (phyUp (withTu offTu)).pins.phyUp = true) ∧
    ((withTu (linkTu .unbound)).answers ∧ (withTu (linkTu .unbound)).tu.link ≠ .off ∧
      (withTu (linkTu .unbound)).tu.transfer = none) :=
  ⟨by decide, ⟨answers_of rfl rfl, rfl, rfl⟩, ⟨answers_of rfl rfl, rfl⟩,
    ⟨answers_of rfl rfl, rfl, rfl, rfl, answers_of rfl rfl, rfl⟩, answers_of rfl rfl, by decide, rfl⟩

/-- Shot 1 with one entry of it in the queue. -/
def queued (e : Entry) : State := { withRows [heldRow] with tu := { linkTu .unbound with queue := [e] } }

theorem met_SendsJoinTheQueue :
    ((withRows [heldRow]).answers ∧ (withRows [heldRow]).tu.link ≠ .boundIdle ∧ (withRows [heldRow]).tu.queue.length < 64 ∧
      (withRows [heldRow]).bm.numbered? 2 = none ∧ (withRows [heldRow]).bm.numbered? 1 = some heldRow ∧
      heldRow.discarding = false ∧ heldRow.life = .held ∧ heldRow.raw ≠ none ∧ heldRow.tethers = [] ∧
      (withRows [heldRow]).tu.entry? 1 .raw = none ∧ (withRows [heldRow]).tu.entry? 1 .proof = none) ∧
    ((queued (entry .stored .raw none false)).answers ∧ (queued (entry .stored .raw none false)).tu.link ≠ .boundIdle ∧
      (queued (entry .stored .raw none false)).tu.entry? 1 .raw = some (entry .stored .raw none false) ∧
      (entry .stored .raw none false).row = none ∧ (entry .stored .raw none false).sending = false) ∧
    (([⟨1000, 1⟩, ⟨4000, 1⟩] : List Piece).length ≤ 8 ∧
      (∀ x ∈ ([⟨1000, 1⟩, ⟨4000, 1⟩] : List Piece), 0 < x.count ∧ x.count < 2 ^ 32 ∧ x.start < 2 ^ 32) ∧
      (1024 + 511) / 512 ≤ (([⟨1000, 1⟩, ⟨4000, 1⟩] : List Piece).map Piece.count).sum) :=
  ⟨⟨answers_of rfl rfl, by decide, by decide, by decide, by decide, rfl, rfl, by decide, rfl, by decide, by decide⟩,
    ⟨answers_of rfl rfl, by decide, by decide, rfl, rfl⟩, by decide⟩

theorem met_TheLinkFollowsPhyAndDesk :
    (∀ l, (withTu (linkTu l)).steady ∧ (withTu (linkTu l)).tu.transfer = none ∧
      (withTu (linkTu l)).tu.settings.ownMac = some ownMac ∧ (withTu (linkTu l)).tu.link = l ∧
      (withTu (linkTu l)).pwc.power ≠ .halt ∧ (withTu (linkTu l)).tu.stopped = false ∧
      (withTu (linkTu l)).tu.queue = [] ∧ (withTu (linkTu l)).tu.settings.deskMac = 0) ∧
    (head.etherType = tetherSettings.etherType ∧ head.dst = ownMac ∧ (linkTu .boundIdle).bound = some head.src ∧
      (linkTu .boundIdle).bound ≠ some ({ head with src := ownMac } : DeskHead).src) ∧
    ((withTu { linkTu .boundIdle with deskTimer := true }).tu.deskTimer = true) :=
  ⟨fun l => ⟨steady_of rfl, rfl, rfl, rfl, (by decide : Pwc.reset.power ≠ .halt), rfl, rfl, rfl⟩,
    ⟨rfl, rfl, rfl, by decide⟩, rfl⟩

/-- Shot 1 while its RAW chain is sent, and while its proof is sent early. -/
def sentRow : Row :=
  { heldRow with tethers := [{ chain := .raw, state := .sending, source := .buffer, prio := 1, early := false, cause := none }] }
def earlyRow : Row :=
  { developRow 4 with
    tethers := [{ chain := .proof, state := .sending, source := .buffer, prio := 1, early := true, cause := none }] }

/-- The part that sends a duty of shot 1. -/
def sendingRow (r : Row) (c : Chain) (t : Transfer) (under : Bool) : State :=
  { withRows [r] with tu := { sendingTu .sending (entry .duty c (some 0) true) t with underTimer := under } }

/-- The last frame of a RAW chain. -/
def lastFrame : Transfer := transfer .raw 42000064 42000000 41999360
def sendingRaw : State := sendingRow sentRow .raw lastFrame false
/-- A proof that waits at the frontier. -/
def sendingProof : State := sendingRow earlyRow .proof (transfer .proof 12000064 0 0) true

theorem met_DataFramesAreSent :
    (base.steady ∧ base.tu.link ≠ .sending ∧ base.tu.underTimer = false) ∧
    (sendingRaw.steady ∧ sendingRaw.tu.link = .sending ∧ sendingRaw.tu.transfer = some lastFrame ∧
      sendingRaw.tu.queue = [entry .duty .raw (some 0) true] ∧
      (entry .duty .raw (some 0) true).number = lastFrame.number ∧ (entry .duty .raw (some 0) true).chain = lastFrame.chain ∧
      (entry .duty .raw (some 0) true).source = .buffer ∧ (entry .duty .raw (some 0) true).copy = none ∧
      sendingRaw.bm.row? 0 = some sentRow ∧ sendingRaw.tu.bound = some deskMac ∧ sendingRaw.tu.settings.ownMac = some ownMac ∧
      sendingRaw.tu.stopped = false ∧ sentRow.raw = some { pages := [0], length := 42000064 } ∧ lastFrame.next < lastFrame.length ∧
      (lastFrame.next - lastFrame.acked) / 1408 < lastFrame.window ∧ 64 = min 1408 (lastFrame.length - lastFrame.next)) ∧
    (sendingProof.steady ∧ sendingProof.tu.link = .sending ∧
      sendingProof.tu.transfer = some (transfer .proof 12000064 0 0) ∧ sendingProof.tu.queue = [entry .duty .proof (some 0) true] ∧
      (entry .duty .proof (some 0) true).chain = .proof ∧ sendingProof.bm.row? 0 = some earlyRow ∧ earlyRow.develop = .running ∧
      earlyRow.index = 0 ∧ earlyRow.life = .held ∧ sendingProof.tu.underTimer = true ∧ sendingProof.tu.reclaim = false ∧
      sendingProof.tu.bound = some deskMac) :=
  ⟨⟨steady_of rfl, by decide, rfl⟩,
    ⟨steady_of rfl, rfl, rfl, rfl, rfl, rfl, rfl, rfl, by decide, rfl, rfl, rfl, rfl, by decide, by decide, by decide⟩,
    steady_of rfl, rfl, rfl, rfl, rfl, by decide, rfl, rfl, rfl, rfl, rfl, rfl⟩

/-- The part that sends the stored RAW chain of shot 1. -/
def sendingStored (l : Link) (t : Transfer) (ackTimer : Bool) : State :=
  withTu { sendingTu l (entry .stored .raw none true) t with ackTimer := ackTimer }

/-- The part that has sent all of shot 1's RAW chain. -/
def finishingRaw : State :=
  { withRows [sentRow] with
    tu := sendingTu .finishing (entry .duty .raw (some 0) true) (transfer .raw 42000064 42000064 42000064) }

theorem met_TransfersAreAcknowledged :
    (∀ l t a, (sendingStored l t a).steady ∧ (sendingStored l t a).tu.settings.ownMac = some ownMac ∧
      (sendingStored l t a).tu.transfer = some t ∧ (sendingStored l t a).tu.queue = [entry .stored .raw none true] ∧
      (sendingStored l t a).tu.stopped = false ∧ (sendingStored l t a).tu.bound = (linkTu l).bound ∧
      (sendingStored l t a).tu.link = l ∧ (sendingStored l t a).tu.ackTimer = a ∧
      (sendingStored l t a).tu.counters = Counters.zero) ∧
    (head.etherType = tetherSettings.etherType ∧ head.dst = ownMac ∧ (linkTu .sending).bound = some head.src ∧
      (linkTu .finishing).bound = some head.src ∧ (3 : BitVec 16).toNat = (transfer .raw 42000064 2816 1408).id) ∧
    ((entry .stored .raw none true).kind = .stored ∧ (entry .stored .raw none true).row = none ∧
      (entry .stored .raw none true).source = .card ∧
      (transfer .raw 42000064 2816 1408).length ≤ 512 * (transfer .raw 42000064 2816 1408).nextSector ∧
      (2816 : BitVec 32).toNat % 1408 = 0 ∧ (transfer .raw 42000064 2816 1408).acked < (2816 : BitVec 32).toNat ∧
      (2816 : BitVec 32).toNat ≤ (transfer .raw 42000064 2816 1408).high) ∧
    ((transfer .raw 42000064 42000064 1408).acked < (42000064 : BitVec 32).toNat ∧
      (42000064 : BitVec 32).toNat ≤ (transfer .raw 42000064 42000064 1408).high ∧
      (42000064 : BitVec 32).toNat = (transfer .raw 42000064 42000064 1408).length) ∧
    (({ transfer .raw 42000064 2816 1408 with timeouts := 4 } : Transfer).timeouts = 4 ∧
      ({ transfer .raw 42000064 2816 1408 with bad := 1 } : Transfer).bad ≠ 0) ∧
    (finishingRaw.steady ∧ finishingRaw.tu.link = .finishing ∧ finishingRaw.tu.queue = [entry .duty .raw (some 0) true] ∧
      finishingRaw.tu.transfer = some (transfer .raw 42000064 42000064 42000064) ∧
      (entry .duty .raw (some 0) true).kind = .duty ∧ (entry .duty .raw (some 0) true).copy = none) :=
  ⟨fun l t a => ⟨steady_of rfl, rfl, rfl, rfl, rfl, rfl, rfl, rfl, rfl⟩, ⟨rfl, rfl, rfl, rfl, rfl⟩, by decide, by decide, by decide,
    steady_of rfl, rfl, rfl, rfl, rfl, rfl⟩

theorem met_StatusRequestsOnlyReply_busy :
    ((developing 4).answers ∧ (developing 4).de.job = some job ∧ (developing 4).bm.row? job.row = some (developRow 4)) ∧
    ((writing 0).answers ∧ ((writing 0).cw.slot .a).writing = some { duty := { row := 0, place := 0 }, written := 0 } ∧
      (writing 0).bm.row? 0 = some { heldRow with develop := .pending, cards := [cardDuty .raw .writing] }) ∧
    ((sendingStored .sending (transfer .raw 42000064 2816 1408) false).answers ∧
      (sendingStored .sending (transfer .raw 42000064 2816 1408) false).tu.transfer =
        some (transfer .raw 42000064 2816 1408) ∧
      (sendingStored .sending (transfer .raw 42000064 2816 1408) false).tu.entry? 1 .raw =
        some (entry .stored .raw none true)) :=
  ⟨⟨answers_of rfl rfl, rfl, by decide⟩, ⟨answers_of rfl rfl, rfl, by decide⟩, answers_of rfl rfl, rfl, by decide⟩

theorem met_TransfersAreAcknowledged_idle :
    (withTu (linkTu .boundIdle)).steady ∧ (withTu (linkTu .boundIdle)).tu.transfer = none ∧
    (withTu (linkTu .boundIdle)).tu.link = .boundIdle ∧ (withTu (linkTu .boundIdle)).tu.stopped = false ∧
    (withTu (linkTu .boundIdle)).tu.ackTimer = false ∧ (1 : Byte).toNat ≤ 1 :=
  ⟨steady_of rfl, rfl, rfl, rfl, rfl, by decide⟩

/-- The part in SENDING with a queue, for the frames of the desk. -/
def served (remote : Bool) (q : List Entry) : State :=
  { withRows [heldRow] with
    fu := lensFu .idle,
    tu := { linkTu .sending with queue := q, settings := { tetherSettings with remote := remote }, deskTimer := true } }

/-! ### A state for each clause of the statements with many clauses -/

/-- Every state of a list is steady and has a property. -/
theorem each_of {α : Type} {l : List α} {f : α → State} {p : α → Prop}
    (h : ∀ a ∈ l, (f a).pwc.responses = none ∧ p a) : ∀ a ∈ l, (f a).steady ∧ p a :=
  fun a ha => ⟨steady_of (h a ha).1, (h a ha).2⟩

/-- Every state of a list takes and judges a request and has a property. -/
theorem judged_of {α : Type} {l : List α} {f : α → State} {p : α → Prop}
    (h : ∀ a ∈ l, ((f a).cp = Cp.reset ∧ (f a).pwc = Pwc.reset) ∧ p a) : ∀ a ∈ l, (f a).answers ∧ p a :=
  fun a ha => ⟨answers_of (h a ha).1.1 (h a ha).1.2, (h a ha).2⟩

/-- S2 pressed with the lines up, in a state. -/
def pressable (s : State) : State := lined upLine upLine s

theorem met_ReleaseLinesRegisterPresses :
    (base.steady ∧ base.rdu.s1.levelOf true = false ∧ base.rdu.s1.held = false) ∧
    (base.steady ∧ base.rdu.s2.levelOf true = false ∧ base.rdu.s2.held = false) ∧
    (base.steady ∧ base.rdu.s1.levelOf false = true ∧ base.rdu.s1.armed = false) ∧
    (base.steady ∧ base.rdu.s2.levelOf false = true ∧ base.rdu.s2.armed = false) ∧
    ∀ s ∈ [pressable (inPower .run true base)], s.steady ∧ s.pwc.latched = true ∧
      (s.rdu.s1.levelOf false = true ∧ s.rdu.s1.armed = true ∧ s.rdu.s1.active = false) ∧
      (s.rdu.s2.levelOf false = true ∧ s.rdu.s2.armed = true ∧ s.rdu.s2.active = false) :=
  ⟨⟨steady_of rfl, rfl, rfl⟩, ⟨steady_of rfl, rfl, rfl⟩, ⟨steady_of rfl, rfl, rfl⟩, ⟨steady_of rfl, rfl, rfl⟩,
    each_of (by decide)⟩

theorem met_ReleaseLinesRegisterPresses_s1 : ∀ p ∈ [Power.run, .quiet, .halt],
    (pressable (inPower p false base)).steady ∧ ∀ s ∈ [pressable (inPower p false base)], s.pwc.power = p ∧
      (s.rdu.s1.levelOf false = true ∧ s.rdu.s1.armed = true ∧ s.rdu.s1.active = false) ∧ s.pwc.latched = false ∧
      s.pwc.responses = none ∧ s.rdu.drive = .idle ∧ (s.rdu.pending.getD s.rdu.active).mode ≠ .precapture ∧
      s.rdu.viewOn = false ∧ s.rdu.halfPress = false ∧ s.cp.latches.length = 19 :=
  each_of (by decide)

theorem met_ReleaseLinesRegisterPresses_s2Spent : ∀ s ∈
    pressable (inPower .quiet false base) :: [Drive.idle, .waitingFocus, .firing, .stalledFiring].map fun d =>
      pressable { base with rdu := { Rdu.reset with drive := d } },
    s.steady ∧ (s.rdu.s2.levelOf false = true ∧ s.rdu.s2.armed = true ∧ s.rdu.s2.active = false) ∧ s.pwc.latched = false ∧
      (s.pwc.power ≠ .run ∨ s.rdu.drive ∈ [.idle, .waitingFocus, .firing, .stalledFiring]) :=
  each_of (by decide)

/-- READY under FOCUS priority with the lens locked, and with none. -/
def readyLocked : State := { readyToFire .focus with fu := { lensFu .locked with halfPress := true } }
def readyBare : State := { readyToFire .focus with fu := { Fu.reset with halfPress := true } }

theorem met_ReleaseLinesRegisterPresses_opens : ∀ q ∈ [(readyToFire .release, GateOutcome.releasePriority),
      (readyLocked, .focused), (readyBare, .noLens)],
    q.1.steady ∧ (q.1.rdu.s2.levelOf false = true ∧ q.1.rdu.s2.armed = true ∧ q.1.rdu.s2.active = false) ∧
      q.1.pwc.latched = false ∧ q.1.inRun ∧ q.1.rdu.drive = .ready ∧ q.1.rdu.viewOn = true ∧ q.1.rdu.halfPress = true ∧
      q.1.canCapture ∧ q.1.tu.queue = [] ∧ ((q.1.rdu.active.priority = .release ∧ q.2 = .releasePriority) ∨
        (q.1.rdu.active.priority = .focus ∧ q.1.fu.gate = some q.2)) :=
  each_of (by simp only [State.inRun, State.canCapture]; decide)

theorem met_ReleaseLinesRegisterPresses_waits : ∀ s ∈ [readyToFire .focus],
    s.steady ∧ (s.rdu.s2.levelOf false = true ∧ s.rdu.s2.armed = true ∧ s.rdu.s2.active = false) ∧ s.pwc.latched = false ∧
      s.inRun ∧ s.rdu.drive = .ready ∧ s.rdu.viewOn = true ∧ s.rdu.halfPress = true ∧ s.rdu.active.priority = .focus ∧
      s.fu.gate = none ∧ s.rdu.s1.held = true :=
  each_of (by simp only [State.inRun]; decide)

/-- The last number that a promotion of one row may take. -/
def ringLast (d : Drive) : State :=
  { ringOn with
    rdu := { ringOn.rdu with drive := d }, bm := { ringOn.bm with nextNumber := 16777214 } }

theorem met_ReleaseLinesRegisterPresses_promotes : ∀ s ∈
    [ringOn, ringLast .precapturing, ringLast .stalledPrecapturing],
    s.steady ∧ (s.rdu.s2.levelOf false = true ∧ s.rdu.s2.armed = true ∧ s.rdu.s2.active = false) ∧ s.pwc.latched = false ∧
      s.inRun ∧ (s.rdu.drive = .precapturing ∨ s.rdu.drive = .stalledPrecapturing) ∧ s.rdu.viewOn = false ∧
      s.rdu.halfPress = true ∧ (s.bm.rows.map Row.index).Nodup ∧
      s.rdu.ring = (s.bm.rows.filter fun r => decide (r.life = .pre)).map Row.index ∧
      (∀ n ∈ s.bm.rows.filterMap Row.number, n < s.bm.nextNumber) ∧ 1 ≤ s.bm.nextNumber ∧
      s.bm.nextNumber + s.rdu.ring.length ≤ 16777215 ∧
      ∃ r ∈ s.bm.rows, r.life = .exposing ∧ r.mark = some .opened :=
  each_of (by simp only [State.inRun]; decide)

theorem met_ReleaseLinesRegisterPresses_s1Released : ∀ s ∈
    [readyToFire .focus, waitingS2 heldLine, ringOn, ringLast .stalledPrecapturing],
    s.steady ∧ (s.rdu.s1.levelOf true = false ∧ s.rdu.s1.held = true) ∧ s.pwc.latched = false ∧ s.rdu.release = none ∧
      s.rdu.halfPress = true ∧ s.fu.halfPress = true ∧
      ((s.rdu.drive = .ready ∧ s.rdu.waiter = none) ∨ (s.rdu.drive = .waitingFocus ∧ s.rdu.waiter = some .release) ∨
        ((s.rdu.drive = .precapturing ∨ s.rdu.drive = .stalledPrecapturing) ∧ s.rdu.waiter = none ∧ s.backIdle ∧
          (s.bm.rows.map Row.index).Nodup)) :=
  each_of (by simp only [State.backIdle]; decide)

theorem met_ReleaseLinesRegisterPresses_waitOver : ∀ a ∈ [heldLine, upLine], ∀ s ∈ [waitingS2 a],
    s.steady ∧ (s.rdu.s2.levelOf true = false ∧ s.rdu.s2.held = true) ∧ s.pwc.latched = false ∧ s.rdu.halfPress = true ∧
      s.fu.halfPress = true ∧ s.rdu.drive = .waitingFocus ∧ s.rdu.waiter = some .release ∧ s.rdu.release = none ∧
      s.rdu.s1 = a ∧ s.rdu.viewOn = true ∧ (s.rdu.pending.getD s.rdu.active).mode ≠ .precapture := by
  intro a ha
  simp only [List.mem_cons, List.not_mem_nil, or_false] at ha
  rcases ha with rfl | rfl <;> exact each_of (by decide)

/-- A burst in a drive state. -/
def burstIn (d : Drive) (s : State) : State := { s with rdu := { s.rdu with drive := d } }

theorem met_ReleaseLinesRegisterPresses_s2Released :
    (∀ s ∈ [burstIn .firing (bursting upLine true { openRelease with single := true }),
        burstIn .stalledFiring (bursting heldLine false { openRelease with single := true })],
      s.steady ∧ (s.rdu.s2.levelOf true = false ∧ s.rdu.s2.held = true) ∧ s.pwc.latched = false ∧
        s.rdu.halfPress = true ∧ s.fu.halfPress = true ∧ (s.rdu.drive = .firing ∨ s.rdu.drive = .stalledFiring) ∧
        s.rdu.release = some { openRelease with single := true } ∧ openRelease.origin = .release ∧
        openRelease.granted = true ∧ s.rdu.record = some burst) ∧
    (∀ q ∈ [(burstIn .firing (bursting heldLine true openRelease), true),
        (burstIn .firing (bursting heldLine false openRelease), false),
        (burstIn .stalledFiring (bursting upLine false openRelease), false)],
      q.1.steady ∧ (q.1.rdu.s2.levelOf true = false ∧ q.1.rdu.s2.held = true) ∧ q.1.pwc.latched = false ∧
        q.1.rdu.halfPress = true ∧ q.1.fu.halfPress = true ∧
        (q.1.rdu.drive = .firing ∨ q.1.rdu.drive = .stalledFiring) ∧ q.1.rdu.release = some openRelease ∧
        ¬ (openRelease.single = true ∧ openRelease.granted = true) ∧ q.1.rdu.record = some burst ∧
        q.1.rdu.capture.any Capture.ofBurst = q.2 ∧ openRelease.ending = none ∧ q.1.rdu.waiter = none ∧
        q.1.rdu.viewOn = false ∧ (q.1.rdu.pending.getD q.1.rdu.active).mode ≠ .precapture) :=
  ⟨each_of (by decide), each_of (by decide)⟩

/-- RDU with its captures, in a drive state. -/
def timed (d : Drive) (s : State) : State :=
  { s with rdu := { s.rdu with drive := d, timer := true, viewOn := false, halfPress := true } }

/-- A full table, forty free pages and forty-one. -/
def fullBm : Bm := lowPool 99 fullTable

theorem met_FrameTimerAttemptsACapture : ∀ s ∈ [base, timed .ready base,
      timed .firing { firing with rdu := { firingRdu with release := some { openRelease with ending := some .s2Up } } }],
    s.steady ∧ (s.rdu.timer = false ∨ s.rdu.capturing = false ∨ s.rdu.barred = true) :=
  each_of (by decide)

theorem met_FrameTimerAttemptsACapture_busy : ∀ s ∈ [capturing true 0, timed .stalledFiring (capturing false 0),
      { firing with sru := { Sru.reset with fault := true } }, timed .precapturing { ringOn with fu := Fu.reset },
      timed .stalledPrecapturing { ringOf (lowPool 99 []) [] 10 with sru := { Sru.reset with fault := true } }],
    s.steady ∧ s.rdu.timer = true ∧ s.rdu.barred = false ∧ s.rdu.viewOn = false ∧ s.rdu.halfPress = true ∧
      s.pwc.latched = false ∧ (s.rdu.drive ∈ [.firing, .stalledFiring] ∨
        (s.rdu.drive ∈ [.precapturing, .stalledPrecapturing] ∧ s.rdu.s1.held = true)) ∧
      (s.rdu.capture ≠ none ∨ s.sru.fault = true) :=
  each_of (by decide)

theorem met_FrameTimerAttemptsACapture_denials : ∀ s ∈
      [{ firing with bm := fullBm }, timed .stalledFiring { firing with bm := lowPool 40 [] },
      ringOf fullBm [] 10, timed .stalledPrecapturing (ringOf (lowPool 40 []) [] 10)],
    s.steady ∧ s.rdu.timer = true ∧ s.rdu.barred = false ∧ s.rdu.viewOn = false ∧ s.rdu.halfPress = true ∧
      s.pwc.latched = false ∧ (s.rdu.drive ∈ [.firing, .stalledFiring] ∨
        (s.rdu.drive ∈ [.precapturing, .stalledPrecapturing] ∧ s.rdu.s1.held = true ∧ s.rdu.ring = [])) ∧
      s.rdu.capture = none ∧ s.sru.fault = false ∧
      (128 ≤ s.bm.rows.length ∨ (s.bm.rows.length < 128 ∧ s.bm.free.length < 41 + s.bm.reserve)) :=
  each_of (by decide +kernel)

/-- The last capture that the counts of a burst take, with 41 free pages and the 128th row free. -/
def lastCapture (d : Drive) : State :=
  timed d { firing with
    bm := lowPool 41 (fullTable.take 127),
    rdu := { firingRdu with counter := 65534, record := some { burst with captured := 65534 } } }

theorem met_FrameTimerAttemptsACapture_burst : ∀ s ∈ [firing, lastCapture .firing, lastCapture .stalledFiring],
    s.steady ∧ s.rdu.timer = true ∧ s.rdu.barred = false ∧ s.rdu.viewOn = false ∧ s.rdu.halfPress = true ∧
      s.pwc.latched = false ∧ s.rdu.drive ∈ [.firing, .stalledFiring] ∧ s.rdu.release = some openRelease ∧ s.canCapture ∧
      s.pwc.responses = none ∧ s.rdu.counter < 65535 ∧ (s.rdu.record.map BurstRecord.captured).getD 0 < 65535 ∧
      s.tu.queue = [] :=
  each_of (by simp only [State.canCapture]; decide +kernel)

theorem met_FrameTimerAttemptsACapture_ring : ∀ s ∈ [ringOf (lowPool 41 []) [] 1,
      timed .stalledPrecapturing (ringOf (lowPool 41 (fullTable.take 127)) (List.range 19) 20)],
    s.steady ∧ s.rdu.timer = true ∧ s.rdu.barred = false ∧ s.rdu.viewOn = false ∧ s.rdu.halfPress = true ∧
      s.pwc.latched = false ∧ s.rdu.drive ∈ [.precapturing, .stalledPrecapturing] ∧ s.rdu.s1.held = true ∧ s.canCapture ∧
      s.pwc.responses = none ∧ s.rdu.ring.length < s.rdu.active.depth ∧ s.tu.queue = [] :=
  each_of (by simp only [State.canCapture]; decide +kernel)

/-- A ring at its depth, in front of a full table, and in front of too few pages. -/
def evicting : List State :=
  [ringOf (lowPool 41 [wideRow]) [4] 1, ringOf (lowPool 41 ((fullTable.filter fun r => decide (r.index ≠ 4)) ++ [wideRow])) [4] 10,
    timed .stalledPrecapturing (ringOf (lowPool 0 [wideRow]) [4] 10)]

theorem met_FrameTimerAttemptsACapture_evicts : ∀ s ∈ evicting,
    s.steady ∧ s.rdu.timer = true ∧ s.rdu.barred = false ∧ s.rdu.viewOn = false ∧ s.rdu.halfPress = true ∧
      s.pwc.latched = false ∧ s.rdu.drive ∈ [.precapturing, .stalledPrecapturing] ∧ s.rdu.s1.held = true ∧
      s.rdu.ring = [4] ∧ s.bm.row? 4 = some wideRow ∧ wideRow.life = .pre ∧
      wideRow.raw = some { pages := (List.range 41).map (· + 1000), length := 42000064 } ∧ s.backIdle ∧
      s.rdu.capture = none ∧ s.sru.fault = false ∧
      (s.rdu.active.depth ≤ s.rdu.ring.length ∨ 128 ≤ s.bm.rows.length ∨ s.bm.free.length < 41 + s.bm.reserve) ∧
      (s.bm.remove 4).rows.length < 128 ∧
      41 + s.bm.reserve ≤ (((List.range 41).map (· + 1000)).foldr insertPage s.bm.free).length ∧
      s.sru.readout = none ∧ s.sru.running = true ∧ s.pwc.responses = none :=
  each_of (by simp only [State.backIdle]; decide +kernel)

theorem met_FrameTimerAttemptsACapture_secondDenial : ∀ s ∈ [ringOf (lowPool 39 [preRow]) [4] 10],
    s.steady ∧ s.rdu.timer = true ∧ s.rdu.barred = false ∧ s.rdu.viewOn = false ∧ s.rdu.halfPress = true ∧
      s.pwc.latched = false ∧ s.rdu.drive ∈ [.precapturing, .stalledPrecapturing] ∧ s.rdu.s1.held = true ∧
      s.rdu.ring = [4] ∧ s.bm.row? 4 = some preRow ∧ preRow.life = .pre ∧
      preRow.raw = some { pages := [8], length := 42000064 } ∧ s.backIdle ∧ s.rdu.capture = none ∧ s.sru.fault = false ∧
      s.rdu.release = none ∧ s.rdu.ring.length < s.rdu.active.depth ∧ s.bm.free.length < 41 + s.bm.reserve ∧
      (s.bm.remove 4).rows.length < 128 ∧ ([8].foldr insertPage s.bm.free).length < 41 + s.bm.reserve :=
  each_of (by simp only [State.backIdle]; decide +kernel)

/-- Two kinds with occurrences and no entry, one kind with an entry that waits, and one with an entry in progress. -/
def maskable : State :=
  { base with cp := { Cp.reset with
      queue := [.notice .wake 1 [0], .notice .ready 1 []], fixed := true,
      enabled := Notice.all.map fun k => decide (k = .ready ∨ k = .wake),
      latches := Cp.reset.latches.map fun _ => { count := 2, snapshot := some [0] } } }

theorem met_NoticeMaskSetReplacesTheEnableSet_changes :
    (∀ s ∈ [maskable], s.cp.rx = .hunt ∧ s.cp.muted = false ∧ s.cp.outstanding < Config.maxReplies ∧
      s.pwc = Pwc.reset ∧ s.cp.enabled.length = 19 ∧ s.cp.isEnabled .ready = true ∧ s.cp.hasEntry .ready = true ∧
      s.cp.entryFixed .ready = false ∧ s.cp.entryFixed .wake = true ∧ s.cp.isEnabled .shotHeld = false ∧
      s.cp.hasEntry .shotHeld = false ∧ 0 < (s.cp.latch .shotHeld).count) ∧
    (List.replicate 19 false).length = 19 ∧ (List.replicate 19 true).length = 19 := by
  decide

/-- Shot 1 with its RAW chain to be sent, and the part with two entries in its queue. -/
def unsentRow : Row :=
  { heldRow with tethers := [{ chain := .raw, state := .pending, source := .buffer, prio := 1, early := false, cause := none }] }
def resettable : State :=
  { withRows [unsentRow] with
    tu := { linkTu .boundIdle with queue := [entry .duty .raw (some 0) false, entry .stored .proof none false] } }

theorem met_ResetTetherEmptiesTheQueue :
    (∀ s ∈ [withTu { Tu.reset with stopped := true }], s.answers ∧ s.tu.stopped = true) ∧
    (∀ s ∈ [resettable, withTu (sendingTu .sending (entry .stored .raw none true) (transfer .raw 42000064 2816 1408))],
      s.answers ∧ s.tu.stopped = false ∧ s.pwc.responses = none ∧ (s.tu.transfer = none ∨ s.tu.active? ≠ none) ∧
        s.cp.latches.length = 19 ∧ ((s.hears .resetPart).cp.latch .sendFailed).count ≤ 255 ∧
        (s.tu.queue.map fun e => (e.number, e.chain)).Nodup) ∧
    (entry .duty .raw (some 0) false ∈ resettable.tu.queue ∧ resettable.bm.row? 0 = some unsentRow ∧
      unsentRow.tethers[0]? = some ⟨.raw, .pending, .buffer, 1, false, none⟩) ∧
    (∀ s ∈ [withTu { offTu with queue := [entry .stored .raw none false] }], s.answers ∧ s.tu.stopped = false ∧
      s.tu.queue = [entry .stored .raw none false] ∧ (entry .stored .raw none false).row = none ∧ s.tu.transfer = none ∧
      s.tu.link = .off) :=
  ⟨judged_of (by decide), judged_of (by decide), by decide, judged_of (by decide)⟩

theorem met_SensorRestartsAndViewsAreRequested :
    (∀ s ∈ [base, blind, viewing true, capturing false 0], s.answers ∧ True) ∧
    (∀ s ∈ [{ base with sru := { Sru.reset with viewTimer := true } }], s.answers ∧ s.sru.viewTimer = true ∧
      s.sru.readout = none ∧ s.sru.waiting = none ∧ s.sru.running = true ∧ s.sru.fault = false) ∧
    (∀ s ∈ [base, viewing true, { base with sru := { Sru.reset with viewTimer := true, waiting := some (0, .focused) } },
        { base with sru := { Sru.reset with viewTimer := true, running := false } },
        { blind with sru := { blind.sru with viewTimer := true } }], s.answers ∧
      (s.sru.viewTimer = false ∨ s.sru.readout ≠ none ∨ s.sru.waiting ≠ none ∨ s.sru.running = false ∨
        s.sru.fault = true)) :=
  ⟨judged_of (by decide), judged_of (by decide), judged_of (by decide)⟩

/-- How a readout can end without a complete frame, at the bounds of the counts. -/
def failing (s : State) (o : Readout) : Prop :=
  s.sru.readout = some o ∧ s.sru.fault = false ∧ s.pwc.responses = none ∧
    (o.reading = false → s.sru.startTimer = true ∧ s.sru.missed ≤ 2) ∧
    (o.reading = true → s.sru.endTimer = true ∧ (o.kind = .view ∨ o.lines ≠ 4000 ∨ (3999 : BitVec 16).toNat < 4000))

/-- A state with a count of missed starts. -/
def missing (n : Nat) (s : State) : State := { s with sru := { s.sru with missed := n } }

theorem met_FailedCapturesAreVoid_view : ∀ q ∈
      [(viewing true, true), (missing 1 (viewing false), false), (missing 2 (viewing false), false)],
    q.1.steady ∧ failing q.1 { readout q.2 0 with kind := .view } ∧ q.1.sru.waiting = none :=
  each_of (by simp only [failing]; decide)

theorem met_FailedCapturesAreVoid_viewBefore : ∀ q ∈ [(viewing true, true), (missing 1 (viewing false), false)],
    ∀ s ∈ [({ q.1 with sru := { q.1.sru with waiting := some (0, .focused) } } : State)],
    s.steady ∧ failing s { readout q.2 0 with kind := .view } ∧ s.sru.waiting = some (0, .focused) ∧ s.sru.running = true ∧
      s.sru.missed < 2 := by
  intro q hq
  simp only [List.mem_cons, List.not_mem_nil, or_false] at hq
  rcases hq with rfl | rfl <;> exact each_of (by simp only [failing]; decide)

/-- A readout of the open ring frame, or of one whose ring has been dropped, that the part requests or reads. -/
def ringReadout (reading : Bool) (lines : Nat) (mark : RingMark) : State :=
  { withRows [{ exposingRow with mark := some mark, precapture := true, origin := .precapture }] with
    rdu := { Rdu.reset with
      drive := .precapturing, openRow := if mark = .opened then some 0 else none,
      capture := some { row := 0, ofBurst := false } },
    sru := { Sru.reset with
      readout := some (readout reading lines), startTimer := !reading, endTimer := reading, missed := 2 } }

theorem met_FailedCapturesAreVoid : ∀ q ∈
      [(missing 1 (capturing false 5), false), (missing 2 (capturing false 5), false),
      (capturing true 3999, true)],
    q.1.steady ∧ (failing q.1 (readout q.2 5) ∨ failing q.1 (readout q.2 3999)) ∧ (readout q.2 5).kind = .capture ∧
      q.1.sru.waiting = none ∧ q.1.backIdle ∧ q.1.bm.row? 0 = some exposingRow ∧ exposingRow.life = .exposing ∧
      exposingRow.raw = some { pages := [0], length := 42000064 } ∧ exposingRow.mark ≠ some .dropped ∧
      q.1.rdu.capture = some { row := 0, ofBurst := true } ∧ q.1.rdu.openRow = none ∧
      q.1.rdu.release = some openRelease ∧ openRelease.single = false ∧ openRelease.origin = .release ∧
      openRelease.ending = none ∧ q.1.rdu.active.limit = 0 :=
  each_of (by simp only [failing, State.backIdle]; decide)

theorem met_FailedCapturesAreVoid_ring : ∀ q ∈ [(ringReadout false 3999 .opened, RingMark.opened, false),
      (ringReadout true 3999 .opened, .opened, true), (ringReadout false 3999 .dropped, .dropped, false),
      (ringReadout true 3999 .dropped, .dropped, true)],
    q.1.steady ∧ failing q.1 (readout q.2.2 3999) ∧ q.1.sru.waiting = none ∧ q.1.backIdle ∧
      (q.1.bm.row? 0).map (fun r => (r.life, r.raw, r.mark)) =
        some (.exposing, some { pages := [0], length := 42000064 }, some q.2.1) ∧
      q.1.rdu.capture = some { row := 0, ofBurst := false } ∧ q.1.rdu.openRow.isSome = decide (q.2.1 = .opened) :=
  each_of (by simp only [failing, State.backIdle]; decide)

theorem met_CompleteFramesEnterHeldOrTheRing_ring : ∀ q ∈ [(ringReadout true 4000 .opened, RingMark.opened),
      (ringReadout true 4000 .dropped, .dropped)],
    q.1.steady ∧ (q.1.bm.rows.map Row.index).Nodup ∧ q.1.sru.readout = some (readout true 4000) ∧
      (readout true 4000).kind = .capture ∧ (readout true 4000).lines = 4000 ∧ 4000 ≤ (4000 : BitVec 16).toNat ∧
      (q.1.bm.row? 0).map (fun r => (r.life, r.raw, r.mark)) =
        some (.exposing, some { pages := [0], length := 42000064 }, some q.2) ∧ (q.1.bm.row? 0).map Row.index = some 0 ∧
      q.1.rdu.openRow.isSome = decide (q.2 = .opened) ∧ q.1.rdu.capture = some { row := 0, ofBurst := false } ∧
      q.1.backIdle :=
  each_of (by simp only [State.backIdle]; decide)

/-- The part that reads the last of a shot's frame, under a policy and with its slots in a state. -/
def completing (p : Policy) (a b : SlotState) (s : State) : State :=
  { capturing true 4000 with
    cw := { Cw.reset with policy := p, proofs := true, a := slot a, b := slot b },
    de := { De.reset with engine := .running, job := some { job with row := 3 }, auto := true }, tu := s.tu,
    bm := { (capturing true 4000).bm with nextNumber := 16777215 } }

/-- TU under auto-send ALL_PROOFS with a queue of some length. -/
def autoTu (n : Nat) : State :=
  withTu { linkTu .unbound with
    auto := .allProofs, queue := List.replicate n { entry .stored .raw none false with number := 70 } }

theorem met_CompleteFramesEnterHeldOrTheRing : ∀ s ∈ [completing .mirror .absent .writing base,
      completing .overflow .writing .present (autoTu 63), completing .split .suspended .absent (autoTu 64),
      completing .singleB .absent .suspended base],
    s.steady ∧ (s.bm.rows.map Row.index).Nodup ∧ s.sru.readout = some (readout true 4000) ∧
      s.bm.row? 0 = some exposingRow ∧ exposingRow.index = 0 ∧ exposingRow.life = .exposing ∧
      exposingRow.raw = some { pages := [0], length := 42000064 } ∧ exposingRow.mark = none ∧ s.rdu.openRow = none ∧
      s.rdu.capture = some { row := 0, ofBurst := true } ∧ s.bm.numbered? s.bm.nextNumber = none ∧
      exposingRow.develop = .absent ∧ exposingRow.proof = none ∧ exposingRow.cards = [] ∧ exposingRow.tethers = [] ∧
      s.rdu.release = some openRelease ∧ s.rdu.active.limit = 0 ∧ s.rdu.record = some burst ∧ burst.firstShot = 0 ∧
      s.cw.a.state ∈ [.absent, .present, .writing, .suspended] ∧ s.cw.b.state ∈ [.absent, .present, .writing, .suspended] ∧
      s.de.engine = .running ∧ 0 ∉ s.de.normal ++ s.de.urgent ∧ s.tu.link ≠ .boundIdle ∧ s.tu.transfer = none ∧
      s.tu.underTimer = false :=
  each_of (by decide +kernel)

theorem met_CompleteFramesEnterHeldOrTheRing_settles : ∀ q ∈
      [(Policy.singleA, SlotId.a, SlotState.locked), (.singleB, .b, .fault)],
    ∀ s ∈ [({ completing q.1 q.2.2 q.2.2 base with
      cw := { Cw.reset with policy := q.1, a := slot q.2.2, b := slot q.2.2 }, de := De.reset } : State)],
    s.steady ∧ s.cw.policy = q.1 ∧ (s.cw.slot q.2.1).state = q.2.2 ∧ s.cw.proofs = false ∧ s.de.auto = false ∧
      s.tu.auto ≠ .allProofs ∧ s.backIdle ∧ exposingRow.discarding = false := by
  intro q hq
  simp only [List.mem_cons, List.not_mem_nil, or_false] at hq
  rcases hq with rfl | rfl <;> exact each_of (by simp only [State.backIdle]; decide)

/-- FU that has formed the estimates of its frame and asked for its position. -/
def formedFu (st : FocusState) (area : AfArea) (p : Int) : Fu :=
  { lensFu st with
    query := true, frame := some { frame (some (shapes p)) with timestamp := 500000 }, seek := 29,
    active := { AfSettings.defaults with area := area, mode := .continuous, prediction := true },
    tracking := { col := 0, row := 0, held := some 505, run := 4 },
    current := some { frameId := 6, timestamp := 0, position := some 400, valid := true, zone := some (0, 0), steps := 50,
                      target := 450, moveTarget := 450, predicted := false, inFocus := false } }

/-- A grid with no valid zone. -/
def flatFu (st : FocusState) : Fu :=
  { formedFu st .track 0 with
    frame := some (frame (some (List.replicate 117 { validity := .flat, p16 := 0, c := 0, d := 0 }))) }

/-- Phase 4 is 6 steps, within the tolerance of 10; phase 52 is 81 steps (the worked zone after R79). The zone in the
corner wins in GROUP and TRACK, since all targets are equal; the interval to the last frame is the longest for
prediction. -/
theorem met_CompletedFramesSelectAndReact :
    (∀ st ∈ [FocusState.seeking, .tracking, .lost, .idle, .locked, .noTarget], ∀ p ∈ [(4 : Int), 52],
      ∀ a ∈ [AfArea.spot, .group, .track], ∀ s ∈ [withLens (formedFu st a p)],
      s.inRun ∧ s.rdu.drive ≠ .waitingFocus ∧ s.fu.descriptor = some lens ∧ s.fu.live = true ∧ s.fu.query = true ∧
        s.fu.bare = false ∧ s.fu.frame = some { frame (some (shapes p)) with timestamp := 500000 } ∧
        s.fu.active.mode = .continuous ∧ s.fu.active.prediction = true ∧
        s.fu.current.any (fun q => q.valid && decide (500000 = q.timestamp + 500000)) = true) ∧
    (∀ st ∈ [FocusState.seeking, .tracking, .lost, .idle], ∀ s ∈ [withLens (flatFu st)],
      s.inRun ∧ s.fu.descriptor = some lens ∧ s.fu.live = true ∧ s.fu.query = true ∧ s.fu.bare = false ∧
        s.fu.seek = 29 ∧ s.fu.tracking.run = 4) ∧
    ((shapes 52)[13 * 0 + 0]? = some { validity := .valid, p16 := 52, c := 1000, d := 100 } ∧
      roundAway (52 * lens.k16) 256 = 81 ∧ (max 0 (min ((500 : BitVec 16).toNat + (81 : Int)) lens.lensMax)).toNat = 581) := by
  simp only [State.inRun]
  decide +kernel

/-- Slots A and B in front of some rows. -/
def carded (rows : List Row) (x y : Slot) : State := { withRows rows with cw := { Cw.reset with a := x, b := y } }

/-- Shot 1 with a card duty that waits in slot A's write queue, and shot 2 with a proof to be stored behind it. -/
def pendingRow (p : Policy) : Row := { writtenRow with policy := some p, cards := [cardDuty .raw .pending] }
def proofStored : Row :=
  { heldRow with index := 1, number := some 2, develop := .done, proof := some { pages := [50], length := 12000064, frontier := 2000 },
                 cards := [cardDuty .proof .waitingExtents] }

/-- An attached slot whose write queue is not empty. -/
def queueing (st : SlotState) (n : Nat) (e : List Piece) : Slot :=
  { slot st with writeQ := [{ row := 0, place := 0 }, { row := 1, place := 0 }].take n, extents := e }

theorem met_SlotsFollowRequestsAndLines :
    (∀ s ∈ [base], s.answers ∧ (s.cw.slot .a).state = .absent ∧ (s.cw.slot .a).cardIn = false) ∧
    (∀ s ∈ [withSlot .b (present false)], s.answers ∧ s.cw.slot .b = present false ∧ (present false).state = .present ∧
      (present false).waitQ = [] ∧ (present false).writeQ = [] ∧ (present false).cardIn = true ∧
      (present false).op = .idle ∧ (present false).reads = [] ∧ (present false).writing = none ∧
      (present false).extents = []) ∧
    (0 < 1000 ∧ 10 + 990 ≤ 1000 ∧ 1000 < 10 + 991) ∧
    (∀ s ∈ [writing 0], s.answers ∧ s.cw.slot .a = writingSlot 0 ∧ (writingSlot 0).state = .writing ∧
      (writingSlot 0).stops = []) ∧
    (∀ s ∈ [withSlot .a (slot .ready)], s.answers ∧ (s.cw.slot .a).cardIn = true ∧ (s.cw.slot .a).lockOn = false ∧
      (s.cw.slot .a).state = .ready ∧ (s.cw.slot .a).writeQ = [] ∧ (s.cw.slot .a).reads = []) ∧
    (∀ s ∈ [withSlot .a { slot .locked with lockOn := true }], s.answers ∧ (s.cw.slot .a).cardIn = true ∧
      (s.cw.slot .a).lockOn = true ∧ (s.cw.slot .a).state = .locked ∧ (s.cw.slot .a).writeQ = [] ∧
      (s.cw.slot .a).reads = []) :=
  ⟨judged_of (by decide), judged_of (by decide), by decide, judged_of (by decide), judged_of (by decide), judged_of (by decide)⟩

/-- A slot that loses its card holds 164,064 sectors, or one fewer. -/
theorem met_SlotsFollowRequestsAndLines_leaves : ∀ s ∈ [carded [] (slot .ready) Slot.reset,
      carded [] (queueing .locked 0 [⟨5, 164063⟩]) Slot.reset, carded [] (queueing .fault 0 [⟨5, 164064⟩]) Slot.reset],
    s.answers ∧ (s.cw.a.state = .ready ∨ s.cw.a.state = .locked ∨ s.cw.a.state = .fault) ∧ s.cw.a.op = .idle ∧
      s.cw.a.reads = [] ∧ s.cw.a.cardIn = true ∧ s.cw.a.writing = none ∧ s.cw.a.writeQ = [] :=
  judged_of (by decide)

theorem met_SlotsFollowRequestsAndLines_waits : ∀ s ∈
      [carded [pendingRow .mirror, proofStored] (queueing .ready 2 []) Slot.reset],
    s.answers ∧ s.cw.a.state = .ready ∧ s.cw.a.op = .idle ∧ s.cw.a.reads = [] ∧ s.cw.a.cardIn = true ∧
      s.cw.a.writing = none ∧ s.cw.stopped = false ∧ (s.bm.rows.map Row.index).Nodup ∧ s.cw.a.writeQ.Nodup ∧
      ∀ q ∈ s.cw.a.writeQ, ((s.bm.row? q.row).bind fun r => r.cards[q.place]?).any (fun d => !d.state.isFinal) = true ∧
        (s.bm.row? q.row).any (fun r => decide (r.policy ≠ some .overflow)) = true :=
  judged_of (by decide)

theorem met_SlotsFollowRequestsAndLines_failover : ∀ s ∈
      [carded [pendingRow .overflow] (queueing .ready 1 []) (slot .locked),
      carded [pendingRow .overflow] (queueing .ready 1 [⟨5, 164064⟩]) (slot .writing),
      carded [pendingRow .overflow] (queueing .ready 1 []) (slot .suspended)],
    s.answers ∧ s.cw.a.state = .ready ∧ s.cw.a.op = .idle ∧ s.cw.a.reads = [] ∧ s.cw.a.cardIn = true ∧
      s.cw.a.writing = none ∧ s.cw.stopped = false ∧ (s.bm.rows.map Row.index).Nodup ∧
      s.cw.a.writeQ = [{ row := 0, place := 0 }] ∧ s.bm.row? 0 = some (pendingRow .overflow) ∧
      (pendingRow .overflow).cards[0]? = some (cardDuty .raw .pending) ∧ (cardDuty .raw .pending).slot = .a ∧
      (pendingRow .overflow).life = .held ∧ (pendingRow .overflow).develop = .pending ∧
      (pendingRow .overflow).proof = none ∧ (pendingRow .overflow).discarding = false ∧
      (s.cw.b.writable = false ∨ s.cw.b.state = .writing ∨ s.cw.b.state = .suspended) :=
  judged_of (by decide)

/-- The extents in front of one that is added: with the three of the example after R132 the first eight cover a raw chain,
with eight small ones neither chain. -/
def added : Piece := ⟨400000, 100000⟩
def exampleQueue : List Piece := [⟨100000, 50000⟩, ⟨200000, 20000⟩, ⟨300000, 40000⟩]
def nineExtents : List Piece := (List.range 8).map fun k => ⟨1000 + 20 * k, 10⟩

theorem met_ExtentsAreQueuedAndFlushed_noFit : ∀ s ∈
      [carded [pendingRow .mirror, proofStored] (queueing .ready 2 nineExtents) Slot.reset],
    s.answers ∧ s.cw.a.state = .ready ∧ s.cw.a.capacity = some 1000000 ∧ s.cw.a.writing = none ∧ s.cw.a.op = .idle ∧
      s.cw.stopped = false ∧ (s.bm.rows.map Row.index).Nodup ∧ s.cw.a.extents.length < 32 ∧
      (∀ o ∈ s.cw.a.range.toList ++ s.cw.a.extents, 400000 + 100000 ≤ o.start ∨ o.start + o.count ≤ 400000) ∧
      (((nineExtents ++ [added]).take 8).map Piece.count).sum < sectorNeed .proof ∧
      sectorNeed .proof < sectorNeed .raw ∧ s.cw.a.writeQ = [{ row := 0, place := 0 }, { row := 1, place := 0 }] :=
  judged_of (by decide)

theorem met_ExtentsAreQueuedAndFlushed_selects : ∀ s ∈ [
      carded [pendingRow .mirror, proofStored] (queueing .ready 2 exampleQueue) Slot.reset],
    s.answers ∧ s.cw.a.state = .ready ∧ s.cw.a.capacity = some 1000000 ∧ s.cw.a.writing = none ∧ s.cw.a.op = .idle ∧
      s.cw.stopped = false ∧ (s.bm.rows.map Row.index).Nodup ∧ s.cw.a.extents.length < 32 ∧
      (∀ o ∈ s.cw.a.range.toList ++ s.cw.a.extents, 400000 + 100000 ≤ o.start ∨ o.start + o.count ≤ 400000) ∧
      s.cw.a.writeQ = [] ++ { row := 0, place := 0 } :: [{ row := 1, place := 0 }] ∧
      s.bm.row? 0 = some (pendingRow .mirror) ∧ (pendingRow .mirror).cards[0]? = some (cardDuty .raw .pending) ∧
      sectorNeed .raw ≤ (((exampleQueue ++ [added]).take 8).map Piece.count).sum ∧
      exampleQueue ++ [added] = [⟨100000, 50000⟩, ⟨200000, 20000⟩] ++ ⟨300000, 40000⟩ :: [added] ∧
      0 < 12032 ∧ 12032 ≤ 40000 ∧ 50000 + 20000 + 12032 = sectorNeed .raw ∧
      164064 ≤ ((exampleQueue ++ [added]).map Piece.count).sum :=
  judged_of (by decide)

/-- The proof behind a raw chain that does not fit takes the whole of an extent of its size. -/
theorem met_ExtentsAreQueuedAndFlushed_passes : ∀ s ∈
      [carded [pendingRow .mirror, proofStored] (queueing .ready 2 []) Slot.reset],
    s.answers ∧ s.cw.a.state = .ready ∧ s.cw.a.capacity = some 1000000 ∧ s.cw.a.writing = none ∧ s.cw.a.op = .idle ∧
      s.cw.stopped = false ∧ (s.bm.rows.map Row.index).Nodup ∧
      s.cw.a.writeQ = [{ row := 0, place := 0 }] ++ { row := 1, place := 0 } :: [] ∧
      ((s.bm.row? 0).bind fun r => r.cards[0]?).any (fun d => decide (23438 < sectorNeed d.chain)) = true ∧
      s.bm.row? 1 = some proofStored ∧ proofStored.cards[0]? = some (cardDuty .proof .waitingExtents) ∧
      sectorNeed .proof = 23438 :=
  judged_of (by decide)

/-- Slot A while it writes a row, with the sectors written, a change of the slot and one of the part. -/
def writingOf (r : Row) (n : Nat) (f : Slot → Slot) (g : State → State) : State :=
  g { withRows [r] with cw := { Cw.reset with a := f (writingSlot n), b := slot .writing } }

/-- What every clause about the end of a run asks of the duty. -/
def writes (s : State) (r : Row) (n : Nat) : Prop :=
  s.cw.a.writing = some { duty := { row := 0, place := 0 }, written := n } ∧ s.bm.row? 0 = some r ∧
    r.cards[0]? = some (cardDuty .raw .writing) ∧ (cardDuty .raw .writing).slot = .a ∧ s.cw.a.op = .run 1000 256 [] ∧
    s.cw.a.state = .writing ∧ (s.bm.rows.map Row.index).Nodup ∧ (cardDuty .raw .writing).chain = .raw ∧ r.life = .held ∧
    r.raw = some { pages := [0], length := 42000064 } ∧ r.proof = none

/-- No warning is latched. -/
def calm (s : State) : Prop := s.cw.stopped = false ∧ s.pwc.responses = none

theorem met_RunsEndAsTheyGo :
    (base.steady ∧ (base.cw.slot .b).op = .idle) ∧
    (∀ s ∈ [writing 0], s.steady ∧ s.cw.a.state = .writing ∧ s.cw.a.cardIn = true ∧ s.cw.a.lockOn = false ∧
      s.cw.a.stops = []) ∧
    (∀ s ∈ [writingOf writtenRow 0 (fun x => { x with stops := [.locked, .discarded], lockOn := true }) id], s.steady ∧
      s.cw.a.state = .writing ∧ s.cw.a.cardIn = true ∧ s.cw.a.lockOn = true ∧
      s.cw.a.stops = [.locked] ++ [.discarded] ∧ Stop.locked ∉ [Stop.discarded]) :=
  ⟨⟨steady_of rfl, rfl⟩, each_of (by decide), each_of (by decide)⟩

theorem met_RunsEndAsTheyGo_next : ∀ q ∈ [(writingOf writtenRow 81775 id id, []),
      (writingOf writtenRow 81775 (fun x => { x with failRun := 2, reads := [readOf0] }) id, [readOf0])],
    q.1.steady ∧ writes q.1 writtenRow 81775 ∧ calm q.1 ∧ 81775 + 256 < sectorNeed .raw ∧ q.1.cw.a.stops = [] ∧
      q.1.cw.a.failRun < 3 ∧ q.1.cw.a.reads = q.2 ∧
      placeAt 256 (cardDuty .raw .writing).pieces (81775 + 256) = some ⟨83031, 1⟩ :=
  each_of (by simp only [writes, calm]; decide)

theorem met_RunsEndAsTheyGo_done : ∀ q ∈ [(writingOf writtenRow 81776 id id, 81776, []),
      (writingOf writtenRow 81776 (fun x => { x with stops := [.detached] }) id, 81776, [Stop.detached]),
      (writingOf writtenRow 81776 (fun x => { x with stops := [.locked], failRun := 1 }) id, 81776, [.locked]),
      (writingOf writtenRow 81775 (fun x => { x with stops := [.detached], extents := [⟨5, 164063⟩] }) id, 81775, [.detached]),
      (writingOf writtenRow 0 (fun x => { x with stops := [.locked] }) id, 0, [.locked])],
    q.1.steady ∧ writes q.1 writtenRow q.2.1 ∧ calm q.1 ∧ writtenRow.develop = .pending ∧
      writtenRow.policy ≠ some .overflow ∧ q.1.cw.a.stops = q.2.2 ∧ q.1.cw.a.failRun < 2 ∧ q.1.cw.a.reads = [] ∧
      q.1.cw.a.writeQ = [] ∧ q.1.tu.queue = [] ∧ q.1.cw.a.queued < 164064 :=
  each_of (by simp only [writes, calm]; decide)

theorem met_RunsEndAsTheyGo_fails : ∀ q ∈ [(writingOf writtenRow 0 (fun x => { x with failRun := 1 }) id, writtenRow),
      (writingOf writtenRow 0 (fun x => { x with failRun := 2 }) id, writtenRow),
      (writingOf { writtenRow with policy := some .overflow } 0 (fun x => { x with failRun := 1 }) id,
        { writtenRow with policy := some .overflow })],
    q.1.steady ∧ writes q.1 q.2 0 ∧ calm q.1 ∧ q.2.develop = .pending ∧ q.2.discarding = false ∧ q.1.cw.a.stops = [] ∧
      q.1.cw.a.failRun < 3 ∧ q.1.cw.a.reads = [] ∧ q.1.cw.a.writeQ = [] ∧ q.1.tu.queue = [] ∧
      (q.2.policy = some .overflow → q.1.cw.b.state = .writing) :=
  each_of (by simp only [writes, calm]; decide)

theorem met_RunsEndAsTheyGo_thirdFailure : ∀ s ∈ [writingOf writtenRow 0
      (fun x => { x with failRun := 2, writeQ := [{ row := 1, place := 0 }], reads := [readOf0] })
      (fun s => { s with bm := { s.bm with rows := s.bm.rows ++ [proofStored] } })],
    s.steady ∧ writes s writtenRow 0 ∧ calm s ∧ s.cw.a.stops = [] ∧ s.cw.a.failRun = 2 ∧
      s.cw.a.writeQ = [{ row := 1, place := 0 }] ∧ ({ row := 1, place := 0 } : DutyRef) ≠ { row := 0, place := 0 } ∧
      s.bm.row? 1 = some proofStored ∧ proofStored.cards[0]? = some (cardDuty .proof .waitingExtents) ∧
      (cardDuty .proof .waitingExtents).state.isFinal = false :=
  each_of (by simp only [writes, calm]; decide)

theorem met_RunsEndAsTheyGo_suspension : ∀ q ∈ [(3, [readOf0]), (3, []), (4, [readOf0])],
    ∀ s ∈ [writingOf writtenRow 0 (fun x => { x with
        state := .suspended, op := .read readOf0 true, served := q.1, reads := q.2 })
      (fun s => { s with tu := { Tu.reset with buffers := [.asked 0 2 true] } })],
    s.steady ∧ calm s ∧ s.cw.a.state = .suspended ∧ s.cw.a.op = .read readOf0 true ∧
      s.tu.buffers[readOf0.buffer]? = some (.asked 0 2 true) ∧ s.tu.transfer = none ∧ s.bm.row? 0 = some writtenRow ∧
      placeAt 256 (cardDuty .raw .writing).pieces 0 = some ⟨1000, 256⟩ ∧ s.cw.a.stops = [] ∧ s.cw.a.writeQ = [] ∧
      s.cw.a.failRun < 3 ∧ s.tu.queue = [] ∧ s.cw.a.cardIn = true ∧ s.cw.a.lockOn = false := by
  intro q hq
  simp only [List.mem_cons, List.not_mem_nil, or_false] at hq
  rcases hq with rfl | rfl | rfl <;> exact each_of (by simp only [calm]; decide)

/-- The state after a command. -/
def stateAfter (s : State) (c : Instr) : State :=
  match exec c s with
  | .next t => t
  | .fault _ | .refused _ => s

/-- Slot A with shot 2's proof behind the chain it writes, and the sectors for it. -/
def twoChains : State :=
  writingOf writtenRow 81776 (fun x => { x with writeQ := [{ row := 1, place := 0 }], extents := [⟨200000, 23438⟩] })
    fun s => { s with bm := { s.bm with rows := s.bm.rows ++ [proofStored] } }

/-- R133: the run timer expires, the next chain's run starts, and the RUN_OK of the expired run then counts nothing; that
of the new run counts its 256 sectors. -/
theorem test_late_run_answer :
    [[Instr.runTimerExpiry .a], [.runTimerExpiry .a, .runOk ⟨.a, true⟩], [.runTimerExpiry .a, .runOk ⟨.a, false⟩]].map
        (fun cs => (cs.foldl stateAfter twoChains).cw.a.writing.map fun w => (w.duty.row, w.written)) =
      [some (1, 0), some (1, 0), some (1, 256)] := by decide +kernel

/-- R140: the data of a read whose timer has expired does not fill the buffer of the next read; that read's own does. -/
theorem test_late_read_answer :
    [true, false].map (fun late => [Instr.readTimerExpiry .b, .readOk ⟨.b, late⟩ (List.replicate 1024 7)].foldl stateAfter
        { withSlot .b { readingSlot with reads := [readOf0] } with
          tu := { linkTu .boundIdle with
            buffers := .asked 0 2 false :: .free :: .free :: .asked 4 2 true :: List.replicate 4 .free } }
      |>.tu.buffers[0]?) =
      [some (.asked 0 2 false), some (.full 0 2 (List.replicate 1024 7))] := by decide +kernel

/-- Shot 1 being discarded, with every other duty final. -/
def discardedRow : Row :=
  { writtenRow with discarding := true, develop := .cancelled, cards := [cardDuty .raw .writing, cardDuty .proof .failed] }

theorem met_RunsEndAsTheyGo_discarded : ∀ q ∈
      [(writingOf discardedRow 81775 (fun x => { x with stops := [.discarded], failRun := 1 }) id, 81775),
      (writingOf discardedRow 81776 (fun x => { x with stops := [.discarded] }) id, 81776)],
    q.1.steady ∧ writes q.1 discardedRow q.2 ∧ calm q.1 ∧ q.1.cw.a.stops = [.discarded] ∧ q.1.cw.a.reads = [] ∧
      q.1.cw.a.writeQ = [] ∧ q.1.cw.a.failRun < 2 ∧ q.1.backIdle ∧ discardedRow.discarding = true ∧
      discardedRow.develop.isFinal = true ∧ (∀ y ∈ discardedRow.cards.eraseIdx 0, y.state.isFinal = true) ∧
      (∀ y ∈ discardedRow.tethers, y.state.isFinal = true) :=
  each_of (by simp only [writes, calm, State.backIdle]; decide)

theorem met_RunsEndAsTheyGo_removed : ∀ q ∈
      [(writingOf writtenRow 0 (fun x => { x with extents := [⟨5, 164064⟩] }) id, []),
      (writingOf writtenRow 0 (fun x => { x with stops := [.locked, .detached], extents := [⟨5, 164063⟩] }) id,
        [Stop.locked, .detached])],
    q.1.steady ∧ writes q.1 writtenRow 0 ∧ calm q.1 ∧ q.1.pwc.power ≠ .halt ∧ q.1.cw.a.cardIn = true ∧
      writtenRow.policy ≠ some .overflow ∧ q.1.cw.a.stops = q.2 ∧ q.1.cw.a.reads = [] ∧ q.1.cw.a.writeQ = [] ∧
      q.1.tu.queue = [] :=
  each_of (by simp only [writes, calm]; decide)

/-- The part after a supply warning, with slot A or both slots writing. -/
def warned (both : Bool) (s : State) : State :=
  { s with
    pwc := { power := .run, latched := true, responses := some (Responses.delivered false) },
    de := { s.de with engine := .stopped },
    cw := { s.cw with
      stopped := true,
      b := if both then { writingSlot 0 with writing := some { duty := { row := 0, place := 1 }, written := 0 } } else Slot.reset } }

theorem met_RunsEndAsTheyGo_power : ∀ q ∈ [(false, 81775), (false, 81776), (true, 81775)],
    (writingOf writtenRow q.2 (fun x => { x with stops := [.power], failRun := 1 }) (warned q.1)).steady ∧
    ∀ s ∈ [writingOf writtenRow q.2 (fun x => { x with stops := [.power], failRun := 1 }) (warned q.1)],
      writes s writtenRow q.2 ∧ s.cw.stopped = true ∧ s.pwc.responses = some (Responses.delivered false) ∧
        s.cw.a.stops = [.power] ∧ s.cw.a.failRun < 2 ∧ writtenRow.develop = .pending ∧ s.tu.queue = [] ∧
        s.cw.b.writing.isSome = q.1 := by
  intro q hq
  simp only [List.mem_cons, List.not_mem_nil, or_false] at hq
  rcases hq with rfl | rfl | rfl <;>
    exact ⟨fun r hr => ⟨(Option.some.inj hr).symm, rfl⟩, by simp only [writes]; decide⟩

/-- The part in BOUND_IDLE with a proof entry that is not ready in front. -/
def unready : Entry := { entry .duty .proof (some 1) false with number := 2 }
def undeveloped : Row := { heldRow with index := 1, number := some 2, develop := .pending }
def selecting (n : Nat) (q : List Entry) (x : Slot) : State :=
  { withRows [heldRow, undeveloped] with
    tu := { linkTu .boundIdle with nextId := n, queue := q }, cw := { Cw.reset with a := x } }

theorem met_SendsJoinTheQueue_selects : ∀ s ∈ [selecting 0 [] (slot .ready), selecting 65535 [unready] (slot .ready)],
    s.answers ∧ s.tu.queue.length < 64 ∧ s.tu.link = .boundIdle ∧ s.tu.stopped = false ∧ s.tu.bound = some deskMac ∧
      s.tu.settings.ownMac = some ownMac ∧
      (∀ e ∈ s.tu.queue, e.source = .buffer ∧ e.chain = .proof ∧
        ((e.row.bind s.bm.row?).any fun r => decide (r.develop = .pending)) = true) ∧
      s.bm.numbered? 1 = some heldRow ∧ heldRow.discarding = false ∧ heldRow.life = .held ∧ heldRow.raw ≠ none ∧
      heldRow.proof = none ∧ heldRow.tethers = [] ∧ s.tu.entry? 1 .raw = none ∧ s.tu.entry? 1 .proof = none ∧
      s.cw.a.state = .ready ∧ s.cw.a.op = .idle ∧ s.cw.a.reads = [] ∧ s.cw.stopped = false ∧
      s.cw.a.capacity = some 1000000 ∧ s.tu.buffers = List.replicate 8 .free ∧ (s.bm.rows.map Row.index).Nodup :=
  judged_of (by decide)

/-- Stored chains of one sector, of 129 and of 82,032, the last with its piece at the card's end: their first reads. -/
theorem met_SendsJoinTheQueue_reads : ∀ q ∈ [(1, 1, 5, 1), (65537, 129, 5, 2), (42000064, 82032, 917968, 8)],
    1 ≤ q.1 ∧ q.1 ≤ 42000064 ∧ q.2.1 = (q.1 + 511) / 512 ∧ q.2.2.1 + q.2.1 ≤ 1000000 ∧
      ((List.range (min 8 ((q.2.1 + 127) / 128))).map fun j =>
        ({ start := q.2.2.1 + 128 * j, count := min 128 (q.2.1 - 128 * j), buffer := j } : ReadRequest)).length = q.2.2.2 := by
  decide

theorem met_TheLinkFollowsPhyAndDesk_selects : ∀ s ∈ [{ withRows [unsentRow, undeveloped] with
      tu := { linkTu .unbound with queue := [entry .duty .raw (some 0) false, unready], nextId := 65535 } }],
    s.steady ∧ s.tu.transfer = none ∧ s.tu.settings.ownMac = some ownMac ∧ s.tu.link = .unbound ∧ s.tu.stopped = false ∧
      head.etherType = s.tu.settings.etherType ∧ head.dst = ownMac ∧ s.tu.settings.deskMac = 0 ∧
      s.tu.queue = entry .duty .raw (some 0) false :: [unready] ∧ (entry .duty .raw (some 0) false).copy = none ∧
      (∀ x ∈ [unready], ¬ (x.number = 1 ∧ x.chain = .raw)) ∧ (s.bm.rows.map Row.index).Nodup ∧
      s.bm.row? 0 = some unsentRow ∧ unsentRow.proof = none ∧
      unsentRow.tethers = [⟨.raw, .pending, .buffer, 1, false, none⟩] :=
  each_of (by decide)

theorem met_DeskRequestsAreServed : ∀ l ∈ [Link.off, .down], ∀ s ∈ [withTu (linkTu l)],
    s.steady ∧ s.tu.settings.ownMac = some ownMac ∧ (s.tu.link = .off ∨ s.tu.link = .down) := by
  intro l hl
  simp only [List.mem_cons, List.not_mem_nil, or_false] at hl
  rcases hl with rfl | rfl <;> exact each_of (by decide)

theorem met_DeskRequestsAreServed_dropped : ∀ s ∈
    [withTu { linkTu .unbound with counters := { Counters.zero with dropped := 253 } }],
    s.steady ∧ s.tu.settings.ownMac = some ownMac ∧ s.tu.link ≠ .off ∧ s.tu.link ≠ .down ∧ s.tu.counters.dropped < 254 ∧
      (List.replicate 18 (0 : Byte)).length < 19 ∧ 1518 < (List.replicate 1519 (0 : Byte)).length ∧
      byteAt [] 14 ∉ [0x02, 0x03, 0x06, 0x08, 0x0A, 0x0B] ∧
      ({ head with etherType := 0x88B6 } : DeskHead).etherType ≠ s.tu.settings.etherType :=
  each_of (by decide +kernel)

/-- The part in a bound link state, with its tether stopped by a supply warning or not. -/
def bound (l : Link) (stopped remote : Bool) (q : List Entry) : State :=
  { served remote q with
    tu := { linkTu l with queue := q, settings := { tetherSettings with remote := remote }, stopped := stopped },
    pwc := { power := .run, latched := stopped, responses := none } }

theorem met_DeskRequestsAreServed_refused : ∀ q ∈
      [(bound .boundIdle true true [], true), (bound .boundIdle false true [], false),
      (bound .sending false false [], false), (bound .finishing false false [], false)],
    q.1.steady ∧ q.1.tu.settings.ownMac = some ownMac ∧
      (q.1.tu.link = .boundIdle ∨ q.1.tu.link = .sending ∨ q.1.tu.link = .finishing) ∧
      head.etherType = q.1.tu.settings.etherType ∧ head.dst = ownMac ∧ q.1.tu.bound = some head.src ∧
      q.1.tu.stopped = q.2 ∧ (0 : Byte).toNat ≤ 1 ∧ 1 ≤ (16777215 : BitVec 24).toNat ∧
      q.1.bm.numbered? (16777215 : BitVec 24).toNat = none :=
  each_of (by decide)

theorem met_DeskRequestsAreServed_joins : ∀ s ∈
      [bound .sending false false (List.replicate 63 { entry .stored .raw none false with number := 70 }),
      bound .finishing false false []],
    s.steady ∧ s.tu.link ≠ .boundIdle ∧ s.tu.bound = some head.src ∧ s.tu.stopped = false ∧ s.tu.queue.length < 64 ∧
      s.bm.numbered? (1 : BitVec 24).toNat = some heldRow ∧ heldRow.discarding = false ∧ heldRow.life = .held ∧
      heldRow.raw ≠ none ∧ heldRow.tethers = [] ∧ s.tu.entry? 1 .raw = none :=
  each_of (by decide)

theorem met_DeskRequestsAreServed_raises : ∀ s ∈ [bound .sending false false [entry .stored .proof none false]],
    s.steady ∧ s.tu.link ≠ .boundIdle ∧ s.tu.bound = some head.src ∧ s.tu.stopped = false ∧ s.tu.queue.length < 64 ∧
      s.bm.numbered? (1 : BitVec 24).toNat = some heldRow ∧ heldRow.discarding = false ∧
      s.tu.entry? 1 .proof = some (entry .stored .proof none false) ∧ (entry .stored .proof none false).row = none ∧
      (entry .stored .proof none false).sending = false ∧ (entry .stored .proof none false).prio < 2 :=
  each_of (by decide)

theorem met_DeskRequestsAreServed_remoteRefused : ∀ s ∈ [bound .boundIdle false false [], bound .boundIdle true true [],
      { bound .sending false true [] with rdu := firingRdu }],
    s.steady ∧ s.tu.bound = some head.src ∧ 1 ≤ (99 : Byte).toNat ∧ (99 : Byte).toNat ≤ 99 ∧
      (s.tu.settings.remote = false ∨ s.pwc.latched = true ∨
        (s.inRun ∧ s.rdu.drive ≠ .idle ∧ s.rdu.drive ≠ .ready)) :=
  each_of (by simp only [State.inRun]; decide)

theorem met_DeskRequestsAreServed_remote : ∀ d ∈
      [Drive.idle, .ready], ∀ s ∈ [burstIn d (bound .finishing false true [])],
    s.steady ∧ s.tu.bound = some head.src ∧ s.tu.settings.remote = true ∧ s.inRun ∧ (0 : Byte).toNat = 0 ∧
      99 < (100 : Byte).toNat ∧ 1 ≤ (1 : Byte).toNat ∧ (99 : Byte).toNat ≤ 99 ∧ s.rdu.drive = d ∧
      s.rdu.active.priority = .focus ∧ s.fu.active.mode = .single ∧ s.fu.state ∈ [.idle, .seeking, .noTarget] := by
  intro d hd
  simp only [List.mem_cons, List.not_mem_nil, or_false] at hd
  rcases hd with rfl | rfl <;> exact each_of (by simp only [State.inRun]; decide)

/-! ### The clauses on ring entries, ended transfers and stopping duties -/

/-- Settings in PRECAPTURE at the ends of their ranges. -/
def ringSettings : DriveSettings := { DriveSettings.defaults with mode := .precapture, rate := 1, depth := 20, wait := 50 }

/-- READY with S1 held, in front of the last pages and the last row of the table, or one page short. -/
def ringable (n : Nat) : State :=
  { readyBare with bm := lowPool n (fullTable.take 127), tu := linkTu .unbound }

theorem met_DriveSettingsAreTakenOrWait_rings : ∀ q ∈ [(ringable 41, true), (ringable 40, false)],
    q.1.answers ∧ q.1.inRun ∧ q.1.rdu.ring = [] ∧ q.1.rdu.drive = .ready ∧ q.1.rdu.s1.held = true ∧
      ringSettings.mode = .precapture ∧ 1 ≤ ringSettings.rate ∧ ringSettings.depth ≤ 20 ∧ 50 ≤ ringSettings.wait ∧
      q.1.rdu.release = none ∧ q.1.rdu.halfPress = true ∧ q.1.tu.queue = [] ∧ q.1.rdu.capture = none ∧
      q.1.sru.fault = false ∧ q.1.bm.rows.length < 128 ∧
      (if q.2 then q.1.canCapture else q.1.bm.free.length < 41 + q.1.bm.reserve) :=
  judged_of (by simp only [State.inRun, State.canCapture]; decide +kernel)

/-- IDLE with S1 up, with PRECAPTURE settings active or pending. -/
def preIdle (pending : Bool) (n : Nat) : State :=
  { base with
    rdu := { Rdu.reset with
      s1 := upLine, active := if pending then DriveSettings.defaults else ringSettings,
      pending := if pending then some ringSettings else none, nextBurst := 65535 },
    bm := lowPool n [] }

theorem met_ReleaseLinesRegisterPresses_rings : ∀ q ∈ [(preIdle false 41, true), (preIdle true 41, true),
      (preIdle true 40, false)],
    q.1.steady ∧ (q.1.rdu.s1.levelOf false = true ∧ q.1.rdu.s1.armed = true ∧ q.1.rdu.s1.active = false) ∧ q.1.inRun ∧
      q.1.rdu.drive = .idle ∧ (q.1.rdu.pending.getD q.1.rdu.active).mode = .precapture ∧ q.1.rdu.viewOn = false ∧
      q.1.rdu.halfPress = false ∧ q.1.rdu.ring = [] ∧ q.1.rdu.release = none ∧ q.1.tu.queue = [] ∧
      q.1.rdu.capture = none ∧ q.1.sru.fault = false ∧ q.1.bm.rows.length < 128 ∧
      (if q.2 then q.1.canCapture else q.1.bm.free.length < 41 + q.1.bm.reserve) :=
  each_of (by simp only [State.inRun, State.canCapture]; decide +kernel)

/-- READY under CONTINUOUS autofocus, with an estimate in focus. -/
def readyTracking : State :=
  { readyToFire .focus with
    fu := { formedFu .tracking .track 4 with
      halfPress := true,
      published := some { frameId := 6, timestamp := 0, position := some 400, valid := true, zone := some (0, 0), steps := 5,
                          target := 405, moveTarget := 405, predicted := false, inFocus := true } } }

theorem met_RemoteReleaseWaitsForFocus_opens : ∀ q ∈ [(readyToFire .release, GateOutcome.releasePriority),
      (burstIn .idle { firing with rdu := Rdu.reset }, .noLens), (readyBare, .noLens), (readyLocked, .focused),
      (readyTracking, .focused)],
    q.1.answers ∧ q.1.pwc.latched = false ∧ q.1.inRun ∧ 1 ≤ (1 : Byte).toNat ∧ (99 : Byte).toNat ≤ 99 ∧
      (q.1.rdu.drive = .idle ∨ q.1.rdu.drive = .ready) ∧ q.1.canCapture ∧
      ((q.1.rdu.active.priority = .release ∧ q.2 = .releasePriority) ∨
        (q.1.rdu.active.priority = .focus ∧ q.2 = .noLens ∧ q.1.fu.state = .noLens) ∨
        (q.1.rdu.active.priority = .focus ∧ q.2 = .focused ∧ q.1.rdu.drive = .ready ∧ q.1.rdu.halfPress = true ∧
          ((q.1.fu.active.mode = .single ∧ q.1.fu.state = .locked) ∨
            (q.1.fu.active.mode = .continuous ∧ q.1.fu.state ∉ [.noLens, .fault] ∧
              q.1.fu.published.any Estimate.inFocus = true)))) ∧ q.1.tu.queue = [] :=
  judged_of (by simp only [State.inRun, State.canCapture]; decide)

/-- A tether duty of shot 1. -/
def tethered (c : Chain) (st : TetherState) : TetherDuty :=
  { chain := c, state := st, source := .buffer, prio := 1, early := decide (c = .proof), cause := none }

/-- Shot 1 with duties of each kind: those that wait, and in front of them a job and a write in progress. -/
def waitingDuties : Row :=
  { heldRow with
    develop := .pending, cards := [cardDuty .raw .waitingExtents, cardDuty .proof .waitingSource],
    tethers := [tethered .proof .pending, tethered .raw .sending] }
def stoppingDuties : Row :=
  { developRow 4 with
    cards := [cardDuty .raw .writing, cardDuty .proof .waitingSource], tethers := [tethered .raw .pending] }

/-- The part with the duties of a row in its queues. -/
def dutiful (r : Row) (d : De) (l : Link) (q : List Entry) : State :=
  { withRows [r] with
    de := d, cw := { Cw.reset with a := writingSlot 5 },
    tu := { linkTu l with
      queue := q, transfer := if l = .sending then some (transfer .raw 42000064 2816 1408) else none } }

/-- The queue, when the RAW duty is sent or waits. -/
def mixedQueue (sending : Bool) : List Entry :=
  [entry .duty .raw (some 0) sending, { entry .stored .raw none false with number := 70 }]

theorem met_ShotDiscardSettlesTheRow_duties : ∀ q ∈
      [(dutiful waitingDuties { De.reset with engine := .starved, normal := [0] } .sending
          (mixedQueue true ++ [entry .duty .proof (some 0) false]), waitingDuties, 0),
      (dutiful stoppingDuties { De.reset with engine := .running, job := some job } .unbound (mixedQueue false),
        stoppingDuties, 2)],
    q.1.answers ∧ (q.1.bm.rows.map Row.index).Nodup ∧ q.1.bm.numbered? 1 = some q.2.1 ∧ q.2.1.life = .held ∧
      q.2.1.protect = false ∧ q.2.1.discarding = false ∧
      (if q.2.1.develop = .running then 1 else 0) + (q.2.1.cards.filter fun d => decide (d.state = .writing)).length = q.2.2 ∧
      (q.2.1.develop = .running → q.1.de.engine = .running ∧ q.1.de.job.any (fun j => decide (j.row = 0)) = true) ∧
      (q.2.1.develop ≠ .pending → 0 ∉ q.1.de.urgent ∧ 0 ∉ q.1.de.normal) ∧
      (∀ d ∈ q.2.1.cards, d.state = .writing → (q.1.cw.slot d.slot).state = .writing) ∧
      (q.1.tu.queue.map fun e => (e.number, e.chain)).Nodup ∧
      (∀ d ∈ q.2.1.tethers, d.state.isFinal = false →
        ∃ e ∈ q.1.tu.queue, decide (e.kind = .duty ∧ e.row = some 0) = true ∧ e.chain = d.chain) ∧
      (∀ e ∈ q.1.tu.queue, decide (e.kind = .duty ∧ e.row = some 0) = true → e.sending = true → q.1.tu.active? = some e) ∧
      q.1.tu.settings.ownMac = some ownMac ∧ q.1.tu.link ≠ .boundIdle ∧
      (q.2.2 = 0 → q.1.tu.bound = some deskMac ∧ q.1.tu.transfer ≠ none ∧
        q.1.tu.active? = some (entry .duty .raw (some 0) true)) :=
  judged_of (by decide +kernel)

theorem met_ShotDiscardSettlesTheRow_again : ∀ q ∈ [base,
      dutiful { stoppingDuties with discarding := true } { De.reset with engine := .running, job := some job } .unbound []],
    q.answers ∧ 16777215 < 16777216 ∧ q.bm.numbered? 16777215 = none ∧
      (q.bm.numbered? 1).all (fun r => decide (r.life = .held ∧ r.protect = false ∧ r.discarding = true)) = true :=
  judged_of (by decide)

/-- A capture requested with a lens whose QUERY is outstanding or not, and with its ring marked. -/
def lensCapture (query : Bool) (f : Option FrameRecord) (mark : Option RingMark) : State :=
  { capturing false 0 with
    fu := { lensFu .seeking with query := query, frame := f }, bm := (withRows [{ exposingRow with mark := mark }]).bm }

theorem met_FrameStartsOpenTheReading_capture : ∀ q ∈ [(lensCapture false none none, (none : Option RingMark)),
      (lensCapture true (some (frame none)) (some .opened), some .opened),
      (lensCapture true (some { frame (some (shapes 4)) with settled := true }) (some .dropped), some .dropped)],
    q.1.steady ∧ q.1.sru.readout = some (readout false 0) ∧ (readout false 0).reading = false ∧
      (readout false 0).kind = .capture ∧ (q.1.bm.row? 0).map Row.mark = some q.2 ∧ q.1.sru.running = true ∧
      q.1.fu.live = true ∧ q.1.inRun ∧
      q.1.fu.frame.all (fun g => decide (g.formed = none ∨ g.settled = true)) = true :=
  each_of (by simp only [State.inRun]; decide +kernel)

theorem met_FrameStartsOpenTheReading_ring : ∀ q ∈ [RingMark.opened, .dropped], ∀ s ∈ [ringReadout false 0 q],
    s.steady ∧ s.sru.readout = some (readout false 0) ∧ (s.bm.row? 0).map Row.mark = some (some q) ∧
      s.sru.running = true ∧ s.fu.live = false := by
  intro q hq
  simp only [List.mem_cons, List.not_mem_nil, or_false] at hq
  rcases hq with rfl | rfl <;> exact each_of (by decide)

theorem met_LensAnswersAndTimers_missed : ∀ q ∈ [(asked false 1 (some (frame none)), true), (asked false 2 (some (frame none)), true),
      (({ asked false 2 (some (frame none)) with
        fu := { (asked false 2 (some (frame none))).fu with known := false } } : State), false)],
    q.1.steady ∧ q.1.rdu.drive ≠ .waitingFocus ∧ q.1.fu.query = true ∧ q.1.fu.bare = false ∧
      q.1.fu.frame = some (frame none) ∧ (frame none).settled = false ∧ (frame none).formed = none ∧
      q.1.fu.missing ≤ 2 ∧ q.1.fu.state ≠ .fault ∧ q.1.fu.known = q.2 :=
  each_of (by decide)

theorem met_LensAnswersAndTimers_formed : ∀ s ∈ [{ seeking 52 with fu := { (seeking 52).fu with missing := 1 } }],
    s.steady ∧ s.rdu.drive ≠ .waitingFocus ∧ s.fu.query = true ∧ s.fu.bare = false ∧
      s.fu.frame = some (frame (some (shapes 52))) ∧ s.fu.live = true ∧ s.inRun ∧ s.fu.known = true ∧
      (500 : BitVec 16).toNat = s.fu.position ∧ s.fu.missing < 2 :=
  each_of (by simp only [State.inRun]; decide +kernel)

theorem met_LensAnswersAndTimers_noMove :
    (∀ s ∈ [base], s.steady ∧ s.fu.live = false) ∧
    (∀ s ∈ [withLens (lensFu .seeking)], s.steady ∧ s.fu.live = true ∧ s.inRun ∧ s.fu.move = none ∧
      s.fu.moveTimer = false) :=
  ⟨each_of (by decide), each_of (by simp only [State.inRun]; decide)⟩

/-- DE with a job that is asked to stop. -/
def stoppingJob (cancel discard : Bool) (r : Row) : State :=
  { withRows [r] with
    de := { De.reset with engine := .running, job := some { job with cancel := cancel, discard := discard } } }

theorem met_ProofRowsAreWritten_stops : ∀ n ∈ [1998, 1999], ∀ q ∈ [(true, false), (false, true), (true, true)],
    ∀ s ∈ [stoppingJob q.1 q.2 { developRow n with discarding := q.2 }],
    s.steady ∧ s.de.job = some { job with cancel := q.1, discard := q.2 } ∧ (q.1 = true ∨ q.2 = true) ∧
      s.bm.row? 0 = some { developRow n with discarding := q.2 } ∧ (s.bm.rows.map Row.index).Nodup ∧
      (developRow n).proof = some { pages := [50], length := 12000064, frontier := n } ∧ (developRow n).life = .held ∧
      (developRow n).develop = .running ∧ (∃ d ∈ (developRow n).cards, d.state.isFinal = false) ∧
      (∀ d ∈ (developRow n).cards, d.chain = .raw) ∧ (developRow n).tethers = [] ∧ s.de.urgent = [] ∧ s.de.normal = [] ∧
      s.tu.queue = [] ∧ s.tu.underTimer = false ∧ s.tu.transfer = none := by
  intro n hn q hq
  simp only [List.mem_cons, List.not_mem_nil, or_false] at hn hq
  rcases hn with rfl | rfl <;> rcases hq with rfl | rfl | rfl <;> exact each_of (by decide)

theorem met_ProofRowsAreWritten_sourceLost : ∀ s ∈
      [stoppingJob true false { developRow 1998 with cards := [cardDuty .raw .pending, cardDuty .proof .waitingSource] }],
    s.steady ∧ s.de.job = some { job with cancel := true } ∧
      s.bm.row? 0 = some { developRow 1998 with cards := [cardDuty .raw .pending, cardDuty .proof .waitingSource] } ∧
      (s.bm.rows.map Row.index).Nodup ∧ (developRow 1998).tethers = [] ∧ s.tu.queue = [] ∧ s.tu.transfer = none ∧
      s.de.urgent = [] ∧ s.de.normal = [] ∧
      (∀ d ∈ [cardDuty .raw .pending, cardDuty .proof .waitingSource], d.chain = .proof → d.state ≠ .writing) :=
  each_of (by decide)

/-- Shots 1 and 2, of which a chain waits for the card of a slot. -/
def forSlot (i : SlotId) (p : Policy) (st : CardState) : List Row :=
  [{ pendingRow p with cards := [{ cardDuty .raw st with slot := i }] },
    { pendingRow p with index := 1, number := some 2, cards := [cardDuty .raw .done, { cardDuty .proof st with slot := i }] }]

/-- The duties of them. -/
def twoDuties : List DutyRef := [{ row := 0, place := 0 }, { row := 1, place := 1 }]

theorem met_SlotsFollowRequestsAndLines_attaches : ∀ q ∈
      [(carded (forSlot .a .mirror .waitingSlot) { present false with waitQ := twoDuties } Slot.reset, SlotId.a),
      (carded (forSlot .b .mirror .waitingSlot) Slot.reset { present false with waitQ := twoDuties }, .b),
      (carded (forSlot .a .mirror .waitingSlot) { present true with waitQ := twoDuties } Slot.reset, .a),
      (carded (forSlot .b .overflow .waitingSlot) Slot.reset { present true with waitQ := twoDuties }, .b),
      (carded (forSlot .a .overflow .waitingSlot) { present true with waitQ := twoDuties } (slot .locked), .a)],
    q.1.answers ∧ q.1.cw.stopped = false ∧ (q.1.bm.rows.map Row.index).Nodup ∧ (q.1.cw.slot q.2).state = .present ∧
      (q.1.cw.slot q.2).writeQ = [] ∧ (q.1.cw.slot q.2).extents = [] ∧ (q.1.cw.slot q.2).op = .idle ∧
      (q.1.cw.slot q.2).waitQ.Nodup ∧
      ∀ y ∈ (q.1.cw.slot q.2).waitQ,
        ((q.1.bm.row? y.row).bind fun r => r.cards[y.place]?).any (fun d =>
          decide (d.state = .waitingSlot ∧ d.slot = q.2 ∧ d.state.isFinal = false)) = true ∧
        (q.1.bm.row? y.row).any (fun r => decide (r.develop = .pending ∧ r.proof = none ∧
          (q.2 = .b ∨ r.policy ≠ some .overflow ∨ q.1.cw.b.writable = false))) = true :=
  judged_of (by decide)

theorem met_SlotsFollowRequestsAndLines_locks : ∀ s ∈
      [carded (forSlot .a .mirror .pending) { slot .ready with writeQ := twoDuties } Slot.reset],
    s.answers ∧ s.cw.a.cardIn = true ∧ s.cw.a.lockOn = false ∧ s.cw.a.state = .ready ∧ s.cw.a.reads = [] ∧
      s.cw.stopped = false ∧ (s.bm.rows.map Row.index).Nodup ∧ s.cw.a.writeQ.Nodup ∧
      ∀ y ∈ s.cw.a.writeQ,
        ((s.bm.row? y.row).bind fun r => r.cards[y.place]?).any (fun d =>
          decide (d.slot = .a ∧ d.state.isFinal = false)) = true ∧
        (s.bm.row? y.row).any (fun r => decide (r.develop = .pending ∧ r.proof = none ∧ r.policy ≠ some .overflow)) = true :=
  judged_of (by decide)

theorem met_SlotsFollowRequestsAndLines_goesToB : ∀ q ∈
      [(carded (forSlot .a .overflow .waitingSlot) { present true with waitQ := [{ row := 0, place := 0 }] } (slot .writing), true),
      (carded (forSlot .a .overflow .waitingSlot) { slot .ready with writeQ := [{ row := 0, place := 0 }] } (slot .suspended), false)],
    q.1.answers ∧ q.1.cw.stopped = false ∧ (q.1.bm.rows.map Row.index).Nodup ∧
      (if q.2 then q.1.cw.a.waitQ else q.1.cw.a.writeQ) = [{ row := 0, place := 0 }] ∧
      ((q.1.bm.row? 0).bind fun r => r.cards[0]?) = some (cardDuty .raw .waitingSlot) ∧
      (cardDuty .raw .waitingSlot).slot = .a ∧
      (q.1.bm.row? 0).any (fun r => decide (r.policy = some .overflow ∧ r.develop = .pending ∧ r.proof = none ∧
        r.discarding = false)) = true ∧
      (q.1.cw.b.state = .writing ∨ q.1.cw.b.state = .suspended) :=
  judged_of (by decide)

/-- An extent that ends where a piece of the duty begins, one that overlaps it, and the queue's last place. -/
theorem met_ExtentsAreQueuedAndFlushed_writing : ∀ s ∈
      [writingOf writtenRow 0 (fun x => { x with extents := List.replicate 31 ⟨700000, 5⟩ }) id,
      writingOf writtenRow 0 (fun x => { x with extents := List.replicate 32 ⟨700000, 5⟩, state := .suspended }) id],
    s.answers ∧ (s.cw.a.state = .writing ∨ s.cw.a.state = .suspended) ∧ s.cw.a.capacity = some 1000000 ∧
      s.cw.a.writing = some { duty := { row := 0, place := 0 }, written := 0 } ∧ s.bm.row? 0 = some writtenRow ∧
      writtenRow.cards[0]? = some (cardDuty .raw .writing) ∧
      (∀ o ∈ s.cw.a.range.toList ++ s.cw.a.extents ++ (cardDuty .raw .writing).pieces,
        990 + 10 ≤ o.start ∨ o.start + o.count ≤ 990) ∧
      (∃ o ∈ s.cw.a.range.toList ++ s.cw.a.extents ++ (cardDuty .raw .writing).pieces,
        o.start < 990 + 11 ∧ 990 < o.start + o.count) :=
  judged_of (by decide)

/-- A transfer of a stored chain, in either state, and one of a row's RAW chain. -/
def endingTransfers : List (State × Transfer × Entry) :=
  [(sendingStored .sending (transfer .raw 42000064 2816 1408) true, transfer .raw 42000064 2816 1408,
      entry .stored .raw none true),
    (sendingStored .finishing (transfer .raw 42000064 42000064 42000064) true, transfer .raw 42000064 42000064 42000064,
      entry .stored .raw none true),
    (sendingRaw, lastFrame, entry .duty .raw (some 0) true)]

theorem met_TetherIsSetAndEnabled_ends : ∀ q ∈ endingTransfers,
    q.1.answers ∧ q.1.sends q.2.1 q.2.2 ∧ q.1.tu.settings.ownMac = some ownMac ∧ q.1.tu.bound = some deskMac ∧
      q.1.tu.deskTimer = true :=
  judged_of (by simp only [State.sends]; decide)

theorem met_TheLinkFollowsPhyAndDesk_ends : ∀ q ∈ endingTransfers,
    q.1.steady ∧ q.1.sends q.2.1 q.2.2 ∧ q.1.tu.settings.ownMac = some ownMac ∧ q.1.tu.deskTimer = true :=
  each_of (by simp only [State.sends]; decide)

/-- A transfer with its window full, and one with its chain sent. -/
theorem met_DataFramesAreSent_nothing : ∀ t ∈ [transfer .raw 42000064 (32 * 1408) 0,
      transfer .raw 42000064 42000064 41999360], (t.window ≤ (t.next - t.acked) / 1408 ∨ t.length ≤ t.next) := by decide

/-- A proof transfer whose next frame ends at the limit of row 22's data or beyond it: 64 + 6,000 × 22 is 132,064, and 93
frames are 130,944 bytes. -/
theorem met_DataFramesAreSent_proof : ∀ q ∈ [(22, 92, true), (22, 93, false)],
    ∀ s ∈ [{ sendingRow { earlyRow with proof := some { pages := [50], length := 12000064, frontier := q.1 } } .proof
      (transfer .proof 12000064 (q.2.1 * 1408) (q.2.1 * 1408)) false with de := De.reset }],
    s.steady ∧ s.tu.link = .sending ∧ s.tu.queue = [entry .duty .proof (some 0) true] ∧ s.tu.bound = some deskMac ∧
      s.tu.settings.ownMac = some ownMac ∧ q.2.1 * 1408 < 12000064 ∧ (entry .duty .proof (some 0) true).source = .buffer ∧
      (s.bm.row? 0).map Row.proof = some (some { pages := [50], length := 12000064, frontier := q.1 }) ∧
      (q.2.2 = true ↔ q.2.1 * 1408 + 1408 ≤ 64 + 6000 * q.1) := by
  intro q hq
  simp only [List.mem_cons, List.not_mem_nil, or_false] at hq
  rcases hq with rfl | rfl <;> exact each_of (by decide)

/-- A card copy whose third sector, with the last bytes of its first frame, is in a buffer or not. -/
theorem met_DataFramesAreSent_card : ∀ q ∈ [(3, true), (2, false)],
    ∀ s ∈ [{ sendingStored .sending (transfer .raw 42000064 0 0) false with
      tu := { (sendingStored .sending (transfer .raw 42000064 0 0) false).tu with
        buffers := .full 0 q.1 (List.replicate (512 * q.1) 7) :: List.replicate 7 .free } }],
    s.steady ∧ s.tu.link = .sending ∧ s.tu.queue = [entry .stored .raw none true] ∧ s.tu.bound = some deskMac ∧
      s.tu.settings.ownMac = some ownMac ∧ (entry .stored .raw none true).source = .card ∧ 1408 = min 1408 (42000064 - 0) ∧
      (decide (512 * 0 ≤ 1407 ∧ 1407 < 512 * (0 + q.1)) = q.2) := by
  intro q hq
  simp only [List.mem_cons, List.not_mem_nil, or_false] at hq
  rcases hq with rfl | rfl <;> exact each_of (by decide)

end Sys2Proof.Tests
end

section
/-! SUPPORT. What a request of fixed size comes to (R178): the bytes shifted out while it arrives are independent of what
its owner then does, so its effect is the owner's act on the state before it, and the reply. Then the numbers that payload
bytes spell. -/

namespace Sys2Proof.Machine

/-! ### Bytes and the numbers they spell -/

@[simp] theorem leBytes_length (k n : Nat) : (leBytes k n).length = k := by
  induction k generalizing n with
  | zero => rfl
  | succ k ih => simp only [leBytes, List.length_cons, ih]

/-- The bytes of a number spell it when it fits into them. -/
theorem leNat_leBytes {k n : Nat} (h : n < 256 ^ k) : leNat (leBytes k n) = n := by
  induction k generalizing n with
  | zero => simp only [leBytes, leNat]; omega
  | succ k ih =>
    have hq : n / 256 < 256 ^ k := Nat.div_lt_of_lt_mul (by rwa [pow_succ'] at h)
    simp only [leBytes, leNat, ih hq, BitVec.toNat_ofNat]
    omega

/-- A payload that is one field spells the field's number. -/
theorem fieldAt_leBytes {k n : Nat} (h : n < 256 ^ k) : fieldAt (leBytes k n) 0 k = n := by
  rw [fieldAt, List.drop_zero, List.take_of_length_le (leBytes_length k n).le, leNat_leBytes h]

/-! ### Requests of fixed size -/

/-- A request of fixed size fits into a frame. -/
theorem Request.size_le (r : Request) : r.size ≤ Config.maxPayload := by cases r <;> decide

/-- The catalogue allows each request its fixed size. -/
theorem Request.allows_size (r : Request) : r.allows r.size = true := by cases r <;> rfl

@[simp] theorem State.heard_bm (s : State) (n : Nat) : (s.heard n).bm = s.bm := s.shiftOuts_bm n
@[simp] theorem State.hears_bm (s : State) (r : Request) : (s.hears r).bm = s.bm := s.heard_bm _

/-- A change of the state that neither touches nor reads CP and the log of outputs. -/
def State.OffPort (f : State → State) : Prop :=
  ∀ (s : State) (c : Cp) (o : List Output), f { s with cp := c, sent := o } = { f s with cp := c, sent := o }

theorem State.OffPort.cp {f : State → State} (hf : State.OffPort f) (s : State) : (f s).cp = s.cp :=
  (congrArg State.cp (hf s s.cp s.sent) :)

theorem State.OffPort.sent {f : State → State} (hf : State.OffPort f) (s : State) : (f s).sent = s.sent :=
  (congrArg State.sent (hf s s.cp s.sent) :)

/-- Such a change may be made before or after CP is replaced. -/
theorem State.OffPort.setCp {f : State → State} (hf : State.OffPort f) (s : State) (c : Cp) :
    { f s with cp := c } = f { s with cp := c } := by
  rw [show f { s with cp := c } = { f s with cp := c, sent := s.sent } from hf s c s.sent, ← hf.sent]

/-- Such a change may be made before or after bytes are shifted out. -/
theorem State.shiftOuts_offPort {f : State → State} (hf : State.OffPort f) (s : State) (n : Nat) :
    (f s).shiftOuts n = f (s.shiftOuts n) := by
  induction n generalizing s with
  | zero => rfl
  | succ n ih =>
    have hstep : (f s).shiftOut = f s.shiftOut := by
      rw [State.shiftOut, hf.cp, hf.sent]
      exact (hf s _ _).symm
    simp only [State.shiftOuts, hstep, ih]

/-- Such a change may be made before or after a request is heard. -/
theorem State.hears_offPort {f : State → State} (hf : State.OffPort f) (s : State) (r : Request) :
    (f s).hears r = f (s.hears r) := by
  rw [State.hears, State.heard, State.shiftOuts_offPort hf, hf.cp]
  exact hf.setCp _ _

section
variable {r : Request} {tag : Byte} {p : List Byte} {s : State}

/-- A request of fixed size that its owner refuses draws the code and changes nothing (R179). -/
theorem request_replied_of_refused {c : Result} (h : s.answers) (hl : p.length = r.size) (h1 : r ≠ .noticeMaskSet)
    (h2 : r ≠ .resetPart) (ho : r.owner p { toState := s.hears r, bus := [] } = .refused c) :
    request r tag p s = .next (s.replied r tag [c.byte]) := by
  have hr := request_refused r tag p s c h (hl ▸ r.size_le) (hl ▸ r.allows_size) h1 h2 (by rw [hl]; exact ho)
  rw [hr, hl]
  rfl

/-- A request of fixed size that its owner takes without a report to another block, and without a change to the port, the
power state or CW: the owner's change is made and the reply carries OK and the content (R179). -/
theorem request_replied_of_taken {f : State → State} {body : List Byte} (h : s.answers) (hl : p.length = r.size)
    (h1 : r ≠ .noticeMaskSet) (h2 : r ≠ .resetPart) (hf : State.OffPort f) (hpwc : ∀ t, (f t).pwc = t.pwc)
    (hcw : ∀ t, (f t).cw = t.cw)
    (ho : r.owner p { toState := s.hears r, bus := [] } = .taken { toState := f (s.hears r), bus := [] } body) :
    request r tag p s = .next ((f s).replied r tag (0 :: body)) := by
  have ⟨_, hs, _⟩ := h
  have hsettle : ({ toState := f (s.hears r), bus := [] } : Work).settle = { toState := f (s.hears r), bus := [] } :=
    Work.settle_nil _ rfl
  have hsteady : (f (s.hears r)).steady :=
    State.steady_congr ((hpwc _).trans (s.shiftOuts_pwc _)) ((hcw _).trans (s.shiftOuts_cw _)) hs
  have hr := request_taken r tag p s _ body h (hl ▸ r.size_le) (hl ▸ r.allows_size) h1 h2 (by rw [hl]; exact ho)
    (by rw [hsettle]) (by rw [hsettle]; exact hsteady)
  rw [hr, hsettle, State.replied, State.hears_offPort hf]

end

end Sys2Proof.Machine
end

section
/-! PROOF. The shot number (01_shots_pages_and_the_shot_table.md, R13). -/

namespace Sys2Proof.Machine

/-- The next shot number is set (R13). -/
def State.withNextNumber (n : Nat) (s : State) : State := { s with bm := { s.bm with nextNumber := n } }

theorem State.withNextNumber_offPort (n : Nat) : State.OffPort (State.withNextNumber n) := fun _ _ _ => rfl

/-- BM's judgment of a shot number that fits into its three bytes: its range first, then the rows that carry a number. -/
theorem answerShotNumberSet_leBytes {n : Nat} (h : n < 16777216) (w : Work) :
    answerShotNumberSet (leBytes 3 n) w =
      if n = 0 then .refused .badArg
      else if ∃ r ∈ w.bm.rows, r.life = .held ∨ r.life = .settled then .refused .state
      else .taken { toState := w.toState.withNextNumber n, bus := w.bus } (leBytes 3 n) := by
  have hmax : ¬ Config.maxShot < n := by simp only [Config.maxShot]; omega
  simp only [answerShotNumberSet, fieldAt_leBytes (k := 3) h, hmax, or_false, List.any_eq_true, Bool.or_eq_true,
    decide_eq_true_eq, State.withNextNumber]

/-- Settles O31: BM's judgment, carried by the rules for requests of fixed size. -/
theorem shotNumberSetJudgesItsNumber : Obligations.ShotNumberSetJudgesItsNumber := by
  intro tag n s hs hn
  have howner := answerShotNumberSet_leBytes hn { toState := s.hears .shotNumberSet, bus := [] }
  have hlen : (leBytes 3 n).length = Request.shotNumberSet.size := leBytes_length 3 n
  rw [State.hears_bm] at howner
  change request .shotNumberSet tag (leBytes 3 n) s = _
  split_ifs at howner ⊢ with hzero hnumbered
  · exact request_replied_of_refused hs hlen (by decide) (by decide) howner
  · exact request_replied_of_refused hs hlen (by decide) (by decide) howner
  · exact request_replied_of_taken (f := State.withNextNumber n) hs hlen (by decide) (by decide)
      (State.withNextNumber_offPort n) (fun _ => rfl) (fun _ => rfl) howner

end Sys2Proof.Machine
end

section
/-! PROOF. The stages of a proof pixel (05_development.md, R103 to R107). -/

namespace Sys2Proof.Machine

/-! ### Highlight neutralisation, black level and gains (R103, R104) -/

theorem Quad.isClipped_iff (q : Quad) (l : Look) :
    q.isClipped l = true ↔ q.r ≥ l.w ∨ q.g1 ≥ l.w ∨ q.g2 ≥ l.w ∨ q.b ≥ l.w := by
  simp only [Quad.isClipped, Bool.or_eq_true, decide_eq_true_eq, or_assoc, ge_iff_le]

@[simp] theorem Quad.pixel_clipped (q : Quad) (l : Look) : (q.pixel l).clipped = q.isClipped l := rfl

theorem Quad.balanced_of_clipped {q : Quad} {l : Look} (h : q.isClipped l = true) :
    q.balanced l = (16383, 16383, 16383) := if_pos h

/-- The subtraction of naturals stops at 0, as R104 takes the black level off a sample below it. -/
theorem applyGain_sub (c bl gain : Nat) :
    applyGain (c - bl) gain = min 16383 ((max 0 ((c : Int) - bl) * gain + 512) / 1024).toNat := by
  have hlevel : max 0 ((c : Int) - bl) = ((c - bl : Nat) : Int) := by omega
  have hscaled : (((c - bl : Nat) : Int) * gain + 512) / 1024 = (((c - bl) * gain + 512) / 1024 : Nat) := by norm_cast
  rw [hlevel, hscaled, Int.toNat_natCast, applyGain]

theorem Quad.balanced_of_not_clipped {q : Quad} {l : Look} (h : q.isClipped l = false) :
    q.balanced l = (min 16383 ((max 0 ((q.r : Int) - l.bl) * l.gR + 512) / 1024).toNat,
      min 16383 ((max 0 ((((q.g1 : Int) + q.g2 + 1) / 2) - l.bl) * l.gG + 512) / 1024).toNat,
      min 16383 ((max 0 ((q.b : Int) - l.bl) * l.gB + 512) / 1024).toNat) := by
  have hgreen : ((q.g1 : Int) + q.g2 + 1) / 2 = ((q.g1 + q.g2 + 1) / 2 : Nat) := by norm_cast
  rw [Quad.balanced, h, hgreen, ← applyGain_sub, ← applyGain_sub, ← applyGain_sub]
  rfl

/-! ### The counts of a job (R103, R108) -/

@[simp] theorem Job.count_singleton_clip (j : Job) (p : Pixel) :
    (j.count [p]).clip = j.clip + if p.clipped then 1 else 0 := by
  cases hp : p.clipped <;> simp [Job.count, hp]

/-- The luma of a pixel is counted in its bin, when there is that bin (R108). -/
theorem Job.count_singleton_bins {j : Job} {p : Pixel} (h : p.y / 4 < j.bins.length) :
    (j.count [p]).bins = j.bins.set (p.y / 4) (j.bins.getD (p.y / 4) 0 + 1) := by
  change j.bins.modify (p.y / 4) (· + 1) = _
  rw [List.modify_eq_set_get _ h, List.getD_eq_getElem _ _ h, List.get_eq_getElem]

/-! ### The tone curve (R105) -/

section
variable {t : List Nat} {v a b : Nat}

theorem toneOut_eq (ha : t[v / 512]? = some a) (hb : t[v / 512 + 1]? = some b) :
    toneOut t v = a + ((b - a) * (v % 512) + 256) / 512 := by
  simp only [toneOut, List.getD_eq_getElem?_getD, ha, hb, Option.getD_some]

/-- A part of `f` of 512 of a rise, its halves rounded up, is at most the rise. -/
theorem interpolated_le {d f : Nat} (hf : f < 512) : (d * f + 256) / 512 ≤ d := by
  have hpart : d * f ≤ d * 511 := Nat.mul_le_mul_left d (by omega)
  omega

/-- On a curve that does not fall, an output lies between the two points around its input. -/
theorem toneOut_between (ha : t[v / 512]? = some a) (hb : t[v / 512 + 1]? = some b) (hab : a ≤ b) :
    a ≤ toneOut t v ∧ toneOut t v ≤ b := by
  have hrise : ((b - a) * (v % 512) + 256) / 512 ≤ b - a := interpolated_le (Nat.mod_lt v (by decide))
  rw [toneOut_eq ha hb]
  omega

/-- The curve of 33 points has a point on each side of every channel value (R105). -/
theorem toneOut_interpolates (hl : t.length = 33) (ht : t.Pairwise (· ≤ ·)) (hv : v ≤ 16383) :
    ∃ a b, t[v / 512]? = some a ∧ t[v / 512 + 1]? = some b ∧
      toneOut t v = a + ((b - a) * (v % 512) + 256) / 512 ∧ a ≤ toneOut t v ∧ toneOut t v ≤ b := by
  have hlow : v / 512 < t.length := by omega
  have hhigh : v / 512 + 1 < t.length := by omega
  have ha := List.getElem?_eq_getElem hlow
  have hb := List.getElem?_eq_getElem hhigh
  have hab : t[v / 512] ≤ t[v / 512 + 1] := List.pairwise_iff_getElem.1 ht _ _ hlow hhigh (Nat.lt_succ_self _)
  exact ⟨_, _, ha, hb, toneOut_eq ha hb, toneOut_between ha hb hab⟩

end

/-! ### Luma and colour differences (R106) -/

section
variable {r g b : Nat}

theorem lumaOf_le (hr : r ≤ 255) (hg : g ≤ 255) (hb : b ≤ 255) : lumaOf r g b ≤ 255 := by
  rw [lumaOf]
  omega

/-- No numerator of Cb is below 256, the least at R = G = 255 and B = 0. -/
theorem cb_numerator_ge (hr : r ≤ 255) (hg : g ≤ 255) : 256 ≤ -43 * (r : Int) - 85 * g + 128 * b + 32896 := by omega

/-- No numerator of Cr is below 256, the least at R = 0 and G = B = 255. -/
theorem cr_numerator_ge (hg : g ≤ 255) (hb : b ≤ 255) : 256 ≤ 128 * (r : Int) - 107 * g - 21 * b + 32896 := by omega

/-- The numerator is never negative, so the subtractions of naturals lose nothing. -/
theorem cbOf_eq (hr : r ≤ 255) (hg : g ≤ 255) :
    (cbOf r g b : Int) = min 255 ((-43 * (r : Int) - 85 * g + 128 * b + 32896) / 256) := by
  have hnum := cb_numerator_ge (b := b) hr hg
  rw [cbOf]
  omega

theorem crOf_eq (hg : g ≤ 255) (hb : b ≤ 255) :
    (crOf r g b : Int) = min 255 ((128 * (r : Int) - 107 * g - 21 * b + 32896) / 256) := by
  have hnum := cr_numerator_ge (r := r) hg hb
  rw [crOf]
  omega

theorem one_le_cbOf (hr : r ≤ 255) (hg : g ≤ 255) : 1 ≤ cbOf r g b := by
  have hnum := cb_numerator_ge (b := b) hr hg
  have hcb := cbOf_eq (b := b) hr hg
  omega

theorem one_le_crOf (hg : g ≤ 255) (hb : b ≤ 255) : 1 ≤ crOf r g b := by
  have hnum := cr_numerator_ge (r := r) hg hb
  have hcr := crOf_eq (r := r) hg hb
  omega

/-- Cb is clamped at full blue alone. -/
theorem cb_over_iff (hb : b ≤ 255) :
    255 < (-43 * (r : Int) - 85 * g + 128 * b + 32896) / 256 ↔ r = 0 ∧ g = 0 ∧ b = 255 := by omega

/-- Cr is clamped at full red alone. -/
theorem cr_over_iff (hr : r ≤ 255) :
    255 < (128 * (r : Int) - 107 * g - 21 * b + 32896) / 256 ↔ r = 255 ∧ g = 0 ∧ b = 0 := by omega

end

/-! ### Packing in pairs (R107) -/

/-- Each whole pair takes four bytes. -/
theorem packPixels_length (px : List Pixel) : (packPixels px).length = 4 * (px.length / 2) := by
  induction px using packPixels.induct with
  | case1 p q rest ih =>
    simp only [packPixels, List.length_cons, ih]
    omega
  | case2 px hpx =>
    rcases px with _ | ⟨p, _ | ⟨q, rest⟩⟩
    · rfl
    · simp only [packPixels, List.length_nil, List.length_singleton, Nat.reduceDiv, Nat.mul_zero]
    · exact absurd rfl (hpx p q rest)

/-- The bytes from pair `i` on are those of the pixels from pair `i` on. -/
theorem packPixels_drop (i : Nat) (px : List Pixel) : (packPixels px).drop (4 * i) = packPixels (px.drop (2 * i)) := by
  induction i generalizing px with
  | zero => rfl
  | succ i ih =>
    rcases px with _ | ⟨p, _ | ⟨q, rest⟩⟩
    · rfl
    · rfl
    · exact ih rest

/-- The four bytes of pair `i`: its lumas, and its colour differences averaged with halves rounded up. -/
theorem packPixels_pair {px : List Pixel} {i : Nat} {p q : Pixel} (hp : px[2 * i]? = some p)
    (hq : px[2 * i + 1]? = some q) :
    ((packPixels px).drop (4 * i)).take 4 =
      [BitVec.ofNat 8 p.y, BitVec.ofNat 8 ((p.cb + q.cb + 1) / 2), BitVec.ofNat 8 q.y,
        BitVec.ofNat 8 ((p.cr + q.cr + 1) / 2)] := by
  obtain ⟨hlow, rfl⟩ := List.getElem?_eq_some_iff.1 hp
  obtain ⟨hhigh, rfl⟩ := List.getElem?_eq_some_iff.1 hq
  rw [packPixels_drop, List.drop_eq_getElem_cons hlow, List.drop_eq_getElem_cons hhigh]
  rfl

/-- Settles O48: each stage's lemmas, in the order of the stages. -/
theorem proofPixelsFollowTheStages : Obligations.ProofPixelsFollowTheStages := by
  refine ⟨fun q l j => ⟨fun h => ?clipped, fun hr hg1 hg2 hb => ?developed, ?differences⟩,
    fun t v hl ht _ hv => toneOut_interpolates hl ht hv,
    fun r g b hr hg hb => ⟨rfl, lumaOf_le hr hg hb, cbOf_eq hr hg, crOf_eq hg hb, one_le_cbOf hr hg, one_le_crOf hg hb,
      cb_numerator_ge hr hg, cr_numerator_ge hg hb, cb_over_iff hb, cr_over_iff hr⟩,
    fun p j hy hbins => Job.count_singleton_bins (by omega),
    fun px hpx => ⟨by rw [packPixels_length, hpx], fun i p q _ hp hq => packPixels_pair hp hq⟩⟩
  case clipped =>
    have hclip := (q.isClipped_iff l).2 h
    exact ⟨Quad.balanced_of_clipped hclip, by simp [hclip]⟩
  case developed =>
    have hclip : q.isClipped l = false := by
      rw [Bool.eq_false_iff, ne_eq, Quad.isClipped_iff]
      omega
    exact ⟨Quad.balanced_of_not_clipped hclip, by simp [hclip]⟩
  case differences =>
    rintro _ _ _ rfl rfl rfl
    exact ⟨rfl, rfl, rfl⟩

end Sys2Proof.Machine
end

section
/-! PROOF. The slots of a shot's card duties (06_card_recording.md, R128). -/

namespace Sys2Proof.Machine

theorem Slot.writable_iff (s : Slot) :
    s.writable = true ↔ s.state = .ready ∨ s.state = .writing ∨ s.state = .suspended := by
  cases h : s.state <;> simp [Slot.writable, h]

@[simp] theorem sectorNeed_raw : sectorNeed .raw = 82032 := rfl
@[simp] theorem sectorNeed_proof : sectorNeed .proof = 23438 := rfl

section
variable {c : Cw}

/-! ### RAW duties -/

theorem Cw.rawSlots_of_mirror (h : c.policy = .mirror) : c.rawSlots = [.a, .b] := by rw [Cw.rawSlots, h]

theorem Cw.rawSlots_of_split (h : c.policy = .split) : c.rawSlots = [.a] := by rw [Cw.rawSlots, h]

theorem Cw.rawSlots_of_singleA (h : c.policy = .singleA) : c.rawSlots = [.a] := by rw [Cw.rawSlots, h]

theorem Cw.rawSlots_of_singleB (h : c.policy = .singleB) : c.rawSlots = [.b] := by rw [Cw.rawSlots, h]

/-- Under OVERFLOW the state and the queued sectors of A alone choose the slot. -/
theorem Cw.rawSlots_of_overflow (h : c.policy = .overflow) :
    c.rawSlots =
      if (c.a.state = .ready ∨ c.a.state = .writing ∨ c.a.state = .suspended) ∧ 82032 ≤ c.a.queued then [.a]
      else [.b] := by
  simp only [Cw.rawSlots, h, Slot.writable_iff, sectorNeed_raw]

/-! ### PROOF duties -/

/-- Under SPLIT B takes a proof of its own, whatever proofs-to-card says. -/
theorem Cw.proofSlots_of_split (h : c.policy = .split) (raw : List SlotId) :
    c.proofSlots raw = .b :: if c.proofs then raw else [] := by
  rw [Cw.proofSlots, if_pos h, List.singleton_append]

/-- Under every other policy the proofs go with the RAW duties or nowhere. -/
theorem Cw.proofSlots_of_ne_split (h : c.policy ≠ .split) (raw : List SlotId) :
    c.proofSlots raw = if c.proofs then raw else [] := by
  rw [Cw.proofSlots, if_neg h, List.nil_append]

end

/-- Settles O53: the RAW and PROOF slots of each policy, row by row of R128's table. -/
theorem dutiesNameTheirSlots : Obligations.DutiesNameTheirSlots := by
  intro c
  refine ⟨fun h => ?mirror, fun h => ?overflow, fun h => ?split, fun h => ?singleA, fun h => ?singleB⟩
  case mirror =>
    rw [Cw.proofSlots_of_ne_split (by simp [h]), Cw.rawSlots_of_mirror h]
    exact ⟨rfl, rfl⟩
  case overflow =>
    rw [Cw.rawSlots_of_overflow h]
    exact ⟨fun hfits => if_pos hfits, fun hover => if_neg hover, Cw.proofSlots_of_ne_split (by simp [h]) _⟩
  case split =>
    rw [Cw.proofSlots_of_split h, Cw.rawSlots_of_split h]
    refine ⟨rfl, fun hnone => by simp [hnone], fun hwith => ?_⟩
    rw [if_pos hwith]
    exact List.Perm.swap SlotId.a .b []
  case singleA =>
    rw [Cw.proofSlots_of_ne_split (by simp [h]), Cw.rawSlots_of_singleA h]
    exact ⟨rfl, rfl⟩
  case singleB =>
    rw [Cw.proofSlots_of_ne_split (by simp [h]), Cw.rawSlots_of_singleB h]
    exact ⟨rfl, rfl⟩

end Sys2Proof.Machine
end

section
/-! PROOF. The sectors of a chain and their places on the card (06_card_recording.md, R131). -/

namespace Sys2Proof.Machine

theorem ceilDiv_sectorBytes (length : Nat) : ceilDiv length Config.sectorBytes = (length + 511) / 512 := by
  rw [ceilDiv, Config.sectorBytes, Nat.add_sub_assoc (by decide)]

theorem sectorNeed_eq_ceilDiv (c : Chain) : sectorNeed c = ceilDiv (chainLength c) Config.sectorBytes := by
  cases c <;> rfl

/-- Byte `i` of the data of `n` sectors from sector `j` on: the chain's byte, or zero past its length. -/
theorem sectorData_getElem? (m : Memory) (pages : List Nat) (length j : Nat) {n i : Nat} (h : i < 512 * n) :
    (sectorData m pages length j n)[i]? =
      some (if 512 * j + i < length then chainByte m pages (512 * j + i) else 0) := by
  rw [sectorData, Config.sectorBytes, List.getElem?_map, List.getElem?_range h, Option.map_some]

section
variable {top k : Nat}

theorem placeAt_cons_of_lt {p : Piece} (h : k < p.count) (after : List Piece) :
    placeAt top (p :: after) k = some { start := p.start + k, count := min top (p.count - k) } := if_pos h

/-- A sector beyond a piece is counted on from the piece's end. -/
theorem placeAt_cons_add (p : Piece) (after : List Piece) :
    placeAt top (p :: after) (p.count + k) = placeAt top after k := by
  rw [placeAt, if_neg (by omega), Nat.add_sub_cancel_left]

/-- The pieces before a sector's own take as many sectors of the chain as they count. -/
theorem placeAt_append_add (before after : List Piece) :
    placeAt top (before ++ after) ((before.map Piece.count).sum + k) = placeAt top after k := by
  induction before with
  | nil => simp
  | cons p before ih =>
    rw [List.map_cons, List.sum_cons, Nat.add_assoc, List.cons_append, placeAt_cons_add, ih]

end

/-- Settles O54: the table of R131, the bytes of the sectors, and the place of a sector after the pieces before its own. -/
theorem sectorsLieAcrossThePieces : Obligations.SectorsLieAcrossThePieces := by
  refine ⟨sectorNeed_raw, sectorNeed_proof, fun c => ⟨?need, ?padding⟩,
    fun m pages length j n i hi => sectorData_getElem? m pages length j hi, fun top k before after p hk => ?place⟩
  case need => rw [sectorNeed_eq_ceilDiv, ceilDiv_sectorBytes]
  case padding => cases c <;> rfl
  case place => rw [placeAt_append_add, placeAt_cons_of_lt hk]

end Sys2Proof.Machine
end

section
/-! PROOF. What the owners of requests and Power Control leave alone: frame memory, and the shell, which is the outer part
without the sensor's state. -/

namespace Sys2Proof.Machine

/-- What an owner's taken answer keeps of the state. -/
def Answer.Keeps {β : Type} (f : State → β) (w : Work) : Answer → Prop
  | .taken v _ => f v.toState = f w.toState
  | .refused _ => True

/-- A kept part of a kept part is kept. -/
theorem Answer.Keeps.map {β γ : Type} {f : State → β} {w : Work} (g : β → γ) :
    ∀ {a : Answer}, a.Keeps f w → a.Keeps (fun s => g (f s)) w
  | .taken _ _, h => congrArg g h
  | .refused _, _ => trivial

@[simp] theorem Answer.keeps_taken {β : Type} (f : State → β) (w v : Work) (b : List Byte) :
    (Answer.taken v b).Keeps f w ↔ f v.toState = f w.toState := Iff.rfl

@[simp] theorem Answer.keeps_refused {β : Type} (f : State → β) (w : Work) (c : Result) :
    (Answer.refused c).Keeps f w ↔ True := Iff.rfl

/-- No owner writes frame memory. -/
theorem Request.owner_mem (r : Request) (p : List Byte) (w : Work) : (r.owner p w).Keeps State.mem w := by
  cases r with
  | shotCollect =>
    simp only [Request.owner, answerShotCollect]
    split
    · trivial
    · exact foldl_mem _ (fun v (x : Row) => Work.removeRow_mem x.index v) _ w
  | _ =>
    simp only [Request.owner, answerIdentify, answerPortStatus, answerPowerSet, answerDriveSet, answerReleaseLinesSet,
      answerRemoteRelease, answerDriveStatus, answerShotNumberSet, answerSensorRestart, answerLensAttach,
      answerLensDetach, answerAfSet, answerFocusStatus, answerLensMove, answerZoneReport, answerPoolStatus,
      answerPoolSet, answerShotGet, answerShotList, answerShotProtect, answerShotDiscard, answerLookSet,
      answerLookGet, answerDevelop, answerDevelopCancel, answerDevelopStatus, answerHistogramGet,
      answerDevelopAutoSet, answerSlotAttach, answerSlotDetach, answerExtentAdd, answerExtentFlush,
      answerRecordingSet, answerSlotStatus, answerTetherSet, answerTetherEnable, answerSend, answerSendStored,
      answerSendCancel, answerTetherStatus, answerTetherStats, answerAutoSendSet]
    repeat' split
    all_goals simp

/-- The outer part without the sensor's state: what no operation of a block but Power Control changes, the sensor's own
operations among them. -/
def State.shell (s : State) := (s.cp.core, s.pwc, s.pins, s.now, s.pending)

theorem State.shell_mk (a b c d e f g h i j k l m n o) :
    State.shell ⟨a, b, c, d, e, f, g, h, i, j, k, l, m, n, o⟩ = (a.core, b, k, l, o) := rfl

theorem State.shell_fold (s : State) : (s.cp.core, s.pwc, s.pins, s.now, s.pending) = s.shell := rfl

theorem State.shell_of_outer {s t : State} (h : s.outer = t.outer) : s.shell = t.shell :=
  congrArg (fun x => (x.1, x.2.1, x.2.2.1, x.2.2.2.1, x.2.2.2.2.1)) h

theorem Answer.Keeps.shell {w : Work} {a : Answer} (h : a.Keeps State.outer w) : a.Keeps State.shell w :=
  h.map fun x => (x.1, x.2.1, x.2.2.1, x.2.2.2.1, x.2.2.2.2.1)

/-- Of the outer part only Power Control's own request and PORT_STATUS, whose owner is CP, change anything. -/
theorem Request.owner_shell (r : Request) (p : List Byte) (w : Work) (h1 : r ≠ .portStatus) (h2 : r ≠ .powerSet) :
    (r.owner p w).Keeps State.shell w := by
  cases r with
  | portStatus => exact absurd rfl h1
  | powerSet => exact absurd rfl h2
  | shotCollect =>
    simp only [Request.owner, answerShotCollect]
    split
    · trivial
    · exact State.shell_of_outer (foldl_outer _ (fun v (x : Row) => Work.removeRow_outer x.index v) _ w)
  | sensorRestart => exact rfl
  | _ =>
    simp only [Request.owner, answerIdentify, answerDriveSet, answerReleaseLinesSet,
      answerRemoteRelease, answerDriveStatus, answerShotNumberSet, answerLensAttach,
      answerLensDetach, answerAfSet, answerFocusStatus, answerLensMove, answerZoneReport, answerPoolStatus,
      answerPoolSet, answerShotGet, answerShotList, answerShotProtect, answerShotDiscard, answerLookSet,
      answerLookGet, answerDevelop, answerDevelopCancel, answerDevelopStatus, answerHistogramGet,
      answerDevelopAutoSet, answerSlotAttach, answerSlotDetach, answerExtentAdd, answerExtentFlush,
      answerRecordingSet, answerSlotStatus, answerTetherSet, answerTetherEnable, answerSend, answerSendStored,
      answerSendCancel, answerTetherStatus, answerTetherStats, answerAutoSendSet]
    repeat' split
    all_goals
      refine Answer.Keeps.shell ?_
      simp [State.outer_mk, State.outer_fold]

@[simp] theorem Work.raise_shell (k : Notice) (b : List Byte) (w : Work) :
    (w.raise k b).toState.shell = w.toState.shell := State.shell_of_outer (Work.raise_outer k b w)
@[simp] theorem Work.abortRow_shell (i : Nat) (c : ShotOutcome) (w : Work) :
    (w.abortRow i c).toState.shell = w.toState.shell := State.shell_of_outer (Work.abortRow_outer i c w)
@[simp] theorem Work.serveCapture_shell (w : Work) : w.serveCapture.toState.shell = w.toState.shell :=
  State.shell_of_outer (Work.serveCapture_outer w)
@[simp] theorem Work.reportStart_shell (k : FrameKind) (id : Nat) (w : Work) :
    (w.reportStart k id).toState.shell = w.toState.shell := State.shell_of_outer (Work.reportStart_outer k id w)
@[simp] theorem Work.decideFlash_shell (i : Nat) (b : Bool) (w : Work) :
    (w.decideFlash i b).toState.shell = w.toState.shell := State.shell_of_outer (Work.decideFlash_outer i b w)

/-- The state with PWC's power state replaced. -/
def State.withPower (s : State) (p : Power) : State := { s with pwc := { s.pwc with power := p } }

@[simp] theorem Work.setPower_shell (p : Power) (w : Work) :
    (w.setPower p).toState.shell = (w.toState.withPower p).shell := rfl

theorem Work.startExpires_shell (w : Work) : w.startExpires.toState.shell = w.toState.shell := by
  cases hr : w.sru.readout with
  | none => simp only [Work.startExpires, hr]
  | some r =>
    simp only [Work.startExpires, hr]
    split
    · rw [Work.serveCapture_shell]
      split <;> cases r.kind <;> simp [State.shell_mk, State.shell_fold]
    · rfl

theorem Work.frameStarts_shell (k : FrameKind) (id : Nat) (b : Bool) (w : Work) :
    (w.frameStarts k id b).toState.shell = w.toState.shell := by
  cases hr : w.sru.readout with
  | none => simp only [Work.frameStarts, hr]
  | some r =>
    simp only [Work.frameStarts, hr]
    split
    · cases k <;> simp [State.shell_mk, State.shell_fold]
    · rfl

@[simp] theorem Work.sensorStop_shell (w : Work) : w.sensorStop.toState.shell = w.toState.shell := by
  simp only [Work.sensorStop]
  repeat' split
  all_goals simp [State.shell_mk, State.shell_fold]

/-- The replies outstanding are read off the part of CP that no occurrence changes. -/
theorem Cp.outstanding_of_core {c d : Cp} (h : c.core = d.core) : c.outstanding = d.outstanding :=
  congrArg (fun x => x.2.2.2.2.1.length + x.2.2.2.2.2.2.2.2.2.2.2.length) h

theorem State.core_of_shell {s t : State} (h : s.shell = t.shell) : s.cp.core = t.cp.core := congrArg Prod.fst h

theorem State.outstanding_of_shell {s t : State} (h : s.shell = t.shell) : s.cp.outstanding = t.cp.outstanding :=
  Cp.outstanding_of_core (State.core_of_shell h)

theorem Work.settle_shell (w : Work) : w.settle.toState.shell = w.toState.shell :=
  State.shell_of_outer w.settle_outer

theorem Work.settle_outstanding (w : Work) : w.settle.cp.outstanding = w.cp.outstanding :=
  State.outstanding_of_shell w.settle_shell

/-! ### The moves of Power Control -/

@[simp] theorem Work.lookS1_shell (w : Work) : w.lookS1.toState.shell = w.toState.shell := by
  simp only [Work.lookS1]
  split
  · exact State.shell_of_outer (Work.enterReady_outer w)
  · rfl

theorem Work.leaveQuiet_shell (w : Work) : w.leaveQuiet.toState.shell = (w.toState.withPower .run).shell := by
  simp only [Work.leaveQuiet, Work.lookS1_shell]
  exact (State.shell_of_outer (Work.focusFromQuiet_outer _)).trans rfl

theorem Work.enterQuiet_shell (w : Work) : w.enterQuiet.toState.shell = (w.toState.withPower .quiet).shell :=
  (State.shell_of_outer (Work.haltLens_outer _)).trans rfl

theorem Work.enterHalt_shell (w : Work) : w.enterHalt.toState.shell = (w.toState.withPower .halt).shell := by
  have h1 : (w.setPower .halt).sensorStop.focusHalt.toState.shell = (w.toState.withPower .halt).shell :=
    (State.shell_of_outer (Work.focusHalt_outer _)).trans (Work.sensorStop_shell _)
  simp only [Work.enterHalt]
  exact (State.shell_of_outer (Work.tetherHalt_outer _)).trans h1

theorem Work.wake_shell (c : WakeCause) (w : Work) : (w.wake c).toState.shell = (w.toState.withPower .run).shell := by
  simp only [Work.wake, Work.lookS1_shell, Work.raise_shell]
  split
  · exact (State.shell_of_outer ((Work.tetherWake_outer _).trans (Work.focusFromHalt_outer _))).trans rfl
  · exact (State.shell_of_outer (Work.focusFromQuiet_outer _)).trans rfl

/-- What POWER_SET does to the outer part: at most one new power state, which is not FAILSAFE. -/
theorem answerPowerSet_shell {p : List Byte} {w v : Work} {b : List Byte} (h : answerPowerSet p w = .taken v b) :
    v.toState.shell = w.toState.shell ∨ ∃ q, q ≠ .failsafe ∧ v.toState.shell = (w.toState.withPower q).shell := by
  have hrun : (.run : Power) ≠ .failsafe := by decide
  have hquiet : (.quiet : Power) ≠ .failsafe := by decide
  have hhalt : (.halt : Power) ≠ .failsafe := by decide
  simp only [answerPowerSet] at h
  split at h
  case h_1 =>
    repeat' split at h
    all_goals cases h
    · exact .inr ⟨_, hrun, Work.leaveQuiet_shell w⟩
    · exact .inl rfl
  case h_2 =>
    repeat' split at h
    all_goals cases h
    · exact .inl rfl
    · exact .inr ⟨_, hquiet, Work.enterQuiet_shell w⟩
  case h_3 =>
    repeat' split at h
    all_goals cases h
    exact .inr ⟨_, hhalt, Work.enterHalt_shell w⟩
  case h_4 => cases h

/-- No owner posts a reply itself. -/
theorem Request.owner_outstanding (r : Request) (p : List Byte) (w : Work) :
    (r.owner p w).Keeps (fun s => s.cp.outstanding) w := by
  by_cases h1 : r = .portStatus
  · subst h1
    simp only [Request.owner, answerPortStatus]
    split
    · trivial
    · split <;> rfl
  by_cases h2 : r = .powerSet
  · subst h2
    cases h : Request.powerSet.owner p w with
    | refused c => trivial
    | taken v b =>
      rcases answerPowerSet_shell h with hv | ⟨q, -, hv⟩
      · exact State.outstanding_of_shell hv
      · exact (State.outstanding_of_shell hv).trans rfl
  have hk := r.owner_shell p w h1 h2
  cases h : r.owner p w with
  | refused c => trivial
  | taken v b =>
    rw [h] at hk
    exact State.outstanding_of_shell hk

end Sys2Proof.Machine
end

section
/-! PROOF. What every step keeps: the frame of the argument. A command is either a frame of the host, a transaction of the
port without one, or one event of a block; a predicate that survives CP's own acts, the owners and the events survives
every step. -/
namespace Sys2Proof
open Machine

/-! ### A command as one operation -/

/-- The frame of the host that a command brings: its kind byte, tag and payload. -/
def Instr.frame? : Instr → Option (Byte × Byte × List Byte)
  | .identify t p => some (0x01, t, p) | .portStatus t p => some (0x02, t, p) | .noticeMaskSet t p => some (0x03, t, p)
  | .resetPartAll t p | .resetPartTether t p => some (0x04, t, p)
  | .powerSetRun t p | .powerSetQuiet t p | .powerSetHalt t p => some (0x05, t, p)
  | .driveSet t p => some (0x06, t, p) | .releaseLinesSet t p => some (0x07, t, p)
  | .remoteRelease t p => some (0x08, t, p) | .driveStatus t p => some (0x09, t, p)
  | .shotNumberSet t p => some (0x0A, t, p) | .sensorRestart t p => some (0x0B, t, p)
  | .lensAttach t p => some (0x0C, t, p) | .lensDetach t p => some (0x0D, t, p) | .afSet t p => some (0x0E, t, p)
  | .focusStatus t p => some (0x0F, t, p) | .lensMove t p | .lensHalt t p => some (0x10, t, p)
  | .zoneReport t p => some (0x11, t, p) | .poolStatus t p => some (0x12, t, p) | .poolSet t p => some (0x13, t, p)
  | .shotGet t p => some (0x14, t, p) | .shotList t p => some (0x15, t, p) | .shotProtect t p => some (0x16, t, p)
  | .shotDiscard t p => some (0x17, t, p) | .shotCollect t p => some (0x18, t, p) | .lookSet t p => some (0x19, t, p)
  | .lookGet t p => some (0x1A, t, p) | .develop t p => some (0x1B, t, p) | .developCancel t p => some (0x1C, t, p)
  | .developStatus t p => some (0x1D, t, p) | .histogramGet t p => some (0x1E, t, p)
  | .developAutoSet t p => some (0x1F, t, p) | .slotAttach t p => some (0x20, t, p) | .slotDetach t p => some (0x21, t, p)
  | .extentAdd t p => some (0x22, t, p) | .extentFlush t p => some (0x23, t, p) | .recordingSet t p => some (0x24, t, p)
  | .slotStatus t p => some (0x25, t, p) | .tetherSet t p => some (0x26, t, p)
  | .tetherEnableOn t p | .tetherEnableOff t p => some (0x27, t, p) | .send t p => some (0x28, t, p)
  | .sendStored t p => some (0x29, t, p) | .sendCancel t p => some (0x2A, t, p) | .tetherStatus t p => some (0x2B, t, p)
  | .tetherStats t p => some (0x2C, t, p) | .autoSendSet t p => some (0x2D, t, p)
  | .unknownKind k t p | .requestDropped k t p => some (k, t, p)
  | _ => none

/-- What a command does that is no frame of the host. -/
def Instr.event : Instr → Work → Work
  | .garbledFrame bytes => Work.clock bytes
  | .chipSelectRise => Work.selectRises
  | .outboundFirstByte => Work.clockFirst
  | .outboundFrameLeft => Work.clockRest
  | .resetPin => Work.resetPin
  | .supplyWarning b => Work.warningInput b
  | .releaseLineLevel l b => Work.lineEvent l b
  | .frameTimerExpiry => Work.frameTimerExpires
  | .focusWaitExpiry => Work.focusWaitExpires
  | .viewTimerExpiry => Work.viewExpires
  | .frameStart k id b => Work.frameStarts k id.toNat b
  | .afBlock z => Work.afArrives z
  | .imageLine x c => Work.lineArrives x c
  | .frameEnd n => Work.frameEnds n.toNat
  | .startTimerExpiry => Work.startExpires
  | .endTimerExpiry => Work.endExpires
  | .pos p m => Work.takePos p.toNat m
  | .answerTimerExpiry => Work.answerExpires
  | .arrived p => Work.takeArrived p.toNat
  | .moveTimerExpiry => Work.moveExpires
  | .proofRowWritten => Work.writeRow
  | .deReadError => Work.failJob
  | .runOk a => Work.takeAnswer a fun i => Work.runEnd i none
  | .runFail a => Work.takeAnswer a fun i => Work.runEnd i (some .runFail)
  | .runTimerExpiry i => Work.runEnd i (some .timeout)
  | .cwReadError i => Work.runSourceLost i
  | .readOk a d => Work.takeAnswer a fun i => Work.readArrives i d
  | .readFail a => Work.takeAnswer a fun i => Work.readEnd i none
  | .readTimerExpiry i => Work.readEnd i none
  | .cardLineLevel i b => Work.cardEvent i b
  | .lockLineLevel i b => Work.lockLine i b
  | .phyLinkUp => Work.phyUp
  | .phyLinkDown => Work.phyDown
  | .deskFrameDropped f => Work.rawDeskFrame f
  | .bind h => Work.takeDesk h .bind
  | .ping h => Work.takeDesk h .ping
  | .ack h id o => Work.takeDesk h (.ack id.toNat o.toNat)
  | .finack h id r => Work.takeDesk h (.finack id.toNat r)
  | .request h n c => Work.takeDesk h (.request n.toNat c)
  | .remote h n => Work.takeDesk h (.remote n)
  | .dataSend => Work.sendData
  | .tuReadError => Work.sendLost
  | .helloTimerExpiry => Work.helloExpires
  | .deskLossTimerExpiry => Work.deskExpires
  | .ackTimerExpiry => Work.ackExpires
  | .underrunTimerExpiry => Work.underrunExpires
  | _ => id

/-- The transactions of the port that bring no frame of their own. -/
def Instr.onPort : Instr → Bool
  | .garbledFrame _ | .chipSelectRise | .outboundFirstByte | .outboundFrameLeft => true
  | _ => false

/-- What a command does. -/
def Instr.op (c : Instr) : Work → Work :=
  match c.frame? with
  | some (k, t, p) => Work.hostFrame k t p
  | none => c.event

end Sys2Proof
namespace Sys2Proof.Machine

/-- A command executed is its operation run as a step. -/
theorem exec_eq_run (c : Instr) (s : State) : exec c s = .next (run c.op s) := by cases c <;> rfl

/-! ### The enable set -/

/-- A change of the enable set neither adds nor takes a reply. -/
theorem Cp.setEnabled_outstanding (c : Cp) (k : Notice) (on : Bool) :
    (c.setEnabled k on).outstanding = c.outstanding := by
  have hf : (c.queue.filter fun f => !f.isNotice k).filter OutFrame.isReply = c.queue.filter OutFrame.isReply := by
    rw [List.filter_filter]
    refine List.filter_congr fun f _ => ?_
    cases f <;> simp [OutFrame.isNotice, OutFrame.isReply]
  simp only [Cp.setEnabled]
  repeat' split
  all_goals simp [Cp.outstanding, Cp.append, OutFrame.isReply, List.filter_append, hf]

theorem Cp.setMask_outstanding (c : Cp) (flags : List Bool) : (c.setMask flags).outstanding = c.outstanding := by
  have key : ∀ (l : List Notice) (d : Cp),
      (l.foldl (fun v k => v.setEnabled k (flags.getD k.index false)) d).outstanding = d.outstanding := by
    intro l
    induction l with
    | nil => exact fun _ => rfl
    | cons k l ih => exact fun d => (ih _).trans (d.setEnabled_outstanding k _)
  exact key _ c

/-! ### Clocking and judging -/

/-- All requests but those whose replies CP orders itself are answered by their owner. -/
theorem Work.decide_owner (r : Request) (t : Byte) (p : List Byte) (w : Work) (h1 : r ≠ .noticeMaskSet)
    (h2 : r ≠ .resetPart) : w.decide r t p = w.answer r t (r.owner p w) := by
  cases r with
  | noticeMaskSet => exact absurd rfl h1
  | resetPart => exact absurd rfl h2
  | _ => rfl

/-- Replacing what the port holds. -/
def Work.withPort (w : Work) (c : Cp) (l : List Output) : Work := { w with cp := c, sent := l }

/-- A predicate that survives CP's own acts, what the owners of requests do, and the reports of a step. -/
structure PortKept (P : Work → Prop) : Prop where
  port : ∀ (w : Work) (c : Cp) (l : List Output), c.outstanding ≤ w.cp.outstanding → P w → P (w.withPort c l)
  reply : ∀ (w : Work) (k t : Byte) (p : List Byte), w.cp.outstanding < Config.maxReplies → P w → P (w.reply k t p)
  settle : ∀ w : Work, P w → P w.settle
  wake : ∀ w : Work, P w → P (w.wake .port)
  owner : ∀ (r : Request) (p : List Byte) (w v : Work) (b : List Byte), r.owner p w = .taken v b → P w → P v
  resetTether : ∀ w : Work, P w → P w.resetTether
  resetAll : ∀ (t : Byte) (w : Work), P w → P (w.resetAll t)

namespace PortKept
variable {P : Work → Prop} (hP : PortKept P)
include hP

/-- Bytes shifted out change the port alone and add no reply. -/
theorem shiftOuts (n : Nat) (w : Work) (h : P w) : P (w.shiftOuts n) := by
  have hf : w.shiftOuts n = w.withPort (w.toState.shiftOuts n).cp (w.toState.shiftOuts n).sent := by
    rw [Work.shiftOuts, State.shiftOuts_frame]
    rfl
  rw [hf]
  exact hP.port w _ _ (w.toState.shiftOuts_outstanding n) h

/-- An answer is posted: what was done is kept, and its reply finds the room the request was taken with. -/
theorem answer (r : Request) (t : Byte) (a : Answer) (w : Work) (ho : w.cp.outstanding < Config.maxReplies) (h : P w)
    (ha : ∀ v b, a = .taken v b → P v ∧ v.cp.outstanding = w.cp.outstanding) : P (w.answer r t a) := by
  cases a with
  | refused c => exact hP.reply w _ _ _ ho h
  | taken v b =>
    obtain ⟨hv, he⟩ := ha v b rfl
    exact hP.reply _ _ _ _ (by rw [Work.settle_outstanding, he]; exact ho) (hP.settle v hv)

theorem answer_owner (r : Request) (t : Byte) (p : List Byte) (w : Work) (ho : w.cp.outstanding < Config.maxReplies)
    (h : P w) : P (w.answer r t (r.owner p w)) := by
  refine hP.answer r t _ w ho h fun v b ha => ⟨hP.owner r p w v b ha h, ?_⟩
  have hk := Request.owner_outstanding r p w
  rw [ha] at hk
  exact hk

theorem maskSet (t : Byte) (p : List Byte) (w : Work) (ho : w.cp.outstanding < Config.maxReplies) (h : P w) :
    P (w.maskSet t p) := by
  cases hf : flagsOf p with
  | none =>
    simp only [Work.maskSet, hf]
    exact hP.reply w _ _ _ ho h
  | some flags =>
    simp only [Work.maskSet, hf]
    refine hP.port _ _ _ ?_ (hP.reply w _ _ _ ho h)
    rw [Cp.setMask_outstanding]

theorem resetPart (t : Byte) (p : List Byte) (w : Work) (ho : w.cp.outstanding < Config.maxReplies) (h : P w) :
    P (w.resetPart t p) := by
  simp only [Work.resetPart]
  split
  · exact hP.resetAll t w h
  · refine hP.answer _ t _ w ho h fun v b ha => ?_
    split at ha
    · cases ha
    · cases ha
      exact ⟨hP.resetTether w h, State.outstanding_of_shell (State.shell_of_outer w.resetTether_outer)⟩
  · exact hP.reply w _ _ _ ho h

theorem decide (r : Request) (t : Byte) (p : List Byte) (w : Work) (ho : w.cp.outstanding < Config.maxReplies)
    (h : P w) : P (w.decide r t p) := by
  by_cases h1 : r = .noticeMaskSet
  · subst h1; exact hP.maskSet t p w ho h
  by_cases h2 : r = .resetPart
  · subst h2; exact hP.resetPart t p w ho h
  rw [Work.decide_owner r t p w h1 h2]
  exact hP.answer_owner r t p w ho h

theorem judge (k t : Byte) (p : List Byte) (w : Work) (ho : w.cp.outstanding < Config.maxReplies) (h : P w) :
    P (w.judge k t p) := by
  cases hr : Request.ofKind k with
  | none =>
    simp only [Work.judge, hr]
    exact hP.reply w _ _ _ ho h
  | some r =>
    simp only [Work.judge, hr]
    split
    · exact hP.reply w _ _ _ ho h
    · split
      · exact hP.reply w _ _ _ ho h
      · exact hP.decide r t p w ho h

theorem take (k t : Byte) (p : List Byte) (w : Work) (h : P w) : P (w.take k t p) := by
  have h1 : P w.wakeForFrame := by
    simp only [Work.wakeForFrame]
    split
    · exact hP.settle _ (hP.wake w h)
    · exact h
  simp only [Work.take]
  split
  · exact hP.port _ _ _ (Nat.le_refl _) h1
  · exact hP.judge k t p _ (by omega) h1

/-! The receiver changes the port alone. -/

theorem setRx (x : Receiver) (w : Work) (h : P w) : P (w.setRx x) := hP.port w _ _ (Nat.le_refl _) h

theorem countGarbled (w : Work) (h : P w) : P w.countGarbled := hP.port w _ _ (Nat.le_refl _) h

theorem endStrays (w : Work) (h : P w) : P w.endStrays := hP.port w _ _ (Nat.le_refl _) h

theorem completeBody (got : List Byte) (w : Work) (h : P w) : P (w.completeBody got) := by
  simp only [Work.completeBody]
  split
  · exact hP.take _ _ _ _ (hP.setRx _ w h)
  · exact hP.countGarbled _ (hP.setRx _ w h)

theorem feedByte (w : Work) (b : Byte) (h : P w) : P (w.feedByte b) := by
  cases hr : w.cp.rx with
  | hunt =>
    simp only [Work.feedByte, hr]
    repeat' split
    · exact hP.setRx _ _ (hP.endStrays w h)
    · exact hP.endStrays w h
    · exact h
    · exact hP.countGarbled _ (hP.port w _ _ (Nat.le_refl _) h)
  | header l =>
    cases l with
    | nil =>
      simp only [Work.feedByte, hr]
      exact hP.setRx _ w h
    | cons a l =>
      simp only [Work.feedByte, hr]
      split
      · exact hP.countGarbled _ (hP.setRx _ w h)
      · exact hP.setRx _ w h
  | body need got =>
    simp only [Work.feedByte, hr]
    split
    · exact hP.setRx _ w h
    · exact hP.completeBody _ w h
  | discard =>
    simp only [Work.feedByte, hr]
    exact h

theorem clockByte (w : Work) (b : Byte) (h : P w) : P (w.clockByte b) := by
  have h1 := hP.shiftOuts 1 w h
  simp only [Work.clockByte]
  split
  · exact h1
  · exact hP.feedByte _ b h1

theorem clock (bytes : List Byte) (w : Work) (h : P w) : P (w.clock bytes) := by
  induction bytes generalizing w with
  | nil => exact h
  | cons b bytes ih => exact ih _ (hP.clockByte w b h)

theorem hostFrame (k t : Byte) (p : List Byte) (w : Work) (h : P w) : P (w.hostFrame k t p) := by
  simp only [Work.hostFrame]
  split
  · split
    · exact hP.take _ _ _ _ (hP.endStrays _ (hP.shiftOuts _ w h))
    · exact hP.clock _ w h
  · exact hP.clock _ w h

theorem clockFirst (w : Work) (h : P w) : P w.clockFirst := by
  simp only [Work.clockFirst]
  split
  · exact hP.clockByte w _ h
  · exact h

theorem clockRest (w : Work) (h : P w) : P w.clockRest := by
  simp only [Work.clockRest]
  split
  · split
    · exact h
    · exact hP.clock _ w h
  · exact h

theorem selectRises (w : Work) (h : P w) : P w.selectRises := by
  have key : ∀ v : Work, P v →
      P { v with cp := { v.cp with rx := .hunt, strays := false, busy := false, muted := false, place := 0 } } :=
    fun v hv => hP.port v _ _ (Nat.le_refl _) hv
  simp only [Work.selectRises]
  split
  · exact key _ (hP.countGarbled w h)
  · exact key _ (hP.countGarbled w h)
  · exact key _ h
  · exact key _ h

end PortKept

/-! ### What survives the commands survives the steps -/

/-- What holds at the start of a command, survives the port, every event and the end of the step, survives commands. -/
theorem exec_keeps {I : State → Prop} {P : Work → Prop} (hP : PortKept P)
    (start : ∀ s, I s → P { toState := s, bus := [] }) (finish : ∀ w : Work, P w → I w.finishWarning.toState)
    (c : Instr)
    (event : c.onPort = false → ∀ w : Work, P w → P (c.event w)) (s t : State) (h : I s)
    (he : exec c s = .next t) : I t := by
  rw [exec_eq_run] at he
  cases he
  refine finish _ (hP.settle _ ?_)
  cases hf : c.frame? with
  | none =>
    simp only [Instr.op, hf]
    have h0 := start s h
    cases hc : c.onPort with
    | false => exact event hc _ h0
    | true =>
      cases c with
      | garbledFrame bytes => exact hP.clock bytes _ h0
      | chipSelectRise => exact hP.selectRises _ h0
      | outboundFirstByte => exact hP.clockFirst _ h0
      | outboundFrameLeft => exact hP.clockRest _ h0
      | _ => cases hc
  | some f =>
    simp only [Instr.op, hf]
    exact hP.hostFrame _ _ _ _ (start s h)

/-- What the clock and the queue of commands leave alone and every command keeps, every step keeps. -/
theorem step_keeps {I : State → Prop}
    (outside : ∀ (s : State) (n f : Nat) (q : List Instr), I s → I { s with now := n, freeUsed := f, pending := q })
    (command : ∀ (c : Instr) (s t : State), I s → exec c s = .next t → I t) (s t : State) (h : I s)
    (hs : step s = .next t) : I t := by
  cases hq : s.pending with
  | nil =>
    simp only [step, hq, State.idleTick] at hs
    cases hs
    split
    · exact outside s _ s.freeUsed [] h
    · exact outside s _ _ [] h
  | cons c rest =>
    simp only [step, hq] at hs
    exact command c _ t (outside s s.now s.freeUsed rest h) hs

end Sys2Proof.Machine
end

section
/-! PROOF. What the events, the warning and the resets leave of the shell. -/

namespace Sys2Proof

/-- The commands that can move the power state, an outside level or the whole part. -/
def Instr.moves : Instr → Bool
  | .resetPin | .supplyWarning _ | .releaseLineLevel _ _ | .cardLineLevel _ _ | .phyLinkUp | .phyLinkDown => true
  | _ => false

end Sys2Proof
namespace Sys2Proof.Machine

/-- The other events leave the shell alone. -/
theorem event_shell (c : Instr) (w : Work) (h1 : c.onPort = false) (h2 : c.moves = false) :
    (c.event w).toState.shell = w.toState.shell := by
  cases c with
  | frameStart k id b => exact Work.frameStarts_shell k id.toNat b w
  | startTimerExpiry => exact Work.startExpires_shell w
  | runOk a => exact Work.takeAnswer_keeps (·.shell) a _ w (State.shell_of_outer (Work.runEnd_outer _ _ w))
  | runFail a => exact Work.takeAnswer_keeps (·.shell) a _ w (State.shell_of_outer (Work.runEnd_outer _ _ w))
  | readOk a d => exact Work.takeAnswer_keeps (·.shell) a _ w (State.shell_of_outer (Work.readArrives_outer _ _ w))
  | readFail a => exact Work.takeAnswer_keeps (·.shell) a _ w (State.shell_of_outer (Work.readEnd_outer _ _ w))
  | focusWaitExpiry => exact State.shell_of_outer (Work.focusWaitExpires_outer w)
  | frameTimerExpiry => exact State.shell_of_outer (Work.frameTimerExpires_outer w)
  | viewTimerExpiry => exact State.shell_of_outer (Work.viewExpires_outer w)
  | afBlock z => exact State.shell_of_outer (Work.afArrives_outer z w)
  | imageLine x c => exact State.shell_of_outer (Work.lineArrives_outer x c w)
  | frameEnd n => exact State.shell_of_outer (Work.frameEnds_outer _ w)
  | endTimerExpiry => exact State.shell_of_outer (Work.endExpires_outer w)
  | pos p m => exact State.shell_of_outer (Work.takePos_outer _ m w)
  | answerTimerExpiry => exact State.shell_of_outer (Work.answerExpires_outer w)
  | arrived p => exact State.shell_of_outer (Work.takeArrived_outer _ w)
  | moveTimerExpiry => exact State.shell_of_outer (Work.moveExpires_outer w)
  | proofRowWritten => exact State.shell_of_outer (Work.writeRow_outer w)
  | deReadError => exact State.shell_of_outer (Work.failJob_outer w)
  | runTimerExpiry i => exact State.shell_of_outer (Work.runEnd_outer i _ w)
  | cwReadError i => exact State.shell_of_outer (Work.runSourceLost_outer i w)
  | readTimerExpiry i => exact State.shell_of_outer (Work.readEnd_outer i _ w)
  | lockLineLevel i b => exact State.shell_of_outer (Work.lockLine_outer i b w)
  | deskFrameDropped f => exact State.shell_of_outer (Work.rawDeskFrame_outer f w)
  | bind h => exact State.shell_of_outer (Work.takeDesk_outer h _ w)
  | ping h => exact State.shell_of_outer (Work.takeDesk_outer h _ w)
  | ack h _ _ => exact State.shell_of_outer (Work.takeDesk_outer h _ w)
  | finack h _ _ => exact State.shell_of_outer (Work.takeDesk_outer h _ w)
  | request h _ _ => exact State.shell_of_outer (Work.takeDesk_outer h _ w)
  | remote h _ => exact State.shell_of_outer (Work.takeDesk_outer h _ w)
  | dataSend => exact State.shell_of_outer (Work.sendData_outer w)
  | tuReadError => exact State.shell_of_outer (Work.sendLost_outer w)
  | helloTimerExpiry => exact State.shell_of_outer (Work.helloExpires_outer w)
  | deskLossTimerExpiry => exact State.shell_of_outer (Work.deskExpires_outer w)
  | ackTimerExpiry => exact State.shell_of_outer (Work.ackExpires_outer w)
  | underrunTimerExpiry => exact State.shell_of_outer (Work.underrunExpires_outer w)
  | _ =>
    first
    | exact Bool.noConfusion h1
    | exact Bool.noConfusion h2
    | rfl

/-- What the blocks do at a supply warning, before PWC notes their responses. -/
def Work.delivered (w : Work) : Work :=
  (({ w with pwc := { w.pwc with latched := true } } : Work).raise .powerWarn
    []).focusWarning.driveWarning.sensorStop.developWarning.tetherWarning.cardWarning

theorem Work.warn_eq (w : Work) :
    w.warn = { w.delivered with
      pwc := { w.delivered.pwc with responses := some (Responses.delivered w.delivered.cw.quiet) } } := by
  simp only [Work.warn, Work.delivered]

theorem Work.delivered_shell (w : Work) :
    w.delivered.toState.shell = (w.cp.core, { w.pwc with latched := true }, w.pins, w.now, w.pending) := by
  have h1 (v : Work) : v.developWarning.tetherWarning.cardWarning.toState.shell = v.toState.shell :=
    State.shell_of_outer (by simp)
  have h2 (v : Work) : v.focusWarning.driveWarning.toState.shell = v.toState.shell := State.shell_of_outer (by simp)
  rw [Work.delivered, h1, Work.sensorStop_shell, h2, Work.raise_shell]
  rfl

/-- The warning leaves the port's replies, the levels, the clock and the queue of commands alone. -/
theorem Work.warn_core (w : Work) : w.warn.cp.core = w.cp.core := congrArg Prod.fst w.delivered_shell
theorem Work.warn_pins (w : Work) : w.warn.pins = w.pins := congrArg (fun x => x.2.2.1) w.delivered_shell
theorem Work.warn_pending (w : Work) : w.warn.pending = w.pending := congrArg (fun x => x.2.2.2.2) w.delivered_shell

/-- The warning is latched, and of the responses CW's alone can be missing. -/
theorem Work.warn_pwc (w : Work) :
    w.warn.pwc = { power := w.pwc.power, latched := true, responses := some (Responses.delivered w.warn.cw.quiet) } := by
  have h : w.delivered.pwc = { w.pwc with latched := true } := congrArg (fun x => x.2.1) w.delivered_shell
  rw [Work.warn_eq]
  simp only [h]

theorem State.withPower_shell {s t : State} (p : Power) (h : s.shell = t.shell) :
    (s.withPower p).shell = (t.withPower p).shell :=
  congrArg (fun x => (x.1, ({ x.2.1 with power := p } : Pwc), x.2.2)) h

/-- What a line that has held a level can do: it takes the level, and then RDU or Power Control may act. -/
theorem Work.lineEvent_cases (l : LineId) (b : Bool) (w : Work) :
    ∃ r : Rdu, w.lineEvent l b = w.withRdu (fun _ => r) ∨
      w.lineEvent l b = (w.withRdu fun _ => r).enterReady ∨ w.lineEvent l b = (w.withRdu fun _ => r).publishDrive ∨
      (w.pwc.power ≠ .failsafe ∧ w.pwc.latched = false ∧ w.lineEvent l b = (w.withRdu fun _ => r).wake .s1) ∨
      w.lineEvent l b = (w.withRdu fun _ => r).s2Pressed ∨ w.lineEvent l b = (w.withRdu fun _ => r).s1Released ∨
      w.lineEvent l b = (w.withRdu fun _ => r).s2Released := by
  cases l with
  | s1 =>
    refine ⟨{ w.rdu with s1 := (w.rdu.s1.take (w.rdu.s1.levelOf b)).1 }, ?_⟩
    cases hl : w.pwc.latched with
    | true =>
      simp only [Work.lineEvent, hl, if_true]
      exact .inl rfl
    | false =>
      cases he : (w.rdu.s1.take (w.rdu.s1.levelOf b)).2 with
      | none =>
        simp only [Work.lineEvent, hl, he]
        exact .inl rfl
      | some e =>
        cases e with
        | press =>
          cases hp : w.pwc.power with
          | run =>
            simp only [Work.lineEvent, hl, he, hp, Bool.false_eq_true, if_false]
            split
            · exact .inr (.inl rfl)
            · exact .inr (.inr (.inl rfl))
          | quiet | halt =>
            simp only [Work.lineEvent, hl, he, hp, Bool.false_eq_true, if_false]
            exact .inr (.inr (.inr (.inl ⟨by decide, trivial, rfl⟩)))
          | failsafe =>
            simp only [Work.lineEvent, hl, he, hp, Bool.false_eq_true, if_false]
            exact .inl rfl
        | release =>
          simp only [Work.lineEvent, hl, he, Bool.false_eq_true, if_false]
          exact .inr (.inr (.inr (.inr (.inr (.inl rfl)))))
  | s2 =>
    refine ⟨{ w.rdu with s2 := (w.rdu.s2.take (w.rdu.s2.levelOf b)).1 }, ?_⟩
    cases hl : w.pwc.latched with
    | true =>
      simp only [Work.lineEvent, hl, if_true]
      exact .inl rfl
    | false =>
      cases he : (w.rdu.s2.take (w.rdu.s2.levelOf b)).2 with
      | none =>
        simp only [Work.lineEvent, hl, he]
        exact .inl rfl
      | some e =>
        cases e with
        | press =>
          simp only [Work.lineEvent, hl, he, Bool.false_eq_true, if_false]
          split
          · exact .inr (.inr (.inr (.inr (.inl rfl))))
          · exact .inl rfl
        | release =>
          simp only [Work.lineEvent, hl, he, Bool.false_eq_true, if_false]
          exact .inr (.inr (.inr (.inr (.inr (.inr rfl)))))

/-- A press of S1 wakes the part out of QUIET or HALT; no other event of a line moves the shell. -/
theorem Work.lineEvent_shell (l : LineId) (b : Bool) (w : Work) :
    (w.lineEvent l b).toState.shell = w.toState.shell ∨
      (w.pwc.power ≠ .failsafe ∧ w.pwc.latched = false ∧
        (w.lineEvent l b).toState.shell = (w.toState.withPower .run).shell) := by
  have keep (r : Rdu) {v : Work} (h : v.toState.outer = (w.withRdu fun _ => r).toState.outer) :
      v.toState.shell = w.toState.shell := (State.shell_of_outer h).trans rfl
  obtain ⟨r, h | h | h | ⟨hp, hl, h⟩ | h | h | h⟩ := w.lineEvent_cases l b <;> rw [h]
  · exact .inl rfl
  · exact .inl (keep r (Work.enterReady_outer _))
  · exact .inl (keep r (Work.publishDrive_outer _))
  · exact .inr ⟨hp, hl, Work.wake_shell .s1 _⟩
  · exact .inl (keep r (Work.s2Pressed_outer _))
  · exact .inl (keep r (Work.s1Released_outer _))
  · exact .inl (keep r (Work.s2Released_outer _))

/-- A card line that changes in HALT wakes the part; no other event of a card line moves the shell. -/
theorem Work.cardEvent_shell (i : SlotId) (b : Bool) (w : Work) :
    (w.cardEvent i b).toState.shell = w.toState.shell ∨
      (w.pwc.power = .halt ∧ (w.cardEvent i b).toState.shell = (w.toState.withPower .run).shell) := by
  simp only [Work.cardEvent]
  split
  · rename_i h
    have hc := State.shell_of_outer (Work.cardLine_outer i b w)
    exact .inr ⟨h.1, (Work.wake_shell .card _).trans (State.withPower_shell .run hc)⟩
  · exact .inl (State.shell_of_outer (Work.cardLine_outer i b w))

theorem Work.phyUp_shell (w : Work) :
    w.phyUp.toState.shell = ({ w.toState with pins := { w.pins with phyUp := true } } : State).shell := by
  simp only [Work.phyUp]
  split
  · exact (State.shell_of_outer (Work.enterUnbound_outer _)).trans rfl
  · rfl

theorem Work.phyDown_shell (w : Work) :
    w.phyDown.toState.shell = ({ w.toState with pins := { w.pins with phyUp := false } } : State).shell := by
  cases hl : w.tu.link with
  | off | down =>
    simp only [Work.phyDown, hl]
  | _ =>
    simp only [Work.phyDown, hl]
    exact (State.shell_of_outer (Work.linkDown_outer _)).trans rfl

theorem Work.judgeWarning_core (w : Work) : w.judgeWarning.cp.core = w.cp.core := by
  simp only [Work.judgeWarning]
  split
  · exact w.warn_core
  · rfl

theorem Work.judgeWarning_outside (w : Work) :
    (w.judgeWarning.pins, w.judgeWarning.pending) = (w.pins, w.pending) := by
  simp only [Work.judgeWarning]
  split
  · rw [w.warn_pins, w.warn_pending]
  · rfl

theorem Work.warningInput_core (b : Bool) (w : Work) : (w.warningInput b).cp.core = w.cp.core := by
  simp only [Work.warningInput]
  split
  · exact (Work.warn_core _).trans rfl
  · rfl

/-- The end of a step changes PWC alone. -/
theorem Work.finishWarning_cp (w : Work) : w.finishWarning.cp = w.cp := by
  simp only [Work.finishWarning]
  repeat' split
  all_goals rfl

theorem Work.reply_outstanding (k t : Byte) (p : List Byte) (w : Work) :
    (w.reply k t p).cp.outstanding = w.cp.outstanding + 1 := by
  simp only [Work.reply, Cp.append, Cp.outstanding, List.filter_append, List.length_append]
  exact Nat.add_right_comm _ 1 _

end Sys2Proof.Machine
end

section
/-! PROOF. Frame memory stays in its canonical form: O4. -/

namespace Sys2Proof.Machine

/-! ### Frame memory -/

@[simp] theorem Work.judgeWarning_mem (w : Work) : w.judgeWarning.mem = w.mem := by
  simp only [Work.judgeWarning]
  split
  · exact Work.warn_mem w
  · rfl

/-- A reset empties frame memory. -/
theorem Work.resetPin_mem (w : Work) : w.resetPin.mem = [] := by
  rw [Work.resetPin, Work.releaseReset, Work.judgeWarning_mem]
  rfl

theorem Work.resetAll_mem (t : Byte) (w : Work) : (w.resetAll t).mem = [] := by
  rw [Work.resetAll, Work.judgeWarning_mem]
  rfl

theorem Work.lineEvent_wf (l : LineId) (b : Bool) (w : Work) (h : w.mem.wf = true) : (w.lineEvent l b).mem.wf = true := by
  have keep (r : Rdu) {v : Work} (hv : v.mem = (w.withRdu fun _ => r).mem) : v.mem.wf = true := by
    rw [hv, Work.withRdu_mem]
    exact h
  obtain ⟨r, e | e | e | ⟨-, -, e⟩ | e | e | e⟩ := w.lineEvent_cases l b <;> rw [e]
  · exact keep r rfl
  · exact keep r (Work.enterReady_mem _)
  · exact keep r (Work.publishDrive_mem _)
  · exact keep r (Work.wake_mem _ _)
  · exact Work.s2Pressed_wf _ (keep r rfl)
  · exact keep r (Work.s1Released_mem _)
  · exact keep r (Work.s2Released_mem _)

theorem Work.warningInput_mem (b : Bool) (w : Work) : (w.warningInput b).mem = w.mem := by
  simp only [Work.warningInput]
  split
  · exact Work.warn_mem _
  · rfl

theorem Work.cardEvent_mem (i : SlotId) (b : Bool) (w : Work) : (w.cardEvent i b).mem = w.mem := by
  simp only [Work.cardEvent]
  split
  · exact (Work.wake_mem _ _).trans (Work.cardLine_mem i b w)
  · exact Work.cardLine_mem i b w

/-- Every event keeps frame memory in its canonical form. -/
theorem event_wf (c : Instr) (w : Work) (h1 : c.onPort = false) (h : w.mem.wf = true) :
    (c.event w).mem.wf = true := by
  have keep {v : Work} (hv : v.mem = w.mem) : v.mem.wf = true := hv ▸ h
  cases c with
  | resetPin => exact congrArg Memory.wf (Work.resetPin_mem w)
  | supplyWarning b => exact keep (Work.warningInput_mem b w)
  | releaseLineLevel l b => exact Work.lineEvent_wf l b w h
  | cardLineLevel i b => exact keep (Work.cardEvent_mem i b w)
  | imageLine x c => exact Work.lineArrives_wf x c w h
  | frameEnd n => exact Work.frameEnds_wf _ w h
  | proofRowWritten => exact Work.writeRow_wf w h
  | deReadError => exact Work.failJob_wf w h
  | runOk a => exact keep (Work.takeAnswer_keeps (·.mem) a _ w (Work.runEnd_mem _ _ w))
  | runFail a => exact keep (Work.takeAnswer_keeps (·.mem) a _ w (Work.runEnd_mem _ _ w))
  | readOk a d => exact keep (Work.takeAnswer_keeps (·.mem) a _ w (Work.readArrives_mem _ _ w))
  | readFail a => exact keep (Work.takeAnswer_keeps (·.mem) a _ w (Work.readEnd_mem _ _ w))
  | frameStart k id b => exact keep (Work.frameStarts_mem k _ b w)
  | startTimerExpiry => exact keep (Work.startExpires_mem w)
  | phyLinkUp => exact keep (Work.phyUp_mem w)
  | phyLinkDown => exact keep (Work.phyDown_mem w)
  | focusWaitExpiry => exact keep (Work.focusWaitExpires_mem w)
  | frameTimerExpiry => exact keep (Work.frameTimerExpires_mem w)
  | viewTimerExpiry => exact keep (Work.viewExpires_mem w)
  | afBlock z => exact keep (Work.afArrives_mem z w)
  | endTimerExpiry => exact keep (Work.endExpires_mem w)
  | pos p m => exact keep (Work.takePos_mem _ m w)
  | answerTimerExpiry => exact keep (Work.answerExpires_mem w)
  | arrived p => exact keep (Work.takeArrived_mem _ w)
  | moveTimerExpiry => exact keep (Work.moveExpires_mem w)
  | runTimerExpiry i => exact keep (Work.runEnd_mem i _ w)
  | cwReadError i => exact keep (Work.runSourceLost_mem i w)
  | readTimerExpiry i => exact keep (Work.readEnd_mem i _ w)
  | lockLineLevel i b => exact keep (Work.lockLine_mem i b w)
  | deskFrameDropped f => exact keep (Work.rawDeskFrame_mem f w)
  | bind h => exact keep (Work.takeDesk_mem h _ w)
  | ping h => exact keep (Work.takeDesk_mem h _ w)
  | ack h _ _ => exact keep (Work.takeDesk_mem h _ w)
  | finack h _ _ => exact keep (Work.takeDesk_mem h _ w)
  | request h _ _ => exact keep (Work.takeDesk_mem h _ w)
  | remote h _ => exact keep (Work.takeDesk_mem h _ w)
  | dataSend => exact keep (Work.sendData_mem w)
  | tuReadError => exact keep (Work.sendLost_mem w)
  | helloTimerExpiry => exact keep (Work.helloExpires_mem w)
  | deskLossTimerExpiry => exact keep (Work.deskExpires_mem w)
  | ackTimerExpiry => exact keep (Work.ackExpires_mem w)
  | underrunTimerExpiry => exact keep (Work.underrunExpires_mem w)
  | _ =>
    first
    | exact Bool.noConfusion h1
    | exact h

theorem memory_portKept : PortKept fun w => w.mem.wf = true where
  port _ _ _ _ h := h
  reply _ _ _ _ _ h := h
  settle := Work.settle_wf
  wake w h := by rw [Work.wake_mem]; exact h
  owner r p w v b ho h := by
    have hm := r.owner_mem p w
    rw [ho] at hm
    exact hm ▸ h
  resetTether w h := by rw [Work.resetTether_mem]; exact h
  resetAll t w _ := by
    rw [Work.resetAll_mem]
    rfl

@[simp] theorem Work.finishWarning_mem (w : Work) : w.finishWarning.mem = w.mem := by
  simp only [Work.finishWarning]
  repeat' split
  all_goals rfl

/-- Settles O4: no operation but a write of a chain touches frame memory, and a write keeps its form. -/
theorem memoryStaysCanonical : Obligations.MemoryStaysCanonical := by
  unfold Obligations.MemoryStaysCanonical
  refine step_keeps (fun _ _ _ _ h => h) fun c s t h => ?_
  exact exec_keeps memory_portKept (fun _ h => h) (fun w h => (congrArg Memory.wf w.finishWarning_mem).trans h) c
    (fun hc w h => event_wf c w hc h) s t h

end Sys2Proof.Machine
end

section
/-! PROOF. Reset, the step, the replies outstanding and the warning sequence: O1, O2, O3, O6, O7. -/

namespace Sys2Proof.Machine

/-! ### Reset and the step -/

/-- Settles O1: both clauses are the two cases of `step`. -/
theorem stepRunsTheFrontCommandOrTicks : Obligations.StepRunsTheFrontCommandOrTicks := by
  unfold Obligations.StepRunsTheFrontCommandOrTicks
  refine ⟨fun _ _ => rfl, fun s hs => ⟨fun h => ?_, fun h => ?_⟩⟩
  · simp only [step, hs, State.idleTick, if_pos h]
  · simp only [step, hs, State.idleTick, if_neg (Nat.not_lt.mpr h)]

/-- Settles O2: the reset values are the definition of the reset state. -/
theorem resetState : Obligations.ResetState := by
  unfold Obligations.ResetState
  refine ⟨rfl, ?_, rfl, ?_, ?_, ?_, ?_, ?_, rfl⟩
  · exact ⟨rfl, rfl, rfl, rfl, rfl, rfl, rfl, rfl, rfl, rfl, rfl, rfl, rfl, rfl, rfl, rfl, rfl, rfl, rfl⟩
  · exact ⟨rfl, rfl, rfl, rfl, rfl, rfl, rfl, rfl, rfl, rfl, rfl, rfl, rfl, rfl, rfl, rfl, rfl⟩
  · exact ⟨rfl, rfl, rfl, rfl, rfl, rfl, rfl, rfl, rfl⟩
  · refine ⟨rfl, rfl, rfl, fun i => ?_⟩
    cases i <;> exact ⟨rfl, rfl, rfl, rfl, rfl, rfl, rfl, rfl, rfl, rfl, rfl⟩
  · exact ⟨rfl, rfl, rfl, rfl, rfl, rfl, rfl, rfl, rfl, rfl, rfl⟩
  · exact ⟨rfl, rfl, rfl, rfl, rfl, rfl, rfl⟩

/-- The empty table over the whole pool is sound. -/
theorem Bm.reset_sound : Bm.reset.indicesOk ∧ Bm.reset.numbersOk ∧ Bm.reset.pagesOk := by
  refine ⟨⟨List.nodup_nil, fun r hr => (nomatch hr)⟩, ⟨List.nodup_nil, fun n hn => ?_⟩, ?_, ?_⟩
  · cases List.mem_singleton.mp hn
    decide
  · simp [Bm.reset, List.range_eq_range']
  · simpa [Bm.reset] using List.pairwise_lt_range

/-- Blocks with the reset values of BM and DE are a sound table. -/
theorem State.tableOk_of_reset {s : State} (hb : s.bm = Bm.reset) (hd : s.de = De.reset) : s.tableOk := by
  obtain ⟨hi, hn, hp⟩ := Bm.reset_sound
  refine ⟨hb ▸ hi, hb ▸ hn, hb ▸ hp, ?_, ?_, ?_⟩
  · rw [hb]
    exact fun r hr => (nomatch hr)
  · rw [hb, hd]
    exact fun _ => ⟨fun r hr => (nomatch hr), fun i hi => (nomatch hi)⟩
  · rw [hd]
    exact fun j hj => (nomatch hj)

/-- Settles O3: an empty memory, a queue without replies, no warning and an empty table over the whole pool. -/
theorem invariantsHoldAtReset : Obligations.InvariantsHoldAtReset := by
  unfold Obligations.InvariantsHoldAtReset
  refine ⟨rfl, ?_, ⟨fun r hr => (nomatch hr), fun h => absurd rfl h, fun h => (nomatch h)⟩, State.tableOk_of_reset rfl rfl⟩
  exact Nat.zero_le _

/-! ### Replies outstanding -/

/-- A reset leaves the reply it owes and no other. -/
theorem Work.resetAll_outstanding (t : Byte) (w : Work) : (w.resetAll t).cp.outstanding = 1 := by
  rw [Work.resetAll, Cp.outstanding_of_core (Work.judgeWarning_core _)]
  rfl

theorem replies_portKept : PortKept fun w => w.cp.outstanding ≤ Config.maxReplies where
  port _ _ _ hc h := Nat.le_trans hc h
  reply w k t p hw _ := by rw [Work.reply_outstanding]; exact hw
  settle w h := by rw [Work.settle_outstanding]; exact h
  wake w h := by rw [State.outstanding_of_shell (w.wake_shell .port)]; exact h
  owner r p w v b ho h := by
    have hk := r.owner_outstanding p w
    rw [ho] at hk
    exact (Nat.le_of_eq hk).trans h
  resetTether w h := by
    rw [State.outstanding_of_shell (State.shell_of_outer w.resetTether_outer)]
    exact h
  resetAll t w _ := by rw [Work.resetAll_outstanding]; decide

/-- No event adds a reply. -/
theorem event_replies (c : Instr) (w : Work) (hc : c.onPort = false)
    (h : w.cp.outstanding ≤ Config.maxReplies) : (c.event w).cp.outstanding ≤ Config.maxReplies := by
  have keep {v : Work} (hv : v.cp.outstanding = w.cp.outstanding) : v.cp.outstanding ≤ Config.maxReplies := hv ▸ h
  cases hm : c.moves with
  | false => exact keep (State.outstanding_of_shell (event_shell c w hc hm))
  | true =>
    cases c with
    | resetPin =>
      have h0 : w.resetPin.cp.outstanding = 0 := by
        rw [Work.resetPin, Work.releaseReset, Cp.outstanding_of_core (Work.judgeWarning_core _)]
        rfl
      exact (Nat.le_of_eq h0).trans (Nat.zero_le _)
    | supplyWarning b => exact keep (Cp.outstanding_of_core (Work.warningInput_core b w))
    | releaseLineLevel l b =>
      rcases w.lineEvent_shell l b with e | ⟨-, -, e⟩
      · exact keep (State.outstanding_of_shell e)
      · exact keep ((State.outstanding_of_shell e).trans rfl)
    | cardLineLevel i b =>
      rcases w.cardEvent_shell i b with e | ⟨-, e⟩
      · exact keep (State.outstanding_of_shell e)
      · exact keep ((State.outstanding_of_shell e).trans rfl)
    | phyLinkUp => exact keep ((State.outstanding_of_shell w.phyUp_shell).trans rfl)
    | phyLinkDown => exact keep ((State.outstanding_of_shell w.phyDown_shell).trans rfl)
    | _ => exact Bool.noConfusion hm

/-- Settles O6: CP takes a request only with fewer than 8 replies outstanding, and posts one for it. -/
theorem repliesStayBounded : Obligations.RepliesStayBounded := by
  unfold Obligations.RepliesStayBounded
  refine step_keeps (fun _ _ _ _ h => h) fun c s t h => ?_
  refine exec_keeps replies_portKept (fun _ h => h) (fun w h => ?_) c
    (fun hc w => event_replies c w hc) s t h
  exact (congrArg Cp.outstanding w.finishWarning_cp).symm ▸ h

/-! ### The warning sequence -/

/-- The warning sequence within a step: the end of the step has still to ask for CW's response. -/
def Pwc.sequenced (p : Pwc) : Prop :=
  (∀ r, p.responses = some r → ∃ b, r = Responses.delivered b) ∧ (p.responses ≠ none → p.latched = true) ∧
    (p.power = .failsafe → p.latched = true ∧ p.responses = none)

/-- A power state that is not FAILSAFE fits every warning sequence. -/
theorem Pwc.sequenced_power {p : Pwc} {q : Power} (hq : q ≠ .failsafe) (h : p.sequenced) :
    Pwc.sequenced { p with power := q } :=
  ⟨h.1, h.2.1, fun e => absurd e hq⟩

theorem Pwc.sequenced_of_shell {s t : State} (e : s.shell = t.shell) (h : t.pwc.sequenced) : s.pwc.sequenced := by
  have hp : s.pwc = t.pwc := congrArg (fun x => x.2.1) e
  exact hp ▸ h

/-- A warning latched outside FAILSAFE starts the sequence. -/
theorem Work.warn_sequenced (w : Work) (h : w.pwc.power ≠ .failsafe) : w.warn.pwc.sequenced := by
  rw [Work.warn_pwc]
  exact ⟨fun r hr => ⟨_, (Option.some.inj hr).symm⟩, fun _ => rfl, fun e => absurd e h⟩

theorem Work.judgeWarning_sequenced (w : Work) (h : w.pwc = Pwc.reset) : w.judgeWarning.pwc.sequenced := by
  simp only [Work.judgeWarning]
  split
  · exact w.warn_sequenced (by rw [h]; decide)
  · rw [h]
    exact ⟨fun r hr => (nomatch hr), fun e => absurd rfl e, fun e => (nomatch e)⟩

theorem warning_portKept : PortKept fun w => w.pwc.sequenced where
  port _ _ _ _ h := h
  reply _ _ _ _ _ h := h
  settle w h := Pwc.sequenced_of_shell w.settle_shell h
  wake w h := Pwc.sequenced_of_shell (w.wake_shell .port) (Pwc.sequenced_power (by decide) h)
  owner r p w v b ho h := by
    by_cases h1 : r = .portStatus
    · subst h1
      simp only [Request.owner, answerPortStatus] at ho
      split at ho
      · cases ho
      · cases ho
        split <;> exact h
    by_cases h2 : r = .powerSet
    · subst h2
      rcases answerPowerSet_shell ho with hv | ⟨q, hq, hv⟩
      · exact Pwc.sequenced_of_shell hv h
      · exact Pwc.sequenced_of_shell hv (Pwc.sequenced_power hq h)
    have hk := r.owner_shell p w h1 h2
    rw [ho] at hk
    exact Pwc.sequenced_of_shell hk h
  resetTether w h := Pwc.sequenced_of_shell (State.shell_of_outer w.resetTether_outer) h
  resetAll t w _ := Work.judgeWarning_sequenced _ rfl

theorem event_sequenced (c : Instr) (w : Work) (hc : c.onPort = false) (h : w.pwc.sequenced) :
    (c.event w).pwc.sequenced := by
  have hrun : (.run : Power) ≠ .failsafe := by decide
  cases hm : c.moves with
  | false => exact Pwc.sequenced_of_shell (event_shell c w hc hm) h
  | true =>
    cases c with
    | resetPin => exact Work.judgeWarning_sequenced _ rfl
    | supplyWarning b =>
      refine (show (w.warningInput b).pwc.sequenced from ?_)
      simp only [Work.warningInput]
      split
      · rename_i hw
        refine Work.warn_sequenced _ fun e => ?_
        have := (h.2.2 e).1
        simp [hw.2] at this
      · exact h
    | releaseLineLevel l b =>
      rcases w.lineEvent_shell l b with e | ⟨-, -, e⟩
      · exact Pwc.sequenced_of_shell e h
      · exact Pwc.sequenced_of_shell e (Pwc.sequenced_power hrun h)
    | cardLineLevel i b =>
      rcases w.cardEvent_shell i b with e | ⟨-, e⟩
      · exact Pwc.sequenced_of_shell e h
      · exact Pwc.sequenced_of_shell e (Pwc.sequenced_power hrun h)
    | phyLinkUp => exact Pwc.sequenced_of_shell w.phyUp_shell h
    | phyLinkDown => exact Pwc.sequenced_of_shell w.phyDown_shell h
    | _ => exact Bool.noConfusion hm

/-- The end of a step closes the sequence when no writing duty stands. -/
theorem Work.finishWarning_warningOk (w : Work) (h : w.pwc.sequenced) : w.finishWarning.toState.warningOk := by
  obtain ⟨hr, hl, hf⟩ := h
  cases hs : w.pwc.responses with
  | none =>
    simp only [Work.finishWarning, hs]
    refine ⟨fun r e => ?_, fun e => absurd hs e, fun e => ?_⟩
    · rw [hs] at e
      cases e
    · exact hf e
  | some r =>
    obtain ⟨b, rfl⟩ := hr r hs
    have hlat := hl (by rw [hs]; exact Option.some_ne_none _)
    cases hq : w.cw.quiet with
    | true =>
      simp only [Work.finishWarning, hs, hq, Responses.delivered, Responses.allDone, Bool.and_self, if_true]
      exact ⟨fun r e => (nomatch e), fun e => absurd rfl e, fun _ => ⟨hlat, rfl⟩⟩
    | false =>
      simp only [Work.finishWarning, hs, hq, Responses.delivered, Responses.allDone]
      refine ⟨fun r e => ?_, fun _ => hlat, fun e => ?_⟩
      · cases e
        exact ⟨rfl, hq⟩
      · have := (hf e).2
        rw [hs] at this
        cases this

/-- Settles O7: within a step the sequence is one that the step's end closes. -/
theorem warningSequenceStaysSound : Obligations.WarningSequenceStaysSound := by
  unfold Obligations.WarningSequenceStaysSound
  refine step_keeps (fun _ _ _ _ h => h) fun c s t h => ?_
  refine exec_keeps warning_portKept (fun s h => ?_) Work.finishWarning_warningOk c
    (fun hc w => event_sequenced c w hc) s t h
  obtain ⟨hs, hl, hf⟩ := h
  exact ⟨fun r hr => ⟨false, (hs r hr).1⟩, hl, hf⟩

end Sys2Proof.Machine
end

section
/-! PROOF. The back half leaves the front alone, and no command the outside: O9, O10. -/

namespace Sys2Proof

/-- The commands of the cards, of development, of the PHY and of the timers of the tether. -/
def Instr.back : Instr → Bool
  | .proofRowWritten | .deReadError | .phyLinkUp | .phyLinkDown | .dataSend | .tuReadError | .helloTimerExpiry
  | .deskLossTimerExpiry | .ackTimerExpiry | .underrunTimerExpiry | .runTimerExpiry _ | .cwReadError _
  | .readTimerExpiry _ | .runOk _ | .runFail _ | .readFail _ | .readOk _ _ | .lockLineLevel _ _ => true
  | _ => false

end Sys2Proof
namespace Sys2Proof.Machine

/-! ### The commands of the back half -/

theorem event_front (c : Instr) (w : Work) (hc : c.back = true) : (c.event w).toState.front = w.toState.front := by
  cases c with
  | proofRowWritten => exact Work.writeRow_front w
  | deReadError => exact Work.failJob_front w
  | phyLinkUp => exact Work.phyUp_front w
  | phyLinkDown => exact Work.phyDown_front w
  | dataSend => exact Work.sendData_front w
  | tuReadError => exact Work.sendLost_front w
  | helloTimerExpiry => exact Work.helloExpires_front w
  | deskLossTimerExpiry => exact Work.deskExpires_front w
  | ackTimerExpiry => exact Work.ackExpires_front w
  | underrunTimerExpiry => exact Work.underrunExpires_front w
  | runTimerExpiry i => exact Work.runEnd_front i _ w
  | cwReadError i => exact Work.runSourceLost_front i w
  | readTimerExpiry i => exact Work.readEnd_front i _ w
  | runOk a => exact Work.takeAnswer_keeps (·.front) a _ w (Work.runEnd_front _ _ w)
  | runFail a => exact Work.takeAnswer_keeps (·.front) a _ w (Work.runEnd_front _ _ w)
  | readFail a => exact Work.takeAnswer_keeps (·.front) a _ w (Work.readEnd_front _ _ w)
  | readOk a d => exact Work.takeAnswer_keeps (·.front) a _ w (Work.readArrives_front _ _ w)
  | lockLineLevel i b => exact Work.lockLine_front i b w
  | _ => exact Bool.noConfusion hc

theorem event_calm (c : Instr) (w : Work) (hc : c.back = true) : (c.event w).calm = w.calm := by
  cases c with
  | proofRowWritten => exact Work.writeRow_calm w
  | deReadError => exact Work.failJob_calm w
  | phyLinkUp => exact Work.phyUp_calm w
  | phyLinkDown => exact Work.phyDown_calm w
  | dataSend => exact Work.sendData_calm w
  | tuReadError => exact Work.sendLost_calm w
  | helloTimerExpiry => exact Work.helloExpires_calm w
  | deskLossTimerExpiry => exact Work.deskExpires_calm w
  | ackTimerExpiry => exact Work.ackExpires_calm w
  | underrunTimerExpiry => exact Work.underrunExpires_calm w
  | runTimerExpiry i => exact Work.runEnd_calm i _ w
  | cwReadError i => exact Work.runSourceLost_calm i w
  | readTimerExpiry i => exact Work.readEnd_calm i _ w
  | runOk a => exact Work.takeAnswer_keeps Work.calm a _ w (Work.runEnd_calm _ _ w)
  | runFail a => exact Work.takeAnswer_keeps Work.calm a _ w (Work.runEnd_calm _ _ w)
  | readFail a => exact Work.takeAnswer_keeps Work.calm a _ w (Work.readEnd_calm _ _ w)
  | readOk a d => exact Work.takeAnswer_keeps Work.calm a _ w (Work.readArrives_calm _ _ w)
  | lockLineLevel i b => exact Work.lockLine_calm i b w
  | _ => exact Bool.noConfusion hc

/-- The commands of the back half leave the clock alone. -/
theorem event_now (c : Instr) (w : Work) (hc : c.back = true) : (c.event w).now = w.now := by
  have now_of_shell {s t : State} (e : s.shell = t.shell) : s.now = t.now := congrArg (fun x => x.2.2.2.1) e
  cases hm : c.moves with
  | true =>
    cases c with
    | phyLinkUp => exact (now_of_shell w.phyUp_shell).trans rfl
    | phyLinkDown => exact (now_of_shell w.phyDown_shell).trans rfl
    | _ =>
      first
      | exact Bool.noConfusion hm
      | exact Bool.noConfusion hc
  | false =>
    refine now_of_shell (event_shell c w ?_ hm)
    cases c <;> first | rfl | exact Bool.noConfusion hc

/-- The end of a step leaves the front and the clock alone. -/
theorem Work.finishWarning_front (w : Work) : w.finishWarning.toState.front = w.toState.front := by
  simp only [Work.finishWarning]
  repeat' split
  all_goals rfl

theorem Work.finishWarning_shell (w : Work) :
    (w.finishWarning.cp, w.finishWarning.pins, w.finishWarning.now, w.finishWarning.pending) =
      (w.cp, w.pins, w.now, w.pending) := by
  simp only [Work.finishWarning]
  repeat' split
  all_goals rfl

/-- Settles O10: the events of the back half and the reports they post leave the front part as it is. -/
theorem backCommandsLeaveTheFront : Obligations.BackCommandsLeaveTheFront := by
  unfold Obligations.BackCommandsLeaveTheFront
  intro c s t _ hc he
  have hb : c.back = true := by
    rcases hc with hc | ⟨i, hc⟩ | ⟨a, hc⟩ | ⟨a, d, rfl⟩ | ⟨i, b, rfl⟩
    · fin_cases hc <;> rfl
    · fin_cases hc <;> rfl
    · fin_cases hc <;> rfl
    · rfl
    · rfl
  have hf : c.frame? = none := by cases c <;> first | rfl | exact Bool.noConfusion hb
  rw [exec_eq_run] at he
  cases he
  let w0 : Work := { toState := s, bus := [] }
  have hop : c.op w0 = c.event w0 := by simp only [Instr.op, hf]
  have hfront : (run c.op s).front = s.front := by
    refine (Work.finishWarning_front _).trans ?_
    rw [Work.settle_front _ ?_, hop, event_front c w0 hb]
    rw [hop, event_calm c w0 hb]
    rfl
  have hnow : (run c.op s).now = s.now := by
    have h1 := congrArg (fun x => x.2.2.1) (Work.finishWarning_shell (c.op w0).settle)
    have h2 := congrArg (fun x => x.2.2.2.1) (Work.settle_shell (c.op w0))
    have h3 := event_now c w0 hb
    rw [← hop] at h3
    exact h1.trans (h2.trans h3)
  simp only [State.front, Prod.mk.injEq] at hfront
  obtain ⟨h1, h2, h3, h4, h5, h6, h7⟩ := hfront
  exact ⟨h1, h2, h3, h5, h6, h7, hnow, h4⟩

/-! ### The queue of commands and the outside levels -/

/-- What is read off the levels and the queue of commands, the port and every owner keep. -/
theorem outside_portKept {β : Type} (g : Pins × List Instr → β) (a : β) :
    PortKept fun w => g (w.pins, w.pending) = a where
  port _ _ _ _ h := h
  reply _ _ _ _ _ h := h
  settle w h := (congrArg (fun x => g (x.2.2.1, x.2.2.2.2)) w.settle_shell).trans h
  wake w h := (congrArg (fun x => g (x.2.2.1, x.2.2.2.2)) (w.wake_shell .port)).trans h
  owner r p w v b ho h := by
    have keep {t : State} (e : v.toState.shell = t.shell) (ht : (t.pins, t.pending) = (w.pins, w.pending)) :
        g (v.pins, v.pending) = a :=
      (congrArg (fun x => g (x.2.2.1, x.2.2.2.2)) e).trans ((congrArg g ht).trans h)
    by_cases h1 : r = .portStatus
    · subst h1
      simp only [Request.owner, answerPortStatus] at ho
      split at ho
      · cases ho
      · cases ho
        split <;> exact h
    by_cases h2 : r = .powerSet
    · subst h2
      rcases answerPowerSet_shell ho with hv | ⟨q, -, hv⟩
      · exact keep hv rfl
      · exact keep hv rfl
    have hk := r.owner_shell p w h1 h2
    rw [ho] at hk
    exact keep hk rfl
  resetTether w h := (congrArg (fun x => g (x.2.2.1, x.2.2.2.2)) (State.shell_of_outer w.resetTether_outer)).trans h
  resetAll t w h := by
    rw [Work.resetAll, Work.judgeWarning_outside]
    exact h

/-- Each event leaves the queue of commands alone, and an outside level that is not its own. -/
theorem event_outside (c : Instr) (w : Work) (hc : c.onPort = false) :
    (c.event w).pending = w.pending ∧
      ((∀ b, c ≠ .supplyWarning b) → (c.event w).pins.warning = w.pins.warning) ∧
      (c ≠ .phyLinkUp ∧ c ≠ .phyLinkDown → (c.event w).pins.phyUp = w.pins.phyUp) := by
  have keep {s t : State} (e : s.shell = t.shell) (hp : t.pins = w.pins) (hq : t.pending = w.pending) :
      s.pending = w.pending ∧ s.pins = w.pins :=
    ⟨(congrArg (fun x => x.2.2.2.2) e).trans hq, (congrArg (fun x => x.2.2.1) e).trans hp⟩
  have all {v : Work} (h : v.pending = w.pending ∧ v.pins = w.pins) {p q : Prop} :
      v.pending = w.pending ∧ (p → v.pins.warning = w.pins.warning) ∧ (q → v.pins.phyUp = w.pins.phyUp) :=
    ⟨h.1, fun _ => by rw [h.2], fun _ => by rw [h.2]⟩
  cases hm : c.moves with
  | false => exact all (keep (event_shell c w hc hm) rfl rfl)
  | true =>
    cases c with
    | resetPin =>
      have h := Work.judgeWarning_outside
        { toState := w.assertReset.toState.resetBlocks { Cp.reset with busy := w.assertReset.cp.busy, muted := w.assertReset.cp.muted }, bus := [] }
      simp only [Prod.mk.injEq] at h
      exact all ⟨h.2, h.1⟩
    | supplyWarning b =>
      have h : (w.warningInput b).pending = w.pending ∧ (w.warningInput b).pins.phyUp = w.pins.phyUp := by
        simp only [Work.warningInput]
        split
        · exact ⟨Work.warn_pending _, by rw [Work.warn_pins]⟩
        · exact ⟨rfl, rfl⟩
      exact ⟨h.1, fun hb => absurd rfl (hb b), fun _ => h.2⟩
    | releaseLineLevel l b =>
      rcases w.lineEvent_shell l b with e | ⟨-, -, e⟩
      · exact all (keep e rfl rfl)
      · exact all (keep e rfl rfl)
    | cardLineLevel i b =>
      rcases w.cardEvent_shell i b with e | ⟨-, e⟩
      · exact all (keep e rfl rfl)
      · exact all (keep e rfl rfl)
    | phyLinkUp =>
      have e := w.phyUp_shell
      exact ⟨congrArg (fun x => x.2.2.2.2) e, fun _ => congrArg (fun x => x.2.2.1.warning) e, fun h => absurd rfl h.1⟩
    | phyLinkDown =>
      have e := w.phyDown_shell
      exact ⟨congrArg (fun x => x.2.2.2.2) e, fun _ => congrArg (fun x => x.2.2.1.warning) e, fun h => absurd rfl h.2⟩
    | _ => exact Bool.noConfusion hm

/-- Settles O9: a reset too keeps the levels and the queue, and every other operation leaves them alone. -/
theorem commandsLeaveQueueAndLevels : Obligations.CommandsLeaveQueueAndLevels := by
  unfold Obligations.CommandsLeaveQueueAndLevels
  intro c s t he
  have keeps {β : Type} (g : Pins × List Instr → β)
      (hg : c.onPort = false → ∀ w : Work, g (w.pins, w.pending) = g (s.pins, s.pending) →
        g ((c.event w).pins, (c.event w).pending) = g (s.pins, s.pending)) :
      g (t.pins, t.pending) = g (s.pins, s.pending) :=
    exec_keeps (I := fun x => g (x.pins, x.pending) = g (s.pins, s.pending))
      (outside_portKept g _) (fun _ h => h)
      (fun w h => (congrArg (fun x => g (x.2.1, x.2.2.2)) w.finishWarning_shell).trans h) c hg s t rfl he
  refine ⟨keeps Prod.snd fun hc w h => (event_outside c w hc).1.trans h, fun hb => ?_, fun hb => ?_⟩
  · exact keeps (fun x => x.1.warning) fun hc w h => ((event_outside c w hc).2.1 hb).trans h
  · exact keeps (fun x => x.1.phyUp) fun hc w h => ((event_outside c w hc).2.2 hb).trans h

end Sys2Proof.Machine
end

section
/-! PROOF. The receiver byte by byte: what the bytes of a frame, of a garbled frame and of fill come to. O8, O12, O14, O17,
O18. -/

namespace Sys2Proof.Machine

/-! ### Bytes shifted out and the receiver do not touch each other -/

/-- The work with the receiver's part of CP replaced: its state, its run of strays and the count of garbled frames. -/
def Work.withRx (x : Receiver) (strays : Bool) (g : Nat) (w : Work) : Work :=
  { w with cp := { w.cp with rx := x, strays := strays, garbled := g } }

/-- CP with the receiver's part replaced. -/
def Cp.withRx (x : Receiver) (strays : Bool) (g : Nat) (c : Cp) : Cp := { c with rx := x, strays := strays, garbled := g }

theorem Cp.fixHead_withRx (x : Receiver) (y : Bool) (g : Nat) (c : Cp) :
    (c.withRx x y g).fixHead = c.fixHead.withRx x y g := by
  obtain ⟨rx, strays, busy, muted, queue, fixed, place, latches, enabled, garbled, overrun, cause, held⟩ := c
  cases fixed with
  | true => rfl
  | false =>
    cases queue with
    | nil => rfl
    | cons f rest => cases f <;> rfl

theorem Cp.repost_withRx (x : Receiver) (y : Bool) (g : Nat) (c : Cp) (k : Notice) :
    (c.withRx x y g).repost k = (c.repost k).withRx x y g := by
  rw [Cp.repost, Cp.repost, apply_ite (Cp.withRx x y g)]
  rfl

/-- A reply whose last byte has gone out leaves. -/
theorem Cp.frameLeft_reply {c : Cp} {k t : Byte} {p : List Byte} {rest : List OutFrame}
    (h : c.queue = .reply k t p :: rest) : c.frameLeft = { c with queue := rest, fixed := false, place := 0 } := by
  simp only [Cp.frameLeft, h]

/-- A notice whose last byte has gone out leaves, and may be posted anew. -/
theorem Cp.frameLeft_notice {c : Cp} {k : Notice} {n : Nat} {b : List Byte} {rest : List OutFrame}
    (h : c.queue = .notice k n b :: rest) :
    c.frameLeft = ({ c with queue := rest, fixed := false, place := 0 } : Cp).repost k := by
  simp only [Cp.frameLeft, h]

theorem Cp.frameLeft_withRx (x : Receiver) (y : Bool) (g : Nat) (c : Cp) :
    (c.withRx x y g).frameLeft = c.frameLeft.withRx x y g := by
  cases hq : c.queue with
  | nil => simp only [Cp.frameLeft, Cp.withRx, hq]
  | cons f rest =>
    cases f with
    | reply k t p =>
      rw [Cp.frameLeft_reply hq, Cp.frameLeft_reply (c := c.withRx x y g) hq]
      rfl
    | notice k n b =>
      rw [Cp.frameLeft_notice hq, Cp.frameLeft_notice (c := c.withRx x y g) hq, ← Cp.repost_withRx]
      rfl

/-- How the head frame moves on when a byte has gone out. -/
theorem Cp.advance_cons {c : Cp} {f : OutFrame} {rest : List OutFrame} (h : c.queue = f :: rest) :
    c.advance = if c.muted then c else if c.place = 0 then { c.fixHead with place := 1 }
      else if c.place + 1 < f.size then { c with place := c.place + 1 } else c.frameLeft := by
  simp only [Cp.advance, h]

theorem Cp.advance_nil {c : Cp} (h : c.queue = []) : c.advance = c := by
  simp only [Cp.advance, h]

theorem Cp.advance_withRx (x : Receiver) (y : Bool) (g : Nat) (c : Cp) :
    (c.withRx x y g).advance = c.advance.withRx x y g := by
  cases hq : c.queue with
  | nil => rw [Cp.advance_nil hq, Cp.advance_nil (c := c.withRx x y g) hq]
  | cons f rest =>
    rw [Cp.advance_cons hq, Cp.advance_cons (c := c.withRx x y g) hq, apply_ite (Cp.withRx x y g),
      apply_ite (Cp.withRx x y g), apply_ite (Cp.withRx x y g), Cp.fixHead_withRx, Cp.frameLeft_withRx]
    rfl

theorem Work.shiftOuts_withRx (x : Receiver) (y : Bool) (g n : Nat) (w : Work) :
    (w.withRx x y g).shiftOuts n = (w.shiftOuts n).withRx x y g := by
  induction n generalizing w with
  | zero => rfl
  | succ n ih =>
    have h : (w.withRx x y g).toState.shiftOut = ((w.shiftOuts 1).withRx x y g).toState := by
      have ha := Cp.advance_withRx x y g w.cp
      simp only [Work.withRx, State.shiftOut, Work.shiftOuts, State.shiftOuts]
      simp only [Cp.withRx] at ha
      rw [ha]
      rfl
    have := ih (w.shiftOuts 1)
    simp only [Work.shiftOuts, State.shiftOuts, h] at this ⊢
    exact this

theorem Work.shiftOuts_add (m n : Nat) (w : Work) : (w.shiftOuts m).shiftOuts n = w.shiftOuts (m + n) := by
  induction m generalizing w with
  | zero => rw [Nat.zero_add]; rfl
  | succ m ih =>
    have h := ih (w.shiftOuts 1)
    rw [show m + 1 + n = (m + n) + 1 by omega]
    exact h

/-- The receiver's part as it stands. -/
theorem Work.withRx_self (w : Work) : w.withRx w.cp.rx w.cp.strays w.cp.garbled = w := rfl

theorem Work.withRx_withRx (x x' : Receiver) (y y' : Bool) (g g' : Nat) (w : Work) :
    (w.withRx x y g).withRx x' y' g' = w.withRx x' y' g' := rfl

/-! ### The bytes of a transaction -/

/-- The bytes of an ignored transaction are thrown away (R187). -/
theorem Work.clock_muted (bytes : List Byte) (w : Work) (h : w.cp.muted = true) :
    w.clock bytes = w.shiftOuts bytes.length := by
  induction bytes generalizing w with
  | nil => rfl
  | cons b bytes ih =>
    have h1 : (w.shiftOuts 1).cp.muted = true := (w.toState.shiftOuts_cp_muted 1).trans h
    have hb : w.clockByte b = w.shiftOuts 1 := by simp only [Work.clockByte, h1, if_true]
    rw [Work.clock, List.foldl_cons, hb]
    refine (ih _ h1).trans ?_
    rw [Work.shiftOuts_add, List.length_cons, Nat.add_comm]

theorem Work.shiftOuts_muted (v : Work) (n : Nat) (hm : v.cp.muted = false) : (v.shiftOuts n).cp.muted = false :=
  (v.toState.shiftOuts_cp_muted n).trans hm

/-- The last byte of a body completes it. -/
theorem Work.feedByte_body {need : Nat} {got : List Byte} (w : Work) (b : Byte) (h : w.cp.rx = .body need got)
    (hl : ¬ (got ++ [b]).length < need) : w.feedByte b = w.completeBody (got ++ [b]) := by
  simp only [Work.feedByte, h, hl, if_false]

/-- A complete body is its content and the two bytes of its CRC. -/
theorem Work.completeBody_append (content crc : List Byte) (w : Work) (h : crc.length = 2) :
    w.completeBody (content ++ crc) =
      if leNat crc = (crc16 content).toNat then
        (w.setRx .hunt).take (byteAt content 0) (byteAt content 1) (content.drop 2)
      else (w.setRx .hunt).countGarbled := by
  have hn : (content ++ crc).length - 2 = content.length := by rw [List.length_append]; omega
  simp only [Work.completeBody, hn, List.take_left, List.drop_left]

section
variable (v : Work) (x : Receiver) (y : Bool) (g : Nat) (hm : v.cp.muted = false)
include hm

/-- At an open port the receiver takes the byte. -/
theorem Work.clockByte_withRx (b : Byte) :
    (v.withRx x y g).clockByte b = ((v.shiftOuts 1).withRx x y g).feedByte b := by
  have h1 : ((v.shiftOuts 1).withRx x y g).cp.muted = false := (v.toState.shiftOuts_cp_muted 1).trans hm
  simp only [Work.clockByte, Work.shiftOuts_withRx, h1, Bool.false_eq_true, if_false]

/-- DISCARD throws the bytes away (R176). -/
theorem Work.clock_discard (bytes : List Byte) :
    (v.withRx .discard y g).clock bytes = (v.shiftOuts bytes.length).withRx .discard y g := by
  induction bytes generalizing v with
  | nil => rfl
  | cons b bytes ih =>
    rw [Work.clock, List.foldl_cons, Work.clockByte_withRx v _ y g hm]
    refine (ih (v.shiftOuts 1) (v.shiftOuts_muted 1 hm)).trans ?_
    rw [Work.shiftOuts_add, List.length_cons, Nat.add_comm]

/-- Fill between frames ends a run of stray bytes (R175). -/
theorem Work.clock_fill (n : Nat) :
    (v.withRx .hunt y g).clock (List.replicate (n + 1) 0xFF) = (v.shiftOuts (n + 1)).withRx .hunt false g := by
  induction n generalizing v y with
  | zero => exact Work.clockByte_withRx v _ y g hm 0xFF
  | succ n ih =>
    rw [List.replicate_succ, Work.clock, List.foldl_cons, Work.clockByte_withRx v _ y g hm]
    refine (ih (v.shiftOuts 1) false (v.shiftOuts_muted 1 hm)).trans ?_
    rw [Work.shiftOuts_add, Nat.add_comm 1]

/-- Stray bytes between frames are one garbled frame, counted at the first (R176, log entry 23). -/
theorem Work.clock_strays (b : Byte) (bytes : List Byte) (hb : ∀ c ∈ b :: bytes, c ≠ 0xA5 ∧ c ≠ 0xFF) :
    (v.withRx .hunt y g).clock (b :: bytes) =
      (v.shiftOuts (bytes.length + 1)).withRx .hunt true (if y then g else satSucc 65535 g) := by
  have first (z : Bool) (k : Nat) (u : Work) (c : Byte) (hc : c ≠ 0xA5 ∧ c ≠ 0xFF) (hu : u.cp.muted = false) :
      (u.withRx .hunt z k).clockByte c = (u.shiftOuts 1).withRx .hunt true (if z then k else satSucc 65535 k) := by
    rw [Work.clockByte_withRx u _ z k hu]
    cases z <;> simp only [Work.feedByte, Work.withRx, hc.1, hc.2, Work.countGarbled, if_false, if_true,
      Bool.false_eq_true]
  have rest (bytes : List Byte) (u : Work) (k : Nat) (hc : ∀ c ∈ bytes, c ≠ 0xA5 ∧ c ≠ 0xFF) (hu : u.cp.muted = false) :
      (u.withRx .hunt true k).clock bytes = (u.shiftOuts bytes.length).withRx .hunt true k := by
    induction bytes generalizing u with
    | nil => rfl
    | cons c bytes ih =>
      rw [Work.clock, List.foldl_cons, first true k u c (hc c List.mem_cons_self) hu]
      refine (ih (u.shiftOuts 1) (fun d hd => hc d (List.mem_cons_of_mem c hd)) (u.shiftOuts_muted 1 hu)).trans ?_
      rw [Work.shiftOuts_add, List.length_cons, Nat.add_comm]
  rw [Work.clock, List.foldl_cons, first y g v b (hb b List.mem_cons_self) hm]
  refine (rest bytes _ _ (fun c hc => hb c (List.mem_cons_of_mem b hc)) (v.shiftOuts_muted 1 hm)).trans ?_
  rw [Work.shiftOuts_add, Nat.add_comm]

/-- The bytes of a body join it until it is complete. -/
theorem Work.clock_body (need : Nat) (got bytes : List Byte) (h : got.length + bytes.length < need) :
    (v.withRx (.body need got) y g).clock bytes =
      (v.shiftOuts bytes.length).withRx (.body need (got ++ bytes)) y g := by
  induction bytes generalizing v got with
  | nil => rw [List.append_nil]; rfl
  | cons b bytes ih =>
    rw [List.length_cons] at h
    have hl : (got ++ [b]).length < need := by rw [List.length_append]; simp only [List.length_singleton]; omega
    have hb : (v.withRx (.body need got) y g).clockByte b = (v.shiftOuts 1).withRx (.body need (got ++ [b])) y g := by
      rw [Work.clockByte_withRx v _ y g hm]
      simp only [Work.feedByte, Work.withRx, hl, if_true, Work.setRx]
    rw [Work.clock, List.foldl_cons, hb]
    refine (ih (v.shiftOuts 1) (v.shiftOuts_muted 1 hm) (got ++ [b]) ?_).trans ?_
    · rw [List.length_append, List.length_singleton]; omega
    · rw [Work.shiftOuts_add, List.append_assoc, List.length_cons, Nat.add_comm]
      rfl

/-- The length field opens the body, or sends the receiver to DISCARD (R175, R176). -/
theorem Work.clock_header (a b : Byte) :
    (v.withRx .hunt y g).clock [0xA5, a, b] =
      if Config.maxPayload < leNat [a, b] then (v.shiftOuts 3).withRx .discard false (satSucc 65535 g)
      else (v.shiftOuts 3).withRx (.body (leNat [a, b] + 4) []) false g := by
  have h1 : (v.withRx .hunt y g).clockByte 0xA5 = (v.shiftOuts 1).withRx (.header []) false g :=
    Work.clockByte_withRx v _ y g hm _
  have h2 : ((v.shiftOuts 1).withRx (.header []) false g).clockByte a =
      (v.shiftOuts 2).withRx (.header [a]) false g := by
    rw [Work.clockByte_withRx _ _ false g (v.shiftOuts_muted 1 hm), Work.shiftOuts_add]
    rfl
  have h3 := Work.clockByte_withRx _ (.header [a]) false g (v.shiftOuts_muted 2 hm) b
  rw [Work.shiftOuts_add] at h3
  show (((v.withRx .hunt y g).clockByte 0xA5).clockByte a).clockByte b = _
  rw [h1, h2, h3]
  simp only [Work.feedByte, Work.withRx]
  split <;> rfl

/-- The bytes of a frame whose length field is right: the frame is taken when its CRC matches, and counted when not. -/
theorem Work.clock_frame (a b : Byte) (content crc : List Byte) (hn : leNat [a, b] ≤ Config.maxPayload)
    (hl : content.length = leNat [a, b] + 2) (hc : crc.length = 2) :
    (v.withRx .hunt y g).clock (0xA5 :: a :: b :: (content ++ crc)) =
      if leNat crc = (crc16 content).toNat then
        ((v.shiftOuts (leNat [a, b] + 7)).withRx .hunt false g).take (byteAt content 0) (byteAt content 1) (content.drop 2)
      else (v.shiftOuts (leNat [a, b] + 7)).withRx .hunt false (satSucc 65535 g) := by
  obtain rfl | ⟨l, z, rfl⟩ := List.eq_nil_or_concat' crc
  · cases hc
  rw [List.length_append, List.length_singleton] at hc
  have hbody := Work.clock_body (v.shiftOuts 3) false g (v.shiftOuts_muted 3 hm) (leNat [a, b] + 4) [] (content ++ l)
    (by rw [List.length_append, hl, List.length_nil]; omega)
  have hlen : 3 + (content ++ l).length + 1 = leNat [a, b] + 7 := by rw [List.length_append, hl]; omega
  have hfull : ¬ (content ++ (l ++ [z])).length < leNat [a, b] + 4 := by
    simp only [List.length_append, List.length_singleton, hl]; omega
  have hsplit : (0xA5 :: a :: b :: (content ++ (l ++ [z]))) = [0xA5, a, b] ++ ((content ++ l) ++ [z]) := by simp
  have hhead := Work.clock_header v y g hm a b
  rw [if_neg (Nat.not_lt.mpr hn)] at hhead
  rw [Work.clock] at hhead hbody
  rw [hsplit, Work.clock, List.foldl_append, List.foldl_append, hhead, hbody, List.nil_append, List.foldl_cons,
    List.foldl_nil, Work.shiftOuts_add, Work.clockByte_withRx _ _ _ _ (v.shiftOuts_muted _ hm), Work.shiftOuts_add, hlen,
    Work.feedByte_body _ _ rfl (by rw [List.append_assoc]; exact hfull), List.append_assoc,
    Work.completeBody_append content (l ++ [z]) _ (by rw [List.length_append, List.length_singleton]; omega)]
  rfl

end

/-! ### A frame by its bytes -/

theorem leNat_pair {n : Nat} (h : n < 65536) : leNat [BitVec.ofNat 8 n, BitVec.ofNat 8 (n / 256)] = n :=
  leNat_leBytes (k := 2) h

/-- Between frames the bytes shifted out with a frame leave the receiver as it was, and end a run of stray bytes. -/
theorem Work.endStrays_shiftOuts (n : Nat) (w : Work) (h : w.cp.rx = .hunt) :
    (w.shiftOuts n).endStrays = (w.shiftOuts n).withRx .hunt false w.cp.garbled := by
  have hrx : (w.shiftOuts n).cp.rx = .hunt := (w.toState.shiftOuts_cp_rx n).trans h
  have hg : (w.shiftOuts n).cp.garbled = w.cp.garbled := w.toState.shiftOuts_cp_garbled n
  rw [← hrx, ← hg]
  rfl

/-- A frame that arrives is what its bytes are. -/
theorem Work.hostFrame_eq_clock (kind tag : Byte) (p : List Byte) (w : Work) :
    w.hostFrame kind tag p = w.clock (frameBytes kind tag p) := by
  cases hr : w.cp.rx with
  | header _ | body _ _ | discard => simp only [Work.hostFrame, hr]
  | hunt =>
    cases hm : w.cp.muted with
    | true => simp only [Work.hostFrame, hr, hm]
    | false =>
      simp only [Work.hostFrame, hr, hm]
      split
      · rename_i hp
        have hn := leNat_pair (n := p.length) (Nat.lt_of_le_of_lt hp (by decide))
        have hcrc : leNat (leBytes 2 (crc16 (kind :: tag :: p)).toNat) = (crc16 (kind :: tag :: p)).toNat :=
          leNat_leBytes (crc16 (kind :: tag :: p)).isLt
        have h := Work.clock_frame w w.cp.strays w.cp.garbled hm (BitVec.ofNat 8 p.length)
          (BitVec.ofNat 8 (p.length / 256)) (kind :: tag :: p) (leBytes 2 (crc16 (kind :: tag :: p)).toNat)
          (by rw [hn]; exact hp) (by rw [hn]; rfl) (leBytes_length 2 _)
        rw [hn, if_pos hcrc, ← Work.endStrays_shiftOuts _ w hr] at h
        rw [← hr] at h
        exact h.symm
      · rfl

/-- Settles O12: the bytes fill the receiver's body and complete it with a CRC that matches. -/
theorem frameBytesSpellTheFrame : Obligations.FrameBytesSpellTheFrame := by
  unfold Obligations.FrameBytesSpellTheFrame
  intro kind tag p s
  have h : Work.hostFrame kind tag p = Work.clock (frameBytes kind tag p) := funext (Work.hostFrame_eq_clock kind tag p)
  exact congrArg (fun op => Host.Outcome.next (run op s)) h.symm

/-! ### Garbled frames -/

/-- The state with the receiver's part of CP replaced. -/
def State.withRx (x : Receiver) (strays : Bool) (g : Nat) (s : State) : State :=
  { s with cp := { s.cp with rx := x, strays := strays, garbled := g } }

/-- What is heard between frames and done nothing about ends a run of stray bytes. -/
theorem State.heard_withRx (s : State) (n : Nat) (h : s.cp.rx = .hunt) :
    s.heard (n + 1) = (s.shiftOuts (n + 1)).withRx .hunt false s.cp.garbled := by
  have hrx := (s.shiftOuts_cp_rx (n + 1)).trans h
  have hg := s.shiftOuts_cp_garbled (n + 1)
  have hb := s.shiftOuts_busy n
  simp only [State.heard, State.withRx, ← hrx, ← hg, ← hb]

/-- A transaction that comes to a change of the port alone is that change. -/
theorem run_port (op : Work → Work) (s t : State) (hs : s.steady) (hop : op { toState := s, bus := [] } = { toState := t, bus := [] })
    (hp : t.pwc = s.pwc) (hc : t.cw = s.cw) : run op s = t := by
  rw [run_quiet op s (by rw [hop]) (by rw [hop]; exact State.steady_congr hp hc hs), hop]

/-- Settles O18: the receiver's states one after the other. -/
theorem garbledFramesAreCounted : Obligations.GarbledFramesAreCounted := by
  unfold Obligations.GarbledFramesAreCounted
  intro s hs
  -- what bytes that are taken between frames come to, when they end in no frame
  have port (bytes : List Byte) (x : Receiver) (y : Bool) (g n : Nat) (hr : s.cp.rx = .hunt)
      (h : (({ toState := s, bus := [] } : Work).withRx .hunt s.cp.strays s.cp.garbled).clock bytes =
        (({ toState := s, bus := [] } : Work).shiftOuts n).withRx x y g) :
      exec (.garbledFrame bytes) s = .next ((s.shiftOuts n).withRx x y g) := by
    rw [← hr] at h
    exact congrArg Host.Outcome.next (run_port _ s _ hs h (s.shiftOuts_pwc n) (s.shiftOuts_cw n))
  refine ⟨?strays, ?fill, ?crc, ?long, ?ignored, ?select⟩
  case strays =>
    intro bytes h hr hm hne hb rfl
    obtain ⟨b, bytes, rfl⟩ := List.exists_cons_of_ne_nil hne
    have hrx := (s.shiftOuts_cp_rx (bytes.length + 1)).trans hr
    refine (port _ _ _ _ _ hr (Work.clock_strays _ _ _ hm b bytes hb)).trans ?_
    rw [← hrx]
    rfl
  case fill =>
    intro n hr hm hn
    obtain ⟨n, rfl⟩ : ∃ k, n = k + 1 := ⟨n - 1, by omega⟩
    rw [s.heard_withRx n hr]
    exact port _ _ _ _ _ hr (Work.clock_fill _ _ _ hm n)
  case crc =>
    intro kind tag p crc h hr hm hp hcrc rfl
    have hn := leNat_pair (n := p.length) (by omega)
    have hc : leNat (leBytes 2 crc.toNat) = crc.toNat := leNat_leBytes crc.isLt
    have hne : ¬ leNat (leBytes 2 crc.toNat) = (crc16 (kind :: tag :: p)).toNat := by
      rw [hc]
      exact fun e => hcrc (BitVec.eq_of_toNat_eq e)
    have h := Work.clock_frame { toState := s, bus := [] } s.cp.strays s.cp.garbled hm (BitVec.ofNat 8 p.length)
      (BitVec.ofNat 8 (p.length / 256)) (kind :: tag :: p) (leBytes 2 crc.toNat) (by rw [hn]; exact hp) (by rw [hn]; rfl)
      (leBytes_length 2 _)
    rw [hn, if_neg hne] at h
    refine (port _ _ _ _ _ hr h).trans ?_
    rw [s.heard_withRx (p.length + 6) hr, ← hr]
    rfl
  case long =>
    intro n h hr hm h1 h2 rfl
    have h := Work.clock_header { toState := s, bus := [] } s.cp.strays s.cp.garbled hm (BitVec.ofNat 8 n)
      (BitVec.ofNat 8 (n / 256))
    rw [leNat_pair h2, if_pos (show Config.maxPayload < n from h1)] at h
    rw [s.heard_withRx 2 hr]
    exact port _ _ _ _ _ hr h
  case ignored =>
    intro bytes h
    have hop : Work.clock bytes { toState := s, bus := [] } = { toState := s.shiftOuts bytes.length, bus := [] } := by
      cases hm : s.cp.muted with
      | true => exact Work.clock_muted bytes _ hm
      | false =>
        have hr : s.cp.rx = .discard := h.resolve_right (by rw [hm]; decide)
        have hd := Work.clock_discard { toState := s, bus := [] } s.cp.strays s.cp.garbled hm bytes
        rw [← hr] at hd
        refine hd.trans ?_
        rw [← s.shiftOuts_cp_rx bytes.length, ← s.shiftOuts_cp_strays bytes.length,
          ← s.shiftOuts_cp_garbled bytes.length]
        rfl
    exact congrArg Host.Outcome.next (run_port _ s _ hs hop (s.shiftOuts_pwc _) (s.shiftOuts_cw _))
  case select =>
    refine congrArg Host.Outcome.next (run_port _ s _ hs ?_ rfl rfl)
    cases hr : s.cp.rx <;> simp only [Work.selectRises, hr, Work.countGarbled, satSucc]

/-! ### The judgment of a frame -/

/-- Every command of a request brings its frame. -/
theorem exec_command (r : Request) (tag : Byte) (p : List Byte) (s : State) :
    exec (r.command tag p) s = .next (run (Work.hostFrame r.kind tag p) s) := by cases r <;> rfl

/-- A kind byte below 80h or above the catalogue belongs to no request. -/
theorem Request.ofKind_none {k : Byte} (h : k.toNat = 0 ∨ 0x2D < k.toNat) : Request.ofKind k = none := by
  simp only [Request.ofKind]
  split
  · rfl
  · have hl : Request.all.length = 0x2D := rfl
    exact List.getElem?_eq_none (by omega)

/-- A frame that CP answers with a code alone. -/
theorem run_judged (k tag : Byte) (p : List Byte) (s : State) (c : Byte) (hs : s.steady) (hw : s.pwc.power ≠ .halt)
    (hp : p.length ≤ 512) (ho : s.portOpen)
    (hj : ∀ w : Work, w.pwc = s.pwc → w.judge k tag p = w.reply (replyKind k) tag [c]) :
    run (Work.hostFrame k tag p) s = (s.heard (p.length + 7)).posted (replyKind k) tag [c] := by
  refine run_port _ s _ hs ?_ (s.shiftOuts_pwc _) (s.shiftOuts_cw _)
  rw [Work.hostFrame_open k tag p s ho hp hw, hj _ (s.shiftOuts_pwc _)]
  rfl

/-- Settles O17: the steps of the judgment in their order. -/
theorem requestsAreJudgedInOrder : Obligations.RequestsAreJudgedInOrder := by
  unfold Obligations.RequestsAreJudgedInOrder
  intro tag p s hs hw hp
  refine ⟨?dropped, ?unknown, ?length, ?failsafe⟩
  case dropped =>
    intro kind hr hm ho
    refine congrArg Host.Outcome.next (run_port _ s _ hs ?_ (s.shiftOuts_pwc _) (s.shiftOuts_cw _))
    have hb := Work.endStrays_shiftOuts (p.length + 7) { toState := s, bus := [] } hr
    have hh : (({ toState := s, bus := [] } : Work).shiftOuts (p.length + 7)).endStrays =
        { toState := s.heard (p.length + 7), bus := [] } := by
      rw [hb, s.heard_withRx (p.length + 6) hr]
      rfl
    have hw' : (s.heard (p.length + 7)).pwc.power ≠ .halt := by
      simp only [State.heard, State.shiftOuts_pwc]; exact hw
    have hov : (s.heard (p.length + 7)).cp.overrun = s.cp.overrun := s.shiftOuts_cp_overrun _
    have ho' : Config.maxReplies ≤ (s.heard (p.length + 7)).cp.outstanding := ho
    have hp' : p.length ≤ Config.maxPayload := hp
    simp only [Work.hostFrame, hr, hm, hp', if_true, hh, Work.take, Work.wakeForFrame, hw', if_false, ho', satSucc, hov]
  case unknown =>
    intro kind ho hk
    have h := run_judged kind tag p s 1 hs hw hp ho fun w _ => by
      simp only [Work.judge, Request.ofKind_none hk]
      rfl
    have hrep : replyKind kind = if kind.toNat < 0x80 then kind + 0x80 else 0xFF := by
      simp only [replyKind]
      by_cases hlt : kind.toNat < 128
      · rw [if_pos hlt, if_neg (by omega)]
      · rw [if_neg hlt, if_pos (by omega)]
    rw [hrep] at h
    exact congrArg Host.Outcome.next h
  case length =>
    intro r ho hl
    rw [exec_command]
    refine congrArg Host.Outcome.next (run_judged r.kind tag p s 2 hs hw hp ho fun w _ => ?_)
    simp only [Work.judge, Request.ofKind_kind, hl, if_true]
    rfl
  case failsafe =>
    intro r ho hf hl hr
    rw [exec_command]
    have hi : r.inFailsafe = false := by
      revert hr
      cases r <;> simp [Request.inFailsafe]
    refine congrArg Host.Outcome.next (run_judged r.kind tag p s 8 hs hw hp ho fun w hwp => ?_)
    have hwf : w.pwc.power = .failsafe := by rw [hwp]; exact hf
    simp only [Work.judge, Request.ofKind_kind, hl, hi, hwf, and_self, if_true, Bool.true_eq_false, if_false]
    rfl

/-! ### FAILSAFE -/

/-- A kind byte belongs to the request whose kind it is. -/
theorem Request.kind_of_ofKind {k : Byte} {r : Request} (h : Request.ofKind k = some r) : k = r.kind := by
  have hmap : Request.all.map Request.kind = (List.range 45).map fun i => BitVec.ofNat 8 (i + 1) := by decide
  simp only [Request.ofKind] at h
  split at h
  · cases h
  · have hlt : k.toNat - 1 < 45 := by
      obtain ⟨hl, -⟩ := List.getElem?_eq_some_iff.mp h
      exact hl
    have hk : (Request.all.map Request.kind)[k.toNat - 1]? = some r.kind := by rw [List.getElem?_map, h]; rfl
    rw [hmap, List.getElem?_map, List.getElem?_range hlt] at hk
    have := Option.some.inj hk
    have hs : k.toNat - 1 + 1 = k.toNat := by omega
    rw [← this]
    show k = BitVec.ofNat 8 (k.toNat - 1 + 1)
    rw [hs, BitVec.ofNat_toNat, BitVec.setWidth_eq]

/-- In FAILSAFE a frame that is no RESET_PART ALL leaves PWC as it is. -/
theorem Work.judge_failsafe (k tag : Byte) (p : List Byte) (w : Work) (hf : w.pwc.power = .failsafe)
    (hp : k = Request.resetPart.kind → p = [1]) : (w.judge k tag p).pwc = w.pwc := by
  cases hr : Request.ofKind k with
  | none => simp only [Work.judge, hr]; rfl
  | some r =>
    simp only [Work.judge, hr]
    split
    · rfl
    · split
      · rfl
      · rename_i hi
        have hin : r.inFailsafe = true := by simpa [hf] using hi
        have pwc_of_shell {s t : State} (e : s.shell = t.shell) : s.pwc = t.pwc := congrArg (fun x => x.2.1) e
        by_cases h1 : r = .resetPart
        · subst h1
          cases hp (Request.kind_of_ofKind hr)
          have hd : (Work.resetPart tag [1] w).pwc = w.pwc := by
            show (w.answer .resetPart tag (if w.tu.stopped then .refused .state
              else .taken w.resetTether [w.resetTether.tu.link.byte])).pwc = w.pwc
            split
            · rfl
            · exact (pwc_of_shell (Work.settle_shell _)).trans (pwc_of_shell (State.shell_of_outer w.resetTether_outer))
          exact hd
        · by_cases h2 : r = .portStatus
          · subst h2
            have hd : (w.answer .portStatus tag (answerPortStatus p w)).pwc = w.pwc := by
              simp only [answerPortStatus]
              split
              · rfl
              · refine (pwc_of_shell (Work.settle_shell _)).trans ?_
                split <;> rfl
            exact hd
          · have h3 : r ≠ .powerSet := by rintro rfl; cases hin
            have h4 : r ≠ .noticeMaskSet := by rintro rfl; cases hin
            rw [Work.decide_owner r tag p w h4 h1]
            have hk := r.owner_shell p w h2 h3
            cases ho : r.owner p w with
            | refused c => rfl
            | taken v b =>
              rw [ho] at hk
              exact (pwc_of_shell (Work.settle_shell v)).trans (pwc_of_shell hk)

/-- In FAILSAFE an event that is no reset pin leaves PWC as it is; of the port, one that is no frame by its bytes. -/
theorem event_failsafe (c : Instr) (w : Work) (hc : mayReset c = false) (hr : w.cp.rx = .hunt)
    (hf : w.pwc.power = .failsafe) (hl : w.pwc.latched = true) : (c.event w).pwc = w.pwc := by
  have pwc_of_shell {s t : State} (e : s.shell = t.shell) : s.pwc = t.pwc := congrArg (fun x => x.2.1) e
  have fill (n : Nat) : (w.clock (List.replicate n 0xFF)).pwc = w.pwc := by
    cases n with
    | zero => rfl
    | succ n =>
      cases hm : w.cp.muted with
      | true => rw [Work.clock_muted _ _ hm]; exact w.toState.shiftOuts_pwc _
      | false =>
        have h := Work.clock_fill w w.cp.strays w.cp.garbled hm n
        rw [← hr] at h
        exact (congrArg (fun v : Work => v.pwc) h).trans (w.toState.shiftOuts_pwc _)
  cases hp : c.onPort with
  | true =>
    cases c with
    | garbledFrame bytes => cases hc
    | chipSelectRise =>
      show w.selectRises.pwc = w.pwc
      simp only [Work.selectRises, hr]
    | outboundFirstByte =>
      show w.clockFirst.pwc = w.pwc
      simp only [Work.clockFirst]
      split
      · exact fill 1
      · rfl
    | outboundFrameLeft =>
      show w.clockRest.pwc = w.pwc
      simp only [Work.clockRest]
      split
      · split
        · rfl
        · exact fill _
      · rfl
    | _ => cases hp
  | false =>
    cases hm : c.moves with
    | false => exact pwc_of_shell (event_shell c w hp hm)
    | true =>
      cases c with
      | resetPin => cases hc
      | supplyWarning b =>
        show (w.warningInput b).pwc = w.pwc
        simp only [Work.warningInput, hl, Bool.true_eq_false, and_false, if_false]
      | releaseLineLevel l b =>
        rcases w.lineEvent_shell l b with e | ⟨h, -, -⟩
        · exact pwc_of_shell e
        · exact absurd hf h
      | cardLineLevel i b =>
        rcases w.cardEvent_shell i b with e | ⟨h, -⟩
        · exact pwc_of_shell e
        · rw [hf] at h; cases h
      | phyLinkUp => exact (pwc_of_shell w.phyUp_shell).trans rfl
      | phyLinkDown => exact (pwc_of_shell w.phyDown_shell).trans rfl
      | _ => cases hm

/-- A well-formed frame that may not reset the part fits into a frame, and of RESET_PART it is TETHER. -/
theorem Instr.frame_tether {c : Instr} {k t : Byte} {p : List Byte} (hw : c.wf = true) (hc : mayReset c = false)
    (hf : c.frame? = some (k, t, p)) : p.length ≤ Config.maxPayload ∧ (k = Request.resetPart.kind → p = [1]) := by
  have other {j : Byte} {q : List Byte} (hj : j ≠ Request.resetPart.kind) (hq : payloadOk q = true) :
      q.length ≤ Config.maxPayload ∧ (j = Request.resetPart.kind → q = [1]) :=
    ⟨of_decide_eq_true hq, fun e => absurd e hj⟩
  cases c with
  | resetPartAll _ _ | requestDropped _ _ _ => cases hc
  | resetPartTether _ q =>
    cases hf
    obtain rfl : p = [1] := of_decide_eq_true hw
    exact ⟨by decide, fun _ => rfl⟩
  | powerSetQuiet _ q | tetherEnableOn _ q =>
    cases hf
    obtain rfl : p = [1] := of_decide_eq_true hw
    exact ⟨by decide, fun _ => rfl⟩
  | powerSetHalt _ q =>
    cases hf
    obtain rfl : p = [2] := of_decide_eq_true hw
    exact other (by decide) rfl
  | powerSetRun _ q =>
    cases hf
    simp only [Instr.wf, Bool.and_eq_true] at hw
    exact other (by decide) hw.1.1
  | tetherEnableOff _ q | lensMove _ q =>
    cases hf
    simp only [Instr.wf, Bool.and_eq_true] at hw
    exact other (by decide) hw.1
  | lensHalt _ q =>
    cases hf
    simp only [Instr.wf, isLensHalt, Bool.and_eq_true, decide_eq_true_eq] at hw
    exact other (by decide) (decide_eq_true (by rw [hw.1]; decide))
  | unknownKind j _ q =>
    cases hf
    simp only [Instr.wf, Bool.and_eq_true, decide_eq_true_eq] at hw
    refine other ?_ hw.1
    rintro rfl
    exact absurd hw.2 (by decide)
  | identify _ _ | portStatus _ _ | noticeMaskSet _ _ | driveSet _ _ | releaseLinesSet _ _ | remoteRelease _ _
  | driveStatus _ _ | shotNumberSet _ _ | sensorRestart _ _ | lensAttach _ _ | lensDetach _ _ | afSet _ _
  | focusStatus _ _ | zoneReport _ _ | poolStatus _ _ | poolSet _ _ | shotGet _ _ | shotList _ _ | shotProtect _ _
  | shotDiscard _ _ | shotCollect _ _ | lookSet _ _ | lookGet _ _ | develop _ _ | developCancel _ _
  | developStatus _ _ | histogramGet _ _ | developAutoSet _ _ | slotAttach _ _ | slotDetach _ _ | extentAdd _ _
  | extentFlush _ _ | recordingSet _ _ | slotStatus _ _ | tetherSet _ _ | send _ _ | sendStored _ _
  | sendCancel _ _ | tetherStatus _ _ | tetherStats _ _ | autoSendSet _ _ =>
    cases hf
    exact other (by decide) hw
  | _ => cases hf

/-- Settles O8: a request that FAILSAFE answers, fill and every other event leave PWC alone. -/
theorem failsafeEndsOnlyAtReset : Obligations.FailsafeEndsOnlyAtReset := by
  unfold Obligations.FailsafeEndsOnlyAtReset
  intro c s t hw hc hr hok hf he
  obtain ⟨-, -, hfs⟩ := hok
  obtain ⟨hl, hn⟩ := hfs hf
  have pwc_of_shell {s t : State} (e : s.shell = t.shell) : s.pwc = t.pwc := congrArg (fun x => x.2.1) e
  rw [exec_eq_run] at he
  cases he
  -- the operation leaves PWC alone, and so does the end of the step
  suffices hop : (c.op { toState := s, bus := [] }).pwc = s.pwc by
    have h1 : (c.op { toState := s, bus := [] }).settle.pwc = s.pwc := (pwc_of_shell (Work.settle_shell _)).trans hop
    have h2 : (c.op { toState := s, bus := [] }).settle.finishWarning = (c.op { toState := s, bus := [] }).settle := by
      refine Work.finishWarning_steady _ fun r e => ?_
      rw [h1, hn] at e
      cases e
    show ((c.op { toState := s, bus := [] }).settle.finishWarning).pwc = s.pwc
    rw [h2, h1]
  cases hq : c.frame? with
  | none =>
    simp only [Instr.op, hq]
    exact event_failsafe c _ hc hr hf hl
  | some f =>
    obtain ⟨k, tag, p⟩ := f
    obtain ⟨hp, ht⟩ := Instr.frame_tether hw hc hq
    simp only [Instr.op, hq]
    cases hm : s.cp.muted with
    | true =>
      rw [Work.hostFrame_eq_clock, Work.clock_muted _ _ hm]
      exact s.shiftOuts_pwc _
    | false =>
      have hwp : ((({ toState := s, bus := [] } : Work).shiftOuts (p.length + 7)).endStrays).pwc = s.pwc :=
        s.shiftOuts_pwc _
      have hnh : ((({ toState := s, bus := [] } : Work).shiftOuts (p.length + 7)).endStrays).pwc.power ≠ .halt := by
        rw [hwp, hf]; decide
      simp only [Work.hostFrame, hr, hm, hp, if_true, Work.take, Work.wakeForFrame, hnh, if_false]
      split
      · exact hwp
      · exact (Work.judge_failsafe k tag p _ (by rw [hwp]; exact hf) ht).trans hwp

end Sys2Proof.Machine
end

section
/-! PROOF. IDENTIFY, the enable set, the outbound queue and the latches: O14, O16, O19, O20. -/

namespace Sys2Proof.Machine

/-! ### IDENTIFY -/

/-- The identity that a state answers with is that of its reset cause and power state. -/
theorem State.hears_identity (s : State) (r : Request) :
    identityBytes (s.hears r).cp.cause (s.hears r).pwc.power = identityBytes s.cp.cause s.pwc.power := by
  have hc : (s.hears r).cp.cause = s.cp.cause := s.shiftOuts_cp_cause _
  have hp : (s.hears r).pwc = s.pwc := s.shiftOuts_pwc _
  rw [hc, hp]

/-- IDENTIFY is judged by its owner in every power state. -/
theorem Work.judge_identify (tag : Byte) (w : Work) :
    w.judge Request.identify.kind tag [] = w.answer .identify tag (answerIdentify w) := by
  have hk := Request.ofKind_kind .identify
  simp only [Work.judge, hk, List.length_nil]
  rw [if_neg (by decide), if_neg (by rintro ⟨-, h⟩; cases h)]
  rfl

/-- Settles O14: the owner answers at once, and in HALT after the wake. -/
theorem identifyIsAlwaysAnswered : Obligations.IdentifyIsAlwaysAnswered := by
  unfold Obligations.IdentifyIsAlwaysAnswered
  intro tag s ho hs
  refine ⟨fun hw => ?_, fun hw hn => ?_⟩
  · refine congrArg Host.Outcome.next (run_port _ s _ hs ?_ (s.shiftOuts_pwc _) (s.shiftOuts_cw _))
    rw [Work.hostFrame_open _ tag [] s ho (by decide) hw, Work.judge_identify]
    simp only [answerIdentify, Work.answer]
    rw [Work.settle_nil _ rfl]
    have hi := s.hears_identity .identify
    simp only [State.hears, Request.size] at hi
    simp only [List.length_nil, Work.reply, hi]
    rfl
  · obtain ⟨hr, hm, hq⟩ := ho
    let w0 : Work := { toState := s.hears .identify, bus := [] }
    obtain ⟨w1, hw1⟩ : ∃ w1, (w0.wake .port).settle = w1 := ⟨_, rfl⟩
    have hsh : w1.toState.shell = ((s.hears .identify).withPower .run).shell :=
      hw1 ▸ (Work.settle_shell _).trans (Work.wake_shell .port w0)
    have hpwc : w1.pwc = { s.pwc with power := .run } := by
      refine (congrArg (fun x => x.2.1) hsh).trans ?_
      show ({ (s.hears .identify).pwc with power := .run } : Pwc) = _
      rw [show (s.hears .identify).pwc = s.pwc from s.shiftOuts_pwc _]
    have hcause : w1.cp.cause = s.cp.cause :=
      (congrArg (fun x => x.1.2.2.2.2.2.2.2.2.2.2.1) hsh).trans (s.shiftOuts_cp_cause _)
    have hout : ¬ Config.maxReplies ≤ w1.cp.outstanding := by
      rw [State.outstanding_of_shell hsh]
      have h := s.shiftOuts_outstanding 7
      exact Nat.not_le.mpr (Nat.lt_of_le_of_lt h hq)
    have hb : (({ toState := s, bus := [] } : Work).shiftOuts 7).endStrays = w0 := by
      rw [Work.endStrays_shiftOuts 7 { toState := s, bus := [] } hr]
      show _ = ({ toState := s.heard (6 + 1), bus := [] } : Work)
      rw [s.heard_withRx 6 hr]
      rfl
    have hw0 : w0.pwc.power = .halt := by
      rw [show w0.pwc = s.pwc from s.shiftOuts_pwc _]
      exact hw
    have hop : Work.hostFrame Request.identify.kind tag [] { toState := s, bus := [] } =
        w1.settle.reply 0x81 tag (0 :: identityBytes s.cp.cause .run) := by
      have hp : ([] : List Byte).length ≤ Config.maxPayload := by decide
      simp only [Work.hostFrame, hr, hm, if_pos hp, if_true, List.length_nil, Nat.zero_add, hb, Work.take,
        Work.wakeForFrame, hw0, hw1, if_neg hout, Work.judge_identify, answerIdentify, Work.answer, hpwc, hcause]
      rfl
    obtain ⟨v, hv⟩ : ∃ v, (w1.settle.reply 0x81 tag (0 :: identityBytes s.cp.cause .run)).settle = v := ⟨_, rfl⟩
    have hvs : v.toState.shell = (w1.settle.reply 0x81 tag (0 :: identityBytes s.cp.cause .run)).toState.shell :=
      hv ▸ Work.settle_shell _
    have hvp : v.pwc = { s.pwc with power := .run } := by
      refine (congrArg (fun x => x.2.1) hvs).trans ?_
      exact (congrArg (fun x => x.2.1) w1.settle_shell).trans hpwc
    have hrun : run (Work.hostFrame Request.identify.kind tag []) s = v.toState := by
      rw [run, hop, hv, Work.finishWarning_steady]
      intro r e
      rw [hvp] at e
      rw [hn] at e
      cases e
    refine ⟨v.toState, congrArg Host.Outcome.next hrun, by rw [hvp], ?_⟩
    have hq : v.cp.queue.filter OutFrame.isReply =
        (w1.settle.reply 0x81 tag (0 :: identityBytes s.cp.cause .run)).cp.queue.filter OutFrame.isReply :=
      congrArg (fun x => x.1.2.2.2.2.1) hvs
    refine (List.mem_filter.mp (?_ : _ ∈ v.cp.queue.filter OutFrame.isReply)).1
    rw [hq]
    exact List.mem_filter.mpr ⟨List.mem_append_right _ List.mem_cons_self, rfl⟩

end Sys2Proof.Machine
end

section
/-! PROOF. The latches and the outbound queue: O19, O20. -/

namespace Sys2Proof.Machine

/-! ### Latches -/

theorem Notice.index_lt (k : Notice) : k.index < 19 := by cases k <;> decide

theorem Notice.index_inj {j k : Notice} (h : j.index = k.index) : j = k := by
  cases j <;> cases k <;> first | rfl | cases h

theorem Cp.latch_setLatch_same (c : Cp) (k : Notice) (l : Latch) (h : c.latches.length = 19) :
    (c.setLatch k l).latch k = l := by
  have hk : k.index < c.latches.length := h ▸ k.index_lt
  simp [Cp.latch, Cp.setLatch, List.getD_eq_getElem?_getD, hk]

theorem Cp.latch_setLatch_ne (c : Cp) {j k : Notice} (l : Latch) (h : j ≠ k) : (c.setLatch k l).latch j = c.latch j := by
  have hi : k.index ≠ j.index := fun e => h (Notice.index_inj e).symm
  simp [Cp.latch, Cp.setLatch, List.getD_eq_getElem?_getD, List.getElem?_set_ne hi]

/-- An occurrence sets its own latch, whatever becomes of the queue. -/
theorem Cp.raise_latches (c : Cp) (k : Notice) (b : List Byte) :
    (c.raise k b).latches = c.latches.set k.index { count := satSucc 255 (c.latch k).count, snapshot := some b } := by
  simp only [Cp.raise]
  repeat' split
  all_goals rfl

theorem Cp.raise_latch (c : Cp) (k j : Notice) (b : List Byte) :
    (c.raise k b).latch j =
      (c.setLatch k { count := satSucc 255 (c.latch k).count, snapshot := some b }).latch j :=
  congrArg (fun l : List Latch => l.getD j.index { count := 0, snapshot := none }) (c.raise_latches k b)

/-- Nothing of a disabled kind is posted. -/
theorem Cp.raise_disabled (c : Cp) (k : Notice) (b : List Byte) (h : c.isEnabled k = false) :
    c.raise k b = c.setLatch k { count := satSucc 255 (c.latch k).count, snapshot := some b } := by
  simp only [Cp.raise, h, Bool.false_eq_true, if_false]

/-- An entry in progress makes its kind have one. -/
theorem Cp.hasEntry_of_fixed {c : Cp} {k : Notice} (h : c.entryFixed k = true) : c.hasEntry k = true := by
  simp only [Cp.entryFixed, Bool.and_eq_true] at h
  cases hq : c.queue with
  | nil => simp [hq] at h
  | cons f rest =>
    have hf : f.isNotice k = true := by simpa [hq] using h.2
    simp [Cp.hasEntry, hq, hf]

/-- The first occurrence of an enabled kind without an entry posts one. -/
theorem Cp.raise_posts (c : Cp) (k : Notice) (b : List Byte) (h : c.isEnabled k = true) (he : c.hasEntry k = false) :
    c.raise k b = (c.setLatch k { count := satSucc 255 (c.latch k).count, snapshot := some b }).append
      (.notice k (satSucc 255 (c.latch k).count) b) := by
  have hf : c.entryFixed k = false := by
    cases hf : c.entryFixed k with
    | false => rfl
    | true => rw [Cp.hasEntry_of_fixed hf] at he; cases he
  simp only [Cp.raise, h, he, hf, if_true, Bool.false_eq_true, if_false]

/-- Settles O20: the latch is set first, then the queue follows the enable set. -/
theorem occurrencesReachTheirLatch : Obligations.OccurrencesReachTheirLatch := by
  unfold Obligations.OccurrencesReachTheirLatch
  intro c k b hl
  refine ⟨?_, fun j hj => ?_, fun he => ?_, fun he => ?_, fun he hn => ?_⟩
  · rw [Cp.raise_latch, Cp.latch_setLatch_same _ _ _ hl]
    rfl
  · rw [Cp.raise_latch, Cp.latch_setLatch_ne _ _ hj]
  · have notice (n : Nat) : (OutFrame.notice k n b).isNotice k = true := by simp [OutFrame.isNotice]
    cases hf : c.entryFixed k with
    | true =>
      simp only [Cp.raise, he, hf, if_true]
      exact Cp.hasEntry_of_fixed hf
    | false =>
      cases hn : c.hasEntry k with
      | true =>
        simp only [Cp.raise, he, hf, hn, if_true, Bool.false_eq_true, if_false]
        obtain ⟨f, hf, hk⟩ := List.any_eq_true.mp hn
        refine List.any_eq_true.mpr ⟨_, List.mem_map.mpr ⟨f, hf, rfl⟩, ?_⟩
        rw [if_pos hk]
        exact notice _
      | false =>
        rw [c.raise_posts k b he hn]
        simp [Cp.hasEntry, Cp.append, notice]
  · rw [c.raise_disabled k b he]
    rfl
  · rw [c.raise_posts k b he hn]
    rfl

/-! ### The outbound queue -/

theorem frameBytes_length (k t : Byte) (p : List Byte) : (frameBytes k t p).length = p.length + 7 := by
  simp only [frameBytes, List.length_cons, List.length_append, leBytes_length]
  omega

theorem OutFrame.bytes_length (f : OutFrame) : f.bytes.length = f.size := by
  cases f with
  | reply k t p => exact frameBytes_length k t p
  | notice k n b => exact frameBytes_length k.kind 0 (BitVec.ofNat 8 n :: b)

/-- Within a list the default of `getD` does not matter. -/
theorem getD_eq_getD {α : Type} (l : List α) {i : Nat} (a b : α) (h : i < l.length) : l.getD i a = l.getD i b := by
  rw [List.getD_eq_getElem l a h, List.getD_eq_getElem l b h]

/-- At an open port the head frame's place moves on. -/
theorem Cp.advance_open {c : Cp} {f : OutFrame} {rest : List OutFrame} (h : c.queue = f :: rest) (hm : c.muted = false) :
    c.advance = if c.place = 0 then { c.fixHead with place := 1 }
      else if c.place + 1 < f.size then { c with place := c.place + 1 } else c.frameLeft := by
  rw [Cp.advance_cons h, if_neg (by rw [hm]; exact Bool.false_ne_true)]

section
variable {s : State} {f : OutFrame} {rest : List OutFrame} (hm : s.cp.muted = false) (hq : s.cp.queue = f :: rest)
include hm hq

/-- At an open port the byte of the head frame at its place goes out. -/
theorem State.shiftOut_byte : s.cp.byteOut = f.bytes.getD s.cp.place 0xFF := by
  simp only [Cp.byteOut, hq, hm, Bool.false_eq_true, if_false]

theorem State.shiftOut_first (hp : s.cp.place = 0) :
    s.shiftOut = { s with cp := { s.cp.fixHead with place := 1, busy := true }, sent := .port 0xA5 :: s.sent } := by
  have hb : f.bytes.getD 0 0xFF = 0xA5 := by cases f <;> rfl
  rw [State.shiftOut, State.shiftOut_byte hm hq, hp, hb, Cp.advance_open hq hm, if_pos hp]

theorem State.shiftOut_next (hp : 0 < s.cp.place) (hs : s.cp.place + 1 < f.size) :
    s.shiftOut = { s with
      cp := { s.cp with busy := true, place := s.cp.place + 1 }
      sent := .port (f.bytes.getD s.cp.place 0) :: s.sent } := by
  have hl : s.cp.place < f.bytes.length := by rw [f.bytes_length]; omega
  rw [State.shiftOut, State.shiftOut_byte hm hq, getD_eq_getD _ 0xFF 0 hl, Cp.advance_open hq hm,
    if_neg (Nat.pos_iff_ne_zero.mp hp), if_pos hs]

theorem State.shiftOut_last (hp : 0 < s.cp.place) (hs : s.cp.place + 1 = f.size) :
    s.shiftOut = { s with
      cp := { s.cp.frameLeft with busy := true }
      sent := .port (f.bytes.getD s.cp.place 0) :: s.sent } := by
  have hl : s.cp.place < f.bytes.length := by rw [f.bytes_length]; omega
  rw [State.shiftOut, State.shiftOut_byte hm hq, getD_eq_getD _ 0xFF 0 hl, Cp.advance_open hq hm,
    if_neg (Nat.pos_iff_ne_zero.mp hp), if_neg (by omega)]

end

/-- A reply at the head is fixed as it stands. -/
theorem Cp.fixHead_reply {c : Cp} {k t : Byte} {p : List Byte} {rest : List OutFrame}
    (h : c.queue = .reply k t p :: rest) : c.fixHead = { c with fixed := true } := by
  cases hf : c.fixed with
  | true =>
    rw [Cp.fixHead, hf, if_pos rfl, ← hf]
  | false => simp only [Cp.fixHead, hf, h, Bool.false_eq_true, if_false]

/-- What a frame that leaves makes of the queue: a notice that occurred meanwhile is posted anew. -/
def Cp.left (c : Cp) (f : OutFrame) (rest : List OutFrame) : List OutFrame :=
  match f with
  | .reply _ _ _ => rest
  | .notice k _ _ => rest ++ (if 0 < (c.latch k).count ∧ c.isEnabled k = true then
      [.notice k (c.latch k).count ((c.latch k).snapshot.getD [])] else [])

/-- A frame that leaves changes the queue, and its place and mark. -/
theorem Cp.frameLeft_eq {c : Cp} {f : OutFrame} {rest : List OutFrame} (h : c.queue = f :: rest) :
    c.frameLeft = { c with queue := c.left f rest, fixed := false, place := 0 } := by
  cases f with
  | reply k t p => exact Cp.frameLeft_reply h
  | notice k n b =>
    rw [Cp.frameLeft_notice h]
    simp only [Cp.repost, Cp.left]
    by_cases hc : 0 < (c.latch k).count ∧ c.isEnabled k = true
    · rw [if_pos hc]
      exact if_pos hc
    · rw [if_neg hc, List.append_nil]
      exact if_neg hc

/-- The rest of a frame in progress goes out in order, and with its last byte it leaves. -/
theorem State.shiftOuts_rest {f : OutFrame} {rest : List OutFrame} : ∀ (n : Nat) (s : State), s.cp.muted = false →
    s.cp.queue = f :: rest → 0 < s.cp.place → s.cp.place + (n + 1) = f.size →
    s.shiftOuts (n + 1) = { s with
      cp := { s.cp with busy := true, fixed := false, place := 0, queue := s.cp.left f rest }
      sent := (f.bytes.drop s.cp.place).reverse.map .port ++ s.sent }
  | 0, s, hm, hq, hp, hs => by
    have hl : s.cp.place < f.bytes.length := by rw [f.bytes_length]; omega
    have hd : f.bytes.drop s.cp.place = [f.bytes.getD s.cp.place 0] := by
      rw [List.drop_eq_getElem_cons hl, List.getD_eq_getElem _ _ hl, List.drop_eq_nil_of_le (by rw [f.bytes_length]; omega)]
    show s.shiftOut = _
    rw [State.shiftOut_last hm hq hp hs, Cp.frameLeft_eq hq, hd]
    rfl
  | n + 1, s, hm, hq, hp, hs => by
    have hl : s.cp.place < f.bytes.length := by rw [f.bytes_length]; omega
    have hd : f.bytes.drop s.cp.place = f.bytes.getD s.cp.place 0 :: f.bytes.drop (s.cp.place + 1) := by
      rw [List.drop_eq_getElem_cons hl, List.getD_eq_getElem _ _ hl]
    have ih := State.shiftOuts_rest n
      { s with
        cp := { s.cp with busy := true, place := s.cp.place + 1 }
        sent := .port (f.bytes.getD s.cp.place 0) :: s.sent }
      hm hq (Nat.succ_pos s.cp.place) (by show s.cp.place + 1 + (n + 1) = _; omega)
    show s.shiftOut.shiftOuts (n + 1) = _
    rw [State.shiftOut_next hm hq hp (by omega), ih, hd]
    simp only [List.reverse_cons, List.map_append, List.map_cons, List.map_nil, List.append_assoc, List.cons_append,
      List.nil_append]
    rfl

/-- The command that clocks the rest of the head frame. -/
theorem exec_outboundFrameLeft {s : State} {f : OutFrame} {rest : List OutFrame} (hs : s.steady)
    (hm : s.cp.muted = false) (hr : s.cp.rx = .hunt) (hq : s.cp.queue = f :: rest) (hp : 0 < s.cp.place)
    (hl : s.cp.place < f.size) :
    exec .outboundFrameLeft s = .next { s with
      cp := { s.cp with busy := true, strays := false, fixed := false, place := 0, queue := s.cp.left f rest }
      sent := (f.bytes.drop s.cp.place).reverse.map .port ++ s.sent } := by
  obtain ⟨n, hn⟩ : ∃ n, f.size - s.cp.place = n + 1 := ⟨f.size - s.cp.place - 1, by omega⟩
  have hsh := State.shiftOuts_rest n s hm hq hp (by omega)
  have hfill := Work.clock_fill { toState := s, bus := [] } s.cp.strays s.cp.garbled hm n
  rw [← hr] at hfill
  refine congrArg Host.Outcome.next (run_port _ s _ hs ?_ rfl rfl)
  simp only [Work.clockRest, hq, Nat.pos_iff_ne_zero.mp hp, if_false, hn]
  refine hfill.trans ?_
  simp only [Work.withRx, Work.shiftOuts, hsh]

/-- Settles O19: the head frame byte by byte, and the commands that clock it. -/
theorem outboundFramesLeaveInOrder : Obligations.OutboundFramesLeaveInOrder := by
  unfold Obligations.OutboundFramesLeaveInOrder
  intro s hs
  -- a command that does nothing
  have still {op : Work → Work} (h : op { toState := s, bus := [] } = { toState := s, bus := [] }) : run op s = s :=
    run_port op s s hs h rfl rfl
  refine ⟨?none, ?reply, ?notice, ?muted, ?within, ?before, ?commands⟩
  case none =>
    intro h
    rcases h with h | h
    · simp only [State.shiftOut, Cp.byteOut, h, Cp.advance_nil h]
    · cases hq : s.cp.queue with
      | nil => simp only [State.shiftOut, Cp.byteOut, hq, Cp.advance_nil hq]
      | cons f rest => simp only [State.shiftOut, Cp.byteOut, hq, Cp.advance_cons hq, h, if_true]
  case reply =>
    intro k tag p rest hm hq
    refine ⟨fun hp => ?_, fun h0 hp => State.shiftOut_next hm hq h0 (Nat.succ_lt_succ hp), fun hp => ?_⟩
    · rw [State.shiftOut_first hm hq hp]
      rw [Cp.fixHead_reply hq]
    · rw [State.shiftOut_last hm hq (by omega) (by rw [hp]; rfl), Cp.frameLeft_reply hq]
      rfl
  case notice =>
    intro k n b rest hm hq
    refine ⟨fun hp hf => ?_, fun hp hf => ?_, fun h0 hp => State.shiftOut_next hm hq h0 (Nat.succ_lt_succ hp), fun hp => ?_⟩
    · rw [State.shiftOut_first hm hq hp]
      simp only [Cp.fixHead, hf, hq]
      rfl
    · rw [State.shiftOut_first hm hq hp]
      simp only [Cp.fixHead, hf, if_true]
    · rw [State.shiftOut_last hm hq (by omega) (by rw [hp]; rfl), Cp.frameLeft_eq hq]
      rfl
  case muted =>
    intro hm hp
    have hm1 : s.shiftOut.cp.muted = true := (s.shiftOuts_cp_muted 1).trans hm
    refine ⟨congrArg Host.Outcome.next (run_port _ s _ hs ?_ (s.shiftOuts_pwc 1) (s.shiftOuts_cw 1)),
      congrArg Host.Outcome.next (still ?_)⟩
    · simp only [Work.clockFirst, hp, if_true]
      exact Work.clock_muted [0xFF] { toState := s, bus := [] } hm
    · simp only [Work.clockRest, hp, if_true]
      split <;> rfl
  case within =>
    intro hp
    refine congrArg Host.Outcome.next (still ?_)
    simp only [Work.clockFirst, Nat.pos_iff_ne_zero.mp hp, if_false]
  case before =>
    intro hp
    refine congrArg Host.Outcome.next (still ?_)
    simp only [Work.clockRest, hp, if_true]
    split <;> rfl
  case commands =>
    intro hm hr
    refine ⟨fun hp => ?_, fun k tag p rest hq h0 hp => exec_outboundFrameLeft hs hm hr hq h0 hp,
      fun k n b rest hq h0 hp => exec_outboundFrameLeft hs hm hr hq h0 hp⟩
    refine congrArg Host.Outcome.next (run_port _ s _ hs ?_ (s.shiftOuts_pwc 1) (s.shiftOuts_cw 1))
    have hfill := Work.clock_fill { toState := s, bus := [] } s.cp.strays s.cp.garbled hm 0
    rw [← hr] at hfill
    simp only [Work.clockFirst, hp, if_true]
    refine Eq.trans hfill ?_
    have hrx := s.shiftOuts_cp_rx 1
    have hg := s.shiftOuts_cp_garbled 1
    rw [← hrx, ← hg]
    rfl

end Sys2Proof.Machine
end

section
/-! PROOF. The enable set: O16. -/

namespace Sys2Proof.Machine

/-! ### CP acts on the kinds one by one -/

/-- A frame that stays in the queue when CP has acted on some kinds. -/
def Cp.stays (c : Cp) (on : Notice → Bool) (l : List Notice) : OutFrame → Bool
  | .reply _ _ _ => true
  | .notice k _ _ => if k ∈ l then on k || !c.isEnabled k || c.entryFixed k else true

/-- A kind that gets an entry: it becomes enabled with occurrences in its latch and has none. -/
def Cp.owes (c : Cp) (on : Notice → Bool) (k : Notice) : Bool :=
  on k && !c.isEnabled k && !c.hasEntry k && decide (0 < (c.latch k).count)

/-- The entry that CP posts for a kind. -/
def Cp.entryOf (c : Cp) (k : Notice) : OutFrame := .notice k (c.latch k).count ((c.latch k).snapshot.getD [])

/-- What of CP the judgment of a kind reads. -/
def Cp.view (c : Cp) (k : Notice) := (c.isEnabled k, c.entryFixed k, c.hasEntry k, c.latch k)

theorem Cp.stays_congr {c d : Cp} {on : Notice → Bool} {l : List Notice} (h : ∀ j ∈ l, c.view j = d.view j) :
    c.stays on l = d.stays on l := by
  funext f
  cases f with
  | reply _ _ _ => rfl
  | notice k _ _ =>
    by_cases hk : k ∈ l
    · have := h k hk
      simp only [Cp.view, Prod.mk.injEq] at this
      simp only [Cp.stays, hk, if_true, this]
    · simp only [Cp.stays, hk, if_false]

theorem Cp.owes_congr {c d : Cp} {on : Notice → Bool} {k : Notice} (h : c.view k = d.view k) :
    c.owes on k = d.owes on k ∧ c.entryOf k = d.entryOf k := by
  simp only [Cp.view, Prod.mk.injEq] at h
  simp only [Cp.owes, Cp.entryOf, h, and_self]

/-- The enable flag of a kind is set, and the queue changes by that kind's entry alone. -/
theorem Cp.setEnabled_eq (c : Cp) (k : Notice) (on : Notice → Bool) (hl : c.enabled.length = 19) :
    c.setEnabled k (on k) = { c with
      enabled := c.enabled.set k.index (on k)
      queue := c.queue.filter (c.stays on [k]) ++ if c.owes on k then [c.entryOf k] else [] } := by
  have hk : k.index < c.enabled.length := hl ▸ k.index_lt
  -- the queue as it stands, when the entry of the kind stays
  have whole (h : (on k || !c.isEnabled k || c.entryFixed k) = true) : c.queue.filter (c.stays on [k]) = c.queue := by
    refine List.filter_eq_self.mpr fun f _ => ?_
    cases f with
    | reply _ _ _ => rfl
    | notice j _ _ =>
      simp only [Cp.stays, List.mem_singleton]
      split
      · rename_i hj
        exact hj ▸ h
      · rfl
  by_cases he : c.isEnabled k = on k
  · have hset : c.enabled.set k.index (on k) = c.enabled := by
      rw [← he, Cp.isEnabled, List.getD_eq_getElem _ _ hk, List.set_getElem_self]
    have ho : c.owes on k = false := by simp only [Cp.owes, he]; cases on k <;> rfl
    simp only [Cp.setEnabled, he, if_true, ho, hset, Bool.false_eq_true, if_false, List.append_nil]
    rw [whole (by rw [he]; cases on k <;> rfl)]
  · cases hon : on k with
    | true =>
      have hen : c.isEnabled k = false := by rw [hon] at he; simpa using he
      rw [whole (by rw [hon]; rfl)]
      by_cases ho : 0 < (c.latch k).count ∧ c.hasEntry k = false
      · have : c.owes on k = true := by simp [Cp.owes, hon, hen, ho.1, ho.2]
        simp only [Cp.setEnabled, hen, ho, this, if_true, Bool.false_eq_true, if_false, and_self, Cp.append, Cp.entryOf]
      · have : c.owes on k = false := by
          simp only [Cp.owes, hon, hen]
          simpa [and_comm] using ho
        simp only [Cp.setEnabled, hen, ho, this, if_true, Bool.false_eq_true, if_false, List.append_nil]
    | false =>
      have hen : c.isEnabled k = true := by rw [hon] at he; simpa using he
      have ho : c.owes on k = false := by simp only [Cp.owes, hon]; rfl
      cases hf : c.entryFixed k with
      | true =>
        rw [whole (by rw [hf]; simp)]
        simp only [Cp.setEnabled, hen, hf, ho, if_true, Bool.true_eq_false, Bool.false_eq_true, if_false, List.append_nil]
      | false =>
        have hq : c.queue.filter (c.stays on [k]) = c.queue.filter fun f => !f.isNotice k := by
          refine List.filter_congr fun f _ => ?_
          cases f with
          | reply _ _ _ => rfl
          | notice j _ _ =>
            by_cases hj : j = k
            · subst hj; simp [Cp.stays, OutFrame.isNotice, hon, hen, hf]
            · simp [Cp.stays, OutFrame.isNotice, hj]
        simp only [Cp.setEnabled, hen, hf, ho, hq, Bool.true_eq_false, Bool.false_eq_true, if_false, List.append_nil]

/-- Acting on one kind leaves what the judgment of the others reads. -/
theorem Cp.setEnabled_view (c : Cp) {j k : Notice} (on : Notice → Bool) (hl : c.enabled.length = 19) (h : j ≠ k) :
    (c.setEnabled k (on k)).view j = c.view j := by
  have hi : k.index ≠ j.index := fun e => h (Notice.index_inj e).symm
  have notj (n : Nat) (b : List Byte) : (OutFrame.notice k n b).isNotice j = false := by
    simp only [OutFrame.isNotice, decide_eq_false_iff_not]
    exact fun e => h e.symm
  have keep (f : OutFrame) (hf : f.isNotice j = true) : c.stays on [k] f = true := by
    cases f with
    | reply _ _ _ => rfl
    | notice k' _ _ =>
      obtain rfl : k' = j := of_decide_eq_true hf
      simp [Cp.stays, h]
  rw [Cp.setEnabled_eq c k on hl]
  simp only [Cp.view, Prod.mk.injEq]
  refine ⟨?_, ?_, ?_, rfl⟩
  · simp only [Cp.isEnabled, List.getD_eq_getElem?_getD, List.getElem?_set_ne hi]
  · simp only [Cp.entryFixed]
    cases hfix : c.fixed with
    | false => rfl
    | true =>
      cases hq : c.queue with
      | nil => cases c.owes on k <;> simp [Cp.entryOf, notj]
      | cons f rest =>
        have hs : c.stays on [k] f = true := by
          cases f with
          | reply _ _ _ => rfl
          | notice k' _ _ =>
            by_cases hk : k' = k
            · subst hk; simp [Cp.stays, Cp.entryFixed, hfix, hq, OutFrame.isNotice]
            · simp [Cp.stays, hk]
        rw [List.filter_cons_of_pos hs, List.cons_append]
  · have hany : (c.queue.filter (c.stays on [k])).any (OutFrame.isNotice j) = c.queue.any (OutFrame.isNotice j) := by
      rw [List.any_filter]
      congr 1
      funext f
      cases hf : f.isNotice j with
      | true => rw [keep f hf]; rfl
      | false => rw [Bool.and_false]
    simp only [Cp.hasEntry, List.any_append, hany]
    cases c.owes on k <;> simp [Cp.entryOf, notj]

/-- Acting on distinct kinds one by one: the flags are set, the entries of the kinds that go leave, and those owed are
posted in the order of the kinds. -/
theorem Cp.setEnabled_fold (on : Notice → Bool) : ∀ (l : List Notice) (c : Cp), l.Nodup → c.enabled.length = 19 →
    l.foldl (fun v k => v.setEnabled k (on k)) c = { c with
      enabled := l.foldl (fun e k => e.set k.index (on k)) c.enabled
      queue := c.queue.filter (c.stays on l) ++ (l.filter (c.owes on)).map c.entryOf }
  | [], c, _, _ => by
    have h : c.queue.filter (c.stays on []) = c.queue :=
      List.filter_eq_self.mpr fun f _ => by cases f <;> simp [Cp.stays]
    simp only [List.foldl_nil, h, List.filter_nil, List.map_nil, List.append_nil]
  | k :: l, c, hn, hl => by
    obtain ⟨hk, hn⟩ := List.nodup_cons.mp hn
    have hne (j : Notice) (hj : j ∈ l) : j ≠ k := fun e => hk (e ▸ hj)
    have hview (j : Notice) (hj : j ∈ l) : (c.setEnabled k (on k)).view j = c.view j := c.setEnabled_view on hl (hne j hj)
    have he := Cp.setEnabled_eq c k on hl
    have hlen : (c.setEnabled k (on k)).enabled.length = 19 := by rw [he, List.length_set, hl]
    -- the entry posted for `k` is none of the later kinds'
    have hposted : (if c.owes on k then [c.entryOf k] else []).filter (c.stays on l) =
        if c.owes on k then [c.entryOf k] else [] := by
      refine List.filter_eq_self.mpr fun f hf => ?_
      split at hf
      · cases List.mem_singleton.mp hf
        simp [Cp.entryOf, Cp.stays, hk]
      · cases hf
    have hstay : (c.queue.filter (c.stays on [k])).filter (c.stays on l) = c.queue.filter (c.stays on (k :: l)) := by
      rw [List.filter_filter]
      refine List.filter_congr fun f _ => ?_
      cases f with
      | reply _ _ _ => rfl
      | notice j _ _ =>
        by_cases hj : j = k
        · subst hj; simp [Cp.stays, hk]
        · simp [Cp.stays, hj]
    have howes : (l.filter ((c.setEnabled k (on k)).owes on)).map (c.setEnabled k (on k)).entryOf =
        (l.filter (c.owes on)).map c.entryOf := by
      rw [List.filter_congr fun j hj => (Cp.owes_congr (on := on) (hview j hj)).1]
      exact List.map_congr_left fun j hj => (Cp.owes_congr (on := on) (hview j (List.mem_filter.mp hj).1)).2
    rw [List.foldl_cons, Cp.setEnabled_fold on l _ hn hlen, howes, Cp.stays_congr hview, he]
    simp only [List.filter_append, hposted, hstay, List.foldl_cons, List.append_assoc, List.filter_cons]
    split <;> rfl

/-! ### The mask as a whole -/

theorem flagsOf_map : ∀ l : List Bool, flagsOf (l.map flagByte) = some l
  | [] => rfl
  | b :: l => by
    have hb : flagOf (flagByte b) = some b := by cases b <;> rfl
    rw [List.map_cons, flagsOf, hb, flagsOf_map l]

theorem flagOf_none {b : Byte} (h : 1 < b.toNat) : flagOf b = none := by
  obtain ⟨n, hn⟩ : ∃ n, b.toNat = n + 2 := ⟨b.toNat - 2, by omega⟩
  simp only [flagOf, hn]

theorem flagsOf_none : ∀ p : List Byte, (∃ b ∈ p, 1 < b.toNat) → flagsOf p = none
  | [], h => by obtain ⟨b, hb, -⟩ := h; cases hb
  | c :: p, h => by
    obtain ⟨b, hb, h1⟩ := h
    rcases List.mem_cons.mp hb with rfl | hb
    · rw [flagsOf, flagOf_none h1]
    · rw [flagsOf, flagsOf_none p ⟨b, hb, h1⟩]
      cases flagOf c <;> rfl

theorem Notice.mem_all (k : Notice) : k ∈ Notice.all := by cases k <;> decide

/-- Every place of the catalogue is a kind's. -/
theorem Notice.exists_index {i : Nat} (h : i < 19) : ∃ k ∈ Notice.all, k.index = i := by
  have hi : Notice.all.map Notice.index = List.range 19 := by decide
  have hm : i ∈ Notice.all.map Notice.index := hi ▸ List.mem_range.mpr h
  exact List.mem_map.mp hm

/-- Setting every kind's flag is the new enable set. -/
theorem enabled_fold (flags e : List Bool) (hf : flags.length = 19) (he : e.length = 19) :
    Notice.all.foldl (fun e k => e.set k.index (flags.getD k.index false)) e = flags := by
  have key : ∀ (l : List Notice) (e : List Bool), e.length = 19 →
      let e' := l.foldl (fun e k => e.set k.index (flags.getD k.index false)) e
      e'.length = 19 ∧ ∀ i < 19, ((∃ k ∈ l, k.index = i) ∨ e[i]? = flags[i]?) → e'[i]? = flags[i]? := by
    intro l
    induction l with
    | nil => exact fun e he => ⟨he, fun i _ h => h.resolve_left fun ⟨k, hk, _⟩ => nomatch hk⟩
    | cons k l ih =>
      intro e he
      obtain ⟨hlen, hall⟩ := ih (e.set k.index (flags.getD k.index false)) (by rw [List.length_set, he])
      refine ⟨hlen, fun i hi h => hall i hi ?_⟩
      have hif : i < flags.length := hf ▸ hi
      by_cases hk : k.index = i
      · right
        subst hk
        rw [List.getElem?_set_self (by rw [he]; exact hi), List.getElem?_eq_getElem hif,
          List.getD_eq_getElem _ _ hif]
      · rw [List.getElem?_set_ne hk]
        rcases h with ⟨j, hj, rfl⟩ | h
        · rcases List.mem_cons.mp hj with rfl | hj
          · exact absurd rfl hk
          · exact .inl ⟨j, hj, rfl⟩
        · exact .inr h
  obtain ⟨hlen, hall⟩ := key Notice.all e he
  refine List.ext_getElem? fun i => ?_
  by_cases hi : i < 19
  · exact hall i hi (.inl (Notice.exists_index hi))
  · rw [List.getElem?_eq_none (by omega), List.getElem?_eq_none (by omega)]

/-- A request frame of fixed size at an open port in RUN or QUIET reaches its judgment. -/
theorem run_decided (r : Request) (tag : Byte) (p : List Byte) (s t : State) (h : s.answers) (hl : p.length = r.size)
    (hd : Work.decide r tag p { toState := s.hears r, bus := [] } = { toState := t, bus := [] })
    (hp : t.pwc = s.pwc) (hc : t.cw = s.cw) : run (Work.hostFrame r.kind tag p) s = t := by
  obtain ⟨ha, hs, hw⟩ := h
  have hw1 : s.pwc.power ≠ .halt := by rcases hw with hw | hw <;> rw [hw] <;> decide
  have hw2 : (s.hears r).pwc.power ≠ .failsafe := by
    rw [show (s.hears r).pwc = s.pwc from s.shiftOuts_pwc _]
    rcases hw with hw | hw <;> rw [hw] <;> decide
  refine run_port _ s t hs ?_ hp hc
  rw [Work.hostFrame_open _ _ _ _ ha (hl ▸ r.size_le) hw1, ← hd, hl]
  have hw3 : (s.heard (r.size + 7)).pwc.power ≠ .failsafe := hw2
  simp only [Work.judge, Request.ofKind_kind, hl, r.allows_size, Bool.true_eq_false, if_false, hw3, false_and]
  rfl

theorem State.replied_pwc (s : State) (r : Request) (tag : Byte) (b : List Byte) : (s.replied r tag b).pwc = s.pwc :=
  s.shiftOuts_pwc _

theorem State.replied_cw (s : State) (r : Request) (tag : Byte) (b : List Byte) : (s.replied r tag b).cw = s.cw :=
  s.shiftOuts_cw _

theorem State.replied_enabled (s : State) (r : Request) (tag : Byte) (b : List Byte) :
    (s.replied r tag b).cp.enabled = s.cp.enabled :=
  s.shiftOuts_cp_enabled _

/-- The reply to a request that has been heard. -/
theorem Work.reply_hears (s : State) (r : Request) (tag : Byte) (b : List Byte) :
    ({ toState := s.hears r, bus := [] } : Work).reply (replyKind r.kind) tag b =
      { toState := s.replied r tag b, bus := [] } := rfl

/-- Settles O16: the reply is posted, and then CP acts on the kinds in catalogue order. -/
theorem noticeMaskSetReplacesTheEnableSet : Obligations.NoticeMaskSetReplacesTheEnableSet := by
  unfold Obligations.NoticeMaskSetReplacesTheEnableSet
  intro tag s ha hen
  refine ⟨fun flags h hf hh => ?_, fun p hp hb => ?_⟩
  · intro on kept posted
    have hen' : h.cp.enabled.length = 19 := by rw [hh, State.replied_enabled, hen]
    have hfold := Cp.setEnabled_fold on Notice.all h.cp (by decide) hen'
    rw [enabled_fold flags _ hf hen'] at hfold
    have hkept : h.cp.queue.filter (h.cp.stays on Notice.all) = kept := by
      refine List.filter_congr fun f _ => ?_
      cases f with
      | reply _ _ _ => rfl
      | notice k _ _ => simp only [Cp.stays, Notice.mem_all, if_true]
    rw [hkept] at hfold
    refine congrArg Host.Outcome.next (run_decided .noticeMaskSet tag _ s _ ha (by simp [hf, Request.size]) ?_
      ((congrArg State.pwc hh).trans (s.replied_pwc _ _ _)) ((congrArg State.cw hh).trans (s.replied_cw _ _ _)))
    simp only [Work.decide, Work.maskSet, flagsOf_map]
    rw [show Result.ok.byte = 0 from rfl, Work.reply_hears, ← hh]
    simp only [Cp.setMask]
    rw [hfold]
    rfl
  · refine congrArg Host.Outcome.next (run_decided .noticeMaskSet tag p s _ ha hp ?_ (s.replied_pwc _ _ _)
      (s.replied_cw _ _ _))
    simp only [Work.decide, Work.maskSet, flagsOf_none p hb]
    exact Work.reply_hears s .noticeMaskSet tag [3]

end Sys2Proof.Machine
end

section
/-! PROOF. Chains in frame memory and frames of the desk: O11, O13. -/

namespace Sys2Proof.Machine

/-! ### Chains -/

/-- The address of a chain byte tells its page and its place in it. -/
theorem chainAddr_eq_some {pages : List Nat} {o a : Nat} (h : chainAddr pages o = some a) :
    pages[o / Config.pageBytes]? = some (a / Config.pageBytes) ∧ o % Config.pageBytes = a % Config.pageBytes := by
  have hpos : 0 < Config.pageBytes := by decide
  obtain ⟨p, hp, rfl⟩ := Option.map_eq_some_iff.mp h
  have hlt := Nat.mod_lt o hpos
  rw [Nat.mul_comm, Nat.mul_add_div hpos, Nat.div_eq_of_lt hlt, Nat.mul_add_mod, Nat.mod_eq_of_lt hlt]
  exact ⟨hp, rfl⟩

/-- Within distinct pages no two chain bytes share an address. -/
theorem chainAddr_inj {pages : List Nat} (hn : pages.Nodup) {o o' a : Nat} (h : chainAddr pages o = some a)
    (h' : chainAddr pages o' = some a) : o = o' := by
  obtain ⟨hp, hm⟩ := chainAddr_eq_some h
  obtain ⟨hp', hm'⟩ := chainAddr_eq_some h'
  obtain ⟨hl, hv⟩ := List.getElem?_eq_some_iff.mp hp
  obtain ⟨hl', hv'⟩ := List.getElem?_eq_some_iff.mp hp'
  have hd : o / Config.pageBytes = o' / Config.pageBytes := (hn.getElem_inj_iff).mp (hv.trans hv'.symm)
  rw [← Nat.div_add_mod o Config.pageBytes, ← Nat.div_add_mod o' Config.pageBytes, hd, hm, hm']

theorem chainAddr_isSome {pages : List Nat} {o : Nat} (h : o < Config.pageBytes * pages.length) :
    ∃ a, chainAddr pages o = some a := by
  have hd : o / Config.pageBytes < pages.length := Nat.div_lt_of_lt_mul h
  exact ⟨_, by rw [chainAddr, List.getElem?_eq_getElem hd]; rfl⟩

/-- A byte written into a chain of distinct pages is read back. -/
theorem chainByte_chainWrite {pages : List Nat} (hn : pages.Nodup) : ∀ (bs : List Byte) (m : Memory) (o : Nat),
    m.wf = true → o + bs.length ≤ Config.pageBytes * pages.length → ∀ (i : Nat) (hi : i < bs.length),
    chainByte (chainWrite m pages o bs) pages (o + i) = bs[i]
  | b :: bs, m, o, hw, hl, i, hi => by
    rw [List.length_cons] at hl
    obtain ⟨a, ha⟩ := chainAddr_isSome (pages := pages) (o := o) (by omega)
    simp only [chainWrite, ha]
    cases i with
    | zero =>
      have hnot : ∀ j, j < bs.length → chainAddr pages (o + 1 + j) ≠ some a := fun j _ e => by
        have := chainAddr_inj hn ha e
        omega
      simp only [Nat.add_zero, chainByte, ha]
      rw [chainWrite_read_of_not_mem bs (Memory.write_wf a b hw) hnot, Memory.read_write a b a hw, if_pos rfl]
      rfl
    | succ i =>
      have ih := chainByte_chainWrite hn bs (m.write a b) (o + 1) (Memory.write_wf a b hw) (by omega) i
        (by simpa using hi)
      rw [show o + (i + 1) = o + 1 + i by omega, ih]
      rfl

/-- Settles O11: distinct pages give distinct addresses, so a later byte does not overwrite an earlier one. -/
theorem chainWriteReadsBack : Obligations.ChainWriteReadsBack := by
  unfold Obligations.ChainWriteReadsBack
  intro m pages o bs hw hn hl
  refine ⟨?_, fun a ha => chainWrite_read_of_not_mem bs hw ha⟩
  refine List.ext_getElem (by simp [chainRead]) fun i h1 h2 => ?_
  simp only [chainRead, List.getElem_map, List.getElem_range]
  exact chainByte_chainWrite hn bs m o hw hl i h2

/-! ### Frames of the desk on the wire -/

/-- A field at the front of bytes is the number it spells. -/
theorem fieldAt_front {k n : Nat} (l : List Byte) (h : n < 256 ^ k) : fieldAt (leBytes k n ++ l) 0 k = n := by
  have ht : (leBytes k n ++ l).take k = leBytes k n := by
    conv_lhs => rw [← leBytes_length k n]
    rw [leBytes_length, List.take_left' (leBytes_length k n)]
  rw [fieldAt, List.drop_zero, ht, leNat_leBytes h]

/-- A field behind other bytes. -/
theorem fieldAt_behind {a l : List Byte} {j : Nat} (i k : Nat) (h : a.length = j) :
    fieldAt (a ++ l) (j + i) k = fieldAt l i k := by
  rw [fieldAt, fieldAt, List.drop_append, List.drop_eq_nil_of_le (by omega), List.nil_append, h,
    Nat.add_sub_cancel_left]

theorem byteAt_behind {a l : List Byte} {j : Nat} (i : Nat) (h : a.length = j) : byteAt (a ++ l) (j + i) = byteAt l i := by
  simp only [byteAt, List.getD_eq_getElem?_getD]
  rw [List.getElem?_append_right (by omega), h, Nat.add_sub_cancel_left]

/-- The 60 bytes of a short frame before its check. -/
def wireBody (h : DeskHead) (kind : Byte) (fields : List Byte) : List Byte :=
  leBytes 6 h.dst.toNat ++ (leBytes 6 h.src.toNat ++ (BitVec.ofNat 8 (h.etherType.toNat / 256) ::
    BitVec.ofNat 8 h.etherType.toNat :: kind :: (fields ++ List.replicate (45 - fields.length) 0)))

theorem wireBody_length {h : DeskHead} {kind : Byte} {fields : List Byte} (hf : fields.length ≤ 45) :
    (wireBody h kind fields).length = 60 := by
  simp only [wireBody, List.length_append, List.length_cons, leBytes_length, List.length_replicate]
  omega

theorem wireFrame_eq (h : DeskHead) (kind : Byte) {fields : List Byte} (hf : fields.length ≤ 45) :
    wireFrame h.dst h.src h.etherType kind fields =
      wireBody h kind fields ++ leBytes 4 (crc32 (wireBody h kind fields)).toNat := by
  have hb : leBytes 6 h.dst.toNat ++ leBytes 6 h.src.toNat ++
        [BitVec.ofNat 8 (h.etherType.toNat / 256), BitVec.ofNat 8 h.etherType.toNat, kind] ++ fields ++
        List.replicate (60 - (leBytes 6 h.dst.toNat ++ leBytes 6 h.src.toNat ++
        [BitVec.ofNat 8 (h.etherType.toNat / 256), BitVec.ofNat 8 h.etherType.toNat, kind] ++ fields).length) 0 =
      wireBody h kind fields := by
    have hn : 60 - (leBytes 6 h.dst.toNat ++ leBytes 6 h.src.toNat ++
        [BitVec.ofNat 8 (h.etherType.toNat / 256), BitVec.ofNat 8 h.etherType.toNat, kind] ++ fields).length =
        45 - fields.length := by
      simp only [List.length_append, leBytes_length, List.length_cons, List.length_nil]
      omega
    rw [hn]
    simp only [wireBody, List.append_assoc, List.cons_append, List.nil_append]
  simp only [wireFrame, hb]

/-- The head and the fields of a short frame are what its bytes spell. -/
theorem deskFrameOf_wireFrame (h : DeskHead) (kind : Byte) {fields : List Byte} (hf : fields.length ≤ 45) :
    deskFrameOf (wireFrame h.dst h.src h.etherType kind fields) =
      (deskMsgOf kind (fields ++ List.replicate (45 - fields.length) 0)).map fun m => (h, m) := by
  have hl := wireBody_length (h := h) (kind := kind) hf
  have hd : h.dst.toNat < 256 ^ 6 := h.dst.isLt
  have hs : h.src.toNat < 256 ^ 6 := h.src.isLt
  have he := h.etherType.isLt
  rw [wireFrame_eq h kind hf]
  obtain ⟨body, hb⟩ : ∃ b, wireBody h kind fields = b := ⟨_, rfl⟩
  have hlen : (body ++ leBytes 4 (crc32 body).toNat).length = 64 := by
    rw [List.length_append, leBytes_length, ← hb, hl]
  rw [hb] at hl ⊢
  have htake : (body ++ leBytes 4 (crc32 body).toNat).take 60 = body := by rw [← hl, List.take_left]
  have hdrop : (body ++ leBytes 4 (crc32 body).toNat).drop 60 = leBytes 4 (crc32 body).toNat := by
    rw [← hl, List.drop_left]
  have hcheck : frameCheck (body ++ leBytes 4 (crc32 body).toNat) = true := by
    simp only [frameCheck, hlen, Nat.reduceSub, htake, hdrop]
    exact decide_eq_true (leNat_leBytes (crc32 body).isLt)
  -- the frame with its addresses in front, and what stands behind them
  obtain ⟨rest, hrest⟩ : ∃ l, BitVec.ofNat 8 (h.etherType.toNat / 256) :: BitVec.ofNat 8 h.etherType.toNat :: kind :: l =
      BitVec.ofNat 8 (h.etherType.toNat / 256) :: BitVec.ofNat 8 h.etherType.toNat :: kind ::
        ((fields ++ List.replicate (45 - fields.length) 0) ++ leBytes 4 (crc32 body).toNat) := ⟨_, rfl⟩
  have hframe : body ++ leBytes 4 (crc32 body).toNat = leBytes 6 h.dst.toNat ++ (leBytes 6 h.src.toNat ++
      (BitVec.ofNat 8 (h.etherType.toNat / 256) :: BitVec.ofNat 8 h.etherType.toNat :: kind :: rest)) := by
    rw [hrest, ← hb]
    simp only [wireBody, List.append_assoc, List.cons_append]
  have hbyte (i : Nat) : byteAt (body ++ leBytes 4 (crc32 body).toNat) (6 + (6 + i)) =
      byteAt (BitVec.ofNat 8 (h.etherType.toNat / 256) :: BitVec.ofNat 8 h.etherType.toNat :: kind :: rest) i := by
    rw [hframe, byteAt_behind _ (leBytes_length 6 _), byteAt_behind _ (leBytes_length 6 _)]
  have hhead : deskHeadOf (body ++ leBytes 4 (crc32 body).toNat) = h := by
    have h1 : fieldAt (body ++ leBytes 4 (crc32 body).toNat) 0 6 = h.dst.toNat := by rw [hframe, fieldAt_front _ hd]
    have h2 : fieldAt (body ++ leBytes 4 (crc32 body).toNat) (6 + 0) 6 = h.src.toNat := by
      rw [hframe, fieldAt_behind _ _ (leBytes_length 6 _), fieldAt_front _ hs]
    have h3 : byteAt (body ++ leBytes 4 (crc32 body).toNat) 12 = BitVec.ofNat 8 (h.etherType.toNat / 256) := hbyte 0
    have h4 : byteAt (body ++ leBytes 4 (crc32 body).toNat) 13 = BitVec.ofNat 8 h.etherType.toNat := hbyte 1
    have h5 : 256 * (BitVec.ofNat 8 (h.etherType.toNat / 256)).toNat + (BitVec.ofNat 8 h.etherType.toNat).toNat =
        h.etherType.toNat := by
      rw [BitVec.toNat_ofNat, BitVec.toNat_ofNat]
      omega
    rw [deskHeadOf, h1, show (6 : Nat) = 6 + 0 from rfl, h2, h3, h4, h5]
    simp only [BitVec.ofNat_toNat, BitVec.setWidth_eq]
  have hkind : byteAt (body ++ leBytes 4 (crc32 body).toNat) 14 = kind := hbyte 2
  have hfields : body.drop 15 = fields ++ List.replicate (45 - fields.length) 0 := by
    have hfront : body = (leBytes 6 h.dst.toNat ++ leBytes 6 h.src.toNat ++ [BitVec.ofNat 8 (h.etherType.toNat / 256),
        BitVec.ofNat 8 h.etherType.toNat, kind]) ++ (fields ++ List.replicate (45 - fields.length) 0) := by
      rw [← hb]
      simp only [wireBody, List.append_assoc, List.cons_append, List.nil_append]
    rw [hfront]
    exact List.drop_left' (by simp only [List.length_append, leBytes_length, List.length_cons, List.length_nil])
  simp only [deskFrameOf, hcheck, hlen, Nat.reduceSub, htake, hhead, hkind, hfields]
  rfl

theorem deskMsgOf_ack (f : List Byte) :
    deskMsgOf 0x06 f = if 6 ≤ f.length then some (.ack (fieldAt f 0 2) (fieldAt f 2 4)) else none := rfl

theorem deskMsgOf_finack (f : List Byte) :
    deskMsgOf 0x08 f = if 3 ≤ f.length then some (.finack (fieldAt f 0 2) (byteAt f 2)) else none := rfl

theorem deskMsgOf_request (f : List Byte) :
    deskMsgOf 0x0A f = if 4 ≤ f.length then some (.request (fieldAt f 0 3) (byteAt f 3)) else none := rfl

/-- The bytes of a short frame do what the frame of its kind does. -/
theorem exec_wireFrame (h : DeskHead) (m : DeskMsg) (kind : Byte) (fields : List Byte) (s : State)
    (hf : fields.length ≤ 45) (hm : ∀ l, deskMsgOf kind (fields ++ l) = some m) :
    exec (.deskFrameDropped (wireFrame h.dst h.src h.etherType kind fields)) s = .next (run (Work.takeDesk h m) s) := by
  have hop : Work.rawDeskFrame (wireFrame h.dst h.src h.etherType kind fields) = Work.takeDesk h m := by
    funext w
    simp only [Work.rawDeskFrame, deskFrameOf_wireFrame h kind hf, hm, Option.map_some]
  exact congrArg (fun op => Host.Outcome.next (run op s)) hop

/-- Settles O13: the fields of each kind are read where the frame writes them. -/
theorem deskBytesSpellTheFrame : Obligations.DeskBytesSpellTheFrame := by
  unfold Obligations.DeskBytesSpellTheFrame
  intro h s
  refine ⟨exec_wireFrame h .bind _ _ s (by decide) fun _ => rfl, exec_wireFrame h .ping _ _ s (by decide) fun _ => rfl,
    fun id o => ?_, fun id r => ?_, fun n c => ?_, fun n => exec_wireFrame h (.remote n) _ _ s (by simp) fun _ => rfl⟩
  · refine exec_wireFrame h (.ack id.toNat o.toNat) _ _ s (by simp) fun l => ?_
    have hlen : 6 ≤ (leBytes 2 id.toNat ++ leBytes 4 o.toNat ++ l).length := by simp; omega
    have h1 : fieldAt (leBytes 2 id.toNat ++ leBytes 4 o.toNat ++ l) 0 2 = id.toNat := by
      rw [List.append_assoc, fieldAt_front _ id.isLt]
    have h2 : fieldAt (leBytes 2 id.toNat ++ leBytes 4 o.toNat ++ l) (2 + 0) 4 = o.toNat := by
      rw [List.append_assoc, fieldAt_behind _ _ (leBytes_length 2 _), fieldAt_front _ o.isLt]
    rw [deskMsgOf_ack, if_pos hlen, h1, h2]
  · refine exec_wireFrame h (.finack id.toNat r) _ _ s (by simp) fun l => ?_
    have hlen : 3 ≤ (leBytes 2 id.toNat ++ [r] ++ l).length := by simp; omega
    have h1 : fieldAt (leBytes 2 id.toNat ++ [r] ++ l) 0 2 = id.toNat := by
      rw [List.append_assoc, fieldAt_front _ id.isLt]
    have h2 : byteAt (leBytes 2 id.toNat ++ [r] ++ l) (2 + 0) = r := by
      rw [List.append_assoc, byteAt_behind _ (leBytes_length 2 _)]
      rfl
    rw [deskMsgOf_finack, if_pos hlen, h1, h2]
  · refine exec_wireFrame h (.request n.toNat c) _ _ s (by simp) fun l => ?_
    have hlen : 4 ≤ (leBytes 3 n.toNat ++ [c] ++ l).length := by simp; omega
    have h1 : fieldAt (leBytes 3 n.toNat ++ [c] ++ l) 0 3 = n.toNat := by
      rw [List.append_assoc, fieldAt_front _ n.isLt]
    have h2 : byteAt (leBytes 3 n.toNat ++ [c] ++ l) (3 + 0) = c := by
      rw [List.append_assoc, byteAt_behind _ (leBytes_length 3 _)]
      rfl
    rw [deskMsgOf_request, if_pos hlen, h1, h2]

end Sys2Proof.Machine
end

section
/-! PROOF. How a step ends when its operation leaves reports (log entry 3), and what a request whose owner leaves reports
comes to (R178). -/

namespace Sys2Proof.Machine

/-! ### Reports that are taken one after the other -/

/-- Within `n` reports a step at work comes to a state in which none waits. -/
def Work.Comes (w : Work) (n : Nat) (t : State) : Prop := Work.drain n w = { toState := t, bus := [] }

theorem Work.Comes.done {n : Nat} (t : State) : Work.Comes { toState := t, bus := [] } n t := by
  cases n <;> rfl

theorem Work.Comes.take {s t : State} {r : Report} {rest : List Report} {n : Nat}
    (h : (Work.handle r { toState := s, bus := rest }).Comes n t) :
    Work.Comes { toState := s, bus := r :: rest } (n + 1) t := h

/-- A report whose block makes of it a work that is known. -/
theorem Work.Comes.step {s t : State} {r : Report} {rest : List Report} {n : Nat} {w : Work}
    (hr : Work.handle r { toState := s, bus := rest } = w) (h : w.Comes n t) :
    Work.Comes { toState := s, bus := r :: rest } (n + 1) t := .take (hr ▸ h)

/-- A report that changes nothing. -/
theorem Work.Comes.skip {s t : State} {r : Report} {rest : List Report} {n : Nat}
    (hr : Work.handle r { toState := s, bus := rest } = { toState := s, bus := rest })
    (h : Work.Comes { toState := s, bus := rest } n t) :
    Work.Comes { toState := s, bus := r :: rest } (n + 1) t := .step hr h

/-- A step whose operation comes to a state in which the warning sequence stands ends there. -/
theorem run_comes {op : Work → Work} {s t : State} (h : (op { toState := s, bus := [] }).Comes 4096 t)
    (hs : t.steady) : run op s = t := by
  rw [run, Work.settle, h, Work.finishWarning_steady _ hs]

theorem exec_comes {c : Instr} {s t : State} (op : Work → Work) (hop : exec c s = .next (run op s))
    (hs : t.steady) (h : (op { toState := s, bus := [] }).Comes 4096 t) : exec c s = .next t := by
  rw [hop, run_comes h hs]

/-! ### What single reports come to -/

section
variable (w : Work)

/-- DE does not look at its queue while it runs a job or is stopped, and finds nothing when it is IDLE with no job. -/
theorem Work.lookHead_idle (h : w.de.engine = .running ∨ w.de.engine = .stopped ∨
    (w.de.engine = .idle ∧ w.de.urgent = [] ∧ w.de.normal = [])) : w.lookHead = w := by
  rcases h with h | h | ⟨h, hu, hn⟩
  · simp only [Work.lookHead, h]
  · simp only [Work.lookHead, h]
  · obtain ⟨⟨_, _, _, _, _, _, _, ⟨engine, _, urgent, normal, _, _, _, _, _⟩, _, _, _, _, _, _, _⟩, _⟩ := w
    cases h; cases hu; cases hn
    rfl

theorem Work.handle_deLook (h : w.de.engine = .running ∨ w.de.engine = .stopped ∨
    (w.de.engine = .idle ∧ w.de.urgent = [] ∧ w.de.normal = [])) : w.handle .deLook = w := w.lookHead_idle h

/-- With an empty send queue the reclaim signal is taken and nothing is demoted (R166). -/
theorem Work.handle_reclaim_empty (up : Bool) (h : w.tu.queue = []) :
    w.handle (.reclaim up) = { w with tu := { w.tu with reclaim := up } } := by
  simp only [Work.handle, Work.takeReclaim, Work.demoteAll, h, List.foldl_nil, ite_self]

/-- No release waits for the gate. -/
theorem Work.handle_focus (g : Option GateOutcome) (h : w.rdu.drive ≠ .waitingFocus) : w.handle (.focus g) = w := by
  simp only [Work.handle, Work.gateAgain]
  split
  · next h1 _ => exact absurd h1 h
  · rfl

theorem Work.handle_focus_none : w.handle (.focus none) = w := by
  simp only [Work.handle, Work.gateAgain]
  split <;> first | rfl | exact absurd ‹none = some _› (by simp)

/-- No selection is made on a link that is not BOUND_IDLE. -/
theorem Work.handle_select (h : w.tu.link ≠ .boundIdle) : w.handle .select = w := by
  simp only [Work.handle, Work.selectEntry, h, false_and, if_false]

/-- TU looks at a develop duty that changed only when the row's proof is in the send queue. -/
theorem Work.handle_developChanged (i : Nat) (h : ∀ e ∈ w.tu.queue, e.chain = .proof → e.row ≠ some i) :
    w.handle (.developChanged i) = w := by
  rw [Work.handle, Work.takeDevelop, if_neg]
  simp only [List.any_eq_true, Bool.and_eq_true, decide_eq_true_eq, not_exists, not_and, and_imp]
  exact fun e he _ hr hc => h e he hc hr

end

/-! ### Requests -/

/-- Bytes heard change CP and the log of outputs alone. -/
theorem State.hears_eq (s : State) (r : Request) : s.hears r = { s with cp := (s.hears r).cp, sent := (s.hears r).sent } := by
  rw [State.hears, State.heard, State.shiftOuts_frame]

@[simp] theorem State.hears_pwc (s : State) (r : Request) : (s.hears r).pwc = s.pwc := by rw [State.hears_eq]
@[simp] theorem State.hears_cw (s : State) (r : Request) : (s.hears r).cw = s.cw := by rw [State.hears_eq]

section
variable {r : Request} {tag : Byte} {p : List Byte} {s : State}

/-- An answer that takes the request with a body, and whose work comes to a state. -/
def Answer.Comes (a : Answer) (body : List Byte) (t : State) : Prop := ∃ v, a = .taken v body ∧ v.Comes 4096 t

theorem Answer.Comes.taken {v : Work} {body : List Byte} {t : State} (h : v.Comes 4096 t) :
    (Answer.taken v body).Comes body t := ⟨v, rfl, h⟩

/-- CP itself decides on NOTICE_MASK_SET and RESET_PART; every other request reaches its owner (R178). -/
def Request.reachesOwner : Request → Bool
  | .noticeMaskSet | .resetPart => false
  | _ => true

theorem Request.reachesOwner_ne {r : Request} (h : r.reachesOwner = true) : r ≠ .noticeMaskSet ∧ r ≠ .resetPart := by
  cases r <;> first | exact Bool.noConfusion h | exact ⟨nofun, nofun⟩

/-- A request whose owner takes it reaches that owner. -/
theorem Request.reachesOwner_of_taken {r : Request} {p : List Byte} {w v : Work} {b : List Byte}
    (h : r.owner p w = .taken v b) : r.reachesOwner = true := by
  cases r <;> first | rfl | exact Answer.noConfusion h

/-- A request whose owner refuses it, whatever CP and the outputs are. -/
theorem request_turned (r : Request) (c : Result) (hr : r.reachesOwner = true) (h : s.answers) (hl : p.length = r.size)
    (ho : ∀ cp sent, r.owner p { toState := { s with cp := cp, sent := sent }, bus := [] } = .refused c) :
    request r tag p s = .next (s.replied r tag [c.byte]) := by
  obtain ⟨h1, h2⟩ := Request.reachesOwner_ne hr
  exact request_replied_of_refused h hl h1 h2 (by rw [State.hears_eq]; exact ho _ _)

/-- A request that its owner takes, where the owner's act and the reports it gives rise to come to a state: the reply is
posted in that state. -/
theorem request_comes (r : Request) {body : List Byte} (u : State → State) (h : s.answers) (hl : p.length = r.size)
    (hs : ∀ cp sent, (u { s with cp := cp, sent := sent }).steady)
    (ho : ∀ cp sent, (r.owner p { toState := { s with cp := cp, sent := sent }, bus := [] }).Comes body
      (u { s with cp := cp, sent := sent })) :
    request r tag p s = .next ((u (s.hears r)).answered r tag (0 :: body)) := by
  obtain ⟨v, hv, hc⟩ := ho (s.hears r).cp (s.hears r).sent
  have hu := hs (s.hears r).cp (s.hears r).sent
  rw [← State.hears_eq] at hv hc hu
  obtain ⟨h1, h2⟩ := Request.reachesOwner_ne (Request.reachesOwner_of_taken hv)
  have hsettle : v.settle = { toState := u (s.hears r), bus := [] } := hc
  rw [request_taken r tag p s v body h (hl ▸ r.size_le) (hl ▸ r.allows_size) h1 h2 (by rw [hl]; exact hv)
    (by rw [hsettle]) (by rw [hsettle]; exact hu), hsettle]

/-- The same, where neither CP nor the outputs have a part in it: the act is done, and then CP replies. -/
theorem request_done (r : Request) {t : State} {body : List Byte} (h : s.answers) (hl : p.length = r.size)
    (hcp : t.cp = s.cp) (hsent : t.sent = s.sent) (hs : t.steady)
    (ho : ∀ cp sent, (r.owner p { toState := { s with cp := cp, sent := sent }, bus := [] }).Comes body
      { t with cp := cp, sent := sent }) :
    request r tag p s = .next (t.replied r tag (0 :: body)) := by
  have hf : State.OffPort fun x => { t with cp := x.cp, sent := x.sent } := fun _ _ _ => rfl
  have ht : { t with cp := s.cp, sent := s.sent } = t := by rw [← hcp, ← hsent]
  rw [request_comes r (fun x => { t with cp := x.cp, sent := x.sent }) h hl
    (fun cp sent => State.steady_congr (s := t) rfl rfl hs) ho]
  have := State.hears_offPort hf s r
  simp only [ht] at this
  rw [State.replied, this]

end

end Sys2Proof.Machine
end

section
/-! PROOF. The settings of the pool, SHOT_COLLECT, SENSOR_RESTART with the view timer, and the polarities of the release
lines (R5, R6, R21, R28, R53, R63). -/

namespace Sys2Proof.Machine

/-! ### The page pool (R5, R6) -/

/-- Settles O32: the owner clamps both values, and TU takes the reclaim signal BM then evaluates. -/
theorem poolSetClampsAndSignals : Obligations.PoolSetClampsAndSignals := by
  intro tag a b s hs ha hb hq
  have h0 : fieldAt (leBytes 2 a ++ leBytes 2 b) 0 2 = a := fieldAt_front _ (by omega)
  have h2 : fieldAt (leBytes 2 a ++ leBytes 2 b) 2 2 = b := by
    rw [fieldAt_behind 0 2 (leBytes_length 2 a), fieldAt_leBytes (by omega)]
  refine request_done .poolSet hs (by simp [Request.size]) rfl rfl (State.steady_congr rfl rfl hs.2.1)
    fun cp sent => ?_
  simp only [Request.owner, answerPoolSet, h0, h2, clampNat, Nat.zero_max]
  exact .taken (.step (Work.handle_reclaim_empty _ _ hq) (.done _))

/-! ### SHOT_COLLECT (R7, R21) -/

/-- Rows removed one by one by their indices are all removed. -/
theorem Work.removeRows (gone : List Row) (w : Work) :
    gone.foldl (fun v r => v.removeRow r.index) w =
      { w with bm := { w.bm with rows := w.bm.rows.filter fun r => !gone.any fun g => r.index == g.index } } := by
  induction gone generalizing w with
  | nil => simp
  | cons g gone ih =>
    rw [List.foldl_cons, ih]
    simp only [Work.removeRow, Bm.remove, List.filter_filter, List.any_cons, Bool.not_or, Bool.and_comm]

/-- With distinct indices the rows that share an index with rows of the table are those rows. -/
theorem Bm.filter_index {b : Bm} {gone : List Row} (h : (b.rows.map Row.index).Nodup) (hg : ∀ g ∈ gone, g ∈ b.rows) :
    (b.rows.filter fun r => !gone.any fun g => r.index == g.index) = b.rows.filter fun r => decide (r ∉ gone) := by
  refine List.filter_congr fun r hr => ?_
  have hiff : (gone.any fun g => r.index == g.index) = decide (r ∈ gone) := by
    refine Bool.eq_iff_iff.2 ?_
    simp only [List.any_eq_true, beq_iff_eq, decide_eq_true_eq]
    refine ⟨fun ⟨g, hm, he⟩ => ?_, fun hm => ⟨r, hm, rfl⟩⟩
    rwa [List.inj_on_of_nodup_map h hr (hg g hm) he]
  rw [hiff, decide_not]

/-- Settles O35. -/
theorem shotCollectRemovesFinishedRows : Obligations.ShotCollectRemovesFinishedRows := by
  intro tag k s hs hn
  refine ⟨fun hk => request_turned .shotCollect .badArg rfl hs rfl fun cp sent => if_pos hk, fun gone h1 h8 hgone => ?_⟩
  have hcollect : s.bm.rows.filter Row.collectable =
      s.bm.rows.filter fun r => decide (r.life = .settled ∨ r.life = .void) :=
    List.filter_congr fun r _ => by simp only [Row.collectable, Bool.decide_or]
  have hmem : ∀ g ∈ gone, g ∈ s.bm.rows := fun g hg =>
    (List.mem_filter.1 (List.mem_of_mem_take (hgone ▸ hg))).1
  have hk : ¬ ((byteAt [k] 0).toNat = 0 ∨ 8 < (byteAt [k] 0).toNat) := by
    show ¬ (k.toNat = 0 ∨ 8 < k.toNat)
    omega
  refine request_done .shotCollect hs rfl rfl rfl (State.steady_congr rfl rfl hs.2.1) fun cp sent => ?_
  simp only [Request.owner, answerShotCollect, hk, if_false, hcollect]
  rw [show byteAt [k] 0 = k from rfl, ← hgone, Work.removeRows, Bm.filter_index hn hmem]
  exact .taken (.done _)

/-! ### SENSOR_RESTART and the view timer (R53, R63) -/

/-- Settles O36: the restart is SRU's own, and the view timer opens a readout when nothing stands against it. -/
theorem sensorRestartsAndViewsAreRequested : Obligations.SensorRestartsAndViewsAreRequested := by
  intro tag s hs
  refine ⟨fun u hu => ?_, fun ht hr hw hrun hf => ?_, fun h => ?_⟩
  · refine request_done .sensorRestart hs rfl rfl rfl (State.steady_congr rfl rfl hs.2.1) fun cp sent => ?_
    have hrestart : s.sru.restart = u := by rw [hu, Sru.restart]
    simp only [Request.owner, answerSensorRestart, hrestart]
    have hrun : flagByte (!u.running) = if u.running then 0 else 1 := by cases u.running <;> rfl
    rw [hrun]
    cases hread : u.readout with
    | none => exact .taken (.done _)
    | some o => cases hk : o.kind <;> simp only [hk] <;> exact .taken (.done _)
  · refine exec_comes Work.viewExpires rfl (State.steady_congr rfl rfl hs.2.1) ?_
    have hmay : s.sru.mayRequest = true := by simp only [Sru.mayRequest, hrun, hf]; rfl
    simp only [Work.viewExpires, ht, hr, hw, hmay, and_self, if_true, Work.openReadout, Work.emit]
    exact .done _
  · refine exec_comes Work.viewExpires rfl hs.2.1 ?_
    have hno : ¬ (s.sru.viewTimer = true ∧ s.sru.readout = none ∧ s.sru.waiting = none ∧ s.sru.mayRequest = true) := by
      simp only [Sru.mayRequest, Bool.and_eq_true, Bool.not_eq_true']
      rintro ⟨ht, hr, hw, hrun, hf⟩
      simp [ht, hr, hw, hrun, hf] at h
    simp only [Work.viewExpires, hno, if_false]
    exact .done _

/-! ### The polarities of the release lines (R28) -/

theorem polarityOf_byte (p : Polarity) : polarityOf p.byte = some p := by cases p <;> rfl

/-- RDU publishes nothing new where the view stream and the half-press signal stand as they are wanted (R32). -/
theorem Work.publishDrive_same (w : Work) (hv : (w.rdu.wantsView && !w.pwc.latched) = w.rdu.viewOn)
    (hh : (w.rdu.wantsFocus && !w.pwc.latched) = w.rdu.halfPress) : w.publishDrive = w := by
  simp only [Work.publishDrive, hv, hh, if_true]

/-- Settles O26. -/
theorem releaseLinesTakePolarities : Obligations.ReleaseLinesTakePolarities := by
  intro tag a b s hs
  have hpolarities (w : Work) : answerReleaseLinesSet [a.byte, b.byte] w =
      if w.rdu.drive = .idle then
        .taken ((w.withRdu fun r => { r with s1 := r.s1.setPolarity a, s2 := r.s2.setPolarity b }).publishDrive)
          [a.byte, b.byte]
      else .refused .state := by
    simp only [answerReleaseLinesSet, byteAt, List.getD_cons_zero, List.getD_cons_succ, polarityOf_byte]
  refine ⟨fun hd h1 hw hr hv hp => ?_, fun hd => ?_⟩
  · refine request_done .releaseLinesSet hs rfl rfl rfl (State.steady_congr rfl rfl hs.2.1) fun cp sent => ?_
    have hheld : (s.rdu.s1.setPolarity a).held = false := by
      rw [Line.setPolarity]
      split
      · exact h1
      · rfl
    simp only [Request.owner]
    rw [hpolarities, if_pos hd, Work.publishDrive_same]
    · simp only [Work.withRdu, Line.setPolarity]
      exact .taken (.done _)
    · simp only [Work.withRdu, Rdu.wantsView, hd, hv, Bool.false_and]
    · simp only [Work.withRdu, Rdu.wantsFocus, Rdu.remoteRuns, hd, hw, hr, hheld, hp, Option.any_none, Bool.or_self,
        Bool.false_and]
  · refine request_turned .releaseLinesSet .state rfl hs rfl fun cp sent => ?_
    simp only [Request.owner, hpolarities, hd, if_false]

end Sys2Proof.Machine
end

section
/-! PROOF. The settings that a request replaces: looks, auto-develop, recording and auto-send (R94, R95, R114, R127,
R169). -/

namespace Sys2Proof.Machine

/-! ### Enumerated bytes (R196) -/

theorem flagOf_flagByte (b : Bool) : flagOf (flagByte b) = some b := by cases b <;> rfl
theorem policyOf_byte (p : Policy) : policyOf p.byte = some p := by cases p <;> rfl
theorem autoSendOf_byte (a : AutoSend) : autoSendOf a.byte = some a := by cases a <;> rfl

theorem policyOf_none {b : Byte} (h : 4 < b.toNat) : policyOf b = none := by
  unfold policyOf
  split <;> first | omega | rfl

theorem autoSendOf_none {b : Byte} (h : 2 < b.toNat) : autoSendOf b = none := by
  unfold autoSendOf
  split <;> first | omega | rfl

/-- A byte of at most 1 is a flag byte. -/
theorem flagByte_eq {b : Byte} (h : ¬ 1 < b.toNat) : flagByte (decide (b = 1)) = b := by
  rcases Nat.le_one_iff_eq_zero_or_eq_one.1 (Nat.not_lt.1 h) with h | h
  · rw [BitVec.eq_of_toNat_eq (y := (0 : Byte)) h]
    rfl
  · rw [BitVec.eq_of_toNat_eq (y := (1 : Byte)) h]
    rfl

/-- A byte that is no flag is above 1, and the others are the flag bytes. -/
theorem flagOf_eq (b : Byte) : flagOf b = if 1 < b.toNat then none else some (decide (b = 1)) := by
  split
  · exact flagOf_none ‹_›
  · next h => rw [← flagOf_flagByte (decide (b = 1)), flagByte_eq h]

/-! ### Looks (R94, R95) -/

/-- A tone curve is non-decreasing when each entry is at most every later one. -/
theorem nonDecreasing_iff : ∀ l : List Nat, nonDecreasing l = true ↔ l.Pairwise (· ≤ ·)
  | [] => by simp [nonDecreasing]
  | [a] => by simp [nonDecreasing]
  | a :: b :: l => by
    rw [nonDecreasing, Bool.and_eq_true, decide_eq_true_eq, nonDecreasing_iff (b :: l), List.pairwise_cons (a := a)]
    refine and_congr_left fun h => ⟨fun hab x hx => ?_, fun h => h b List.mem_cons_self⟩
    rcases List.mem_cons.1 hx with rfl | hx
    · exact hab
    · exact hab.trans ((List.pairwise_cons.1 h).1 x hx)

/-- The look with its gains clamped (R94). -/
def Look.taken (l : Look) : Look := { l with
  gR := min 8191 (max 1024 l.gR), gG := min 8191 (max 1024 l.gG), gB := min 8191 (max 1024 l.gB) }

/-- A look as its bytes spell it after the slot byte. -/
theorem lookOf_bytes (slot : Byte) (l : Look) (hbl : l.bl < 65536) (hw : l.w < 65536)
    (hg : ∀ g ∈ [l.gR, l.gG, l.gB], g < 65536) (hn : l.tone.length = 33) (ht : ∀ v ∈ l.tone, v ≤ 255) :
    lookOf (slot :: l.bytes) =
      if l.bl ≤ 4095 ∧ 1024 ≤ l.w ∧ l.w ≤ 16383 ∧ l.bl < l.w ∧ l.tone.Pairwise (· ≤ ·) then some l.taken else none := by
  simp only [List.mem_cons, List.not_mem_nil, or_false, forall_eq_or_imp, forall_eq] at hg
  obtain ⟨hR, hG, hB⟩ := hg
  have e1 : fieldAt (slot :: l.bytes) 1 2 = l.bl := leNat_leBytes (k := 2) hbl
  have e3 : fieldAt (slot :: l.bytes) 3 2 = l.gR := leNat_leBytes (k := 2) hR
  have e5 : fieldAt (slot :: l.bytes) 5 2 = l.gG := leNat_leBytes (k := 2) hG
  have e7 : fieldAt (slot :: l.bytes) 7 2 = l.gB := leNat_leBytes (k := 2) hB
  have e9 : fieldAt (slot :: l.bytes) 9 2 = l.w := leNat_leBytes (k := 2) hw
  have etone : (((slot :: l.bytes).drop 11).take 33).map (fun b => b.toNat) = l.tone := by
    rw [show (slot :: l.bytes).drop 11 = l.tone.map (BitVec.ofNat 8) from rfl,
      List.take_of_length_le (by rw [List.length_map, hn]), List.map_map]
    refine (List.map_congr_left fun v hv => ?_).trans (List.map_id _)
    have := ht v hv
    simp only [Function.comp_apply, BitVec.toNat_ofNat, id]
    omega
  simp only [lookOf, e1, e3, e5, e7, e9, etone, nonDecreasing_iff, clampNat]
  rfl

/-- The bytes of a look are 43 (10 section 10.2). -/
theorem Look.bytes_length (l : Look) (hn : l.tone.length = 33) : l.bytes.length = 43 := by
  simp [Look.bytes, hn]

/-! ### The settings -/

/-- The slot of the running job. -/
theorem De.slotInUse_iff (d : De) (slot : Nat) : d.slotInUse slot = true ↔ ∃ j, d.job = some j ∧ j.slot = slot := by
  cases hj : d.job <;> simp [De.slotInUse, hj]

/-- LOOK_SET judges its values, and then the slot of the running job (R95). -/
theorem lookSet_judged (tag slot : Byte) (l : Look) (s : State) (hs : s.answers) (hbl : l.bl < 65536) (hw : l.w < 65536)
    (hg : ∀ g ∈ [l.gR, l.gG, l.gB], g < 65536) (hn : l.tone.length = 33) (ht : ∀ v ∈ l.tone, v ≤ 255) :
    exec (.lookSet tag (slot :: l.bytes)) s =
      if 7 < slot.toNat ∨ 4095 < l.bl ∨ l.w < 1024 ∨ 16383 < l.w ∨ l.w ≤ l.bl ∨ ¬ l.tone.Pairwise (· ≤ ·) then
        .next (s.replied .lookSet tag [3])
      else if ∃ j, s.de.job = some j ∧ j.slot = slot.toNat then .next (s.replied .lookSet tag [7])
      else .next (({ s with de := { s.de with looks := s.de.looks.set slot.toNat l.taken } } : State).replied .lookSet tag
        (0 :: l.taken.bytes)) := by
  have hlen : (slot :: l.bytes).length = Request.lookSet.size := by
    rw [List.length_cons, l.bytes_length hn]
    rfl
  have howner (w : Work) : answerLookSet (slot :: l.bytes) w =
      if 7 < slot.toNat then .refused .badArg
      else if l.bl ≤ 4095 ∧ 1024 ≤ l.w ∧ l.w ≤ 16383 ∧ l.bl < l.w ∧ l.tone.Pairwise (· ≤ ·) then
        if w.de.slotInUse slot.toNat then .refused .inUse
        else .taken { w with de := { w.de with looks := w.de.looks.set slot.toNat l.taken } } l.taken.bytes
      else .refused .badArg := by
    simp only [answerLookSet, lookOf_bytes slot l hbl hw hg hn ht, byteAt, List.getD_cons_zero]
    split
    · rfl
    · by_cases h : l.bl ≤ 4095 ∧ 1024 ≤ l.w ∧ l.w ≤ 16383 ∧ l.bl < l.w ∧ l.tone.Pairwise (· ≤ ·)
      · simp only [if_pos h]
      · simp only [if_neg h]
  split
  · next h =>
    refine request_turned .lookSet .badArg rfl hs hlen fun cp sent => ?_
    rw [Request.owner, howner]
    split
    · rfl
    · next h7 =>
      rw [if_neg]
      rintro ⟨h1, h2, h3, h4, h5⟩
      rcases h with h | h | h | h | h | h
      all_goals first | omega | exact h h5
  · next h =>
    simp only [not_or, Nat.not_lt, Nat.not_le, not_not] at h
    obtain ⟨h7, h1, h2, h3, h4, h5⟩ := h
    have hrange : ∀ w : Work, Request.lookSet.owner (slot :: l.bytes) w =
        if w.de.slotInUse slot.toNat then .refused .inUse
        else .taken { w with de := { w.de with looks := w.de.looks.set slot.toNat l.taken } } l.taken.bytes := fun w => by
      rw [Request.owner, howner, if_neg (Nat.not_lt.2 h7), if_pos ⟨h1, h2, h3, h4, h5⟩]
    split
    · next hj =>
      refine request_turned .lookSet .inUse rfl hs hlen fun cp sent => ?_
      rw [hrange, if_pos ((De.slotInUse_iff _ _).2 hj)]
    · next hj =>
      refine request_done .lookSet hs hlen rfl rfl (State.steady_congr rfl rfl hs.2.1) fun cp sent => ?_
      rw [hrange, if_neg fun hc => hj ((De.slotInUse_iff _ _).1 hc)]
      exact .taken (.done _)

/-- RECORDING_SET changes two settings of CW, and none of its slots. -/
theorem State.steady_recording {s : State} (p : Policy) (on : Bool) (h : s.steady) :
    ({ s with cw := { s.cw with policy := p, proofs := on } } : State).steady := h

/-- Settles O45. -/
theorem settingsAreReplaced : Obligations.SettingsAreReplaced := by
  intro tag s hs
  refine ⟨fun slot l hbl hw hg hn ht => lookSet_judged tag slot l s hs hbl hw hg hn ht, fun b => ?_, fun b c h => ?_,
    fun p on => ?_, fun b h => ?_, fun a => ?_⟩
  · have howner (w : Work) : answerDevelopAutoSet [b] w =
        if 1 < b.toNat then .refused .badArg
        else .taken { w with de := { w.de with auto := decide (b = 1) } } [flagByte (decide (b = 1))] := by
      rw [answerDevelopAutoSet, show byteAt [b] 0 = b from rfl, flagOf_eq]
      by_cases h : 1 < b.toNat
      · simp only [if_pos h]
      · simp only [if_neg h]
    split
    · next h =>
      refine request_turned .developAutoSet .badArg rfl hs rfl fun cp sent => ?_
      rw [Request.owner, howner, if_pos h]
    · next h =>
      refine request_done .developAutoSet (body := [b]) hs rfl rfl rfl (State.steady_congr rfl rfl hs.2.1)
        fun cp sent => ?_
      rw [Request.owner, howner, if_neg h, flagByte_eq h]
      exact .taken (.done _)
  · refine request_turned .recordingSet .badArg rfl hs rfl fun cp sent => ?_
    rw [Request.owner, answerRecordingSet, show byteAt [b, c] 0 = b from rfl, show byteAt [b, c] 1 = c from rfl]
    rcases h with h | h
    · rw [policyOf_none h]
    · rw [flagOf_none h]
      cases policyOf b <;> rfl
  · refine request_done .recordingSet hs rfl rfl rfl (State.steady_recording p on hs.2.1) fun cp sent => ?_
    rw [Request.owner, answerRecordingSet, show byteAt [p.byte, flagByte on] 0 = p.byte from rfl,
      show byteAt [p.byte, flagByte on] 1 = flagByte on from rfl, policyOf_byte, flagOf_flagByte]
    exact .taken (.done _)
  · refine request_turned .autoSendSet .badArg rfl hs rfl fun cp sent => ?_
    rw [Request.owner, answerAutoSendSet, show byteAt [b] 0 = b from rfl, autoSendOf_none h]
  · refine request_done .autoSendSet hs rfl rfl rfl (State.steady_congr rfl rfl hs.2.1) fun cp sent => ?_
    rw [Request.owner, answerAutoSendSet, show byteAt [a.byte] 0 = a.byte from rfl, autoSendOf_byte]
    exact .taken (.done _)

end Sys2Proof.Machine
end

section
/-! PROOF. What the operations of CW and TU leave of the shot table (R9, R16, R17): the develop duties and the engine, the
life and the chains of every row that is not HELD, and a table that was sound stays sound. -/

namespace Sys2Proof.Machine

/-! ### Rows after a change of one row -/

theorem Bm.row?_mapRow (b : Bm) (i j : Nat) {f : Row → Row} (hf : ∀ r, (f r).index = r.index) :
    (b.mapRow i f).row? j = (b.row? j).map fun r => if j = i then f r else r := by
  simp only [Bm.row?, Bm.mapRow, List.find?_map]
  have hp : ((fun r : Row => decide (r.index = j)) ∘ fun r => if r.index = i then f r else r) =
      fun r => decide (r.index = j) := by
    funext r
    simp only [Function.comp_apply]
    split <;> simp only [hf]
  rw [hp]
  refine Option.map_congr fun r hr => ?_
  have hj : r.index = j := by simpa using List.find?_some hr
  rw [hj]

theorem Bm.row?_index {b : Bm} {i : Nat} {r : Row} (h : b.row? i = some r) : r.index = i := (Bm.row?_some h).2

/-! ### The relation -/

/-- A row but for its duties of cards and tether and the class of its develop duty. -/
def Row.sansDuties (r : Row) : Row := { r with cls := .normal, cards := [], tethers := [] }

/-- A row after CW and TU have acted on its duties and BM has made its checks: a HELD row may have lost chains, and may have
settled. -/
structure Row.Served (r z : Row) : Prop where
  fixed : z.fixed = r.fixed
  develop : z.develop = r.develop
  apart : r.life ≠ .held → z.life = r.life ∧ z.raw = r.raw ∧ z.proof = r.proof
  held : r.life = .held → z.life = .held ∨
    (z.life = .settled ∧ z.raw = none ∧ z.proof = none ∧ z.develop.isFinal = true)
  proof : r.proof = none → z.proof = none

/-- The stopped flags of TU and of CW stay set. -/
structure Work.Stops (w v : Work) : Prop where
  tu : w.tu.stopped = true → v.tu.stopped = true
  cw : w.cw.stopped = true → v.cw.stopped = true

/-- CW and TU have acted: the engine stands, every row is served, and a stopped flag stays set. -/
structure Work.Served (w v : Work) : Prop where
  de : v.de = w.de
  rows : ∀ i, Option.Rel Row.Served (w.bm.row? i) (v.bm.row? i)
  sound : w.bm.sound → v.bm.sound
  stops : w.Stops v

theorem Row.Served.refl (r : Row) : r.Served r := ⟨rfl, rfl, fun _ => ⟨rfl, rfl, rfl⟩, .inl, id⟩

theorem Row.Served.trans {r y z : Row} (h : r.Served y) (g : y.Served z) : r.Served z where
  fixed := g.fixed.trans h.fixed
  develop := g.develop.trans h.develop
  apart hr := by
    obtain ⟨h1, h2, h3⟩ := h.apart hr
    obtain ⟨g1, g2, g3⟩ := g.apart (h1 ▸ hr)
    exact ⟨g1.trans h1, g2.trans h2, g3.trans h3⟩
  held hr := by
    rcases h.held hr with hy | ⟨hy, hraw, hproof, hfinal⟩
    · exact g.held hy
    · obtain ⟨g1, g2, g3⟩ := g.apart (by rw [hy]; decide)
      exact .inr ⟨g1.trans hy, g2.trans hraw, g3.trans hproof, g.develop ▸ hfinal⟩
  proof hr := g.proof (h.proof hr)

/-- What a row's life says of it stands. -/
theorem Row.Served.lifeOk {r z : Row} (h : r.Served z) (hr : r.lifeOk) : z.lifeOk := by
  cases hl : r.life with
  | held =>
    simp only [Row.lifeOk, hl] at hr
    rcases h.held hl with hz | ⟨hz, hraw, hproof, hfinal⟩
    · simp only [Row.lifeOk, hz]
      exact fun hd => h.proof (hr (h.develop ▸ hd))
    · simp only [Row.lifeOk, hz]
      exact ⟨hraw, hproof, hfinal⟩
  | exposing | pre | settled | void =>
    obtain ⟨h1, h2, h3⟩ := h.apart (by rw [hl]; decide)
    simpa only [Row.lifeOk, h1, h2, h3, h.develop, hl] using hr

theorem Work.Served.refl (w : Work) : w.Served w :=
  ⟨rfl, fun i => by cases w.bm.row? i <;> constructor; exact .refl _, id, id, id⟩

theorem Work.Served.trans {u v w : Work} (h : u.Served v) (g : v.Served w) : u.Served w where
  de := g.de.trans h.de
  rows i := by
    have h1 := h.rows i
    have h2 := g.rows i
    revert h1 h2
    generalize u.bm.row? i = a, v.bm.row? i = b, w.bm.row? i = c
    rintro (⟨hab⟩ | _) h2
    · obtain ⟨hbc⟩ := h2
      exact .some (hab.trans hbc)
    · cases h2
      exact .none
  sound hu := g.sound (h.sound hu)
  stops := ⟨fun hu => g.stops.tu (h.stops.tu hu), fun hu => g.stops.cw (h.stops.cw hu)⟩

section
variable {u v : Work}

/-- What neither the table nor the engine holds may change. -/
theorem Work.Served.set {w : Work} (h : u.Served v) (hde : w.de = v.de) (hbm : w.bm = v.bm) (hstops : v.Stops w) :
    u.Served w := h.trans ⟨hde, fun i => by rw [hbm]; exact (Work.Served.refl v).rows i, fun hs => by rw [hbm]; exact hs, hstops⟩

theorem Work.Served.foldl {α : Type} {f : Work → α → Work} (hf : ∀ {v} x, u.Served v → u.Served (f v x)) :
    ∀ (l : List α) {v : Work}, u.Served v → u.Served (l.foldl f v)
  | [], _, h => h
  | x :: l, _, h => Work.Served.foldl hf l (hf x h)

/-- A change of a row's duties of cards and tether, or of its class, alone. -/
theorem Work.Served.mapRow (h : u.Served v) (i : Nat) {f : Row → Row}
    (hf : ∀ r, (f r).sansDuties = r.sansDuties) : u.Served (v.mapRow i f) := by
  have hfix (r : Row) : (f r).fixed = r.fixed := (congrArg Row.fixed (hf r) :)
  have hraw (r : Row) : (f r).raw = r.raw := (congrArg Row.raw (hf r) :)
  have hproof (r : Row) : (f r).proof = r.proof := (congrArg Row.proof (hf r) :)
  have hlife (r : Row) : (f r).life = r.life := (congrArg Row.life (hf r) :)
  have hindex (r : Row) : (f r).index = r.index := (congrArg Row.index (hf r) :)
  have hrow (r : Row) : r.Served (f r) :=
    ⟨hfix r, (congrArg Row.develop (hf r) :), fun _ => ⟨hlife r, hraw r, hproof r⟩, fun hl => .inl ((hlife r).trans hl),
      fun hp => (hproof r).trans hp⟩
  refine h.trans ⟨rfl, fun j => ?_, fun hs => ?_, id, id⟩
  · rw [show (v.mapRow i f).bm = v.bm.mapRow i f from rfl, Bm.row?_mapRow _ _ _ hindex]
    cases v.bm.row? j with
    | none => exact .none
    | some r =>
      refine .some ?_
      split
      · exact hrow r
      · exact .refl r
  · exact Bm.mapRow_sound i hs hindex (fun r => (congrArg Row.number (hf r) :))
      fun r => by simp only [Row.pages, Row.pagesOf, hraw, hproof]

/-- Pages return to the free set with the row that loses them: what a release does beside it is a report (R16). -/
theorem Work.releaseRaw_bm (i : Nat) (w : Work) (h : (w.bm.row? i).bind Row.raw = none) : w.releaseRaw i = w := by
  simp only [Work.releaseRaw, h]

/-- A change of the HELD row with an index that leaves it served. -/
theorem Work.Served.mapHeld {w : Work} (h : u.Served v) {i : Nat} {r : Row} {f : Row → Row} (hr : v.bm.row? i = some r)
    (hf : ∀ x, (f x).index = x.index) (hs : r.Served (f r)) (hde : w.de = v.de)
    (hrows : w.bm.rows = (v.bm.mapRow i f).rows) (hsound : v.bm.sound → w.bm.sound) (hstops : v.Stops w) : u.Served w := by
  refine h.trans ⟨hde, fun j => ?_, hsound, hstops⟩
  have hj : w.bm.row? j = (v.bm.mapRow i f).row? j := by rw [Bm.row?, hrows, ← Bm.row?]
  rw [hj, Bm.row?_mapRow _ _ _ hf]
  cases hx : v.bm.row? j with
  | none => exact .none
  | some x =>
    refine .some ?_
    dsimp only
    split
    · next he =>
      subst he
      rw [hr] at hx
      cases hx
      exact hs
    · exact .refl x

/-- BM releases the raw chain of a HELD row (R16). -/
theorem Work.Served.releaseRaw (h : u.Served v) {i : Nat} {r : Row} (hr : v.bm.row? i = some r) (hl : r.life = .held) :
    u.Served (v.releaseRaw i) := by
  have hsound := fun hs => Work.releaseRaw_sound i (w := v) hs
  cases hc : r.raw with
  | none => rwa [Work.releaseRaw, hr, Option.bind_some, hc]
  | some c =>
    refine h.mapHeld (f := fun x => { x with raw := none }) hr (fun _ => rfl)
      ⟨rfl, rfl, fun hn => absurd hl hn, .inl, id⟩ ?_ ?_ hsound ?_
    all_goals simp only [Work.releaseRaw, hr, Option.bind_some, hc]
    exacts [rfl, rfl, ⟨id, id⟩]

/-- BM releases the proof chain of a HELD row (R16). -/
theorem Work.Served.releaseProof (h : u.Served v) {i : Nat} {r : Row} (hr : v.bm.row? i = some r) (hl : r.life = .held) :
    u.Served (v.releaseProof i) := by
  have hsound := fun hs => Work.releaseProof_sound i (w := v) hs
  cases hc : r.proof with
  | none => rwa [Work.releaseProof, hr, Option.bind_some, hc]
  | some c =>
    refine h.mapHeld (f := fun x => { x with proof := none }) hr (fun _ => rfl)
      ⟨rfl, rfl, fun hn => absurd hl hn, .inl, fun _ => rfl⟩ ?_ ?_ hsound ?_
    all_goals simp only [Work.releaseProof, hr, Option.bind_some, hc]
    exacts [rfl, rfl, ⟨id, id⟩]

end

end Sys2Proof.Machine
end

section
/-! PROOF. The operations of CW and TU one by one: each serves the table (R16, R17, R124 to R147, R152 to R174). -/

namespace Sys2Proof.Machine

section
variable {u v : Work}

/-! ### The checks of BM (R16, R17) -/

theorem Work.Served.releaseCheck (h : u.Served v) (i : Nat) : u.Served (v.releaseCheck i) := by
  unfold Work.releaseCheck
  split
  · next r hr =>
    split
    · next hl =>
      dsimp only
      have hraw : u.Served (if r.rawRead then v else v.releaseRaw i) := by
        split
        · exact h
        · exact h.releaseRaw hr hl
      split
      · exact hraw
      · -- the row is HELD still, with or without its raw chain
        split
        · exact h.releaseProof hr hl
        · have hsome : ∃ z, (v.releaseRaw i).bm.row? i = some z ∧ z.life = .held := by
            unfold Work.releaseRaw
            split
            · refine ⟨{ r with raw := none }, ?_, hl⟩
              show (v.bm.mapRow i fun r => { r with raw := none }).row? i = _
              rw [Bm.row?_mapRow (f := fun r => { r with raw := none }) _ _ _ fun _ => rfl, hr, Option.map_some, if_pos rfl]
            · exact ⟨r, hr, hl⟩
          obtain ⟨z, hz, hzl⟩ := hsome
          exact (h.releaseRaw hr hl).releaseProof hz hzl
    · exact h
  · exact h

/-- A row that settles has neither a chain nor a duty that is not final (R17). -/
theorem Row.settles_iff (r : Row) :
    r.settles = true ↔ r.life = .held ∧ r.openDuties = 0 ∧ r.raw = none ∧ r.proof = none := by
  simp only [Row.settles, Bool.and_eq_true, decide_eq_true_eq, Option.isNone_iff_eq_none, and_assoc]

theorem Row.develop_final_of_openDuties {r : Row} (h : r.openDuties = 0) : r.develop.isFinal = true := by
  by_contra hf
  rw [Row.openDuties, if_neg hf] at h
  omega

theorem Work.Served.settleCheck (h : u.Served v) (i : Nat) : u.Served (v.settleCheck i) := by
  unfold Work.settleCheck
  split
  · next r hr =>
    split
    · next hset =>
      obtain ⟨hl, hopen, hraw, hproof⟩ := r.settles_iff.1 hset
      have hrow : r.Served { r with life := .settled, outcome := some r.settledOutcome } :=
        ⟨rfl, rfl, fun hn => absurd hl hn, fun _ => .inr ⟨rfl, hraw, hproof, Row.develop_final_of_openDuties hopen⟩, id⟩
      exact h.mapHeld (f := fun x => { x with life := .settled, outcome := some r.settledOutcome }) hr (fun _ => rfl) hrow
        rfl rfl (fun hs => Bm.mapRow_sound i hs (fun _ => rfl) (fun _ => rfl) fun _ => rfl) ⟨id, id⟩
    · exact h
  · exact h

theorem Work.Served.check (h : u.Served v) (i : Nat) : u.Served (v.check i) := (h.releaseCheck i).settleCheck i

/-! ### CW: slots and duties -/

theorem Work.Served.post (h : u.Served v) (r : Report) : u.Served (v.post r) := h.set rfl rfl ⟨id, id⟩
theorem Work.Served.raise (h : u.Served v) (k : Notice) (s : List Byte) : u.Served (v.raise k s) := h.set rfl rfl ⟨id, id⟩
theorem Work.Served.emit (h : u.Served v) (o : Output) : u.Served (v.emit o) := h.set rfl rfl ⟨id, id⟩

theorem Work.Served.mapSlot (h : u.Served v) (s : SlotId) (f : Slot → Slot) : u.Served (v.mapSlot s f) := by
  cases s <;> exact h.set rfl rfl ⟨id, id⟩

theorem Work.Served.slotChanged (h : u.Served v) : u.Served v.slotChanged := h.raise _ _

theorem Work.Served.enterSlot (h : u.Served v) (s : SlotId) (st : SlotState) : u.Served (v.enterSlot s st) := by
  unfold Work.enterSlot
  split
  · exact h
  · exact (h.mapSlot _ _).slotChanged

theorem Work.Served.mapDuty (h : u.Served v) (d : DutyRef) (f : CardDuty → CardDuty) : u.Served (v.mapDuty d f) :=
  h.mapRow _ fun _ => rfl

theorem Work.Served.setExtents (h : u.Served v) (s : SlotId) (q : List Piece) : u.Served (v.setExtents s q) := by
  unfold Work.setExtents
  dsimp only
  split
  · exact (h.mapSlot _ _).raise _ _
  · exact h.mapSlot _ _

theorem Work.Served.startRun (h : u.Served v) (s : SlotId) : u.Served (v.startRun s) := by
  unfold Work.startRun
  split
  · split
    · split
      · exact h.mapSlot _ _
      · exact h
    · exact h
  · exact h

theorem Work.Served.startRead (h : u.Served v) (s : SlotId) : u.Served (v.startRead s) := by
  unfold Work.startRead
  split
  · split
    · exact h
    · exact h.mapSlot _ _
  · exact h

theorem Work.Served.walk (s : SlotId) : ∀ (q : List DutyRef) {v : Work}, u.Served v → u.Served (Work.walk s q v).2
  | [], _, h => h
  | d :: q, v, h => by
    unfold Work.walk
    split
    · split
      · exact h
      · refine Work.Served.walk s q ?_
        split
        · exact h.mapDuty _ _
        · exact h
    · exact Work.Served.walk s q h

theorem Work.Served.beginChain (h : u.Served v) (s : SlotId) (d : DutyRef) : u.Served (v.beginChain s d) := by
  unfold Work.beginChain
  split
  · exact (((h.mapDuty _ _).setExtents _ _).mapSlot _ _).startRun _
  · exact h

/-- What a walk over the write queue finds, it finds in a table that is served. -/
theorem Work.Served.of_walk (h : u.Served v) {s : SlotId} {q : List DutyRef} {o : Option DutyRef} {w : Work}
    (hw : Work.walk s q v = (o, w)) : u.Served w := by
  have := Work.Served.walk s q h
  rwa [hw] at this

theorem Work.Served.selectDuty (h : u.Served v) (s : SlotId) : u.Served (v.selectDuty s) := by
  unfold Work.selectDuty
  split
  · split
    · next hw => exact ((h.of_walk hw).beginChain _ _).slotChanged
    · next hw => exact h.of_walk hw
  · exact h

theorem Work.Served.afterChain (h : u.Served v) (s : SlotId) : u.Served (v.afterChain s) := by
  unfold Work.afterChain
  split
  · split
    · next hw =>
      split
      · exact (h.of_walk hw).beginChain _ _
      · exact ((h.of_walk hw).beginChain _ _).slotChanged
    · next hw => exact ((h.of_walk hw).enterSlot _ _).startRead _
  · exact (h.enterSlot _ _).startRead _

theorem Work.Served.addCard (h : u.Served v) (i : Nat) (s : SlotId) (c : Chain) (st : CardState) (again : Bool) :
    u.Served (v.addCard i s c st again) := h.mapRow _ fun _ => rfl

theorem Work.Served.storeFail (h : u.Served v) (d : DutyRef) (cause : CardCause) (spoiled : Bool) :
    u.Served (v.storeFail d cause spoiled) := by
  unfold Work.storeFail
  split
  · split
    · exact h
    · dsimp only
      split
      · exact (((h.mapDuty _ _).raise _ _).addCard _ _ _ _ _).mapSlot _ _
      · exact (h.mapDuty _ _).raise _ _
  · exact h

theorem Work.Served.failDuty (h : u.Served v) (d : DutyRef) (cause : CardCause) (spoiled : Bool) :
    u.Served (v.failDuty d cause spoiled) := by
  unfold Work.failDuty
  split
  · dsimp only
    split
    · exact ((h.storeFail _ _ _).check _).selectDuty _
    · exact (h.storeFail _ _ _).check _
  · exact h

theorem Work.Served.firstState (h : u.Served v) (d : DutyRef) : u.Served (v.firstState d) := by
  unfold Work.firstState
  split
  · split
    · exact (h.mapDuty _ _).mapSlot _ _
    · exact (h.mapDuty _ _).mapSlot _ _
    · exact ((h.mapDuty _ _).mapSlot _ _).selectDuty _
    · exact ((h.mapDuty _ _).mapSlot _ _).selectDuty _
    · exact ((h.mapDuty _ _).mapSlot _ _).selectDuty _
    · exact h.storeFail _ _ _
    · exact h.storeFail _ _ _
  · exact h

theorem Work.Served.unlist (h : u.Served v) (d : DutyRef) : u.Served (v.unlist d) := by
  unfold Work.unlist
  split
  · exact h.mapSlot _ _
  · exact h

theorem Work.Served.failQueue (h : u.Served v) (s : SlotId) (cause : CardCause) : u.Served (v.failQueue s cause) := by
  unfold Work.failQueue
  split
  · exact h
  · exact .foldl (fun _ hv => hv.failDuty _ _ _) _ (h.mapSlot _ _)

theorem Work.Served.giveUp (h : u.Served v) (s : SlotId) (cause : CardCause) : u.Served (v.giveUp s cause) := by
  unfold Work.giveUp
  split
  · exact h
  · refine .foldl (fun d hv => ?_) _ (h.mapSlot _ _)
    split
    · split
      · exact hv.failDuty _ _ _
      · exact (hv.mapDuty _ _).mapSlot _ _
    · exact hv

/-! ### CW: reads, runs, stops and removals -/

theorem Work.Served.failReads (h : u.Served v) (s : SlotId) : u.Served (v.failReads s) := by
  unfold Work.failReads
  refine .foldl (fun _ hv => hv.post _) _ (Work.Served.mapSlot ?_ _ _)
  split
  · exact (h.mapSlot _ _).post _
  · exact h.mapSlot _ _
  · exact h
  · exact h

theorem Work.Served.suspend (h : u.Served v) (s : SlotId) : u.Served (v.suspend s) :=
  ((h.mapSlot _ _).enterSlot _ _).startRead _

theorem Work.Served.resume (h : u.Served v) (s : SlotId) : u.Served (v.resume s) :=
  ((h.mapSlot _ _).enterSlot _ _).startRun _

theorem Work.Served.askRead (h : u.Served v) (s : SlotId) (r : ReadRequest) : u.Served (v.askRead s r) := by
  unfold Work.askRead
  dsimp only
  cases (v.cw.slot s).state with
  | absent | present | fault => exact h.post _
  | ready | locked =>
    dsimp only
    split_ifs
    · exact h.post _
    · exact (h.mapSlot _ _).startRead _
  | writing | suspended =>
    dsimp only
    split_ifs
    · exact h.post _
    · exact h.mapSlot _ _

theorem Work.Served.readEnd (h : u.Served v) (s : SlotId) (data : Option (List Byte)) : u.Served (v.readEnd s data) := by
  unfold Work.readEnd
  split
  · next r wanted _ =>
    have hp : u.Served (if wanted then (v.mapSlot s fun x => { x with op := .idle }).post (.readEnded r.buffer data)
        else v.mapSlot s fun x => { x with op := .idle }) := by
      split
      · exact (h.mapSlot _ _).post _
      · exact h.mapSlot _ _
    dsimp only
    split
    · split
      · exact hp.resume _
      · exact (hp.mapSlot _ _).startRead _
    · exact (hp.selectDuty _).startRead _
    · exact hp.startRead _
    all_goals exact hp
  · exact h
  · exact h

theorem Work.Served.readArrives (h : u.Served v) (s : SlotId) (data : List Byte) : u.Served (v.readArrives s data) := by
  unfold Work.readArrives
  split
  · split
    · exact h.readEnd _ _
    · exact h
  · exact h
  · exact h

theorem Work.Served.detachActs (h : u.Served v) (s : SlotId) : u.Served (v.detachActs s) :=
  ((((h.failReads _).giveUp _ _).setExtents _ _).mapSlot _ _).enterSlot _ _

theorem Work.Served.enterLocked (h : u.Served v) (s : SlotId) : u.Served (v.enterLocked s) :=
  ((h.enterSlot _ _).failQueue _ _).startRead _

theorem Work.Served.enterFault (h : u.Served v) (s : SlotId) : u.Served (v.enterFault s) :=
  ((h.enterSlot _ _).failQueue _ _).failReads _

theorem Work.Served.nextSlot (h : u.Served v) (s : SlotId) : u.Served (v.nextSlot s) := by
  have hm := h.mapSlot s fun x => { x with stops := [] }
  unfold Work.nextSlot
  dsimp only
  split
  · exact hm.detachActs _
  · split
    · exact hm.enterFault _
    · split
      · exact hm.enterLocked _
      · split
        · exact hm.enterSlot _ _
        · split
          · split
            · exact hm.suspend _
            · exact hm.startRun _
          · exact hm.afterChain _

theorem Work.Served.decideRun (h : u.Served v) (s : SlotId) (done failed : Bool) :
    u.Served (v.decideRun s done failed) := by
  unfold Work.decideRun
  dsimp only
  split
  · split
    · exact ((((h.mapSlot _ _).mapDuty _ _).check _).post _).nextSlot _
    · split
      · exact ((h.mapSlot _ _).failDuty _ _ _).nextSlot _
      · split
        · exact ((h.mapSlot _ _).failDuty _ _ _).nextSlot _
        · exact h.nextSlot _
  · exact h

theorem Work.Served.runEnd (h : u.Served v) (s : SlotId) (fail : Option FailKind) : u.Served (v.runEnd s fail) := by
  unfold Work.runEnd
  split
  · dsimp only
    split
    · exact ((h.mapSlot _ _).mapSlot _ _).decideRun _ _ _
    · exact ((h.mapSlot _ _).mapSlot _ _).decideRun _ _ _
  · exact h

theorem Work.Served.runSourceLost (h : u.Served v) (s : SlotId) : u.Served (v.runSourceLost s) := by
  unfold Work.runSourceLost
  split
  · exact ((h.mapSlot _ _).failDuty _ _ _).nextSlot _
  · exact h

theorem Work.Served.askStop (h : u.Served v) (s : SlotId) (c : Stop) : u.Served (v.askStop s c) := by
  unfold Work.askStop
  dsimp only
  split
  · exact (h.mapSlot _ _).decideRun _ _ _
  · exact h.mapSlot _ _

theorem Work.Served.lockLine (h : u.Served v) (s : SlotId) (on : Bool) : u.Served (v.lockLine s on) := by
  have hm := h.mapSlot s fun x => { x with lockOn := on }
  unfold Work.lockLine
  dsimp only
  split
  · exact h
  · split
    · split
      · exact hm.enterLocked _
      · exact hm
    · split
      · exact hm.askStop _ _
      · exact hm.mapSlot _ _
    · split
      · exact hm.askStop _ _
      · exact hm.mapSlot _ _
    · split
      · exact hm
      · exact ((hm.enterSlot _ _).selectDuty _).startRead _
    all_goals exact hm

theorem Work.Served.removeCard (h : u.Served v) (s : SlotId) : u.Served (v.removeCard s) := by
  unfold Work.removeCard
  dsimp only
  refine Work.Served.enterSlot (Work.Served.mapSlot (Work.Served.setExtents (Work.Served.giveUp
    (Work.Served.failReads ?_ _) _ _) _ _) _ _) _ _
  split
  · refine Work.Served.failDuty (Work.Served.mapSlot ?_ _ _) _ _ _
    split
    · exact h.mapSlot _ _
    all_goals exact h
  · split
    · exact h.mapSlot _ _
    all_goals exact h

theorem Work.Served.cardLine (h : u.Served v) (s : SlotId) (inserted : Bool) : u.Served (v.cardLine s inserted) := by
  unfold Work.cardLine
  dsimp only
  split
  · exact h
  · split
    · split
      · exact (h.mapSlot _ _).enterSlot _ _
      · exact h.mapSlot _ _
    · exact (h.mapSlot _ _).removeCard _

theorem Work.Served.serveWaiting (h : u.Served v) (s : SlotId) : u.Served (v.serveWaiting s) := by
  unfold Work.serveWaiting
  dsimp only
  split
  · exact h
  · split
    · exact Work.Served.selectDuty (.foldl (fun _ hv => (hv.mapDuty _ _).mapSlot _ _) _ (h.mapSlot _ _)) _
    · exact .foldl (fun _ hv => hv.failDuty _ _ _) _ (h.mapSlot _ _)

theorem Work.Served.proofExists (h : u.Served v) (i : Nat) : u.Served (v.proofExists i) := by
  unfold Work.proofExists
  split
  · refine .foldl (fun d hv => ?_) _ h
    split
    · split
      · exact (hv.firstState _).check _
      · exact hv
    · exact hv
  · exact h

theorem Work.Served.cardProofLost (h : u.Served v) (i : Nat) : u.Served (v.cardProofLost i) := by
  unfold Work.cardProofLost
  split
  · refine .foldl (fun d hv => ?_) _ h
    split
    · split
      · exact (hv.unlist _).failDuty _ _ _
      · exact hv
    · exact hv
  · exact h

theorem Work.Served.discardCards (h : u.Served v) (i : Nat) : u.Served (v.discardCards i) := by
  unfold Work.discardCards
  split
  · refine .foldl (fun d hv => ?_) _ h
    split
    · split
      · exact hv.askStop _ _
      · split
        · exact hv
        · exact (hv.unlist _).failDuty _ _ _
    · exact hv
  · exact h

theorem Work.Served.cardWarning (h : u.Served v) : u.Served v.cardWarning := by
  unfold Work.cardWarning
  dsimp only
  have hstop (w : Work) (s : SlotId) (hw : u.Served w) :
      u.Served (if (w.cw.slot s).writing.isSome then w.askStop s .power else w) := by
    split
    · exact hw.askStop _ _
    · exact hw
  have ha := hstop { v with cw := ({ v.cw with stopped := true } : Cw).mapBoth Slot.dropReads } .a (h.set rfl rfl ⟨id, fun _ => rfl⟩)
  exact hstop _ .b ha

end

end Sys2Proof.Machine
end

section
/-! PROOF. The operations of TU one by one: each but the joining of an entry serves the table (R149 to R174). -/

namespace Sys2Proof.Machine

section
variable {u v : Work}

/-! ### The link and the frames -/

theorem Work.Served.bump (h : u.Served v) (k : CounterKind) : u.Served (v.bump k) := by
  unfold Work.bump
  dsimp only
  split
  · exact (h.set (w := { v with tu := { v.tu with counters := v.tu.counters.rise k } }) rfl rfl ⟨id, id⟩).raise _ _
  · exact h.set rfl rfl ⟨id, id⟩

theorem Work.Served.enterLink (h : u.Served v) (l : Link) : u.Served (v.enterLink l) := by
  unfold Work.enterLink
  split
  · exact h
  · exact (h.set (w := { v with tu := { v.tu with link := l } }) rfl rfl ⟨id, id⟩).raise _ _

/-- A change of TU alone. -/
theorem Work.Served.setTu (h : u.Served v) (t : Tu) (ht : v.tu.stopped = true → t.stopped = true) :
    u.Served { v with tu := t } := h.set rfl rfl ⟨ht, id⟩

theorem Work.Served.sendTo (h : u.Served v) (dst : BitVec 48) (kind : Byte) (fields : List Byte) :
    u.Served (v.sendTo dst kind fields) := h.emit _

theorem Work.Served.sendDesk (h : u.Served v) (kind : Byte) (fields : List Byte) : u.Served (v.sendDesk kind fields) :=
  h.sendTo _ _ _

theorem Work.Served.sendHello (h : u.Served v) : u.Served v.sendHello := h.sendTo _ _ _

theorem Work.Served.enterUnbound (h : u.Served v) : u.Served v.enterUnbound := by
  unfold Work.enterUnbound
  dsimp only
  split
  · exact (h.setTu _ (by exact id)).enterLink _
  · exact (((h.setTu _ (by exact id)).enterLink _).setTu _ (by exact id)).sendHello

/-! ### The send queue -/

theorem Work.Served.mapTether (h : u.Served v) (i : Nat) (c : Chain) (f : TetherDuty → TetherDuty) :
    u.Served (v.mapTether i c f) := h.mapRow _ fun _ => rfl

theorem Work.Served.mirror (h : u.Served v) (e : Entry) : u.Served (v.mirror e) := by
  unfold Work.mirror
  split
  · exact (h.mapTether _ _ _).check _
  · exact h

theorem Work.Served.endEntry (h : u.Served v) (e : Entry) (st : TetherState) (cause : Option TetherCause) :
    u.Served (v.endEntry e st cause) := by
  have hrow (w : Work) (hw : u.Served w) : u.Served (match e.row with
      | some i => (w.mapTether i e.chain fun d => { d with state := st, cause := cause }).check i
      | none => w) := by
    split
    · exact (hw.mapTether _ _ _).check _
    · exact hw
  have hq := hrow _ (h.setTu (v.tu.dropEntry e.number e.chain) id)
  unfold Work.endEntry
  dsimp only
  split
  · exact hq.raise _ _
  · exact hq.raise _ _
  · exact hq

theorem Work.Served.demote (h : u.Served v) (e : Entry) : u.Served (v.demote e) := by
  unfold Work.demote
  split
  · split
    · split
      · exact (h.setTu _ (by exact id)).mirror _
      · exact h
    · exact h
  · exact h

theorem Work.Served.demoteAll (h : u.Served v) : u.Served v.demoteAll := .foldl (fun _ hv => hv.demote _) _ h

/-! ### Reads and transfers -/

theorem Work.Served.askOne (h : u.Served v) {w : Work} (hw : v.askOne = some w) : u.Served w := by
  unfold Work.askOne at hw
  split at hw
  · dsimp only at hw
    split at hw
    · split at hw
      · cases hw
      · cases hw
        exact (h.setTu _ (by exact id)).askRead _ _
    · cases hw
  · cases hw

theorem Work.Served.askReads : ∀ (k : Nat) {v : Work}, u.Served v → u.Served (Work.askReads k v)
  | 0, _, h => h
  | k + 1, v, h => by
    unfold Work.askReads
    split
    · next hw => exact Work.Served.askReads k (h.askOne hw)
    · exact h

theorem Work.Served.updateWait (h : u.Served v) : u.Served v.updateWait := h.setTu _ (by exact id)

theorem Work.Served.startTransfer (h : u.Served v) (e : Entry) : u.Served (v.startTransfer e) := by
  unfold Work.startTransfer
  exact (Work.Served.askReads 8 (((((h.setTu _ (by exact id)).mirror _).setTu _ (by exact id)).sendDesk _ _).enterLink _)).updateWait

theorem Work.Served.selectEntry (h : u.Served v) : u.Served v.selectEntry := by
  unfold Work.selectEntry
  split
  · split
    · exact h.startTransfer _
    · exact h
  · exact h

theorem Work.Served.sendData (h : u.Served v) : u.Served v.sendData := by
  unfold Work.sendData
  split
  · split
    · split
      · exact ((h.sendDesk _ _).setTu _ (by exact id)).updateWait
      · exact h
    · exact h
  · exact h

theorem Work.Served.returnEntry (h : u.Served v) (e : Entry) (front early : Bool) : u.Served (v.returnEntry e front early) := by
  unfold Work.returnEntry
  dsimp only
  split
  · exact ((h.setTu _ (by exact id)).mirror _).demote _
  · exact (h.setTu _ (by exact id)).mirror _

theorem Work.Served.settleEntry (h : u.Served v) (x : TransferEnd) (e : Entry) : u.Served (v.settleEntry x e) := by
  unfold Work.settleEntry
  cases x with
  | good | rejected | sourceLost | reset | cancel => exact h.endEntry _ _ _
  | underrun | timeout | linkDown | deskLoss | disable | warning => exact h.returnEntry _ _ _

theorem Work.Served.linkAfter (h : u.Served v) (x : TransferEnd) : u.Served (v.linkAfter x) := by
  cases x with
  | good | rejected | sourceLost | underrun | cancel => exact (h.enterLink _).post _
  | timeout => exact h.enterUnbound
  | warning => exact h.enterLink _
  | linkDown | deskLoss | disable | reset => exact h

theorem Work.Served.endTransfer (h : u.Served v) (x : TransferEnd) : u.Served (v.endTransfer x) := by
  unfold Work.endTransfer
  split
  · next t e _ _ =>
    have h1 : u.Served (match x.abort with
        | some c => v.sendDesk 0x09 (leBytes 2 t.id ++ [c.byte])
        | none => v) := by
      split
      · exact h.sendDesk _ _
      · exact h
    have h2 (w : Work) (hw : u.Served w) : u.Served (match x.counter with
        | some k => w.bump k
        | none => w) := by
      split
      · exact hw.bump _
      · exact hw
    exact ((h2 _ (h1.setTu _ (by exact id))).settleEntry _ _).linkAfter _
  · exact h

theorem Work.Served.sendLost (h : u.Served v) : u.Served v.sendLost := by
  unfold Work.sendLost
  split
  · split
    · exact h.endTransfer _
    · exact h
  · exact h

theorem Work.Served.ackExpires (h : u.Served v) : u.Served v.ackExpires := by
  unfold Work.ackExpires
  split
  · split
    · dsimp only
      split
      · exact ((h.setTu _ (by exact id)).bump _).endTransfer _
      · split
        · exact (((h.setTu _ (by exact id)).bump _).setTu _ (by exact id)).updateWait
        · exact ((h.setTu _ (by exact id)).bump _).sendDesk _ _
        all_goals exact (h.setTu _ (by exact id)).bump _
    · exact h
  · exact h

theorem Work.Served.takeAck (h : u.Served v) (id offset : Nat) : u.Served (v.takeAck id offset) := by
  unfold Work.takeAck
  split
  · split
    · exact h
    · split
      · exact h.bump _
      · split
        · exact h
        · split
          · exact h.bump _
          · dsimp only
            have hreads := fun (t : Tu) (ht : v.tu.stopped = true → t.stopped = true) => Work.Served.askReads 8 (h.setTu t ht)
            split
            · refine ((((hreads _ ?_).setTu _ ?_).sendDesk _ _).enterLink _).updateWait <;> exact fun hs => hs
            · exact (hreads _ (by exact fun hs => hs)).updateWait
  · exact h

theorem Work.Served.restartTransfer (h : u.Served v) (t : Transfer) : u.Served (v.restartTransfer t) := by
  unfold Work.restartTransfer
  exact (Work.Served.askReads 8 ((((h.bump _).setTu _ (by exact id)).sendDesk _ _).enterLink _)).updateWait

theorem Work.Served.takeFinack (h : u.Served v) (id : Nat) (good : Bool) : u.Served (v.takeFinack id good) := by
  unfold Work.takeFinack
  split
  · split
    · exact h
    · split
      · exact h.endTransfer _
      · split
        · exact h.restartTransfer _
        · exact h.endTransfer _
  · exact h

theorem Work.Served.takeRead (h : u.Served v) (b : Nat) (data : Option (List Byte)) : u.Served (v.takeRead b data) := by
  unfold Work.takeRead
  dsimp only
  split
  · exact h.setTu _ (by exact id)
  · exact (h.setTu _ (by exact id)).endTransfer _
  · exact Work.Served.askReads 8 (h.setTu _ (by exact id))
  · exact h

/-! ### Timers, PHY, power and reset -/

theorem Work.Served.deskExpires (h : u.Served v) : u.Served v.deskExpires := by
  unfold Work.deskExpires
  split
  · exact (h.endTransfer _).enterUnbound
  · exact h

theorem Work.Served.underrunExpires (h : u.Served v) : u.Served v.underrunExpires := by
  unfold Work.underrunExpires
  split
  · exact h.endTransfer _
  · exact h

theorem Work.Served.helloExpires (h : u.Served v) : u.Served v.helloExpires := by
  unfold Work.helloExpires
  split
  · exact h.sendHello
  · exact h

theorem Work.Served.cancelEntry (h : u.Served v) (e : Entry) : u.Served (v.cancelEntry e) := by
  unfold Work.cancelEntry
  split
  · exact h.endTransfer _
  · exact h.endEntry _ _ _

theorem Work.Served.discardTethers (h : u.Served v) (i : Nat) : u.Served (v.discardTethers i) := by
  refine .foldl (fun e hv => ?_) _ h
  split
  · exact hv.cancelEntry _
  · exact hv

theorem Work.Served.tetherProofLost (h : u.Served v) (i : Nat) : u.Served (v.tetherProofLost i) := by
  refine .foldl (fun e hv => ?_) _ h
  split
  · split
    · exact hv.endTransfer _
    · exact hv.endEntry _ _ _
  · exact hv

theorem Work.Served.failFull (h : u.Served v) (i n prio : Nat) (src : Source) : u.Served (v.failFull i n prio src) := by
  have hrow (d : TetherDuty) : u.Served (v.mapRow i fun r => { r with tethers := r.tethers ++ [d] }) :=
    h.mapRow i fun _ => rfl
  exact (hrow _).raise _ _

theorem Work.Served.linkDown (h : u.Served v) : u.Served v.linkDown := ((h.endTransfer _).setTu _ (by exact id)).enterLink _

theorem Work.Served.phyDown (h : u.Served v) : u.Served v.phyDown := by
  have hp : u.Served { v with pins := { v.pins with phyUp := false } } := h.set rfl rfl ⟨id, id⟩
  unfold Work.phyDown
  dsimp only
  split
  any_goals exact hp.linkDown
  all_goals exact hp

theorem Work.Served.phyUp (h : u.Served v) : u.Served v.phyUp := by
  have hp : u.Served { v with pins := { v.pins with phyUp := true } } := h.set rfl rfl ⟨id, id⟩
  unfold Work.phyUp
  dsimp only
  split
  · exact hp.enterUnbound
  · exact hp

theorem Work.Served.tetherWake (h : u.Served v) : u.Served v.tetherWake := by
  unfold Work.tetherWake
  split
  · exact h.enterUnbound
  · exact h

theorem Work.Served.tetherHalt (h : u.Served v) : u.Served v.tetherHalt := by
  unfold Work.tetherHalt
  dsimp only
  split
  · exact (h.endTransfer _).setTu _ (by exact id)
  · exact (((h.endTransfer _).setTu _ (by exact id)).setTu _ (by exact id)).enterLink _

theorem Work.Served.tetherWarning (h : u.Served v) : u.Served v.tetherWarning := by
  unfold Work.tetherWarning
  exact ((h.setTu _ fun _ => rfl).endTransfer _).setTu _ (by exact id)

theorem Work.Served.disableTether (h : u.Served v) : u.Served v.disableTether :=
  ((h.endTransfer _).setTu _ (by exact id)).enterLink _

theorem Work.Served.resetTether (h : u.Served v) : u.Served v.resetTether := by
  unfold Work.resetTether
  refine Work.Served.enterLink ?_ _
  exact (Work.Served.foldl (fun _ hv => hv.endEntry _ _ _) _ (h.endTransfer .reset)).set rfl rfl ⟨id, id⟩

/-! ### What TU and CW take of a report -/

theorem Work.Served.takeReclaim (h : u.Served v) (up : Bool) : u.Served (v.takeReclaim up) := by
  unfold Work.takeReclaim
  dsimp only
  split
  · exact (h.setTu _ (by exact id)).demoteAll
  · exact h.setTu _ (by exact id)

theorem Work.Served.takeCardDone (h : u.Served v) (i : Nat) (c : Chain) : u.Served (v.takeCardDone i c) := by
  unfold Work.takeCardDone
  split
  · refine .foldl (fun e hv => ?_) _ h
    split
    · exact hv.demote _
    · exact hv
  · exact h

theorem Work.Served.takeDevelop (h : u.Served v) (i : Nat) : u.Served (v.takeDevelop i) := by
  unfold Work.takeDevelop
  split
  · exact h.selectEntry.updateWait
  · exact h

/-! ### Frames of the desk -/

theorem Work.Served.takeBind (h : u.Served v) (src : BitVec 48) : u.Served (v.takeBind src) := by
  unfold Work.takeBind
  split
  · exact (((h.setTu _ (by exact id)).enterLink _).setTu _ (by exact id)).post _
  · exact h

theorem Work.Served.raiseEntry (h : u.Served v) (e : Entry) : u.Served (v.raiseEntry e) := by
  unfold Work.raiseEntry
  split
  · exact ((h.setTu _ (by exact id)).mirror _).post _
  · exact h

theorem Work.Served.refuseRequest (h : u.Served v) (n : Nat) (chain : Byte) (code : Result) :
    u.Served (v.refuseRequest n chain code) := (h.sendDesk _ _).raise _ _

end

end Sys2Proof.Machine
end

section
/-! PROOF. The shot table and the jobs of DE: what keeps them sound, row by row (R7, R8, R16, R17, R93, R97). -/

namespace Sys2Proof.Machine

/-! ### The table read through its indices -/

/-- What the sound table says of its rows and of the queue of jobs. -/
structure State.rowsOk (s : State) : Prop where
  sound : s.bm.sound
  life : ∀ i r, s.bm.row? i = some r → r.lifeOk
  waits : s.de.engine ≠ .stopped → ∀ i r, s.bm.row? i = some r → r.develop = .pending → r.proof = none
  queued : s.de.engine ≠ .stopped → ∀ i ∈ s.de.urgent ++ s.de.normal, ∃ r, s.bm.row? i = some r ∧ r.develop = .pending

/-- What it says of the running job. -/
def State.jobOk (s : State) : Prop :=
  ∀ j, s.de.job = some j → s.de.engine ≠ .stopped ∧ ∃ r, s.bm.row? j.row = some r ∧ r.develop = .running

theorem State.tableOk_iff (s : State) : s.tableOk ↔ s.rowsOk ∧ s.jobOk := by
  constructor
  · rintro ⟨hi, hn, hp, hl, hq, hj⟩
    exact ⟨⟨⟨hi, hn, hp⟩, fun i r hr => hl r (Bm.row?_some hr).1,
      fun he i r hr => (hq he).1 r (Bm.row?_some hr).1, fun he => (hq he).2⟩, hj⟩
  · rintro ⟨⟨⟨hi, hn, hp⟩, hl, hw, hq⟩, hj⟩
    exact ⟨hi, hn, hp, fun r hr => hl _ r (Bm.row?_of_mem hi.1 hr),
      fun he => ⟨fun r hr => hw he _ r (Bm.row?_of_mem hi.1 hr), hq he⟩, hj⟩

/-! ### Where the table and the engine stand -/

theorem State.rowsOk.set {s t : State} (h : s.rowsOk) (hbm : t.bm = s.bm)
    (hengine : t.de.engine = s.de.engine) (hurgent : t.de.urgent = s.de.urgent)
    (hnormal : t.de.normal = s.de.normal) : t.rowsOk := by
  obtain ⟨h1, h2, h3, h4⟩ := h
  rw [← hbm] at h1 h2 h3 h4
  rw [← hengine] at h3 h4
  rw [← hurgent, ← hnormal] at h4
  exact ⟨h1, h2, h3, h4⟩

theorem State.jobOk.set {s t : State} (h : s.jobOk) (hbm : t.bm = s.bm)
    (hengine : t.de.engine = s.de.engine)
    (hjob : ∀ j, t.de.job = some j → ∃ k, s.de.job = some k ∧ k.row = j.row) :
    t.jobOk := fun j hj => by
  obtain ⟨k, hk, hrow⟩ := hjob j hj
  rw [hengine, hbm, ← hrow]
  exact h k hk

theorem State.tableOk.set {s t : State} (h : s.tableOk) (hbm : t.bm = s.bm)
    (hde : t.de = s.de) : t.tableOk := by
  rw [State.tableOk_iff] at h ⊢
  exact ⟨h.1.set hbm (by rw [hde]) (by rw [hde]) (by rw [hde]),
    h.2.set hbm (by rw [hde]) fun j hj => ⟨j, by rwa [← hde], rfl⟩⟩

/-! ### What CW and TU do -/

theorem Work.Served.find {u v : Work} (h : u.Served v) {i : Nat} {z : Row} (hz : v.bm.row? i = some z) :
    ∃ r, u.bm.row? i = some r ∧ r.Served z := by
  have hrel := h.rows i
  rw [hz] at hrel
  generalize u.bm.row? i = a at hrel
  obtain ⟨hr⟩ := hrel
  exact ⟨_, rfl, hr⟩

theorem Work.Served.found {u v : Work} (h : u.Served v) {i : Nat} {r : Row} (hr : u.bm.row? i = some r) :
    ∃ z, v.bm.row? i = some z ∧ r.Served z := by
  have hrel := h.rows i
  rw [hr] at hrel
  generalize v.bm.row? i = a at hrel
  obtain ⟨hr⟩ := hrel
  exact ⟨_, rfl, hr⟩

theorem State.rowsOk.serve {u v : Work} (h : u.rowsOk) (hv : u.Served v) : v.rowsOk where
  sound := hv.sound h.sound
  life i z hz := by
    obtain ⟨r, hr, hrz⟩ := hv.find hz
    exact hrz.lifeOk (h.life i r hr)
  waits he i z hz hd := by
    obtain ⟨r, hr, hrz⟩ := hv.find hz
    exact hrz.proof (h.waits (hv.de ▸ he) i r hr (hrz.develop ▸ hd))
  queued he i hi := by
    obtain ⟨r, hr, hd⟩ := h.queued (hv.de ▸ he) i (hv.de ▸ hi)
    obtain ⟨z, hz, hrz⟩ := hv.found hr
    exact ⟨z, hz, hrz.develop.trans hd⟩

theorem State.jobOk.serve {u v : Work} (h : u.jobOk) (hv : u.Served v) : v.jobOk := fun j hj => by
  obtain ⟨he, r, hr, hd⟩ := h j (hv.de ▸ hj)
  obtain ⟨z, hz, hrz⟩ := hv.found hr
  exact ⟨hv.de ▸ he, z, hz, hrz.develop.trans hd⟩

theorem State.tableOk.serve {u v : Work} (h : u.tableOk) (hv : u.Served v) : v.tableOk := by
  rw [State.tableOk_iff] at h ⊢
  exact ⟨h.1.serve hv, h.2.serve hv⟩

/-! ### A change of one row -/

/-- The row found at an index, after a change of the row with an index. -/
theorem Bm.row?_mapRow_some {b : Bm} {i j : Nat} {f : Row → Row} (hf : ∀ x, (f x).index = x.index) {z : Row}
    (hz : (b.mapRow i f).row? j = some z) : ∃ r, b.row? j = some r ∧ z = if j = i then f r else r := by
  rw [Bm.row?_mapRow _ _ _ hf] at hz
  obtain ⟨r, hr, hrz⟩ := Option.map_eq_some_iff.1 hz
  exact ⟨r, hr, hrz.symm⟩

section
variable {s t : State} {i : Nat} {r : Row} {f : Row → Row}

theorem State.rowsOk.update (h : s.rowsOk) (hr : s.bm.row? i = some r) (hf : ∀ x, (f x).index = x.index)
    (hrows : t.bm.rows = (s.bm.mapRow i f).rows) (hsound : t.bm.sound) (hlife : (f r).lifeOk)
    (hengine : t.de.engine ≠ .stopped → s.de.engine ≠ .stopped)
    (hwaits : t.de.engine ≠ .stopped → (f r).develop = .pending → (f r).proof = none)
    (hqueue : t.de.engine ≠ .stopped → ∀ k ∈ t.de.urgent ++ t.de.normal,
      (k = i → (f r).develop = .pending) ∧ (k ≠ i → k ∈ s.de.urgent ++ s.de.normal)) : t.rowsOk := by
  have hrow (j : Nat) : t.bm.row? j = (s.bm.mapRow i f).row? j := by rw [Bm.row?, hrows, ← Bm.row?]
  have hcase (j : Nat) (z : Row) (hz : t.bm.row? j = some z) :
      (j = i ∧ z = f r) ∨ (j ≠ i ∧ s.bm.row? j = some z) := by
    rw [hrow] at hz
    obtain ⟨x, hx, rfl⟩ := Bm.row?_mapRow_some hf hz
    by_cases hj : j = i
    · subst hj
      rw [hr] at hx
      cases hx
      exact .inl ⟨rfl, if_pos rfl⟩
    · exact .inr ⟨hj, by rw [if_neg hj, hx]⟩
  refine ⟨hsound, fun j z hz => ?_, fun he j z hz hd => ?_, fun he j hj => ?_⟩
  · rcases hcase j z hz with ⟨-, rfl⟩ | ⟨-, hz⟩
    · exact hlife
    · exact h.life j z hz
  · rcases hcase j z hz with ⟨-, rfl⟩ | ⟨-, hz⟩
    · exact hwaits he hd
    · exact h.waits (hengine he) j z hz hd
  · obtain ⟨hsame, hother⟩ := hqueue he j hj
    by_cases hji : j = i
    · refine ⟨f r, ?_, hsame hji⟩
      rw [hrow, Bm.row?_mapRow _ _ _ hf, hji, hr, Option.map_some, if_pos rfl]
    · obtain ⟨x, hx, hd⟩ := h.queued (hengine he) j (hother hji)
      exact ⟨x, by rw [hrow, Bm.row?_mapRow _ _ _ hf, hx, Option.map_some, if_neg hji], hd⟩

theorem State.jobOk.update (h : s.jobOk) (hr : s.bm.row? i = some r) (hf : ∀ x, (f x).index = x.index)
    (hrows : t.bm.rows = (s.bm.mapRow i f).rows)
    (hjob : ∀ j, t.de.job = some j → t.de.engine ≠ .stopped ∧ (j.row = i → (f r).develop = .running) ∧
      (j.row ≠ i → ∃ k, s.de.job = some k ∧ k.row = j.row)) : t.jobOk := fun j hj => by
  have hrow (j : Nat) : t.bm.row? j = (s.bm.mapRow i f).row? j := by rw [Bm.row?, hrows, ← Bm.row?]
  obtain ⟨he, hsame, hother⟩ := hjob j hj
  refine ⟨he, ?_⟩
  by_cases hji : j.row = i
  · exact ⟨f r, by rw [hrow, Bm.row?_mapRow _ _ _ hf, hji, hr, Option.map_some, if_pos rfl], hsame hji⟩
  · obtain ⟨k, hk, hkr⟩ := hother hji
    obtain ⟨-, x, hx, hd⟩ := h k hk
    rw [hkr] at hx
    exact ⟨x, by rw [hrow, Bm.row?_mapRow _ _ _ hf, hx, Option.map_some, if_neg hji], hd⟩

/-! ### What a duty's state says -/

/-- Only a HELD row has a develop duty that waits or runs. -/
theorem Row.lifeOk.held {r : Row} (h : r.lifeOk) (hd : r.develop = .pending ∨ r.develop = .running) : r.life = .held := by
  unfold Row.lifeOk at h
  cases hl : r.life with
  | held => rfl
  | exposing | pre =>
    rw [hl] at h
    rcases hd with hd | hd <;> exact absurd (hd.symm.trans h.2) (by decide)
  | settled | void =>
    rw [hl] at h
    rcases hd with hd | hd <;> exact absurd (hd ▸ h.2.2) (by decide)

/-- A HELD row with a develop duty is as its life has it. -/
theorem Row.lifeOk_of_held {r : Row} (hl : r.life = .held) (hd : r.develop ≠ .absent) : r.lifeOk := by
  unfold Row.lifeOk
  rw [hl]
  exact fun ha => absurd ha hd

/-- The queue holds no row whose duty does not wait. -/
theorem State.rowsOk.not_queued (h : s.rowsOk) (he : s.de.engine ≠ .stopped) (hr : s.bm.row? i = some r)
    (hd : r.develop ≠ .pending) : i ∉ s.de.urgent ++ s.de.normal := fun hi => by
  obtain ⟨x, hx, hp⟩ := h.queued he i hi
  rw [hr] at hx
  cases hx
  exact hd hp

/-- The job is not that of a row whose duty does not run. -/
theorem State.jobOk.row_ne (h : s.jobOk) (hr : s.bm.row? i = some r) (hd : r.develop ≠ .running) {j : Job}
    (hj : s.de.job = some j) : j.row ≠ i := fun hji => by
  obtain ⟨-, x, hx, hp⟩ := h j hj
  rw [hji, hr] at hx
  cases hx
  exact hd hp

end

end Sys2Proof.Machine
end

section
/-! PROOF. The operations of DE keep the table and its jobs sound (R97 to R118). -/

namespace Sys2Proof.Machine

section
variable {w : Work} {i : Nat} {r : Row}

/-! ### Develop duties and the queue of jobs -/

theorem Work.setDevelop_bm (i : Nat) (st : DevelopState) (w : Work) : (w.setDevelop i st).bm = w.bm.mapRow i fun r =>
    if r.develop.isFinal && !Decidable.decide (r.develop = .absent) then r else { r with develop := st } := rfl

/-- A duty that is not final takes the state DE reports (R9). -/
theorem Row.develop_open {r : Row} (st : DevelopState) (hd : r.develop = .absent ∨ r.develop.isFinal = false) :
    (if r.develop.isFinal && !decide (r.develop = .absent) then r else { r with develop := st }) =
      { r with develop := st } := by
  rcases hd with hd | hd
  · rw [hd]; rfl
  · rw [hd]; rfl

theorem Row.develop_index (st : DevelopState) (x : Row) :
    (if x.develop.isFinal && !decide (x.develop = .absent) then x else { x with develop := st }).index = x.index := by
  split <;> rfl

theorem State.rowsOk.setDevelop {st : DevelopState} (h : w.rowsOk) (hr : w.bm.row? i = some r)
    (hd : r.develop = .absent ∨ r.develop.isFinal = false) (hlife : ({ r with develop := st } : Row).lifeOk)
    (hwaits : w.de.engine ≠ .stopped → st = .pending → r.proof = none)
    (hqueue : w.de.engine ≠ .stopped → i ∈ w.de.urgent ++ w.de.normal → st = .pending) :
    (w.setDevelop i st).rowsOk := by
  refine h.update hr (Row.develop_index st) rfl (Work.setDevelop_sound i st h.sound) ?_ id ?_ ?_
  · rwa [Row.develop_open st hd]
  · rw [Row.develop_open st hd]
    exact hwaits
  · rw [Row.develop_open st hd]
    exact fun he k hk => ⟨fun hki => hqueue he (hki ▸ hk), fun _ => hk⟩

/-- A duty that changes is not the running job's, or runs after it. -/
theorem State.jobOk.setDevelop {st : DevelopState} (h : w.jobOk) (hr : w.bm.row? i = some r)
    (hd : r.develop = .absent ∨ r.develop = .pending) : (w.setDevelop i st).jobOk := by
  refine h.update hr (Row.develop_index st) rfl fun j hj => ⟨(h j hj).1, fun hji => ?_, fun _ => ⟨j, hj, rfl⟩⟩
  refine absurd hji (h.row_ne hr ?_ hj)
  rcases hd with hd | hd <;> rw [hd] <;> decide

/-- The queue of jobs changes: each job it then holds was in it or is of a duty that waits. -/
theorem State.rowsOk.queue {s t : State} (h : s.rowsOk) (hbm : t.bm = s.bm) (hengine : t.de.engine = s.de.engine)
    (hqueue : ∀ k ∈ t.de.urgent ++ t.de.normal, k ∈ s.de.urgent ++ s.de.normal ∨
      ∃ r, s.bm.row? k = some r ∧ r.develop = .pending) : t.rowsOk := by
  refine ⟨hbm ▸ h.sound, hbm ▸ h.life, hengine ▸ hbm ▸ h.waits, fun he k hk => ?_⟩
  rw [hbm]
  rcases hqueue k hk with hk | hk
  · exact h.queued (hengine ▸ he) k hk
  · exact hk

theorem De.mem_join {d : De} {i k : Nat} {c : DevelopClass} (hk : k ∈ (d.join i c).urgent ++ (d.join i c).normal) :
    k ∈ d.urgent ++ d.normal ∨ k = i := by
  cases c <;> simp only [De.join, List.mem_append, List.mem_singleton] at hk ⊢ <;> tauto

theorem De.mem_drop {d : De} {i k : Nat} (hk : k ∈ (d.drop i).urgent ++ (d.drop i).normal) :
    k ∈ d.urgent ++ d.normal ∧ k ≠ i := by
  simp only [De.drop, List.mem_append, List.mem_filter, Bool.not_eq_true', beq_eq_false_iff_ne] at hk ⊢
  tauto

@[simp] theorem De.join_engine (d : De) (i : Nat) (c : DevelopClass) : (d.join i c).engine = d.engine := by
  cases c <;> rfl
@[simp] theorem De.join_job (d : De) (i : Nat) (c : DevelopClass) : (d.join i c).job = d.job := by cases c <;> rfl
@[simp] theorem De.joinFront_job (d : De) (i : Nat) (c : DevelopClass) : (d.joinFront i c).job = d.job := by
  cases c <;> rfl

/-- The row is found after its duty has changed. -/
theorem Work.setDevelop_row? (st : DevelopState) (hr : w.bm.row? i = some r)
    (hd : r.develop = .absent ∨ r.develop.isFinal = false) :
    (w.setDevelop i st).bm.row? i = some { r with develop := st } := by
  rw [Work.setDevelop_bm, Bm.row?_mapRow _ _ _ (Row.develop_index st), hr, Option.map_some, if_pos rfl,
    Row.develop_open st hd]

/-- A develop duty that is made for a HELD row and joins the queue (R99). -/
theorem State.tableOk.createDevelop (h : w.tableOk) (hr : w.bm.row? i = some r) (hl : r.life = .held)
    (hd : r.develop = .absent) (c : DevelopClass) : (w.createDevelop i c).tableOk := by
  rw [State.tableOk_iff]
  have hproof : r.proof = none := by
    have := (w.tableOk_iff.1 h).1.life i r hr
    simp only [Row.lifeOk, hl] at this
    exact this hd
  -- the class is set first
  have h1 : ((w.mapRow i fun r => { r with cls := c }).toState).tableOk := h.serve ((Work.Served.refl w).mapRow i fun _ => rfl)
  have hr1 : (w.mapRow i fun r => { r with cls := c }).bm.row? i = some { r with cls := c } := by
    show (w.bm.mapRow i _).row? i = _
    rw [Bm.row?_mapRow (f := fun r => { r with cls := c }) _ _ _ fun _ => rfl, hr, Option.map_some, if_pos rfl]
  obtain ⟨hrows, hjob⟩ := (State.tableOk_iff _).1 h1
  have hrows2 := hrows.setDevelop (st := .pending) hr1 (.inl hd) (Row.lifeOk_of_held hl (by simp))
    (fun _ _ => hproof) fun _ _ => rfl
  have hjob2 := hjob.setDevelop (st := .pending) hr1 (.inl hd)
  have hr2 := Work.setDevelop_row? .pending hr1 (.inl hd)
  refine ⟨hrows2.queue rfl (De.join_engine _ _ _) fun k hk => ?_, hjob2.set rfl (De.join_engine _ _ _) fun j hj => ?_⟩
  · rcases De.mem_join hk with hk | rfl
    · exact .inl hk
    · exact .inr ⟨_, hr2, rfl⟩
  · exact ⟨j, (De.join_job _ i c).symm.trans hj, rfl⟩

theorem State.tableOk.promoteJob (h : w.tableOk) (i : Nat) : (w.promoteJob i).tableOk := by
  unfold Work.promoteJob
  split
  · next r hr =>
    split
    · next hd =>
      split
      · have h1 : (w.mapRow i fun x => { x with cls := .urgent }).tableOk := h.serve ((Work.Served.refl w).mapRow i fun _ => rfl)
        have hr1 : (w.mapRow i fun x => { x with cls := .urgent }).bm.row? i = some { r with cls := .urgent } := by
          show (w.bm.mapRow i _).row? i = _
          rw [Bm.row?_mapRow (f := fun x => { x with cls := .urgent }) _ _ _ fun _ => rfl, hr, Option.map_some, if_pos rfl]
        rw [State.tableOk_iff] at h1 ⊢
        refine ⟨h1.1.queue rfl rfl fun k hk => ?_, h1.2.set rfl rfl fun j hj => ⟨j, hj, rfl⟩⟩
        rcases De.mem_join hk with hk | rfl
        · exact .inl (De.mem_drop hk).1
        · exact .inr ⟨_, hr1, hd⟩
      · exact h
    · exact h.serve ((Work.Served.refl w).mapRow i fun _ => rfl)
    all_goals exact h
  · exact h

/-! ### The start of a job (R93, R100) -/

/-- The head of the queue is in the queue. -/
theorem De.head?_mem {d : De} {i : Nat} (h : d.head? = some i) : i ∈ d.urgent ++ d.normal := by
  unfold De.head? at h
  split at h
  · next hu =>
    cases h
    rw [hu]
    exact List.mem_append_left _ List.mem_cons_self
  · next hu =>
    rw [hu, List.nil_append]
    exact List.mem_of_mem_head? (Option.mem_def.2 h)

/-- A proof allocation gives the row the chain, and changes nothing else of the rows. -/
theorem Work.proofAlloc_rows {v : Work} (hv : w.proofAlloc i = some v) :
    ∃ c, v.bm.rows = (w.bm.mapRow i fun r => { r with proof := some c }).rows ∧ v.de = w.de := by
  unfold Work.proofAlloc at hv
  split at hv
  · cases hv
    exact ⟨_, rfl, rfl⟩
  · cases hv

/-- DE looks at its queue: with no running job of another row, the table is sound after it (R93, R100). -/
theorem State.rowsOk.lookHead (h : w.rowsOk) (hj : w.jobOk) : w.lookHead.tableOk := by
  have hidle (e : Engine) (hne : w.de.engine ≠ .stopped) (he : e ≠ .stopped) :
      ({ w with de := { w.de with engine := e } } : Work).tableOk := by
    rw [State.tableOk_iff]
    exact ⟨⟨h.sound, h.life, fun _ => h.waits hne, fun _ => h.queued hne⟩, fun j hjob => ⟨he, (hj j hjob).2⟩⟩
  have hstart (hne : w.de.engine ≠ .stopped) : (match w.de.head? with
      | some i =>
        match w.proofAlloc i with
        | some w1 => w1.startJob i
        | none => { w with de := { w.de with engine := .starved } }
      | none => { w with de := { w.de with engine := .idle } } : Work).tableOk := by
    split
    · next i hi =>
      split
      · next v hv =>
        obtain ⟨r, hr, hd⟩ := h.queued hne i (De.head?_mem hi)
        have hproof := h.waits hne i r hr hd
        have hl := (h.life i r hr).held (.inl hd)
        obtain ⟨c, hrows, hde⟩ := Work.proofAlloc_rows hv
        have hvsound := Work.proofAlloc_sound h.sound hr hproof hv
        have hvr : v.bm.row? i = some { r with proof := some c } := by
          rw [Bm.row?, hrows, ← Bm.row?, Bm.row?_mapRow (f := fun r => { r with proof := some c }) _ _ _ fun _ => rfl, hr,
            Option.map_some, if_pos rfl]
        unfold Work.startJob
        rw [hvr]
        -- both changes of the row at once
        have hcomp : (v.bm.mapRow i fun x =>
            if x.develop.isFinal && !decide (x.develop = .absent) then x else { x with develop := .running }).rows =
            (w.bm.mapRow i fun x => if x.develop.isFinal && !decide (x.develop = .absent) then { x with proof := some c }
              else { x with proof := some c, develop := .running }).rows := by
          simp only [Bm.mapRow, hrows, List.map_map]
          refine List.map_congr_left fun x _ => ?_
          simp only [Function.comp_apply]
          by_cases hx : x.index = i
          · simp only [hx, if_true]
          · simp only [hx, if_false]
        have hf : (if r.develop.isFinal && !decide (r.develop = .absent) then { r with proof := some c }
            else { r with proof := some c, develop := .running }) = { r with proof := some c, develop := .running } := by
          rw [hd]; rfl
        rw [State.tableOk_iff]
        refine ⟨h.update hr (fun x => by split <;> rfl) hcomp (Work.setDevelop_sound i .running hvsound) ?_ (fun _ => hne)
          ?_ ?_, hj.update hr (fun x => by split <;> rfl) hcomp ?_⟩
        · rw [hf]
          exact Row.lifeOk_of_held hl (by simp)
        · rw [hf]
          exact fun _ hp => absurd hp (by simp)
        · intro _ k hk
          have := De.mem_drop hk
          exact ⟨fun hki => absurd hki this.2, fun _ => hde ▸ this.1⟩
        · rw [hf]
          intro j hjj
          cases hjj
          exact ⟨by simp, fun _ => rfl, fun hne => absurd rfl hne⟩
      · exact hidle .starved hne (by decide)
    · exact hidle .idle hne (by decide)
  unfold Work.lookHead
  split
  · next he => exact hstart (by rw [he]; decide)
  · next he => exact hstart (by rw [he]; decide)
  all_goals exact (State.tableOk_iff _).2 ⟨h, hj⟩

theorem State.tableOk.lookHead (h : w.tableOk) : w.lookHead.tableOk :=
  ((State.tableOk_iff _).1 h).1.lookHead ((State.tableOk_iff _).1 h).2

/-- The running job is over: its duty runs no more, and DE takes the next (R93). -/
theorem State.rowsOk.nextJob (h : w.rowsOk) (he : w.de.engine ≠ .stopped) : w.nextJob.tableOk := by
  have h1 : ({ w with de := { w.de with job := none, engine := .idle } } : Work).rowsOk :=
    ⟨h.sound, h.life, fun _ => h.waits he, fun _ => h.queued he⟩
  exact h1.lookHead fun j hj => absurd hj (by simp)

/-! ### The ends of a job (R109 to R113) -/

/-- The duty of the running job becomes final: the queue does not hold its row. -/
theorem State.rowsOk.endDevelop {st : DevelopState} (h : w.rowsOk) (hr : w.bm.row? i = some r) (hd : r.develop = .running)
    (he : w.de.engine ≠ .stopped) (hst : st ≠ .pending) (hab : st ≠ .absent) : (w.setDevelop i st).rowsOk := by
  have hl := (h.life i r hr).held (.inr hd)
  refine h.setDevelop hr (.inr (by rw [hd]; rfl)) (Row.lifeOk_of_held hl hab) (fun _ hp => absurd hp hst) fun _ hi => ?_
  exact absurd hi (h.not_queued he hr (by rw [hd]; decide))

theorem Work.Served.loseProof {u : Work} (h : u.Served w) (i : Nat) : u.Served (w.loseProof i) := (h.cardProofLost i).post _

theorem State.rowsOk.completeJob {j : Job} (h : w.rowsOk) (hr : w.bm.row? j.row = some r) (hd : r.develop = .running)
    (he : w.de.engine ≠ .stopped) : (w.completeJob j).tableOk := by
  unfold Work.completeJob
  have h1 : ({ w with de := { w.de with
      histogram := some { shot := w.shotOf j.row, bins := j.bins, clip := j.clip } } } : Work).rowsOk := h.set rfl rfl rfl rfl
  have h2 := h1.endDevelop (i := j.row) (st := .done) hr hd he (by decide) (by decide)
  have hserved := ((((Work.Served.refl (Work.setDevelop j.row .done { w with de := { w.de with
    histogram := some { shot := w.shotOf j.row, bins := j.bins, clip := j.clip } } })).check j.row).proofExists
      j.row).raise .developDone (leBytes 3 (w.shotOf j.row)))
  exact (h2.serve hserved).nextJob (by rw [hserved.de]; exact he)

theorem State.rowsOk.stopJob {j : Job} (h : w.rowsOk) (hr : w.bm.row? j.row = some r) (hd : r.develop = .running)
    (he : w.de.engine ≠ .stopped) : (w.stopJob j).tableOk := by
  unfold Work.stopJob
  have h1 := h.endDevelop (st := .cancelled) hr hd he (by decide) (by decide)
  have hcheck := (Work.Served.refl (w.setDevelop j.row .cancelled)).check j.row
  have hserved : (w.setDevelop j.row .cancelled).Served (if j.cancel then
      ((w.setDevelop j.row .cancelled).check j.row).loseProof j.row else (w.setDevelop j.row .cancelled).check j.row) := by
    split
    · exact hcheck.loseProof _
    · exact hcheck
  exact (h1.serve hserved).nextJob (by rw [hserved.de]; exact he)

theorem State.tableOk.failJob (h : w.tableOk) : w.failJob.tableOk := by
  unfold Work.failJob
  split
  · next j hj =>
    obtain ⟨hrows, hjob⟩ := (State.tableOk_iff _).1 h
    obtain ⟨he, r, hr, hd⟩ := hjob j hj
    have h1 := hrows.endDevelop (st := .failed) hr hd he (by decide) (by decide)
    have h2 : ({ w.setDevelop j.row .failed with de := { (w.setDevelop j.row .failed).de with
        failedJobs := satSucc 65535 (w.setDevelop j.row .failed).de.failedJobs,
        lastFailed := some ((w.setDevelop j.row .failed).shotOf j.row) } } : Work).rowsOk := h1.set rfl rfl rfl rfl
    have hserved := ((Work.Served.refl ({ w.setDevelop j.row .failed with de := { (w.setDevelop j.row .failed).de with
        failedJobs := satSucc 65535 (w.setDevelop j.row .failed).de.failedJobs,
        lastFailed := some ((w.setDevelop j.row .failed).shotOf j.row) } })).check j.row).loseProof j.row
    exact (h2.serve hserved).nextJob (by rw [hserved.de]; exact he)
  · exact h

/-- A proof row is written, and its frontier raised (R102). -/
theorem State.rowsOk.putRow {j : Job} (h : w.rowsOk) (hr : w.bm.row? j.row = some r) (hd : r.develop = .running)
    (pixels : List Pixel) : (w.putRow j r pixels).rowsOk := by
  have hl := (h.life _ r hr).held (.inr hd)
  refine h.update (f := fun x => { x with proof := x.proof.map fun c => { c with frontier := r.nextProofRow + 1 } }) hr
    (fun _ => rfl) rfl ?_ (Row.lifeOk_of_held hl (by rw [hd]; decide)) id (fun _ hp => ?_) fun he k hk => ?_
  · refine Bm.mapRow_sound _ h.sound (fun _ => rfl) (fun _ => rfl) fun x => ?_
    cases hp : x.proof <;> simp [Row.pages, Row.pagesOf, hp]
  · exact absurd (hd.symm.trans hp) (by decide)
  · exact ⟨fun hki => absurd (hki ▸ hk) (h.not_queued he hr (by rw [hd]; decide)), fun _ => hk⟩

/-- After a row the job completes, stops or goes on (R102). -/
theorem State.rowsOk.afterRow {j : Job} (h : w.rowsOk) (hr : w.bm.row? j.row = some r) (hd : r.develop = .running)
    (he : w.de.engine ≠ .stopped) (hj : w.de.job = some j) (written : Nat) : (w.afterRow j written).tableOk := by
  unfold Work.afterRow
  split
  · exact h.completeJob hr hd he
  · split
    · exact h.stopJob hr hd he
    · refine (State.tableOk_iff _).2 ⟨h, fun k hk => ?_⟩
      rw [hj] at hk
      cases hk
      exact ⟨he, r, hr, hd⟩

theorem Work.putRow_row? {j : Job} (hr : w.bm.row? j.row = some r) (pixels : List Pixel) :
    (w.putRow j r pixels).bm.row? j.row =
      some { r with proof := r.proof.map fun c => { c with frontier := r.nextProofRow + 1 } } := by
  show (w.bm.mapRow j.row _).row? j.row = _
  rw [Bm.row?_mapRow (f := fun x => { x with proof := x.proof.map fun c => { c with frontier := r.nextProofRow + 1 } })
    _ _ _ fun _ => rfl, hr, Option.map_some, if_pos rfl]

theorem State.tableOk.putRow {j : Job} (h : w.tableOk) (hj : w.de.job = some j) (hr : w.bm.row? j.row = some r)
    (pixels : List Pixel) (written : Nat) : ((w.putRow j r pixels).afterRow (j.count pixels) written).tableOk := by
  obtain ⟨hrows, hjob⟩ := (State.tableOk_iff _).1 h
  obtain ⟨he, x, hx, hd⟩ := hjob j hj
  rw [hr] at hx
  cases hx
  exact (hrows.putRow hr hd pixels).afterRow (j := j.count pixels) (Work.putRow_row? hr pixels) hd he rfl written

theorem State.tableOk.writeRow (h : w.tableOk) : w.writeRow.tableOk := by
  unfold Work.writeRow
  split
  · next j hj =>
    split
    · next r hr => exact h.putRow hj hr _ _
    · exact h
  · exact h

/-! ### Cancels, discards and the supply warning (R110, R113, R118) -/

/-- A duty that waits leaves the queue and is cancelled (R110, R113). -/
theorem State.tableOk.cancelDevelop (h : w.tableOk) (hr : w.bm.row? i = some r) (hd : r.develop = .pending) :
    (({ w with de := w.de.drop i } : Work).setDevelop i .cancelled).tableOk := by
  obtain ⟨hrows, hjob⟩ := (State.tableOk_iff _).1 h
  have hl := (hrows.life i r hr).held (.inl hd)
  have h1 : ({ w with de := w.de.drop i } : Work).rowsOk :=
    hrows.queue rfl rfl fun k hk => .inl (De.mem_drop hk).1
  have hj1 : ({ w with de := w.de.drop i } : Work).jobOk := hjob.set rfl rfl fun j hj => ⟨j, hj, rfl⟩
  refine (State.tableOk_iff _).2 ⟨h1.setDevelop (r := r) hr (.inr (by rw [hd]; rfl)) (Row.lifeOk_of_held hl (by simp))
    (fun _ hp => absurd hp (by decide)) fun _ hi => absurd rfl (De.mem_drop hi).2, hj1.setDevelop (r := r) hr (.inr hd)⟩

theorem State.tableOk.cancelPending (h : w.tableOk) (hr : w.bm.row? i = some r) (hd : r.develop = .pending) :
    (w.cancelPending i).tableOk :=
  (h.cancelDevelop hr hd).serve ((((Work.Served.refl _).check i).loseProof i).post .deLook)

theorem State.tableOk.discardDevelop (h : w.tableOk) (i : Nat) : (w.discardDevelop i).tableOk := by
  unfold Work.discardDevelop
  split
  · next r hr =>
    split
    · next hd => exact (h.cancelDevelop hr hd).serve (((Work.Served.refl _).check i).post .deLook)
    · obtain ⟨hrows, hjob⟩ := (State.tableOk_iff _).1 h
      refine (State.tableOk_iff _).2 ⟨hrows.set rfl rfl rfl rfl, hjob.set rfl rfl fun j hj => ?_⟩
      obtain ⟨k, hk, rfl⟩ := Option.map_eq_some_iff.1 hj
      exact ⟨k, hk, by split <;> rfl⟩
    all_goals exact h
  · exact h

theorem State.tableOk.developWarning (h : w.tableOk) : w.developWarning.tableOk := by
  obtain ⟨hrows, hjob⟩ := (State.tableOk_iff _).1 h
  unfold Work.developWarning
  split
  · next j hj =>
    obtain ⟨he, r, hr, hd⟩ := hjob j hj
    have hl := (hrows.life _ r hr).held (.inr hd)
    refine State.tableOk.serve (u := { w.setDevelop j.row .pending with de :=
      { ((w.setDevelop j.row .pending).de.joinFront j.row (((w.bm.row? j.row).map Row.cls).getD .normal)) with
        job := none, engine := .stopped } }) ?_ ((Work.Served.refl _).check j.row)
    refine (State.tableOk_iff _).2 ⟨?_, fun k hk => absurd hk (by simp)⟩
    refine hrows.update hr (Row.develop_index .pending) rfl (Work.setDevelop_sound j.row .pending hrows.sound) ?_
      (fun hne => absurd rfl hne) (fun hne => absurd rfl hne) fun hne => absurd rfl hne
    rw [Row.develop_open .pending (.inr (by rw [hd]; rfl))]
    exact Row.lifeOk_of_held hl (by simp)
  · next hj =>
    refine (State.tableOk_iff _).2 ⟨⟨hrows.sound, hrows.life, fun hne => absurd rfl hne, fun hne => absurd rfl hne⟩,
      fun k hk => absurd (hj.symm.trans hk) (by simp)⟩

end

end Sys2Proof.Machine
end

section
/-! PROOF. The operations of BM on rows keep the table sound: allocations, the ends of EXPOSING and PRE rows, numbers, and the
duties of a row that enters HELD (R7 to R18, R21). -/

namespace Sys2Proof.Machine

/-! ### What of a row the sound table speaks of -/

def Row.core (r : Row) := (r.index, r.number, r.life, r.raw, r.proof, r.develop)

theorem Row.core_eq {r z : Row} (h : z.core = r.core) :
    z.index = r.index ∧ z.number = r.number ∧ z.life = r.life ∧ z.raw = r.raw ∧ z.proof = r.proof ∧
      z.develop = r.develop := by
  simpa only [Row.core, Prod.mk.injEq] using h

theorem Row.lifeOk_congr {r z : Row} (h : z.core = r.core) (hr : r.lifeOk) : z.lifeOk := by
  obtain ⟨-, -, h1, h2, h3, h4⟩ := Row.core_eq h
  unfold Row.lifeOk at hr ⊢
  rw [h1, h2, h3, h4]
  exact hr

/-- The rows as the sound table sees them. -/
def Bm.cores (b : Bm) := b.rows.map Row.core

theorem Bm.row?_core (b : Bm) (i : Nat) : (b.row? i).map Row.core = b.cores.find? fun x => decide (x.1 = i) := by
  rw [Bm.cores, List.find?_map]
  rfl

theorem Bm.row?_cores {b c : Bm} (h : c.cores = b.cores) (i : Nat) :
    (c.row? i).map Row.core = (b.row? i).map Row.core := by
  rw [Bm.row?_core, Bm.row?_core, h]

/-- A row of one table and the row of the other at its index. -/
theorem Bm.row?_core_some {b c : Bm} {i : Nat} (h : (c.row? i).map Row.core = (b.row? i).map Row.core) {z : Row}
    (hz : c.row? i = some z) : ∃ r, b.row? i = some r ∧ z.core = r.core := by
  rw [hz, Option.map_some] at h
  obtain ⟨r, hr, hrz⟩ := Option.map_eq_some_iff.1 h.symm
  exact ⟨r, hr, hrz.symm⟩

theorem Bm.mapRow_cores (b : Bm) (i : Nat) {f : Row → Row} (hf : ∀ r, (f r).core = r.core) :
    (b.mapRow i f).cores = b.cores := Bm.mapRow_map Row.core b i hf

section
variable {w : Work} {i : Nat} {r : Row}

/-- A change of a row that the sound table does not speak of. -/
theorem State.tableOk.mapRow (h : w.tableOk) (i : Nat) {f : Row → Row} (hf : ∀ r, (f r).core = r.core) :
    (w.mapRow i f).tableOk := by
  obtain ⟨hrows, hjob⟩ := (State.tableOk_iff _).1 h
  have hcores (j : Nat) : ((w.bm.mapRow i f).row? j).map Row.core = (w.bm.row? j).map Row.core :=
    Bm.row?_cores (w.bm.mapRow_cores i hf) j
  have hfound (j : Nat) (x : Row) (hx : w.bm.row? j = some x) : ∃ z, (w.bm.mapRow i f).row? j = some z ∧ x.core = z.core :=
    Bm.row?_core_some (hcores j).symm hx
  have hpages (x : Row) : (f x).pages = x.pages := by
    obtain ⟨-, -, -, hraw, hproof, -⟩ := Row.core_eq (hf x)
    simp only [Row.pages, Row.pagesOf, hraw, hproof]
  refine (State.tableOk_iff _).2 ⟨⟨Bm.mapRow_sound i hrows.sound (fun x => (Row.core_eq (hf x)).1)
    (fun x => (Row.core_eq (hf x)).2.1) hpages, fun j z hz => ?_, fun he j z hz hd => ?_, fun he j hj => ?_⟩, fun j hj => ?_⟩
  · obtain ⟨x, hx, hxz⟩ := Bm.row?_core_some (hcores j) hz
    exact Row.lifeOk_congr hxz (hrows.life j x hx)
  · obtain ⟨x, hx, hxz⟩ := Bm.row?_core_some (hcores j) hz
    obtain ⟨-, -, -, -, hproof, hdev⟩ := Row.core_eq hxz
    exact hproof.trans (hrows.waits he j x hx (hdev ▸ hd))
  · obtain ⟨x, hx, hd⟩ := hrows.queued he j hj
    obtain ⟨z, hz, hxz⟩ := hfound j x hx
    exact ⟨z, hz, (Row.core_eq hxz).2.2.2.2.2.symm.trans hd⟩
  · obtain ⟨he, x, hx, hd⟩ := hjob j hj
    obtain ⟨z, hz, hxz⟩ := hfound _ x hx
    exact ⟨he, z, hz, (Row.core_eq hxz).2.2.2.2.2.symm.trans hd⟩

/-! ### Rows that join and rows that leave (R3, R7) -/

theorem Bm.row?_remove (b : Bm) (i j : Nat) : (b.remove i).row? j = if j = i then none else b.row? j := by
  unfold Bm.row? Bm.remove
  rw [List.find?_filter]
  split
  · next h =>
    subst h
    refine List.find?_eq_none.2 fun x _ => ?_
    by_cases hx : x.index = j <;> simp [hx]
  · next h =>
    congr 1
    funext x
    by_cases hx : x.index = j
    · simp [hx, h]
    · simp [hx]

/-- A row without pages and without a develop duty that is not final leaves the table. -/
theorem State.tableOk.removeRow (h : w.tableOk) (hr : w.bm.row? i = some r) (hraw : r.raw = none) (hproof : r.proof = none)
    (hd : r.develop.isFinal = true) : (w.removeRow i).tableOk := by
  obtain ⟨hrows, hjob⟩ := (State.tableOk_iff _).1 h
  have hsound : (w.bm.remove i).sound :=
    Bm.remove_sound hrows.sound hr (by simp [Row.pages, Row.pagesOf, hraw, hproof])
  have hpast (j : Nat) (z : Row) (hz : (w.bm.remove i).row? j = some z) : w.bm.row? j = some z := by
    rw [Bm.row?_remove] at hz
    split at hz
    · cases hz
    · exact hz
  have hstay (j : Nat) (x : Row) (hx : w.bm.row? j = some x) (hxd : x.develop.isFinal = false) :
      (w.bm.remove i).row? j = some x := by
    rw [Bm.row?_remove, if_neg, hx]
    rintro rfl
    rw [hr] at hx
    cases hx
    rw [hd] at hxd
    cases hxd
  refine (State.tableOk_iff _).2 ⟨⟨hsound, fun j z hz => hrows.life j z (hpast j z hz),
    fun he j z hz => hrows.waits he j z (hpast j z hz), fun he j hj => ?_⟩, fun j hj => ?_⟩
  · obtain ⟨x, hx, hxd⟩ := hrows.queued he j hj
    exact ⟨x, hstay j x hx (by rw [hxd]; rfl), hxd⟩
  · obtain ⟨he, x, hx, hxd⟩ := hjob j hj
    exact ⟨he, x, hstay _ x hx (by rw [hxd]; rfl), hxd⟩

/-- A raw allocation that BM grants (R3). -/
theorem State.tableOk.createRow (h : w.tableOk) (hg : w.judgeRaw = .granted i) (origin : Origin) (burst : Nat) (ring : Bool)
    (look : Nat) : (w.createRow i origin burst ring look).tableOk := by
  obtain ⟨hrows, hjob⟩ := (State.tableOk_iff _).1 h
  have hrow (j : Nat) : (w.createRow i origin burst ring look).bm.row? j =
      (w.bm.row? j).or (if i = j then some (Row.fresh i origin burst ring look (w.bm.free.take Config.rawPages)) else none) := by
    show (w.bm.rows ++ [Row.fresh i origin burst ring look _]).find? _ = _
    rw [List.find?_append]
    congr 1
    by_cases hij : i = j <;> simp [Row.fresh, hij]
  have hcase (j : Nat) (z : Row) (hz : (w.createRow i origin burst ring look).bm.row? j = some z) :
      w.bm.row? j = some z ∨ z = Row.fresh i origin burst ring look (w.bm.free.take Config.rawPages) := by
    rw [hrow, Option.or_eq_some_iff] at hz
    rcases hz with hz | ⟨-, hz⟩
    · exact .inl hz
    · split at hz
      · cases hz
        exact .inr rfl
      · cases hz
  have hstay (j : Nat) (x : Row) (hx : w.bm.row? j = some x) :
      (w.createRow i origin burst ring look).bm.row? j = some x := by rw [hrow, hx, Option.some_or]
  refine (State.tableOk_iff _).2 ⟨⟨Work.createRow_sound origin burst ring look hrows.sound hg, fun j z hz => ?_,
    fun he j z hz hd => ?_, fun he j hj => ?_⟩, fun j hj => ?_⟩
  · rcases hcase j z hz with hz | rfl
    · exact hrows.life j z hz
    · exact ⟨rfl, rfl⟩
  · rcases hcase j z hz with hz | rfl
    · exact hrows.waits he j z hz hd
    · rfl
  · obtain ⟨x, hx, hd⟩ := hrows.queued he j hj
    exact ⟨x, hstay j x hx, hd⟩
  · obtain ⟨he, x, hx, hd⟩ := hjob j hj
    exact ⟨he, x, hstay _ x hx, hd⟩

/-! ### The ends of EXPOSING and PRE rows (R10, R11, R14) -/

theorem Work.releaseRaw_row? (i : Nat) (w : Work) :
    (w.releaseRaw i).bm.row? i = (w.bm.row? i).map fun r => { r with raw := none } := by
  unfold Work.releaseRaw
  split
  · show (w.bm.mapRow i fun r => { r with raw := none }).row? i = _
    rw [Bm.row?_mapRow (f := fun r => { r with raw := none }) _ _ _ fun _ => rfl]
    simp only [if_true]
  · next hn =>
    cases hr : w.bm.row? i with
    | none => rfl
    | some r =>
      rw [hr, Option.bind_some] at hn
      rw [Option.map_some, ← hn]

/-- A row whose life has no develop duty that waits or runs, changed so that its new life is as the table has it. -/
theorem State.tableOk.update (h : w.tableOk) {v : Work} {f : Row → Row} (hr : w.bm.row? i = some r)
    (hf : ∀ x, (f x).index = x.index) (hde : v.de = w.de) (hrows : v.bm.rows = (w.bm.mapRow i f).rows) (hsound : v.bm.sound)
    (hlife : (f r).lifeOk) (hdev : (f r).develop = r.develop) (hproof : r.proof = none → (f r).proof = none) :
    v.tableOk := by
  obtain ⟨hok, hjob⟩ := (State.tableOk_iff _).1 h
  refine (State.tableOk_iff _).2 ⟨hok.update hr hf hrows hsound hlife (fun he => hde ▸ he) (fun he hp => ?_) fun he k hk => ?_,
    hjob.update hr hf hrows fun j hj => ?_⟩
  · exact hproof (hok.waits (hde ▸ he) i r hr (hdev ▸ hp))
  · refine ⟨fun hki => ?_, fun _ => hde ▸ hk⟩
    subst hki
    obtain ⟨x, hx, hd⟩ := hok.queued (hde ▸ he) k (hde ▸ hk)
    rw [hr] at hx
    cases hx
    exact hdev.trans hd
  · rw [hde] at hj
    refine ⟨hde ▸ (hjob j hj).1, fun hji => ?_, fun _ => ⟨j, hj, rfl⟩⟩
    obtain ⟨-, x, hx, hd⟩ := hjob j hj
    rw [hji, hr] at hx
    cases hx
    exact hdev.trans hd

theorem State.tableOk.releaseRaw (h : w.tableOk) (i : Nat) : (w.releaseRaw i).tableOk := by
  have hsound := Work.releaseRaw_sound i ((State.tableOk_iff _).1 h).1.sound
  cases hc : (w.bm.row? i).bind Row.raw with
  | some c =>
    obtain ⟨r, hr, -⟩ := Option.bind_eq_some_iff.1 hc
    refine h.update (f := fun r => { r with raw := none }) hr (fun _ => rfl) ?_ ?_ hsound ?_ rfl id
    · rw [Work.releaseRaw, hc]; rfl
    · rw [Work.releaseRaw, hc]; rfl
    have hl := ((State.tableOk_iff _).1 h).1.life i r hr
    unfold Row.lifeOk at hl ⊢
    cases hlife : r.life with
    | exposing | pre | held => simpa only [hlife] using hl
    | settled | void =>
      simp only [hlife] at hl
      exact ⟨rfl, hl.2⟩
  | none => rwa [Work.releaseRaw_bm i w hc]

/-- A row that is EXPOSING or PRE has neither a proof chain nor a develop duty. -/
theorem State.tableOk.early (h : w.tableOk) (hr : w.bm.row? i = some r) (hl : r.life = .exposing ∨ r.life = .pre) :
    r.proof = none ∧ r.develop = .absent := by
  have := ((State.tableOk_iff _).1 h).1.life i r hr
  unfold Row.lifeOk at this
  rcases hl with hl | hl <;> simpa only [hl] using this

/-- Such a row gives up its raw chain and leaves the table. -/
theorem State.tableOk.dropRow (h : w.tableOk) (hr : w.bm.row? i = some r) (hl : r.life = .exposing ∨ r.life = .pre) :
    ((w.releaseRaw i).removeRow i).tableOk := by
  obtain ⟨hproof, hd⟩ := h.early hr hl
  refine (h.releaseRaw i).removeRow (r := { r with raw := none }) ?_ rfl hproof (by rw [show ({ r with raw := none } : Row).develop = r.develop from rfl, hd]; rfl)
  rw [Work.releaseRaw_row?, hr, Option.map_some]

theorem State.tableOk.abortRow (h : w.tableOk) (i : Nat) (cause : ShotOutcome) : (w.abortRow i cause).tableOk := by
  unfold Work.abortRow
  split
  · next r hr =>
    split
    · next hl =>
      split
      · exact (h.dropRow hr (.inl hl)).set rfl rfl
      · obtain ⟨hproof, hd⟩ := h.early hr (.inl hl)
        have hr1 : (w.releaseRaw i).bm.row? i = some { r with raw := none } := by
          rw [Work.releaseRaw_row?, hr, Option.map_some]
        refine State.tableOk.set (s := ((w.releaseRaw i).mapRow i fun x =>
          { x with life := .void, outcome := some cause, mark := none }).toState) ?_ rfl rfl
        refine (h.releaseRaw i).update (f := fun x => { x with life := .void, outcome := some cause, mark := none }) hr1
          (fun _ => rfl) rfl rfl ?_ ⟨rfl, hproof, by rw [hd]; rfl⟩ rfl id
        exact Bm.mapRow_sound i ((State.tableOk_iff _).1 (h.releaseRaw i)).1.sound (fun _ => rfl) (fun _ => rfl) fun _ => rfl
    · exact h
  · exact h

theorem State.tableOk.evictRow (h : w.tableOk) (i : Nat) : (w.evictRow i).tableOk := by
  unfold Work.evictRow
  split
  · next r hr =>
    split
    · next hl => exact h.dropRow hr (.inr hl)
    · exact h
  · exact h

theorem State.tableOk.foldl {α : Type} {f : Work → α → Work} (hf : ∀ {v : Work} x, v.tableOk → (f v x).tableOk) :
    ∀ (l : List α) {v : Work}, v.tableOk → (l.foldl f v).tableOk
  | [], _, h => h
  | x :: l, _, h => State.tableOk.foldl hf l (hf x h)

theorem State.tableOk.dropRing (h : w.tableOk) : w.dropRing.tableOk := by
  refine State.tableOk.foldl (fun r hv => ?_) _ h
  split
  · exact hv.evictRow _
  · split
    · exact hv.mapRow _ fun _ => rfl
    · exact hv

/-! ### Operations on duties that make no check -/

@[simp] theorem Work.mapSlot_bm (s : SlotId) (f : Slot → Slot) (w : Work) : (w.mapSlot s f).bm = w.bm := by cases s <;> rfl

/-- A change of a row's duties leaves what the sound table speaks of. -/
theorem Work.mapRow_cores (i : Nat) (w : Work) {f : Row → Row} (hf : ∀ r, (f r).core = r.core) :
    (w.mapRow i f).bm.cores = w.bm.cores := w.bm.mapRow_cores i hf

@[simp] theorem Work.mapDuty_cores (d : DutyRef) (f : CardDuty → CardDuty) (w : Work) :
    (w.mapDuty d f).bm.cores = w.bm.cores := Work.mapRow_cores _ w fun _ => rfl
@[simp] theorem Work.addCard_cores (i : Nat) (s : SlotId) (c : Chain) (st : CardState) (again : Bool) (w : Work) :
    (w.addCard i s c st again).bm.cores = w.bm.cores := Work.mapRow_cores _ w fun _ => rfl

@[simp] theorem Work.setExtents_cores (s : SlotId) (q : List Piece) (w : Work) : (w.setExtents s q).bm.cores = w.bm.cores := by
  unfold Work.setExtents
  dsimp only
  split <;> exact congrArg Bm.cores (Work.mapSlot_bm _ _ _)

@[simp] theorem Work.startRun_cores (s : SlotId) (w : Work) : (w.startRun s).bm.cores = w.bm.cores := by
  unfold Work.startRun
  split
  · split
    · split <;> simp
    · rfl
  · rfl

@[simp] theorem Work.walk_cores (s : SlotId) : ∀ (q : List DutyRef) (w : Work), (Work.walk s q w).2.bm.cores = w.bm.cores
  | [], _ => rfl
  | d :: q, w => by
    unfold Work.walk
    split
    · split
      · rfl
      · rw [Work.walk_cores s q]
        split <;> simp
    · exact Work.walk_cores s q w

@[simp] theorem Work.beginChain_cores (s : SlotId) (d : DutyRef) (w : Work) : (w.beginChain s d).bm.cores = w.bm.cores := by
  unfold Work.beginChain
  split
  · simp
  · rfl

@[simp] theorem Work.selectDuty_cores (s : SlotId) (w : Work) : (w.selectDuty s).bm.cores = w.bm.cores := by
  have hwalk {o : Option DutyRef} {v : Work} (h : Work.walk s (w.cw.slot s).writeQ w = (o, v)) :
      v.bm.cores = w.bm.cores := by
    rw [← Work.walk_cores s (w.cw.slot s).writeQ w, h]
  unfold Work.selectDuty
  split
  · split
    · next h => exact (Work.beginChain_cores _ _ _).trans (hwalk h)
    · next h => exact hwalk h
  · rfl

@[simp] theorem Work.storeFail_cores (d : DutyRef) (cause : CardCause) (spoiled : Bool) (w : Work) :
    (w.storeFail d cause spoiled).bm.cores = w.bm.cores := by
  unfold Work.storeFail
  split
  · split
    · rfl
    · dsimp only
      split
      · rw [Work.mapSlot_bm, Work.addCard_cores]
        exact Work.mapDuty_cores _ _ _
      · exact Work.mapDuty_cores _ _ _
  · rfl

@[simp] theorem Work.firstState_cores (d : DutyRef) (w : Work) : (w.firstState d).bm.cores = w.bm.cores := by
  unfold Work.firstState
  split
  · split <;> simp
  · rfl

@[simp] theorem Work.giveRaw_cores (i : Nat) (s : SlotId) (w : Work) : (w.giveRaw i s).bm.cores = w.bm.cores := by
  unfold Work.giveRaw
  simp

theorem Work.giveRaws_cores (i : Nat) : ∀ (l : List SlotId) (w : Work),
    (l.foldl (fun v s => v.giveRaw i s) w).bm.cores = w.bm.cores
  | [], _ => rfl
  | s :: l, w => by rw [List.foldl_cons, Work.giveRaws_cores i l, Work.giveRaw_cores]

theorem Work.Served.giveRaw {u : Work} (h : u.Served w) (i : Nat) (s : SlotId) : u.Served (w.giveRaw i s) :=
  (h.addCard _ _ _ _ _).firstState _

/-! ### Entry to HELD (R12, R15) -/

theorem State.tableOk.joinSend (h : w.tableOk) (p : SendPlan) (n prio : Nat) (early : Bool) :
    (w.joinSend p n prio early).tableOk := by
  have hq (t : Tu) : ({ w with tu := t } : Work).tableOk := h.set rfl rfl
  unfold Work.joinSend
  dsimp only
  refine State.tableOk.set (s := (_ : Work).toState) ?_ rfl rfl
  split
  · refine State.tableOk.promoteJob ?_ _
    split
    · exact (hq _).mapRow _ fun _ => rfl
    · exact hq _
  · split
    · exact (hq _).mapRow _ fun _ => rfl
    · exact hq _

theorem State.tableOk.giveProofSend (h : w.tableOk) (i n prio : Nat) : (w.giveProofSend i n prio).tableOk := by
  unfold Work.giveProofSend
  split
  · split
    · exact h
    · split
      · exact h.serve ((Work.Served.refl _).failFull _ _ _ _)
      · exact h.joinSend _ _ _ _
  · exact h

theorem State.tableOk.createDuties (h : w.tableOk) (hr : w.bm.row? i = some r) (hl : r.life = .held)
    (hd : r.develop = .absent) (n : Nat) : (w.createDuties i n).tableOk := by
  unfold Work.createDuties
  dsimp only
  -- the RAW duties leave the row HELD and without a develop duty
  have h0 : (w.mapRow i fun r => { r with policy := some w.cw.policy }).tableOk := h.mapRow i fun _ => rfl
  have hraw : ∀ l : List SlotId, (l.foldl (fun v s => v.giveRaw i s)
      (w.mapRow i fun r => { r with policy := some w.cw.policy })).tableOk := fun l =>
    h0.serve (.foldl (fun s hv => hv.giveRaw i s) l (.refl _))
  have hrow (l : List SlotId) : ∃ z, (l.foldl (fun v s => v.giveRaw i s)
      (w.mapRow i fun r => { r with policy := some w.cw.policy })).bm.row? i = some z ∧ z.core = r.core := by
    have hc := (Bm.row?_cores (Work.giveRaws_cores i l _) i).trans (Bm.row?_cores
      (w.mapRow_cores i (f := fun r => { r with policy := some w.cw.policy }) fun _ => rfl) i)
    obtain ⟨z, hz, hzr⟩ := Bm.row?_core_some hc.symm hr
    exact ⟨z, hz, hzr.symm⟩
  have hdev : (if w.wantsDevelop then (w.cw.rawSlots.foldl (fun v s => v.giveRaw i s)
      (w.mapRow i fun r => { r with policy := some w.cw.policy })).createDevelop i .normal
      else w.cw.rawSlots.foldl (fun v s => v.giveRaw i s)
        (w.mapRow i fun r => { r with policy := some w.cw.policy })).tableOk := by
    split
    · obtain ⟨z, hz, hzr⟩ := hrow w.cw.rawSlots
      obtain ⟨-, -, hzl, -, -, hzd⟩ := Row.core_eq hzr
      exact (hraw _).createDevelop hz (hzl.trans hl) (hzd.trans hd) .normal
    · exact hraw _
  have hproof (l : List SlotId) : (l.foldl (fun v s => v.addCard i s .proof .waitingSource false)
      (if w.wantsDevelop then (w.cw.rawSlots.foldl (fun v s => v.giveRaw i s)
        (w.mapRow i fun r => { r with policy := some w.cw.policy })).createDevelop i .normal
      else w.cw.rawSlots.foldl (fun v s => v.giveRaw i s)
        (w.mapRow i fun r => { r with policy := some w.cw.policy }))).tableOk :=
    hdev.serve (.foldl (fun _ hv => hv.addCard _ _ _ _ _) l (.refl _))
  refine State.tableOk.serve ?_ ((Work.Served.refl _).check i)
  split
  · exact (hproof _).giveProofSend _ _ _
  · exact hproof _

/-- A row that is EXPOSING or PRE enters HELD (R10, R12, R15). -/
theorem State.tableOk.hold (h : w.tableOk) (hr : w.bm.row? i = some r) (hl : r.life = .exposing ∨ r.life = .pre) :
    (w.hold i).tableOk := by
  obtain ⟨hproof, hd⟩ := h.early hr hl
  have hsound := Work.numberRow_sound ((State.tableOk_iff _).1 h).1.sound hr
  have hlife := ((State.tableOk_iff _).1 h).1.life i r hr
  have h1 : (w.numberRow i).tableOk := by
    refine h.update (f := fun r => { r with number := some w.bm.pickNumber }) hr (fun _ => rfl) rfl rfl hsound ?_ rfl id
    exact hlife
  have hr1 : (w.numberRow i).bm.row? i = some { r with number := some w.bm.pickNumber } := by
    show (w.bm.mapRow i fun r => { r with number := some w.bm.pickNumber }).row? i = _
    rw [Bm.row?_mapRow (f := fun r => { r with number := some w.bm.pickNumber }) _ _ _ fun _ => rfl, hr, Option.map_some,
      if_pos rfl]
  have h2 : ((w.numberRow i).mapRow i fun r => { r with life := .held, mark := none }).tableOk := by
    refine h1.update (f := fun r => { r with life := .held, mark := none }) hr1 (fun _ => rfl) rfl rfl
      (Bm.mapRow_sound i ((State.tableOk_iff _).1 h1).1.sound (fun _ => rfl) (fun _ => rfl) fun _ => rfl) ?_ rfl id
    exact fun _ => hproof
  have hr2 : ((w.numberRow i).mapRow i fun r => { r with life := .held, mark := none }).bm.row? i =
      some { r with number := some w.bm.pickNumber, life := .held, mark := none } := by
    show ((w.numberRow i).bm.mapRow i fun r => { r with life := .held, mark := none }).row? i = _
    rw [Bm.row?_mapRow (f := fun r => { r with life := .held, mark := none }) _ _ _ fun _ => rfl, hr1, Option.map_some,
      if_pos rfl]
  have h3 : (((w.numberRow i).mapRow i fun r => { r with life := .held, mark := none }).raise .shotHeld
      (leBytes 3 w.bm.pickNumber)).tableOk := h2.set rfl rfl
  exact h3.createDuties hr2 rfl hd _

theorem State.tableOk.frameEndRow (h : w.tableOk) (i : Nat) : (w.frameEndRow i).tableOk := by
  unfold Work.frameEndRow
  split
  · next r hr =>
    split
    · next hl =>
      split
      · refine State.tableOk.set (s := (w.mapRow i fun x => { x with life := .pre, mark := none }).toState) ?_ rfl rfl
        refine h.update (f := fun x => { x with life := .pre, mark := none }) hr (fun _ => rfl) rfl rfl
          (Bm.mapRow_sound i ((State.tableOk_iff _).1 h).1.sound (fun _ => rfl) (fun _ => rfl) fun _ => rfl) ?_ rfl id
        have hearly := h.early hr (.inl hl)
        exact hearly
      · exact (h.dropRow hr (.inl hl)).set rfl rfl
      · exact (h.hold hr (.inl hl)).set rfl rfl
      · exact (h.hold hr (.inl hl)).set rfl rfl
    · exact h
  · exact h

end

end Sys2Proof.Machine
end

section
/-! PROOF. A row that is not HELD, through what the other blocks do: CW, TU and DE leave its life and its raw chain alone
(R7, R8), so a ring is promoted row by row (R14). -/

namespace Sys2Proof.Machine

/-- A row through what the other blocks do: one that is not HELD keeps its life and its raw chain, and a HELD row can only
settle. -/
structure Row.Apart (r z : Row) : Prop where
  apart : r.life ≠ .held → z.life = r.life ∧ z.raw = r.raw
  held : r.life = .held → z.life = .held ∨ z.life = .settled

/-- Every row goes through what the other blocks do. -/
def Work.Apart (w v : Work) : Prop := ∀ j, Option.Rel Row.Apart (w.bm.row? j) (v.bm.row? j)

theorem Row.Apart.refl (r : Row) : r.Apart r := ⟨fun _ => ⟨rfl, rfl⟩, .inl⟩

theorem Row.Apart.trans {r y z : Row} (h : r.Apart y) (g : y.Apart z) : r.Apart z where
  apart hr := by
    obtain ⟨h1, h2⟩ := h.apart hr
    obtain ⟨g1, g2⟩ := g.apart (h1 ▸ hr)
    exact ⟨g1.trans h1, g2.trans h2⟩
  held hr := by
    rcases h.held hr with hy | hy
    · exact g.held hy
    · exact .inr ((g.apart (by rw [hy]; decide)).1.trans hy)

theorem Work.Apart.refl (w : Work) : w.Apart w := fun j => by
  cases w.bm.row? j with
  | none => exact .none
  | some r => exact .some (.refl r)

section
variable {u v w : Work}

theorem Work.Apart.trans (h : u.Apart v) (g : v.Apart w) : u.Apart w := fun j => by
  have hj := h j
  have gj := g j
  revert hj gj
  cases u.bm.row? j <;> cases v.bm.row? j <;> cases w.bm.row? j <;> intro hj gj <;> cases hj <;> cases gj
  · exact .none
  · next h g => exact .some (h.trans g)

/-- A row that is not HELD is found with its life and its raw chain. -/
theorem Work.Apart.row (h : u.Apart v) {j : Nat} {r : Row} (hr : u.bm.row? j = some r) (hl : r.life ≠ .held) :
    ∃ z, v.bm.row? j = some z ∧ z.life = r.life ∧ z.raw = r.raw := by
  have hj := h j
  rw [hr] at hj
  generalize v.bm.row? j = o at hj
  cases hj with
  | some hz => exact ⟨_, rfl, hz.apart hl⟩

/-- A row of the table later was there before, and what it is now comes of what it was. -/
theorem Work.Apart.of_row (h : u.Apart v) {j : Nat} {z : Row} (hz : v.bm.row? j = some z) :
    ∃ r, u.bm.row? j = some r ∧ r.Apart z := by
  have hj := h j
  rw [hz] at hj
  generalize u.bm.row? j = o at hj
  cases hj with
  | some hr => exact ⟨_, rfl, hr⟩

theorem Row.Served.toApart {r z : Row} (h : r.Served z) : r.Apart z :=
  ⟨fun hl => ⟨(h.apart hl).1, (h.apart hl).2.1⟩, fun hl => (h.held hl).imp_right And.left⟩

theorem Work.Served.apart (h : u.Served v) : u.Apart v := fun j => by
  have hj := h.rows j
  generalize u.bm.row? j = o, v.bm.row? j = p at hj
  cases hj with
  | none => exact .none
  | some hr => exact .some hr.toApart

theorem Work.Apart.set (h : u.Apart v) (hrows : w.bm.rows = v.bm.rows) : u.Apart w := fun j => by
  rw [show w.bm.row? j = v.bm.row? j by rw [Bm.row?, Bm.row?, hrows]]
  exact h j

theorem Work.Apart.mapRow (h : u.Apart v) (i : Nat) {f : Row → Row} (hi : ∀ r, (f r).index = r.index)
    (hf : ∀ r, (f r).life = r.life ∧ (f r).raw = r.raw) : u.Apart (v.mapRow i f) := by
  have hrow (r : Row) : r.Apart (f r) :=
    ⟨fun _ => hf r, fun hl => .inl ((hf r).1.trans hl)⟩
  refine h.trans fun j => ?_
  rw [show (v.mapRow i f).bm.row? j = _ from Bm.row?_mapRow v.bm i j hi]
  cases v.bm.row? j with
  | none => exact .none
  | some r =>
    refine .some ?_
    split
    · exact hrow r
    · exact .refl r

theorem Work.Apart.setDevelop (h : u.Apart v) (i : Nat) (st : DevelopState) : u.Apart (v.setDevelop i st) :=
  (h.mapRow i (Row.develop_index st) fun r => by split <;> exact ⟨rfl, rfl⟩).set rfl

theorem Work.Apart.createDevelop (h : u.Apart v) (i : Nat) (c : DevelopClass) : u.Apart (v.createDevelop i c) :=
  ((h.mapRow i (f := fun r => { r with cls := c }) (fun _ => rfl) fun _ => ⟨rfl, rfl⟩).setDevelop i .pending).set rfl

theorem Work.Apart.promoteJob (h : u.Apart v) (i : Nat) : u.Apart (v.promoteJob i) := by
  unfold Work.promoteJob
  split
  · split
    · split
      · exact (h.mapRow i (f := fun x => { x with cls := .urgent }) (fun _ => rfl) fun _ => ⟨rfl, rfl⟩).set rfl
      · exact h
    · exact h.mapRow i (fun _ => rfl) fun _ => ⟨rfl, rfl⟩
    all_goals exact h
  · exact h

theorem Work.Apart.startJob (h : u.Apart v) (i : Nat) : u.Apart (v.startJob i) := by
  unfold Work.startJob
  split
  · exact (h.setDevelop i .running).set rfl
  · exact h

theorem Work.Apart.lookHead (h : u.Apart v) : u.Apart v.lookHead := by
  have hlook : u.Apart (match v.de.head? with
      | some i =>
        match v.proofAlloc i with
        | some w1 => w1.startJob i
        | none => { v with de := { v.de with engine := .starved } }
      | none => { v with de := { v.de with engine := .idle } }) := by
    split
    · next i _ =>
      split
      · next w1 hw =>
        refine Work.Apart.startJob (Work.Apart.trans h ?_) i
        unfold Work.proofAlloc at hw
        dsimp only at hw
        split at hw
        · cases hw
          have hpages : v.Apart (v.takePages Config.proofPages) := (Work.Apart.refl v).set rfl
          exact hpages.mapRow i (fun _ => rfl) fun _ => ⟨rfl, rfl⟩
        · cases hw
      · exact h.set rfl
    · exact h.set rfl
  unfold Work.lookHead
  split
  · exact hlook
  · exact hlook
  · exact h
  · exact h

theorem Work.Apart.joinSend (h : u.Apart v) (p : SendPlan) (n prio : Nat) (early : Bool) :
    u.Apart (v.joinSend p n prio early) := by
  have hq (t : Tu) : u.Apart { v with tu := t } := h.set rfl
  unfold Work.joinSend
  dsimp only
  refine Work.Apart.set (v := (_ : Work)) ?_ rfl
  split
  · refine Work.Apart.promoteJob ?_ _
    split
    · exact (hq _).mapRow _ (fun _ => rfl) fun _ => ⟨rfl, rfl⟩
    · exact hq _
  · split
    · exact (hq _).mapRow _ (fun _ => rfl) fun _ => ⟨rfl, rfl⟩
    · exact hq _

theorem Work.Apart.giveProofSend (h : u.Apart v) (i n prio : Nat) : u.Apart (v.giveProofSend i n prio) := by
  unfold Work.giveProofSend
  split
  · split
    · exact h
    · split
      · exact h.trans ((Work.Served.refl _).failFull _ _ _ _).apart
      · exact h.joinSend _ _ _ _
  · exact h

theorem Work.Apart.check (h : u.Apart v) (i : Nat) : u.Apart (v.check i) := h.trans ((Work.Served.refl v).check i).apart

theorem Work.Apart.foldl {α : Type} {f : Work → α → Work} (hf : ∀ {v} x, u.Apart v → u.Apart (f v x)) :
    ∀ (l : List α) {v : Work}, u.Apart v → u.Apart (l.foldl f v)
  | [], _, h => h
  | x :: l, _, h => Work.Apart.foldl hf l (hf x h)

theorem Work.Apart.createDuties (h : u.Apart v) (i n : Nat) : u.Apart (v.createDuties i n) := by
  unfold Work.createDuties
  dsimp only
  have hraw : u.Apart (v.cw.rawSlots.foldl (fun v s => v.giveRaw i s)
      (v.mapRow i fun r => { r with policy := some v.cw.policy })) :=
    Work.Apart.foldl (fun s hv => hv.trans ((Work.Served.refl _).giveRaw i s).apart) _
      (h.mapRow i (fun _ => rfl) fun _ => ⟨rfl, rfl⟩)
  refine Work.Apart.check ?_ i
  split
  · refine Work.Apart.giveProofSend (Work.Apart.foldl (fun s hv => hv.trans ((Work.Served.refl _).addCard _ _ _ _ _).apart)
      _ ?_) _ _ _
    split
    · exact hraw.createDevelop i .normal
    · exact hraw
  · refine Work.Apart.foldl (fun s hv => hv.trans ((Work.Served.refl _).addCard _ _ _ _ _).apart) _ ?_
    split
    · exact hraw.createDevelop i .normal
    · exact hraw

end

/-! ### Promotion of the ring (R14) -/

/-- Entry of a row to HELD leaves every other row its life and its raw chain. -/
theorem Work.hold_other {w : Work} {i j : Nat} (hij : j ≠ i) {r : Row} (hr : w.bm.row? j = some r) (hl : r.life ≠ .held) :
    ∃ z, (w.hold i).bm.row? j = some z ∧ z.life = r.life ∧ z.raw = r.raw := by
  refine (Work.Apart.createDuties (.refl (((w.numberRow i).mapRow i fun r => { r with life := .held, mark := none }).raise
    .shotHeld (leBytes 3 w.bm.pickNumber))) i w.bm.pickNumber).row (r := r) ?_ hl
  show ((w.bm.mapRow i fun r => { r with number := some w.bm.pickNumber }).mapRow i fun r =>
    { r with life := .held, mark := none }).row? j = _
  rw [Bm.row?_mapRow (f := fun r => { r with life := .held, mark := none }) _ _ _ fun _ => rfl,
    Bm.row?_mapRow (f := fun r => { r with number := some w.bm.pickNumber }) _ _ _ fun _ => rfl, hr]
  simp only [Option.map_some, if_neg hij]

theorem State.tableOk.holdAll : ∀ (l : List Row) {v : Work}, v.tableOk → (l.map Row.index).Nodup →
    (∀ r ∈ l, r.life = .pre → ∃ z, v.bm.row? r.index = some z ∧ z.life = .pre) →
    (l.foldl (fun v r => if r.life = .pre then v.hold r.index else v) v).tableOk
  | [], _, h, _, _ => h
  | r :: l, v, h, hn, hpre => by
    obtain ⟨hnot, hl⟩ := List.nodup_cons.1 hn
    rw [List.foldl_cons]
    split
    · next hr =>
      obtain ⟨z, hz, hzl⟩ := hpre r (.head _) hr
      refine State.tableOk.holdAll l (h.hold hz (.inr hzl)) hl fun x hx hxl => ?_
      obtain ⟨y, hy, hyl⟩ := hpre x (.tail _ hx) hxl
      have hne : x.index ≠ r.index := fun he => hnot (he ▸ List.mem_map_of_mem hx)
      obtain ⟨t, ht, htl, -⟩ := Work.hold_other hne hy (by rw [hyl]; decide)
      exact ⟨t, ht, htl.trans hyl⟩
    · exact State.tableOk.holdAll l h hl fun x hx => hpre x (.tail _ hx)

theorem State.tableOk.promoteRing {w : Work} (h : w.tableOk) : w.promoteRing.tableOk := by
  have hsound := ((State.tableOk_iff _).1 h).1.sound
  have hmark : ∀ (l : List Row) {v : Work}, v.tableOk ∧ v.bm.cores = w.bm.cores →
      (l.foldl (fun v r => if r.life = .exposing ∧ r.mark = some .opened then
        v.mapRow r.index fun x => { x with mark := some .promoted } else v) v).tableOk ∧
      (l.foldl (fun v r => if r.life = .exposing ∧ r.mark = some .opened then
        v.mapRow r.index fun x => { x with mark := some .promoted } else v) v).bm.cores = w.bm.cores := by
    intro l
    induction l with
    | nil => exact id
    | cons r l ih =>
      intro v hv
      rw [List.foldl_cons]
      refine ih ?_
      split
      · exact ⟨hv.1.mapRow _ fun _ => rfl, (Work.mapRow_cores _ v (f := fun x => { x with mark := some .promoted }) fun _ => rfl).trans hv.2⟩
      · exact hv
  obtain ⟨hok, hcores⟩ := hmark w.bm.rows ⟨h, rfl⟩
  refine State.tableOk.holdAll w.bm.rows hok hsound.1.1 fun r hr hl => ?_
  obtain ⟨z, hz, hzr⟩ := Bm.row?_core_some (Bm.row?_cores hcores.symm r.index) (Bm.row?_of_mem hsound.1.1 hr)
  exact ⟨z, hz, (Row.core_eq hzr).2.2.1.symm.trans hl⟩

end Sys2Proof.Machine
end

section
/-! PROOF. FU changes nothing of the other blocks (R68 to R91); what RDU publishes reaches FU and the view timer alone
(R32). -/

namespace Sys2Proof.Machine

/-! ### The operations of FU -/

/-- The state without FU, the outbound queue and the log of outputs. -/
def State.unfocused (s : State) := (s.rdu, s.sru, s.bm, s.de, s.cw, s.tu, s.pwc, s.freeUsed)

theorem State.unfocused_mk (a b c d e f g h i j k l m n o) :
    State.unfocused ⟨a, b, c, d, e, f, g, h, i, j, k, l, m, n, o⟩ = (c, d, f, h, i, j, b, n) := rfl
theorem State.unfocused_fold (s : State) : (s.rdu, s.sru, s.bm, s.de, s.cw, s.tu, s.pwc, s.freeUsed) = s.unfocused := rfl

section
variable (w : Work)

@[simp] theorem Work.raiseFocus_unfocused  : (w.raiseFocus ).unfocused = w.unfocused := by
  unfold Work.raiseFocus
  rfl

@[simp] theorem Work.putFu_unfocused (f : Fu) : (w.putFu f).unfocused = w.unfocused := by
  unfold Work.putFu
  dsimp only
  repeat' split
  all_goals first | rfl | simp [State.unfocused_mk, State.unfocused_fold]

@[simp] theorem Work.sendQuery_unfocused (bare : Bool) : (w.sendQuery bare).unfocused = w.unfocused := by
  unfold Work.sendQuery
  dsimp only
  repeat' split
  all_goals first | rfl | simp [State.unfocused_mk, State.unfocused_fold]

@[simp] theorem Work.moveLens_unfocused (target : Nat) (origin : MoveOrigin) : (w.moveLens target origin).unfocused = w.unfocused := by
  unfold Work.moveLens
  dsimp only
  repeat' split
  all_goals first | rfl | simp [State.unfocused_mk, State.unfocused_fold]

@[simp] theorem Work.haltLens_unfocused  : (w.haltLens ).unfocused = w.unfocused := by
  unfold Work.haltLens
  dsimp only
  repeat' split
  all_goals first | rfl | simp [State.unfocused_mk, State.unfocused_fold]

@[simp] theorem Work.faultLens_unfocused  : (w.faultLens ).unfocused = w.unfocused := by
  unfold Work.faultLens
  dsimp only
  repeat' split
  all_goals first | rfl | simp [State.unfocused_mk, State.unfocused_fold]

@[simp] theorem Work.setHalfPress_unfocused (up : Bool) : (w.setHalfPress up).unfocused = w.unfocused := by
  unfold Work.setHalfPress
  dsimp only
  repeat' split
  all_goals first | rfl | simp [State.unfocused_mk, State.unfocused_fold]

@[simp] theorem Work.completeFrame_unfocused  : (w.completeFrame ).unfocused = w.unfocused := by
  unfold Work.completeFrame
  dsimp only
  repeat' split
  all_goals first | rfl | simp [State.unfocused_mk, State.unfocused_fold]

@[simp] theorem Work.settleFrame_unfocused (position : Option Nat) (moving : Bool) : (w.settleFrame position moving).unfocused = w.unfocused := by
  unfold Work.settleFrame
  dsimp only
  repeat' split
  all_goals first | rfl | simp [State.unfocused_mk, State.unfocused_fold]

@[simp] theorem Work.focusFrameStart_unfocused (kind : FrameKind) (id timestamp : Nat) : (w.focusFrameStart kind id timestamp).unfocused = w.unfocused := by
  unfold Work.focusFrameStart
  dsimp only
  repeat' split
  all_goals first | rfl | simp [State.unfocused_mk, State.unfocused_fold]

@[simp] theorem Work.takePos_unfocused (position : Nat) (moving : Bool) : (w.takePos position moving).unfocused = w.unfocused := by
  unfold Work.takePos
  dsimp only
  repeat' split
  all_goals first | rfl | simp [State.unfocused_mk, State.unfocused_fold]

@[simp] theorem Work.answerExpires_unfocused  : (w.answerExpires ).unfocused = w.unfocused := by
  unfold Work.answerExpires
  dsimp only
  repeat' split
  all_goals first | rfl | simp [State.unfocused_mk, State.unfocused_fold]

@[simp] theorem Work.takeArrived_unfocused (position : Nat) : (w.takeArrived position).unfocused = w.unfocused := by
  unfold Work.takeArrived
  dsimp only
  repeat' split
  all_goals first | rfl | simp [State.unfocused_mk, State.unfocused_fold]

@[simp] theorem Work.moveExpires_unfocused  : (w.moveExpires ).unfocused = w.unfocused := by
  unfold Work.moveExpires
  repeat' split
  all_goals first | rfl | simp [State.unfocused_mk, State.unfocused_fold]

@[simp] theorem Work.adoptAf_unfocused  : (w.adoptAf ).unfocused = w.unfocused := by
  unfold Work.adoptAf
  dsimp only
  repeat' split
  all_goals first | rfl | simp [State.unfocused_mk, State.unfocused_fold]

@[simp] theorem Work.requestAf_unfocused (s : AfSettings) : (w.requestAf s).unfocused = w.unfocused := by
  unfold Work.requestAf
  dsimp only
  repeat' split
  all_goals first | rfl | simp [State.unfocused_mk, State.unfocused_fold]

@[simp] theorem Work.takeAfBlock_unfocused (id : Nat) (zones : List AfZone) : (w.takeAfBlock id zones).unfocused = w.unfocused := by
  unfold Work.takeAfBlock
  dsimp only
  repeat' split
  all_goals first | rfl | simp [State.unfocused_mk, State.unfocused_fold]

@[simp] theorem Work.attachLens_unfocused (d : Descriptor) : (w.attachLens d).unfocused = w.unfocused := by
  unfold Work.attachLens
  dsimp only
  repeat' split
  all_goals first | rfl | simp [State.unfocused_mk, State.unfocused_fold]

@[simp] theorem Work.detachLens_unfocused  : (w.detachLens ).unfocused = w.unfocused := by
  unfold Work.detachLens
  dsimp only
  repeat' split
  all_goals first | rfl | simp [State.unfocused_mk, State.unfocused_fold]

@[simp] theorem Work.focusHalt_unfocused  : (w.focusHalt ).unfocused = w.unfocused := by
  unfold Work.focusHalt
  dsimp only
  repeat' split
  all_goals first | rfl | simp [State.unfocused_mk, State.unfocused_fold]

@[simp] theorem Work.focusFromQuiet_unfocused  : (w.focusFromQuiet ).unfocused = w.unfocused := by
  unfold Work.focusFromQuiet
  dsimp only
  repeat' split
  all_goals first | rfl | simp [State.unfocused_mk, State.unfocused_fold]

@[simp] theorem Work.focusFromHalt_unfocused  : (w.focusFromHalt ).unfocused = w.unfocused := by
  unfold Work.focusFromHalt
  dsimp only
  repeat' split
  all_goals first | rfl | simp [State.unfocused_mk, State.unfocused_fold]

@[simp] theorem Work.focusWarning_unfocused  : (w.focusWarning ).unfocused = w.unfocused := by
  unfold Work.focusWarning
  dsimp only
  repeat' split
  all_goals first | rfl | simp [State.unfocused_mk, State.unfocused_fold]

@[simp] theorem Work.reportStart_unfocused (kind : FrameKind) (id : Nat) : (w.reportStart kind id).unfocused = w.unfocused := by
  unfold Work.reportStart
  repeat' split
  all_goals first | rfl | simp [State.unfocused_mk, State.unfocused_fold]

@[simp] theorem Work.reportAf_unfocused (id : Nat) (zones : List AfZone) : (w.reportAf id zones).unfocused = w.unfocused := by
  unfold Work.reportAf
  repeat' split
  all_goals first | rfl | simp [State.unfocused_mk, State.unfocused_fold]

/-! ### What RDU publishes (R32) -/

/-- The state behind RDU, SRU and FU. -/
def State.behind (s : State) := (s.bm, s.de, s.cw, s.tu, s.pwc, s.freeUsed)

theorem State.behind_of_unfocused {s t : State} (h : t.unfocused = s.unfocused) : t.behind = s.behind :=
  congrArg (fun x => (x.2.2.1, x.2.2.2.1, x.2.2.2.2.1, x.2.2.2.2.2.1, x.2.2.2.2.2.2.1, x.2.2.2.2.2.2.2)) h

@[simp] theorem Work.publishDrive_behind : w.publishDrive.behind = w.behind := by
  unfold Work.publishDrive
  dsimp only
  split_ifs
  · rfl
  · exact (State.behind_of_unfocused (Work.setHalfPress_unfocused _ _)).trans rfl
  · rfl
  · exact (State.behind_of_unfocused (Work.setHalfPress_unfocused _ _)).trans rfl

@[simp] theorem Work.setDrive_behind (d : Drive) : (w.setDrive d).behind = w.behind :=
  Work.publishDrive_behind (w.withRdu _)

end

section
variable {w v : Work} {i : Nat}

theorem State.tableOk.behind (h : w.tableOk) (hv : v.behind = w.behind) : v.tableOk :=
  h.set (congrArg (fun x => x.1) hv) (congrArg (fun x => x.2.1) hv)

theorem State.tableOk.unfocused (h : w.tableOk) (hv : v.unfocused = w.unfocused) : v.tableOk :=
  h.behind (State.behind_of_unfocused hv)

/-! ### SRU (R51 to R65) -/

theorem State.tableOk.requestCapture (h : w.tableOk) (row : Nat) (g : GateOutcome) : (w.requestCapture row g).tableOk := by
  unfold Work.requestCapture
  split
  · split
    · exact h.set rfl rfl
    · exact h.set rfl rfl
  · exact h.abortRow _ _

theorem State.tableOk.serveCapture (h : w.tableOk) : w.serveCapture.tableOk := by
  unfold Work.serveCapture
  split
  · exact (h.set (t := ({ w with sru := { w.sru with waiting := none } } : Work).toState) rfl rfl).requestCapture _ _
  · exact h

theorem State.tableOk.endReadout (h : w.tableOk) (r : Readout) (c : ShotOutcome) : (w.endReadout r c).tableOk := by
  have hclose : ({ w with sru := w.sru.close } : Work).tableOk := h.set rfl rfl
  unfold Work.endReadout
  dsimp only
  split
  · exact (hclose.abortRow _ _).serveCapture
  · exact hclose.serveCapture

theorem State.tableOk.viewExpires (h : w.tableOk) : w.viewExpires.tableOk := by
  unfold Work.viewExpires
  split
  · exact h.set rfl rfl
  · exact h

theorem State.tableOk.startExpires (h : w.tableOk) : w.startExpires.tableOk := by
  have hclose : ({ w with sru := w.sru.close } : Work).tableOk := h.set rfl rfl
  unfold Work.startExpires
  split
  · next r _ =>
    split
    · dsimp only
      refine State.tableOk.serveCapture ?_
      have hrow : (match r.kind with
          | .capture => ({ w with sru := w.sru.close } : Work).abortRow r.row .noFrame
          | .view => { w with sru := w.sru.close }).tableOk := by
        split
        · exact hclose.abortRow _ _
        · exact hclose
      split
      · exact hrow.set rfl rfl
      · exact hrow.set rfl rfl
    · exact h
  · exact h

theorem State.tableOk.endExpires (h : w.tableOk) : w.endExpires.tableOk := by
  unfold Work.endExpires
  split
  · split
    · exact h.endReadout _ _
    · exact h
  · exact h

theorem State.tableOk.decideFlash (h : w.tableOk) (row : Nat) (ready : Bool) : (w.decideFlash row ready).tableOk := by
  unfold Work.decideFlash
  split
  · split
    · exact h.mapRow _ fun _ => rfl
    · dsimp only
      have hphase (r : Rdu) (f : Flash) :
          (({ w with rdu := r } : Work).mapRow row fun x => { x with flash := f }).tableOk :=
        State.tableOk.mapRow (w := { w with rdu := r }) (h.set rfl rfl) _ fun _ => rfl
      split
      · exact (hphase _ _).set rfl rfl
      · exact hphase _ _
  · exact h

theorem State.tableOk.frameStarts (h : w.tableOk) (kind : FrameKind) (id : Nat) (ready : Bool) :
    (w.frameStarts kind id ready).tableOk := by
  unfold Work.frameStarts
  split
  · split
    · dsimp only
      have hsru (s : Sru) : ({ w with sru := s } : Work).tableOk := h.set rfl rfl
      have hreport (s : Sru) : (({ w with sru := s } : Work).reportStart kind id).tableOk :=
        (hsru s).unfocused (Work.reportStart_unfocused _ _ _)
      have hread (s t : Sru) : ({ ({ w with sru := s } : Work).reportStart kind id with sru := t } : Work).tableOk :=
        (hreport s).set rfl rfl
      split
      · exact hread _ _
      · exact ((hread _ _).mapRow _ (f := fun x => { x with timestamp := w.now }) fun _ => rfl).decideFlash _ _
    · exact h
  · exact h

theorem State.tableOk.afArrives (h : w.tableOk) (zones : List AfZone) : (w.afArrives zones).tableOk := by
  have hsru (s : Sru) : ({ w with sru := s } : Work).tableOk := h.set rfl rfl
  unfold Work.afArrives
  split
  · split
    · split
      · exact (hsru _).unfocused (Work.reportAf_unfocused _ _ _)
      · exact h
    · exact h
  · exact h

theorem State.tableOk.lineArrives (h : w.tableOk) (samples : List Byte) (crc : BitVec 16) :
    (w.lineArrives samples crc).tableOk := by
  have hset (s : Sru) (m : Memory) : ({ w with sru := s, mem := m } : Work).tableOk := h.set rfl rfl
  unfold Work.lineArrives
  split
  · split
    · split
      · exact h.set rfl rfl
      · split
        · exact (hset _ _).mapRow _ fun _ => rfl
        · exact h
    · exact h
  · exact h

theorem State.tableOk.closeFrame (h : w.tableOk) (r : Readout) : (w.closeFrame r).tableOk := by
  have hclose : ({ w with sru := w.sru.close } : Work).tableOk := h.set rfl rfl
  unfold Work.closeFrame
  dsimp only
  split
  · have hrow := hclose.mapRow r.row (f := fun x => { x with focus := some (w.focusRecord r) }) fun _ => rfl
    refine State.tableOk.frameEndRow (hrow.set ?_ ?_) _ <;> rfl
  · exact hclose.mapRow _ fun _ => rfl

theorem State.tableOk.frameEnds (h : w.tableOk) (n : Nat) : (w.frameEnds n).tableOk := by
  unfold Work.frameEnds
  split
  · split
    · split
      · exact h.closeFrame _
      · exact h.endReadout _ _
    · exact h
  · exact h

theorem State.tableOk.sensorStop (h : w.tableOk) : w.sensorStop.tableOk := by
  have hstop : ({ w with sru := { w.sru.quiet.close with waiting := none } } : Work).tableOk := h.set rfl rfl
  have hread : (match w.sru.readout with
      | some r => if r.kind = FrameKind.capture then
          ({ w with sru := { w.sru.quiet.close with waiting := none } } : Work).abortRow r.row .power
        else { w with sru := { w.sru.quiet.close with waiting := none } }
      | none => { w with sru := { w.sru.quiet.close with waiting := none } }).tableOk := by
    split
    · split
      · exact hstop.abortRow _ _
      · exact hstop
    · exact hstop
  unfold Work.sensorStop
  dsimp only
  split
  · exact hread.abortRow _ _
  · exact hread

end

end Sys2Proof.Machine
end

section
/-! PROOF. RDU and the reports between blocks keep the shot table sound (R30 to R50; log entry 3). -/

namespace Sys2Proof.Machine

section
variable {w : Work} {i : Nat}

theorem State.tableOk.setDrive (h : w.tableOk) (d : Drive) : (w.setDrive d).tableOk := h.behind (Work.setDrive_behind w d)
theorem State.tableOk.publishDrive (h : w.tableOk) : w.publishDrive.tableOk := h.behind (Work.publishDrive_behind w)
theorem State.tableOk.withRdu (h : w.tableOk) (f : Rdu → Rdu) : (w.withRdu f).tableOk := h.set rfl rfl
theorem State.tableOk.raise (h : w.tableOk) (k : Notice) (s : List Byte) : (w.raise k s).tableOk := h.set rfl rfl

/-! ### Attempts (R37, R38) -/

theorem State.tableOk.skipAttempt (h : w.tableOk) (c : SkipCause) : (w.skipAttempt c).tableOk :=
  ((h.withRdu _).raise .bufferFull (c.byte :: leBytes 2 w.bm.freeCount)).setDrive _

theorem State.tableOk.evictOldest (h : w.tableOk) : w.evictOldest.tableOk := by
  unfold Work.evictOldest
  split
  · exact (h.withRdu _).evictRow _
  · exact h

theorem Work.judgeRaw_congr {v : Work} (hbm : v.bm = w.bm) (hpwc : v.pwc = w.pwc) : v.judgeRaw = w.judgeRaw := by
  simp only [Work.judgeRaw, hbm, hpwc]

theorem State.tableOk.grantRing (h : w.tableOk) (hg : w.judgeRaw = .granted i) : (w.grantRing i).tableOk :=
  (((h.createRow hg _ _ _ _).withRdu _).setDrive _).requestCapture _ _

theorem Work.countUp_behind (n : Nat) (w : Work) : (w.countUp n).2.bm = w.bm ∧ (w.countUp n).2.de = w.de ∧
    (w.countUp n).2.pwc = w.pwc := by
  unfold Work.countUp
  split <;> exact ⟨rfl, rfl, rfl⟩

theorem State.tableOk.grantBurst (h : w.tableOk) (hg : w.judgeRaw = .granted i) (x : Release) :
    (w.grantBurst i x).tableOk := by
  obtain ⟨hbm1, hde1, hpwc1⟩ := Work.countUp_behind w.rdu.counter w
  obtain ⟨hbm2, hde2, hpwc2⟩ := Work.countUp_behind ((w.rdu.record.map BurstRecord.captured).getD 0) (w.countUp w.rdu.counter).2
  have hcount : ((w.countUp w.rdu.counter).2.countUp ((w.rdu.record.map BurstRecord.captured).getD 0)).2.tableOk :=
    h.set (hbm2.trans hbm1) (hde2.trans hde1)
  have hgrant := (Work.judgeRaw_congr (hbm2.trans hbm1) (hpwc2.trans hpwc1)).trans hg
  exact (((hcount.createRow hgrant _ _ _ _).withRdu _).setDrive _).requestCapture _ _

theorem State.tableOk.grantRow (h : w.tableOk) (hg : w.judgeRaw = .granted i) : (w.grantRow i).tableOk := by
  unfold Work.grantRow
  split
  · exact h.grantRing hg
  · split
    · exact h.grantBurst hg _
    · exact h

/-- The allocation after the full ring has lost its oldest row: granted, or denied, retried and skipped (R37 steps 4 to 7). -/
def Work.allocateRow (ring : Bool) (w : Work) : Work :=
  match w.judgeRaw with
  | .granted i => w.grantRow i
  | .denied c =>
    if ring = true ∧ w.rdu.ring ≠ [] then
      match w.evictOldest.judgeRaw with
      | .granted i => w.evictOldest.grantRow i
      | .denied c2 => w.evictOldest.skipAttempt c2
    else w.skipAttempt c

theorem Work.allocate_eq (w : Work) : w.allocate =
    (if w.rdu.drive.isRing = true ∧ w.rdu.active.depth ≤ w.rdu.ring.length then w.evictOldest else w).allocateRow
      w.rdu.drive.isRing := by
  unfold Work.allocate Work.allocateRow
  rfl

theorem State.tableOk.allocateRow (h : w.tableOk) (ring : Bool) : (w.allocateRow ring).tableOk := by
  unfold Work.allocateRow
  split
  · next hg => exact h.grantRow hg
  · split
    · split
      · next hg => exact h.evictOldest.grantRow hg
      · exact h.evictOldest.skipAttempt _
    · exact h.skipAttempt _

theorem State.tableOk.allocate (h : w.tableOk) : w.allocate.tableOk := by
  rw [Work.allocate_eq]
  refine State.tableOk.allocateRow ?_ _
  split
  · exact h.evictOldest
  · exact h

theorem State.tableOk.attempt (h : w.tableOk) : w.attempt.tableOk := by
  unfold Work.attempt
  split
  · exact h
  · split
    · exact h.skipAttempt _
    · exact h.allocate

/-! ### The drive's states (R30 to R43) -/

theorem State.tableOk.enterPrecapturing (h : w.tableOk) : w.enterPrecapturing.tableOk := ((h.withRdu _).setDrive _).attempt

theorem State.tableOk.enterReady (h : w.tableOk) : w.enterReady.tableOk := by
  unfold Work.enterReady
  dsimp only
  split
  · exact (h.withRdu _).enterPrecapturing
  · exact (h.withRdu _).setDrive _

theorem State.tableOk.enterIdle (h : w.tableOk) : w.enterIdle.tableOk := (h.withRdu _).setDrive _

theorem State.tableOk.enterRest (h : w.tableOk) : w.enterRest.tableOk := by
  unfold Work.enterRest
  split
  · exact h.enterReady
  · exact h.enterIdle

theorem State.tableOk.openBurst (h : w.tableOk) (o : Origin) (g : GateOutcome) : (w.openBurst o g).tableOk :=
  ((h.withRdu _).setDrive _).attempt

theorem State.tableOk.startRelease (h : w.tableOk) (o : Origin) : (w.startRelease o).tableOk := by
  unfold Work.startRelease
  split
  · exact h.openBurst _ _
  · exact h.openBurst _ _
  · exact (h.withRdu _).setDrive _

theorem State.tableOk.closeRecord (h : w.tableOk) (c : EndCause) : (w.closeRecord c).tableOk := by
  unfold Work.closeRecord
  dsimp only
  split
  · exact (h.withRdu _).raise _ _
  · exact h.withRdu _

theorem State.tableOk.meetEnd (h : w.tableOk) (c : EndCause) : (w.meetEnd c).tableOk := by
  unfold Work.meetEnd
  split
  · dsimp only
    split
    · exact h.withRdu _
    · exact ((h.withRdu _).closeRecord _).enterRest
  · exact h

theorem State.tableOk.dropTheRing (h : w.tableOk) : w.dropTheRing.tableOk := h.dropRing.withRdu _

theorem State.tableOk.promoteTheRing (h : w.tableOk) : w.promoteTheRing.tableOk := (h.promoteRing.withRdu _).setDrive _

theorem State.tableOk.s1Released (h : w.tableOk) : w.s1Released.tableOk := by
  unfold Work.s1Released
  split
  · exact h.enterIdle
  · exact h.dropTheRing.enterIdle
  · exact h.dropTheRing.enterIdle
  · split
    · exact (h.withRdu _).enterIdle
    · exact h.publishDrive
  all_goals exact h.publishDrive

theorem State.tableOk.s2Pressed (h : w.tableOk) : w.s2Pressed.tableOk := by
  unfold Work.s2Pressed
  split
  · exact h.startRelease _
  · exact h.promoteTheRing
  · exact h.promoteTheRing
  all_goals exact h

theorem State.tableOk.s2Released (h : w.tableOk) : w.s2Released.tableOk := by
  have hend : (match w.rdu.release with
      | some x => if x.origin = Origin.release ∧ ¬ (x.single = true ∧ x.granted = true) then w.meetEnd .s2Up else w
      | none => w).tableOk := by
    split
    · split
      · exact h.meetEnd _
      · exact h
    · exact h
  unfold Work.s2Released
  split
  · split
    · exact (h.withRdu _).enterRest
    · exact h
  · exact hend
  · exact hend
  all_goals exact h

theorem State.tableOk.takeRemote (h : w.tableOk) (o : Origin) (n : Nat) : (w.takeRemote o n).tableOk :=
  (h.withRdu _).publishDrive.startRelease _

theorem State.tableOk.frameTimerExpires (h : w.tableOk) : w.frameTimerExpires.tableOk := by
  unfold Work.frameTimerExpires
  split
  · exact h.attempt
  · exact h

theorem State.tableOk.focusWaitExpires (h : w.tableOk) : w.focusWaitExpires.tableOk := by
  unfold Work.focusWaitExpires
  split
  · split
    · exact h.openBurst _ _
    · exact h
  · exact h

theorem State.tableOk.gateAgain (h : w.tableOk) (g : Option GateOutcome) : (w.gateAgain g).tableOk := by
  unfold Work.gateAgain
  split
  · exact h.openBurst _ _
  · exact h

theorem State.tableOk.burstCaptureEnds (h : w.tableOk) (x : Release) (l : Option Life) (n : Option Nat) :
    (w.burstCaptureEnds x l n).tableOk := by
  unfold Work.burstCaptureEnds
  dsimp only
  split
  · exact (h.withRdu _).meetEnd _
  · split
    · exact (h.withRdu _).meetEnd _
    · split
      · exact (h.withRdu _).meetEnd _
      · split
        · exact (h.withRdu _).meetEnd _
        · exact h.withRdu _

theorem State.tableOk.captureEnds (h : w.tableOk) (row : Nat) (l : Option Life) (n : Option Nat) :
    (w.captureEnds row l n).tableOk := by
  unfold Work.captureEnds
  split
  · split
    · dsimp only
      split
      · exact (h.withRdu _).withRdu _
      · split
        · split
          · exact (h.withRdu _).burstCaptureEnds _ _ _
          · exact h.withRdu _
        · exact h.withRdu _
    · exact h
  · exact h

theorem State.tableOk.driveWarning (h : w.tableOk) : w.driveWarning.tableOk := by
  unfold Work.driveWarning
  dsimp only
  refine State.tableOk.enterIdle (State.tableOk.withRdu ?_ _)
  have hclose : (match (w.withRdu fun r => { r.endWait with timer := false }).rdu.release with
      | some x => (w.withRdu fun r => { r.endWait with timer := false }).closeRecord (x.ending.getD .power)
      | none => w.withRdu fun r => { r.endWait with timer := false }).tableOk := by
    split
    · exact (h.withRdu _).closeRecord _
    · exact h.withRdu _
  split
  · exact hclose.dropTheRing
  · exact hclose

/-! ### The reports (log entry 3) -/

theorem State.tableOk.handle (h : w.tableOk) (r : Report) : (w.handle r).tableOk := by
  have hserved {v : Work} (hv : w.Served v) : v.tableOk := h.serve hv
  cases r with
  | deLook => exact h.lookHead
  | reclaim up => exact hserved ((Work.Served.refl w).takeReclaim up)
  | readEnded b d => exact hserved ((Work.Served.refl w).takeRead b d)
  | cardDone i c => exact hserved ((Work.Served.refl w).takeCardDone i c)
  | developChanged i => exact hserved ((Work.Served.refl w).takeDevelop i)
  | frontier i => exact hserved (Work.Served.refl w).updateWait
  | proofLost i => exact hserved ((Work.Served.refl w).tetherProofLost i)
  | select => exact hserved (Work.Served.refl w).selectEntry
  | focus g => exact h.gateAgain g
  | rowEnded i l n => exact h.captureEnds i l n

theorem State.tableOk.drain : ∀ (k : Nat) {w : Work}, w.tableOk → (Work.drain k w).tableOk
  | 0, _, h => h
  | k + 1, w, h => by
    unfold Work.drain
    split
    · exact h
    · next r rest _ =>
      have hrest : ({ w with bus := rest } : Work).tableOk := h.set rfl rfl
      exact State.tableOk.drain k (hrest.handle r)

theorem State.tableOk.settle (h : w.tableOk) : w.settle.tableOk := h.drain 4096

end

end Sys2Proof.Machine
end

section
/-! PROOF. Requests, desk frames, the power states and the warning keep the shot table sound; rows stay distinct: O5. -/

namespace Sys2Proof.Machine

section
variable {w : Work} {i : Nat} {r : Row}

/-! ### Protect, discard, collect (R18, R19, R21) -/

theorem Bm.numbered?_some {b : Bm} {n : Nat} (h : b.numbered? n = some r) : r ∈ b.rows ∧ r.number = some n :=
  ⟨List.mem_of_find?_eq_some h, by simpa using List.find?_some h⟩

/-- A row found by its number is the row with its index. -/
theorem State.tableOk.numbered {n : Nat} (h : w.tableOk) (hr : w.bm.numbered? n = some r) : w.bm.row? r.index = some r :=
  Bm.row?_of_mem ((State.tableOk_iff _).1 h).1.sound.1.1 (Bm.numbered?_some hr).1

theorem State.tableOk.protectSend {z : Row} (h : w.tableOk) (hz : w.bm.row? r.index = some z) (hzr : z.core = r.core)
    (hl : r.life = .held) (n : Nat) : (w.protectSend r n).tableOk := by
  obtain ⟨-, -, hzl, -, -, hzd⟩ := Row.core_eq hzr
  unfold Work.protectSend
  split
  · exact h
  · dsimp only
    split
    · next hd =>
      split
      · exact (h.createDevelop hz (hzl.trans hl) (hzd.trans hd) .urgent).giveProofSend _ _ _
      · exact h
    · exact h.giveProofSend _ _ _
    · exact h.giveProofSend _ _ _
    · split
      · exact h
      · exact h.giveProofSend _ _ _
      · split
        · exact h.serve ((Work.Served.refl w).failFull _ _ _ _)
        · exact h.joinSend _ _ _ _
    · exact h
    · exact h

theorem State.tableOk.protectRow (h : w.tableOk) (hr : w.bm.row? r.index = some r) (on : Bool) :
    (w.protectRow r on).tableOk := by
  have hset : (w.mapRow r.index fun x => { x with protect := on }).tableOk := h.mapRow _ fun _ => rfl
  have hrow := Bm.row?_cores (w.mapRow_cores r.index (f := fun x => { x with protect := on }) fun _ => rfl) r.index
  obtain ⟨z, hz, hzr⟩ := Bm.row?_core_some hrow.symm hr
  unfold Work.protectRow
  dsimp only
  split
  · next hc => exact (hset.protectSend hz hzr.symm hc.2.2.1 _).serve ((Work.Served.refl _).check _)
  · exact hset

theorem State.tableOk.discardRow (h : w.tableOk) (i : Nat) : (w.discardRow i).tableOk := by
  have hd : ((w.mapRow i fun x => { x with discarding := true }).discardDevelop i).tableOk := 
    (h.mapRow i (f := fun x => { x with discarding := true }) fun _ => rfl).discardDevelop i
  exact hd.serve ((((Work.Served.refl _).discardCards i).discardTethers i).check i)

/-- The collected rows leave the table one by one. -/
theorem State.tableOk.collect : ∀ (l : List Row) {v : Work}, v.tableOk → (l.map Row.index).Nodup →
    (∀ r ∈ l, v.bm.row? r.index = some r ∧ r.collectable = true) →
    (l.foldl (fun v r => v.removeRow r.index) v).tableOk
  | [], _, h, _, _ => h
  | r :: l, v, h, hn, hrow => by
    obtain ⟨hnot, hl⟩ := List.nodup_cons.1 hn
    obtain ⟨hr, hc⟩ := hrow r (.head _)
    have hlife := ((State.tableOk_iff _).1 h).1.life _ _ hr
    have hempty : r.raw = none ∧ r.proof = none ∧ r.develop.isFinal = true := by
      unfold Row.lifeOk at hlife
      rcases (by simpa [Row.collectable] using hc : r.life = .settled ∨ r.life = .void) with hl | hl <;>
        simpa only [hl] using hlife
    obtain ⟨hraw, hproof, hd⟩ := hempty
    rw [List.foldl_cons]
    refine State.tableOk.collect l (h.removeRow hr hraw hproof hd) hl fun x hx => ?_
    have hne : x.index ≠ r.index := fun he => hnot (he ▸ List.mem_map_of_mem hx)
    refine ⟨?_, (hrow x (.tail _ hx)).2⟩
    show (v.bm.remove r.index).row? x.index = some x
    rw [Bm.row?_remove, if_neg hne]
    exact (hrow x (.tail _ hx)).1

/-! ### Power (R189 to R192) -/

theorem State.tableOk.lookS1 (h : w.tableOk) : w.lookS1.tableOk := by
  unfold Work.lookS1
  split
  · exact h.enterReady
  · exact h

theorem State.tableOk.wake (h : w.tableOk) (c : WakeCause) : (w.wake c).tableOk := by
  have hrun : ({ w.setPower .run with sru := w.sru.run } : Work).tableOk := h.set rfl rfl
  unfold Work.wake
  dsimp only
  refine State.tableOk.lookS1 (State.tableOk.raise ?_ _ _)
  split
  · exact State.tableOk.serve (hrun.unfocused (Work.focusFromHalt_unfocused _)) (Work.Served.refl _).tetherWake
  · exact hrun.unfocused (Work.focusFromQuiet_unfocused _)

theorem State.tableOk.leaveQuiet (h : w.tableOk) : w.leaveQuiet.tableOk := by
  have hrun : ({ w.setPower .run with sru := w.sru.run } : Work).tableOk := h.set rfl rfl
  exact (hrun.unfocused (Work.focusFromQuiet_unfocused _)).lookS1

theorem State.tableOk.enterQuiet (h : w.tableOk) : w.enterQuiet.tableOk := by
  have hquiet : ({ w.setPower .quiet with sru := w.sru.quiet } : Work).tableOk := h.set rfl rfl
  exact hquiet.unfocused (Work.haltLens_unfocused _)

theorem State.tableOk.enterHalt (h : w.tableOk) : w.enterHalt.tableOk := by
  have hhalt : (w.setPower .halt).tableOk := h.set rfl rfl
  have hfocus : ((w.setPower .halt).sensorStop.focusHalt).tableOk :=
    hhalt.sensorStop.unfocused (Work.focusHalt_unfocused _)
  exact (hfocus.set (t := ({ (w.setPower .halt).sensorStop.focusHalt with
    cw := (w.setPower .halt).sensorStop.focusHalt.cw.mapBoth Slot.abandonReads } : Work).toState) rfl rfl).serve
    (Work.Served.refl _).tetherHalt

theorem State.tableOk.warn (h : w.tableOk) : w.warn.tableOk := by
  have hlatch : (({ w with pwc := { w.pwc with latched := true } } : Work).raise .powerWarn []).tableOk := h.set rfl rfl
  have hdelivered : w.delivered.tableOk :=
    ((((hlatch.unfocused (Work.focusWarning_unfocused _)).driveWarning).sensorStop).developWarning).serve
      (Work.Served.refl _).tetherWarning.cardWarning
  rw [Work.warn_eq]
  exact hdelivered.set rfl rfl

theorem State.tableOk.judgeWarning (h : w.tableOk) : w.judgeWarning.tableOk := by
  unfold Work.judgeWarning
  split
  · exact h.warn
  · exact h

theorem State.tableOk.warningInput (h : w.tableOk) (b : Bool) : (w.warningInput b).tableOk := by
  have hpin : ({ w with pins := { w.pins with warning := b } } : Work).tableOk := h.set rfl rfl
  unfold Work.warningInput
  dsimp only
  split
  · exact hpin.warn
  · exact hpin

theorem State.tableOk.lineEvent (h : w.tableOk) (l : LineId) (b : Bool) : (w.lineEvent l b).tableOk := by
  obtain ⟨r, e | e | e | ⟨-, -, e⟩ | e | e | e⟩ := w.lineEvent_cases l b <;> rw [e]
  · exact h.withRdu _
  · exact (h.withRdu _).enterReady
  · exact (h.withRdu _).publishDrive
  · exact (h.withRdu _).wake _
  · exact (h.withRdu _).s2Pressed
  · exact (h.withRdu _).s1Released
  · exact (h.withRdu _).s2Released

theorem State.tableOk.cardEvent (h : w.tableOk) (s : SlotId) (b : Bool) : (w.cardEvent s b).tableOk := by
  have hline : (w.cardLine s b).tableOk := h.serve ((Work.Served.refl w).cardLine s b)
  unfold Work.cardEvent
  split
  · exact hline.wake _
  · exact hline

theorem State.tableOk.finishWarning (h : w.tableOk) : w.finishWarning.tableOk := by
  unfold Work.finishWarning
  split
  · dsimp only
    split
    · exact h.set rfl rfl
    · exact h.set rfl rfl
  · exact h

theorem Work.resetPin_tableOk (w : Work) : w.resetPin.tableOk :=
  State.tableOk.judgeWarning (State.tableOk_of_reset rfl rfl)

theorem Work.resetAll_tableOk (t : Byte) (w : Work) : (w.resetAll t).tableOk :=
  State.tableOk.judgeWarning (State.tableOk_of_reset rfl rfl)

/-! ### The desk (R150, R167, R168) -/

theorem State.tableOk.takeRequest (h : w.tableOk) (n : Nat) (c : Byte) : (w.takeRequest n c).tableOk := by
  unfold Work.takeRequest
  split
  · exact h.serve ((Work.Served.refl w).refuseRequest _ _ _)
  · split
    · exact h.joinSend _ _ _ _
    · split
      · exact h.serve ((Work.Served.refl w).raiseEntry _)
      · exact h
    · exact h.serve ((Work.Served.refl w).refuseRequest _ _ _)

theorem State.tableOk.takeDeskRemote (h : w.tableOk) (c : Byte) : (w.takeDeskRemote c).tableOk := by
  have hnak (k : Result) : (w.nakRemote c k).tableOk := h.serve ((Work.Served.refl w).sendDesk _ _)
  unfold Work.takeDeskRemote
  split
  · split
    · exact h.takeRemote _ _
    · exact hnak _
  · exact hnak _

theorem State.tableOk.takeBound (h : w.tableOk) (m : DeskMsg) : (w.takeBound m).tableOk := by
  unfold Work.takeBound
  split
  · exact h
  · exact h
  · split
    · exact h
    · exact h.serve ((Work.Served.refl w).takeAck _ _)
  · split
    · exact h
    · exact h.serve ((Work.Served.refl w).takeFinack _ _)
  · exact h.takeRequest _ _
  · exact h.takeDeskRemote _

theorem State.tableOk.takePassed (h : w.tableOk) (src : BitVec 48) (m : DeskMsg) : (w.takePassed src m).tableOk := by
  have hbound : (if w.tu.bound = some src then
      ({ w with tu := { w.tu with deskTimer := true } } : Work).takeBound m else w).tableOk := by
    split
    · exact State.tableOk.takeBound (w := { w with tu := { w.tu with deskTimer := true } }) (h.set rfl rfl) m
    · exact h
  unfold Work.takePassed
  split
  · exact h
  · exact h
  · split
    · exact h.serve ((Work.Served.refl w).takeBind _)
    · exact h
  all_goals exact hbound

theorem State.tableOk.takeDesk (h : w.tableOk) (d : DeskHead) (m : DeskMsg) : (w.takeDesk d m).tableOk := by
  unfold Work.takeDesk
  split
  · exact h
  · split
    · exact h.serve ((Work.Served.refl w).bump _)
    · exact h.takePassed _ _

theorem State.tableOk.rawDeskFrame (h : w.tableOk) (f : List Byte) : (w.rawDeskFrame f).tableOk := by
  unfold Work.rawDeskFrame
  split
  · exact h.takeDesk _ _
  · split
    · exact h.serve ((Work.Served.refl w).bump _)
    · exact h

end

end Sys2Proof.Machine
end

section
/-! PROOF. What the owners of the requests leave the shot table, and the step lemma over all commands: O5. -/

namespace Sys2Proof.Machine

/-- A taken answer leaves a state with a property. -/
def Answer.Leaves (P : Work → Prop) : Answer → Prop
  | .taken v _ => P v
  | .refused _ => True

section
variable {w : Work} (p : List Byte)

/-- An answer leaves the shot table sound. -/
abbrev Answer.TableOk (a : Answer) : Prop := a.Leaves fun v => v.tableOk

theorem State.tableOk.answerPortStatus (h : w.tableOk) : (answerPortStatus p w).TableOk := by
  unfold Machine.answerPortStatus
  split
  · trivial
  · next clear _ =>
    show (if clear then ({ w with cp := { w.cp with garbled := 0, overrun := 0 } } : Work) else w).tableOk
    split
    · exact h.set rfl rfl
    · exact h

theorem State.tableOk.answerPowerSet (h : w.tableOk) : (answerPowerSet p w).TableOk := by
  unfold Machine.answerPowerSet
  dsimp only
  split
  · split_ifs
    · trivial
    · exact h.leaveQuiet
    · exact h
  · split_ifs
    · trivial
    · exact h
    · exact h.enterQuiet
    · trivial
  · split_ifs
    · trivial
    · exact h.enterHalt
    · trivial
  · trivial

theorem State.tableOk.answerDriveSet (h : w.tableOk) : (answerDriveSet p w).TableOk := by
  unfold Machine.answerDriveSet
  split
  · trivial
  · next s _ =>
    dsimp only
    split
    · show (if w.rdu.drive = .ready ∧ w.rdu.s1.held = true ∧ s.mode = .precapture then
        (w.withRdu fun r => { r with active := s }).enterPrecapturing else w.withRdu fun r => { r with active := s }).tableOk
      split
      · exact (h.withRdu _).enterPrecapturing
      · exact h.withRdu _
    · exact h.withRdu _

theorem State.tableOk.answerReleaseLinesSet (h : w.tableOk) : (answerReleaseLinesSet p w).TableOk := by
  unfold Machine.answerReleaseLinesSet
  split
  · split
    · exact (h.withRdu _).publishDrive
    · trivial
  · trivial

theorem State.tableOk.answerRemoteRelease (h : w.tableOk) : (answerRemoteRelease p w).TableOk := by
  unfold Machine.answerRemoteRelease
  split
  · trivial
  · exact h.takeRemote _ _

theorem State.tableOk.answerLensAttach (h : w.tableOk) : (answerLensAttach p w).TableOk := by
  unfold Machine.answerLensAttach
  split
  · trivial
  · split
    · trivial
    · exact h.unfocused (Work.attachLens_unfocused _ _)

theorem State.tableOk.answerAfSet (h : w.tableOk) : (answerAfSet p w).TableOk := by
  unfold Machine.answerAfSet
  split
  · trivial
  · exact h.unfocused (Work.requestAf_unfocused _ _)

theorem State.tableOk.answerLensMove (h : w.tableOk) : (answerLensMove p w).TableOk := by
  unfold Machine.answerLensMove
  split
  · trivial
  · next halt _ =>
    dsimp only
    split_ifs
    all_goals first | trivial | skip
    · exact h.unfocused (Work.haltLens_unfocused _)
    · exact h.unfocused (Work.moveLens_unfocused _ _ _)

/-- The settings of the pool and the next number are no part of a row or of the free set. -/
theorem State.tableOk.setBm {b : Bm} (h : w.tableOk) (hsound : b.sound) (hrows : b.rows = w.bm.rows) :
    ({ w with bm := b } : Work).tableOk := by
  have hrow (j : Nat) : b.row? j = w.bm.row? j := by rw [Bm.row?, hrows, ← Bm.row?]
  obtain ⟨hok, hjob⟩ := (State.tableOk_iff _).1 h
  refine (State.tableOk_iff _).2 ⟨⟨hsound, fun j z hz => hok.life j z (hrow j ▸ hz),
    fun he j z hz => hok.waits he j z (hrow j ▸ hz), fun he j hj => ?_⟩, fun j hj => ?_⟩
  · obtain ⟨z, hz, hd⟩ := hok.queued he j hj
    exact ⟨z, (hrow j).trans hz, hd⟩
  · obtain ⟨he, z, hz, hd⟩ := hjob j hj
    exact ⟨he, z, (hrow j.row).trans hz, hd⟩

theorem State.tableOk.answerPoolSet (h : w.tableOk) : (answerPoolSet p w).TableOk := by
  have hset := h.setBm (b := { w.bm with reserve := clampNat 0 400 (fieldAt p 0 2), threshold := clampNat 0 1000 (fieldAt p 2 2) })
    ((State.tableOk_iff _).1 h).1.sound rfl
  exact hset.set rfl rfl

theorem State.tableOk.answerShotNumberSet (h : w.tableOk) : (answerShotNumberSet p w).TableOk := by
  unfold Machine.answerShotNumberSet
  dsimp only
  split_ifs with hn
  · trivial
  · trivial
  · obtain ⟨hindex, ⟨hnodup, hrange⟩, hpages⟩ := ((State.tableOk_iff _).1 h).1.sound
    refine h.setBm (b := { w.bm with nextNumber := fieldAt p 0 3 }) ⟨hindex, ⟨hnodup, fun n hm => ?_⟩, hpages⟩ rfl
    rcases List.mem_cons.1 hm with rfl | hm
    · rw [not_or, not_lt] at hn
      exact ⟨Nat.pos_of_ne_zero hn.1, hn.2⟩
    · exact hrange n (.tail _ hm)

theorem State.tableOk.answerShotProtect (h : w.tableOk) : (answerShotProtect p w).TableOk := by
  unfold Machine.answerShotProtect
  split
  · trivial
  · split
    · trivial
    · next hr =>
      split
      · trivial
      · exact h.protectRow (h.numbered hr) _

theorem State.tableOk.answerShotDiscard (h : w.tableOk) : (answerShotDiscard p w).TableOk := by
  unfold Machine.answerShotDiscard
  split
  · trivial
  · next r _ =>
    split
    · trivial
    · split
      · trivial
      · show (if r.discarding then w else w.discardRow r.index).tableOk
        split
        · exact h
        · exact h.discardRow _

theorem State.tableOk.answerShotCollect (h : w.tableOk) : (answerShotCollect p w).TableOk := by
  unfold Machine.answerShotCollect
  dsimp only
  split
  · trivial
  · have hindex := ((State.tableOk_iff _).1 h).1.sound.1.1
    have hsub := (List.take_sublist (byteAt p 0).toNat (w.bm.rows.filter Row.collectable)).trans List.filter_sublist
    refine h.collect _ (hindex.sublist (hsub.map _)) fun r hr => ⟨Bm.row?_of_mem hindex (hsub.subset hr), ?_⟩
    exact (List.mem_filter.1 (List.mem_of_mem_take hr)).2

theorem State.tableOk.answerDevelop (h : w.tableOk) : (answerDevelop p w).TableOk := by
  unfold Machine.answerDevelop
  split
  · trivial
  · split
    · trivial
    · next r hr =>
      split
      · trivial
      · next hstate =>
        rw [not_or, not_not] at hstate
        split
        · split
          · exact h.promoteJob _
          · trivial
        · trivial
        · trivial
        · trivial
        · trivial
        · next hd =>
          split
          · exact h.createDevelop (h.numbered hr) hstate.1 hd _
          · trivial

theorem State.tableOk.answerDevelopCancel (h : w.tableOk) : (answerDevelopCancel p w).TableOk := by
  unfold Machine.answerDevelopCancel
  split
  · trivial
  · next r hr =>
    split
    · next hd => exact h.cancelPending (h.numbered hr) hd
    · obtain ⟨hrows, hjob⟩ := (State.tableOk_iff _).1 h
      refine (State.tableOk_iff _).2 ⟨hrows.set rfl rfl rfl rfl, hjob.set rfl rfl fun j hj => ?_⟩
      obtain ⟨k, hk, rfl⟩ := Option.map_eq_some_iff.1 hj
      exact ⟨k, hk, rfl⟩
    all_goals trivial

theorem State.tableOk.answerLookSet (h : w.tableOk) : (answerLookSet p w).TableOk := by
  unfold Machine.answerLookSet
  dsimp only
  split
  · trivial
  · split
    · trivial
    · split
      · trivial
      · obtain ⟨hrows, hjob⟩ := (State.tableOk_iff _).1 h
        exact (State.tableOk_iff _).2 ⟨hrows.set rfl rfl rfl rfl, hjob.set rfl rfl fun j hj => ⟨j, hj, rfl⟩⟩

theorem State.tableOk.answerDevelopAutoSet (h : w.tableOk) : (answerDevelopAutoSet p w).TableOk := by
  unfold Machine.answerDevelopAutoSet
  split
  · trivial
  · obtain ⟨hrows, hjob⟩ := (State.tableOk_iff _).1 h
    exact (State.tableOk_iff _).2 ⟨hrows.set rfl rfl rfl rfl, hjob.set rfl rfl fun j hj => ⟨j, hj, rfl⟩⟩

theorem State.tableOk.answerSlotAttach (h : w.tableOk) : (answerSlotAttach p w).TableOk := by
  unfold Machine.answerSlotAttach
  split
  · trivial
  · dsimp only
    split
    · trivial
    · split
      · trivial
      · split
        · trivial
        · exact h.serve ((((Work.Served.refl w).mapSlot _ _).enterSlot _ _).serveWaiting _)

theorem State.tableOk.answerSlotDetach (h : w.tableOk) : (answerSlotDetach p w).TableOk := by
  have hask (s : SlotId) (force : Bool) : (if (w.cw.slot s).stops.contains .detached then Answer.taken w [1]
      else if force then Answer.taken (w.askStop s .detached)
        [if ((w.askStop s .detached).cw.slot s).state = .present then 0 else 1]
      else Answer.refused .busy).TableOk := by
    split
    · exact h
    · split
      · exact h.serve ((Work.Served.refl w).askStop _ _)
      · trivial
  unfold Machine.answerSlotDetach
  split
  · next s force _ _ =>
    split
    · trivial
    · trivial
    · exact h.serve ((Work.Served.refl w).detachActs _)
    · exact h.serve ((Work.Served.refl w).detachActs _)
    · exact h.serve ((Work.Served.refl w).detachActs _)
    · exact hask s force
    · exact hask s force
  · trivial

theorem State.tableOk.answerExtentAdd (h : w.tableOk) : (answerExtentAdd p w).TableOk := by
  unfold Machine.answerExtentAdd
  split
  · trivial
  · dsimp only
    split_ifs
    all_goals first | trivial | skip
    exact h.serve (((Work.Served.refl w).setExtents _ _).selectDuty _)

theorem State.tableOk.answerExtentFlush (h : w.tableOk) : (answerExtentFlush p w).TableOk := by
  unfold Machine.answerExtentFlush
  split
  · trivial
  · split
    all_goals first | trivial | exact h.serve ((Work.Served.refl w).setExtents _ _)

theorem State.tableOk.answerRecordingSet (h : w.tableOk) : (answerRecordingSet p w).TableOk := by
  unfold Machine.answerRecordingSet
  split
  · exact h.set rfl rfl
  · trivial

theorem State.tableOk.answerTetherSet (h : w.tableOk) : (answerTetherSet p w).TableOk := by
  unfold Machine.answerTetherSet
  split
  · trivial
  · dsimp only
    split
    · trivial
    · exact h.set rfl rfl

theorem State.tableOk.answerTetherEnable (h : w.tableOk) : (answerTetherEnable p w).TableOk := by
  have hup : (if w.pins.phyUp then w.enterUnbound else w.enterLink .down).tableOk := by
    split
    · exact h.serve (Work.Served.refl w).enterUnbound
    · exact h.serve ((Work.Served.refl w).enterLink _)
  have hdown : (if w.tu.link = .off then w else w.disableTether).tableOk := by
    split
    · exact h
    · exact h.serve (Work.Served.refl w).disableTether
  unfold Machine.answerTetherEnable
  dsimp only
  split
  · trivial
  · split
    · trivial
    · split
      · split
        · trivial
        · split
          · exact hup
          · exact h
      · exact hdown

theorem State.tableOk.answerSend (h : w.tableOk) : (answerSend p w).TableOk := by
  unfold Machine.answerSend
  dsimp only
  split
  · trivial
  · split
    · trivial
    · exact h.joinSend _ _ _ _

theorem State.tableOk.answerSendStored (h : w.tableOk) : (answerSendStored p w).TableOk := by
  unfold Machine.answerSendStored
  dsimp only
  split
  · split_ifs
    all_goals first | trivial | exact h.set rfl rfl
  · trivial

theorem State.tableOk.answerSendCancel (h : w.tableOk) : (answerSendCancel p w).TableOk := by
  unfold Machine.answerSendCancel
  split
  · trivial
  · split
    · trivial
    · exact h.serve ((Work.Served.refl w).cancelEntry _)

theorem State.tableOk.answerAutoSendSet (h : w.tableOk) : (answerAutoSendSet p w).TableOk := by
  unfold Machine.answerAutoSendSet
  split
  · trivial
  · exact h.set rfl rfl

end

theorem Request.owner_tableOk (r : Request) (p : List Byte) {w : Work} (h : w.tableOk) : (r.owner p w).TableOk := by
  cases r with
  | portStatus => exact h.answerPortStatus p
  | powerSet => exact h.answerPowerSet p
  | driveSet => exact h.answerDriveSet p
  | releaseLinesSet => exact h.answerReleaseLinesSet p
  | remoteRelease => exact h.answerRemoteRelease p
  | lensAttach => exact h.answerLensAttach p
  | lensDetach => exact h.unfocused (Work.detachLens_unfocused _)
  | afSet => exact h.answerAfSet p
  | lensMove => exact h.answerLensMove p
  | poolSet => exact h.answerPoolSet p
  | shotNumberSet => exact h.answerShotNumberSet p
  | shotProtect => exact h.answerShotProtect p
  | shotDiscard => exact h.answerShotDiscard p
  | shotCollect => exact h.answerShotCollect p
  | develop => exact h.answerDevelop p
  | developCancel => exact h.answerDevelopCancel p
  | lookSet => exact h.answerLookSet p
  | developAutoSet => exact h.answerDevelopAutoSet p
  | slotAttach => exact h.answerSlotAttach p
  | slotDetach => exact h.answerSlotDetach p
  | extentAdd => exact h.answerExtentAdd p
  | extentFlush => exact h.answerExtentFlush p
  | recordingSet => exact h.answerRecordingSet p
  | tetherSet => exact h.answerTetherSet p
  | tetherEnable => exact h.answerTetherEnable p
  | send => exact h.answerSend p
  | sendStored => exact h.answerSendStored p
  | sendCancel => exact h.answerSendCancel p
  | autoSendSet => exact h.answerAutoSendSet p
  | tetherStats => exact State.tableOk.set (t := ({ w with tu := { w.tu with counters := Counters.zero } } : Work).toState) h rfl rfl
  | sensorRestart =>
    exact State.tableOk.set (t := ({ w with sru := w.sru.restart } : Work).toState) h rfl rfl
  | identify | driveStatus | focusStatus | poolStatus => exact h
  | noticeMaskSet | resetPart => trivial
  | zoneReport | shotGet | shotList | lookGet | developStatus | histogramGet | slotStatus | tetherStatus =>
    simp only [Request.owner, answerZoneReport, answerShotGet, answerShotList, answerLookGet, answerDevelopStatus,
      answerHistogramGet, answerSlotStatus, answerTetherStatus]
    repeat' split
    all_goals first | trivial | exact h

/-! ### The step -/

theorem table_portKept : PortKept fun w => w.tableOk where
  port _ _ _ _ h := h.set rfl rfl
  reply _ _ _ _ _ h := h.set rfl rfl
  settle _ h := h.settle
  wake _ h := h.wake .port
  owner r p w v b ho h := by
    have hv := r.owner_tableOk p h
    rw [ho] at hv
    exact hv
  resetTether w h := h.serve (Work.Served.refl w).resetTether
  resetAll t w _ := Work.resetAll_tableOk t w

theorem takeAnswer_tableOk {w : Work} (a : CardAnswer) {op : SlotId → Work → Work} (h : w.tableOk)
    (hop : (op a.slot w).tableOk) : (w.takeAnswer a op).tableOk := by
  unfold Work.takeAnswer
  split
  · exact h
  · exact hop

/-- Every event keeps the shot table sound. -/
theorem event_tableOk (c : Instr) (w : Work) (h1 : c.onPort = false) (h : w.tableOk) : (c.event w).tableOk := by
  have served {v : Work} (hv : w.Served v) : v.tableOk := h.serve hv
  have unfocused {v : Work} (hv : v.unfocused = w.unfocused) : v.tableOk := h.unfocused hv
  cases c with
  | resetPin => exact Work.resetPin_tableOk w
  | supplyWarning b => exact h.warningInput b
  | releaseLineLevel l b => exact h.lineEvent l b
  | cardLineLevel i b => exact h.cardEvent i b
  | imageLine x c => exact h.lineArrives x c
  | frameEnd n => exact h.frameEnds _
  | proofRowWritten => exact h.writeRow
  | deReadError => exact h.failJob
  | runOk a => exact takeAnswer_tableOk a h (served ((Work.Served.refl w).runEnd _ _))
  | runFail a => exact takeAnswer_tableOk a h (served ((Work.Served.refl w).runEnd _ _))
  | readOk a d => exact takeAnswer_tableOk a h (served ((Work.Served.refl w).readArrives _ _))
  | readFail a => exact takeAnswer_tableOk a h (served ((Work.Served.refl w).readEnd _ _))
  | frameStart k id b => exact h.frameStarts k _ b
  | startTimerExpiry => exact h.startExpires
  | phyLinkUp => exact served (Work.Served.refl w).phyUp
  | phyLinkDown => exact served (Work.Served.refl w).phyDown
  | focusWaitExpiry => exact h.focusWaitExpires
  | frameTimerExpiry => exact h.frameTimerExpires
  | viewTimerExpiry => exact h.viewExpires
  | afBlock z => exact h.afArrives z
  | endTimerExpiry => exact h.endExpires
  | pos p m => exact unfocused (Work.takePos_unfocused w _ m)
  | answerTimerExpiry => exact unfocused (Work.answerExpires_unfocused w)
  | arrived p => exact unfocused (Work.takeArrived_unfocused w _)
  | moveTimerExpiry => exact unfocused (Work.moveExpires_unfocused w)
  | runTimerExpiry i => exact served ((Work.Served.refl w).runEnd i (some .timeout))
  | cwReadError i => exact served ((Work.Served.refl w).runSourceLost i)
  | readTimerExpiry i => exact served ((Work.Served.refl w).readEnd i none)
  | lockLineLevel i b => exact served ((Work.Served.refl w).lockLine i b)
  | deskFrameDropped f => exact h.rawDeskFrame f
  | bind d => exact h.takeDesk d _
  | ping d => exact h.takeDesk d _
  | ack d _ _ => exact h.takeDesk d _
  | finack d _ _ => exact h.takeDesk d _
  | request d _ _ => exact h.takeDesk d _
  | remote d _ => exact h.takeDesk d _
  | dataSend => exact served (Work.Served.refl w).sendData
  | tuReadError => exact served (Work.Served.refl w).sendLost
  | helloTimerExpiry => exact served (Work.Served.refl w).helloExpires
  | deskLossTimerExpiry => exact served (Work.Served.refl w).deskExpires
  | ackTimerExpiry => exact served (Work.Served.refl w).ackExpires
  | underrunTimerExpiry => exact served (Work.Served.refl w).underrunExpires
  | _ =>
    first
    | exact Bool.noConfusion h1
    | exact h

/-- Settles O5: an operation on rows keeps the table sound when the row it acts on has the life that the operation is for;
CW and TU act on HELD rows alone, and DE on the rows whose duty its queue and its job name. -/
theorem rowsStayDistinct : Obligations.RowsStayDistinct := by
  unfold Obligations.RowsStayDistinct
  refine step_keeps (fun _ _ _ _ h => h.set rfl rfl) fun c s t h => ?_
  exact exec_keeps table_portKept (fun _ h => h.set rfl rfl) (fun _ h => h.finishWarning) c (fun hc w h => event_tableOk c w hc h)
    s t h

end Sys2Proof.Machine
end

section
/-! PROOF. POWER_SET between RUN, QUIET and HALT (R189, R190). -/

namespace Sys2Proof.Machine

/-! ### The blocks with nothing in flight -/

theorem Slot.abandonReads_idle {x : Slot} (hop : x.op = .idle) (hreads : x.reads = []) : x.abandonReads = x := by
  simp only [Slot.abandonReads, hop, ← hreads]
  rw [← hop]

section
variable {w : Work}

theorem Work.haltLens_none (h : w.fu.move = none) : w.haltLens = w := by rw [Work.haltLens, h]

theorem Work.endTransfer_none (h : w.tu.transfer = none) (x : TransferEnd) : w.endTransfer x = w := by
  rw [Work.endTransfer, h]

theorem Work.sensorStop_none (hread : w.sru.readout = none) (hwait : w.sru.waiting = none) :
    w.sensorStop = { w with
      sru := { w.sru with running := false, viewTimer := false, startTimer := false, endTimer := false } } := by
  rw [Work.sensorStop, hread, hwait]
  simp only [Sru.close, Sru.quiet, ← hread, ← hwait]

theorem Work.focusHalt_none (h : w.fu.move = none) :
    w.focusHalt = { w with fu := { w.fu with moveTimer := false, query := false, bare := false } } := by
  rw [Work.focusHalt, Work.haltLens_none h]
  simp only [← h]

theorem Work.tetherHalt_none (ht : w.tu.transfer = none) (hl : w.tu.link = .off) :
    w.tetherHalt = { w with tu := { w.tu with buffers := w.tu.buffers.map fun _ => .free } } := by
  rw [Work.tetherHalt, Work.endTransfer_none ht, hl]
  rfl

/-- With nothing in flight the entry to HALT stops the sensor link and the timers of the lens, and frees the buffers. -/
theorem Work.enterHalt_none (hread : w.sru.readout = none) (hwait : w.sru.waiting = none) (hmove : w.fu.move = none)
    (haop : w.cw.a.op = .idle) (har : w.cw.a.reads = []) (hbop : w.cw.b.op = .idle) (hbr : w.cw.b.reads = [])
    (ht : w.tu.transfer = none) (hl : w.tu.link = .off) :
    w.enterHalt = { w with
      pwc := { w.pwc with power := .halt },
      sru := { w.sru with running := false, viewTimer := false, startTimer := false, endTimer := false },
      fu := { w.fu with moveTimer := false, query := false, bare := false },
      tu := { w.tu with buffers := w.tu.buffers.map fun _ => .free } } := by
  have hstop : (w.setPower .halt).sensorStop.focusHalt = { w with
      pwc := { w.pwc with power := .halt },
      sru := { w.sru with running := false, viewTimer := false, startTimer := false, endTimer := false },
      fu := { w.fu with moveTimer := false, query := false, bare := false } } := by
    rw [Work.sensorStop_none (w := w.setPower .halt) hread hwait]
    exact Work.focusHalt_none hmove
  simp only [Work.enterHalt, hstop, Cw.mapBoth, Slot.abandonReads_idle haop har, Slot.abandonReads_idle hbop hbr]
  exact Work.tetherHalt_none ht hl

theorem Work.leaveQuiet_none (hs : w.rdu.s1.held = false) (hq : w.fu.firstQuery = false) :
    w.leaveQuiet = { w with pwc := { w.pwc with power := .run }, sru := { w.sru with running := true } } := by
  have hfu : { w.fu with firstQuery := false } = w.fu := by rw [← hq]
  simp only [Work.leaveQuiet, Work.setPower, Sru.run, Work.focusFromQuiet, hq, hfu, Work.lookS1, hs, Bool.false_eq_true,
    false_and, if_false]

theorem Work.enterQuiet_none (hmove : w.fu.move = none) :
    w.enterQuiet = { w with
      pwc := { w.pwc with power := .quiet }, sru := { w.sru with running := false, viewTimer := false } } :=
  Work.haltLens_none (w := { w.setPower .quiet with sru := w.sru.quiet }) hmove

end

theorem State.steady_responses {s t : State} (h1 : t.pwc.responses = s.pwc.responses) (h2 : t.cw = s.cw) (h : s.steady) :
    t.steady := fun r hr => h2 ▸ h r (h1 ▸ hr)

/-- With no warning latched the owner of POWER_SET leaves QUIET, or enters QUIET or HALT (R189). -/
theorem answerPowerSet_run {w : Work} (hl : w.pwc.latched = false) (hp : w.pwc.power = .quiet) :
    answerPowerSet [0] w = .taken w.leaveQuiet [w.leaveQuiet.pwc.power.byte] := by
  rw [show answerPowerSet [0] w = if w.pwc.latched then .refused .state else if w.pwc.power = .quiet then
    .taken w.leaveQuiet [w.leaveQuiet.pwc.power.byte] else .taken w [w.pwc.power.byte] from rfl, hl, if_neg Bool.false_ne_true,
    if_pos hp]

theorem answerPowerSet_quiet {w : Work} (hl : w.pwc.latched = false) (hp : w.pwc.power ≠ .quiet) : answerPowerSet [1] w =
    if w.rdu.drive = .idle then .taken w.enterQuiet [w.enterQuiet.pwc.power.byte] else .refused .busy := by
  rw [show answerPowerSet [1] w = if w.pwc.latched then .refused .state else if w.pwc.power = .quiet then
    .taken w [w.pwc.power.byte] else if w.rdu.drive = .idle then .taken w.enterQuiet [w.enterQuiet.pwc.power.byte] else
    .refused .busy from rfl, hl, if_neg Bool.false_ne_true, if_neg hp]

theorem answerPowerSet_halt {w : Work} (hl : w.pwc.latched = false) : answerPowerSet [2] w =
    if w.rdu.drive = .idle ∧ w.bm.openDuties = 0 then .taken w.enterHalt [w.enterHalt.pwc.power.byte] else
      .refused .busy := by
  rw [show answerPowerSet [2] w = if w.pwc.latched then .refused .state else if w.rdu.drive = .idle ∧ w.bm.openDuties = 0 then
    .taken w.enterHalt [w.enterHalt.pwc.power.byte] else .refused .busy from rfl, hl, if_neg Bool.false_ne_true]

/-- Settles O21: in each clause one branch of the owner is left. -/
theorem powerSetMovesBetweenStates : Obligations.PowerSetMovesBetweenStates := by
  intro tag s hs
  refine ⟨fun hp h1 hq => ?_, fun hp hd hm => ?_, fun hl hd ho hr hw hm hao har hbo hbr ht hk => ?_, fun hl hp hd => ?_,
    fun hl hd => ?_, fun hl => ⟨?_, ?_, ?_⟩⟩
  · have hl : s.pwc.latched = false := by rw [hp]
    have hq' : s.pwc.power = .quiet := by rw [hp]
    refine request_done .powerSet hs rfl rfl rfl (State.steady_responses (s := s) rfl rfl hs.2.1) fun cp sent => ?_
    rw [Request.owner, answerPowerSet_run hl hq', Work.leaveQuiet_none h1 hq]
    exact .taken (.done _)
  · have hl : s.pwc.latched = false := by rw [hp]
    have hq : s.pwc.power ≠ .quiet := by rw [hp]; decide
    refine request_done .powerSet hs rfl rfl rfl (State.steady_responses (s := s) rfl rfl hs.2.1) fun cp sent => ?_
    rw [Request.owner, answerPowerSet_quiet hl hq, if_pos hd, Work.enterQuiet_none hm]
    exact .taken (.done _)
  · refine request_done .powerSet hs rfl rfl rfl (State.steady_responses (s := s) rfl rfl hs.2.1) fun cp sent => ?_
    rw [Request.owner, answerPowerSet_halt hl, if_pos ⟨hd, ho⟩, Work.enterHalt_none hr hw hm hao har hbo hbr ht hk]
    exact .taken (.done _)
  · refine request_turned .powerSet .busy rfl hs rfl fun cp sent => ?_
    have hq : s.pwc.power ≠ .quiet := by rw [hp]; decide
    rw [Request.owner, answerPowerSet_quiet hl hq, if_neg hd]
  · refine request_turned .powerSet .busy rfl hs rfl fun cp sent => ?_
    rw [Request.owner, answerPowerSet_halt hl, if_neg (not_and_or.2 hd)]
  all_goals exact request_turned .powerSet .state rfl hs rfl fun cp sent => if_pos hl

end Sys2Proof.Machine
end

section
/-! PROOF. The whole-part resets (R187, R194, R195). -/

namespace Sys2Proof.Machine

theorem Work.judgeWarning_off {w : Work} (h : w.pins.warning = false) : w.judgeWarning = w := by
  rw [Work.judgeWarning, h, if_neg Bool.false_ne_true]

theorem Work.judgeWarning_on {w : Work} (h : w.pins.warning = true) : w.judgeWarning = w.warn := by
  rw [Work.judgeWarning, h, if_pos rfl]

/-- The supply warning in a part at its reset values: no block has anything to end. -/
theorem Work.warn_reset (s : State) (cp : Cp) :
    (Work.warn { toState := s.resetBlocks cp, bus := [] }).bus = [] ∧
      (Work.warn { toState := s.resetBlocks cp, bus := [] }).bm = Bm.reset ∧
      (Work.warn { toState := s.resetBlocks cp, bus := [] }).cw.quiet = true := ⟨rfl, rfl, rfl⟩

/-- Once no writing duty stands the end of the step brings FAILSAFE (R192). -/
theorem Work.finishWarning_delivered {w : Work} {b : Bool} (hr : w.pwc.responses = some (Responses.delivered b))
    (hq : w.cw.quiet = true) : w.finishWarning = { w with pwc := { w.pwc with power := .failsafe, responses := none } } := by
  simp only [Work.finishWarning, hr, hq]
  rfl

/-- A part that a warning with every response done leaves goes to FAILSAFE. -/
theorem run_warned {op : Work → Work} {s : State} {v : Work} {p : Power} {b : Bool} (hop : op { toState := s, bus := [] } = v)
    (hbus : v.bus = []) (hquiet : v.cw.quiet = true)
    (hpwc : v.pwc = { power := p, latched := true, responses := some (Responses.delivered b) }) :
    run op s = { v.toState with pwc := { power := .failsafe, latched := true, responses := none } } := by
  rw [run, hop, Work.settle_nil _ hbus, Work.finishWarning_delivered (by rw [hpwc]) hquiet, hpwc]

theorem judge_resetAll (tag : Byte) (w : Work) : w.judge 0x04 tag [0] = w.resetAll tag := by
  have hkind : Request.ofKind 0x04 = some .resetPart := rfl
  have hlen : Request.resetPart.allows [(0 : Byte)].length = true := rfl
  have hsafe : Request.resetPart.inFailsafe = true := rfl
  simp only [Work.judge, hkind, hlen, hsafe, Bool.true_eq_false, if_false, and_false]
  rfl

/-- Settles O23: the reset blocks hold what the reset tables say, and the warning finds nothing to end. -/
theorem wholePartResetGivesResetValues : Obligations.WholePartResetGivesResetValues := by
  refine ⟨fun tag s hw => ⟨?_, fun ho hs hp => ?_⟩, fun s hw => ?_, fun w => ⟨rfl, rfl, rfl⟩⟩
  · have hpin : Work.resetPin { toState := s, bus := [] } =
        { toState := s.resetBlocks { Cp.reset with busy := s.cp.busy, muted := s.cp.busy }, bus := [] } :=
      Work.judgeWarning_off hw
    show Host.Outcome.next (run Work.resetPin s) = _
    rw [run_quiet _ _ (by rw [hpin]) (by rw [hpin]; exact fun r hr => nomatch hr), hpin]
    rfl
  · have hall : Work.hostFrame 0x04 tag [0] { toState := s, bus := [] } =
        { toState := (s.hears .resetPart).resetBlocks ((s.hears .resetPart).cp.portReset tag), bus := [] } := by
      rw [Work.hostFrame_open 0x04 tag [0] s ho (Nat.le_of_ble_eq_true rfl) hp, judge_resetAll, Work.resetAll,
        Work.judgeWarning_off]
      · rfl
      · show (s.hears .resetPart).pins.warning = false
        rw [State.hears_eq]
        exact hw
    show Host.Outcome.next (run (Work.hostFrame 0x04 tag [0]) s) = _
    rw [run_quiet _ _ (by rw [hall]) (by rw [hall]; exact fun r hr => nomatch hr), hall, State.hears_eq]
    rfl
  · have hpin : Work.resetPin { toState := s, bus := [] } =
        Work.warn { toState := s.resetBlocks { Cp.reset with busy := s.cp.busy, muted := s.cp.busy }, bus := [] } :=
      Work.judgeWarning_on hw
    obtain ⟨hbus, hbm, hquiet⟩ := Work.warn_reset s { Cp.reset with busy := s.cp.busy, muted := s.cp.busy }
    have hpwc := Work.warn_pwc { toState := s.resetBlocks { Cp.reset with busy := s.cp.busy, muted := s.cp.busy }, bus := [] }
    have hpins := Work.warn_pins { toState := s.resetBlocks { Cp.reset with busy := s.cp.busy, muted := s.cp.busy }, bus := [] }
    revert hpin hbus hbm hquiet hpwc hpins
    generalize Work.warn _ = v
    intro hpin hbus hbm hquiet hpwc hpins
    exact ⟨_, congrArg Host.Outcome.next (run_warned hpin hbus hquiet hpwc), rfl, hpins, hbm⟩

end Sys2Proof.Machine
end

section
/-! PROOF. A step that has made a capture attempt: the reports it leaves are for BM, DE and TU, which touch neither RDU, SRU
nor FU, nor the row that the attempt made (R3, R37, R86). -/

namespace Sys2Proof.Machine

/-! ### The reports of a settled front -/

/-- A report for the back half leaves every row that is not HELD its life and its raw chain. -/
theorem Work.handle_apart {w : Work} {r : Report} (h : r.isBack = true) : w.Apart (w.handle r) := by
  cases r with
  | deLook => exact (Work.Apart.refl w).lookHead
  | reclaim up => exact ((Work.Served.refl w).takeReclaim up).apart
  | readEnded b d => exact ((Work.Served.refl w).takeRead b d).apart
  | cardDone i c => exact ((Work.Served.refl w).takeCardDone i c).apart
  | developChanged i => exact ((Work.Served.refl w).takeDevelop i).apart
  | frontier i => exact (Work.Served.refl w).updateWait.apart
  | proofLost i => exact ((Work.Served.refl w).tetherProofLost i).apart
  | select => exact (Work.Served.refl w).selectEntry.apart
  | focus g => exact Bool.noConfusion h
  | rowEnded i l n => exact Bool.noConfusion h

/-- What the back half does leaves alone: the front half, PWC and the rows that are not HELD. -/
structure Work.Still (w v : Work) : Prop where
  front : v.toState.front = w.toState.front
  pwc : v.pwc = w.pwc
  apart : w.Apart v
  replies : v.cp.queue.filter OutFrame.isReply = w.cp.queue.filter OutFrame.isReply

theorem Work.Still.refl (w : Work) : w.Still w := ⟨rfl, rfl, .refl w, rfl⟩

theorem Work.Still.trans {u v w : Work} (h : u.Still v) (g : v.Still w) : u.Still w :=
  ⟨g.front.trans h.front, g.pwc.trans h.pwc, h.apart.trans g.apart, g.replies.trans h.replies⟩

theorem Work.Still.of_outer {w v : Work} (hf : v.toState.front = w.toState.front) (ha : w.Apart v)
    (ho : v.toState.outer = w.toState.outer) : w.Still v :=
  ⟨hf, congrArg (fun x => x.2.1) ho, ha, congrArg (fun x => x.1.2.2.2.2.1) ho⟩

theorem Work.drain_still : ∀ (k : Nat) (w : Work), w.calm = true → w.Still (Work.drain k w) ∧ (Work.drain k w).calm = true
  | 0, w, h => ⟨.refl w, h⟩
  | k + 1, w, h => by
    unfold Work.drain
    split
    · exact ⟨.refl w, h⟩
    · next r rest hb =>
      have hall : r.isBack = true ∧ rest.all Report.isBack = true := by
        rw [← Bool.and_eq_true, ← List.all_cons, ← hb]
        exact h
      have hrest : w.Still { w with bus := rest } := ⟨rfl, rfl, (Work.Apart.refl w).set rfl, rfl⟩
      have hstep : ({ w with bus := rest } : Work).Still (({ w with bus := rest } : Work).handle r) :=
        .of_outer (Work.handle_front r _ hall.1) (Work.handle_apart hall.1) (Work.handle_outer r _)
      obtain ⟨hs, hc⟩ := Work.drain_still k (({ w with bus := rest } : Work).handle r)
        ((Work.handle_calm r _ hall.1).trans hall.2)
      exact ⟨(hrest.trans hstep).trans hs, hc⟩

theorem Work.settle_still {w : Work} (h : w.calm = true) : w.Still w.settle ∧ w.settle.calm = true := w.drain_still 4096 h

/-- The gate of FU's values reaches RDU first, where no release waits for it. -/
theorem Work.drain_focus {w : Work} {g : Option GateOutcome} {rest : List Report} (k : Nat) (hb : w.bus = .focus g :: rest)
    (hd : w.rdu.drive ≠ .waitingFocus) : Work.drain (k + 1) w = Work.drain k { w with bus := rest } := by
  rw [Work.drain, hb]
  exact congrArg (Work.drain k) (Work.handle_focus _ g hd)

/-! ### The free index (R7) -/

/-- A table that is not full has a free index. -/
theorem Bm.row?_freeIndex {b : Bm} (h : b.rows.length < Config.tableRows) : b.row? b.freeIndex = none := by
  unfold Bm.freeIndex
  cases hf : (List.range Config.tableRows).find? fun i => (b.row? i).isNone with
  | some i =>
    have hi := List.find?_some hf
    rw [Option.getD_some]
    exact Option.isNone_iff_eq_none.1 hi
  | none =>
    have hsub : List.range Config.tableRows ⊆ b.rows.map Row.index := fun i hi => by
      have hsome := List.find?_eq_none.1 hf i hi
      rw [Option.isNone_iff_eq_none, ← ne_eq, Option.ne_none_iff_exists'] at hsome
      obtain ⟨r, hr⟩ := hsome
      exact List.mem_map.2 ⟨r, (Bm.row?_some hr).1, (Bm.row?_some hr).2⟩
    have hlen := (List.nodup_range.subperm hsub).length_le
    rw [List.length_range, List.length_map] at hlen
    omega

/-- The row that a raw allocation makes. -/
theorem Work.createRow_row? {w : Work} {i : Nat} (h : w.bm.row? i = none) (origin : Origin) (burst : Nat) (ring : Bool)
    (look : Nat) : (w.createRow i origin burst ring look).bm.row? i =
      some (Row.fresh i origin burst ring look (w.bm.free.take Config.rawPages)) := by
  show (w.bm.rows ++ [Row.fresh i origin burst ring look _]).find? _ = _
  rw [List.find?_append, show w.bm.rows.find? _ = none from h]
  simp [Row.fresh]

theorem Work.judgeRaw_granted {w : Work} (hrows : w.bm.rows.length < Config.tableRows)
    (hfree : Config.rawPages + w.bm.reserve ≤ w.bm.free.length) (hl : w.pwc.latched = false) :
    w.judgeRaw = .granted w.bm.freeIndex := by
  simp only [Work.judgeRaw, if_neg (not_le.2 hrows), Bm.freeCount, if_neg (not_lt.2 hfree), hl, Bool.false_eq_true, if_false]

/-! ### A row through the back half -/

/-- The fixed part of the row with an index follows from that of the table. -/
theorem Work.Still.row {w v : Work} (h : w.Still v) {i : Nat} {r : Row} (hr : w.bm.row? i = some r) (hl : r.life ≠ .held) :
    ∃ z, v.bm.row? i = some z ∧ z.fixed = r.fixed ∧ z.life = r.life ∧ z.raw = r.raw := by
  obtain ⟨z, hz, hzl, hzr⟩ := h.apart.row hr hl
  refine ⟨z, hz, ?_, hzl, hzr⟩
  have hfixed : v.bm.rows.map Row.fixed = w.bm.rows.map Row.fixed := congrArg (fun x => x.2.2.2.1) h.front
  have hfind (b : Bm) : (b.row? i).map Row.fixed = (b.rows.map Row.fixed).find? fun x => Decidable.decide (x.1 = i) := by
    rw [List.find?_map]
    rfl
  have := hfind v.bm
  rw [hfixed, ← hfind w.bm, hz, hr] at this
  exact Option.some.inj this

theorem Work.Still.rdu {w v : Work} (h : w.Still v) : v.rdu = w.rdu := congrArg (fun x => x.1) h.front
theorem Work.Still.sru {w v : Work} (h : w.Still v) : v.sru = w.sru := congrArg (fun x => x.2.1) h.front
theorem Work.Still.fu {w v : Work} (h : w.Still v) : v.fu = w.fu := congrArg (fun x => x.2.2.1) h.front
theorem Work.Still.fixed {w v : Work} (h : w.Still v) : v.bm.rows.map Row.fixed = w.bm.rows.map Row.fixed :=
  congrArg (fun x => x.2.2.2.1) h.front

/-! ### The end of a step after FU's gates -/

/-- FU's gates reach RDU first, where no release waits for one; the rest is for the back half. -/
structure Work.Hushed (w : Work) (rest : List Report) : Prop where
  drive : w.rdu.drive ≠ .waitingFocus
  bus : ∃ gates : List (Option GateOutcome), w.bus = gates.map Report.focus ++ rest ∧ gates.length ≤ 2
  back : rest.all Report.isBack = true

theorem Work.Hushed.drain {w : Work} {rest : List Report} (h : w.Hushed rest) :
    ∃ k, k + 2 ≥ 4096 ∧ w.settle = Work.drain k { w with bus := rest } := by
  obtain ⟨hd, ⟨gates, hb, hlen⟩, -⟩ := h
  match gates, hb, hlen with
  | [], hb, _ =>
    obtain rfl : w.bus = rest := hb
    exact ⟨4096, by omega, rfl⟩
  | [g], hb, _ => exact ⟨4095, by omega, Work.drain_focus 4095 hb hd⟩
  | [g, g'], hb, _ =>
    refine ⟨4094, by omega, ?_⟩
    rw [Work.settle, Work.drain_focus (g := g) (rest := .focus g' :: rest) 4095 hb hd]
    exact Work.drain_focus 4094 rfl hd

theorem Work.Hushed.settle {w : Work} {rest : List Report} (h : w.Hushed rest) : w.Still w.settle ∧ w.settle.calm = true := by
  obtain ⟨k, -, hk⟩ := h.drain
  have hstart : w.Still { w with bus := rest } := ⟨rfl, rfl, (Work.Apart.refl w).set rfl, rfl⟩
  obtain ⟨hs, hc⟩ := Work.drain_still k { w with bus := rest } h.back
  rw [hk]
  exact ⟨hstart.trans hs, hc⟩

/-- With an empty send queue the reclaim signal is all that is left (R5). -/
theorem Work.Hushed.settle_reclaim {w : Work} {up : Bool} (h : w.Hushed [.reclaim up]) (hq : w.tu.queue = []) :
    w.settle = { w with tu := { w.tu with reclaim := up }, bus := [] } := by
  obtain ⟨k, hk, he⟩ := h.drain
  obtain ⟨k, rfl⟩ : ∃ m, k = m + 1 := ⟨k - 1, by omega⟩
  rw [he, Work.drain]
  dsimp only
  rw [Work.handle_reclaim_empty { w with bus := [] } up hq]
  exact Work.Comes.done _

/-! ### An attempt that is granted (R37, R51, R54) -/

/-- The readout that a capture request opens. -/
def Readout.requested (row : Nat) (gate : GateOutcome) : Readout :=
  { kind := .capture, reading := false, row := row, gate := gate, frameId := none, timestamp := 0, focusAt := .noLens,
    afTaken := false, lines := 0, bad := 0 }

/-- The pool and the table with a row made. -/
def Bm.made (b : Bm) (r : Row) : Bm := { b with free := b.free.drop Config.rawPages, rows := b.rows ++ [r] }

/-- The work of a granted attempt: the row, the readout and the values of RDU. -/
def Work.opens (w : Work) (row : Row) (gate : GateOutcome) (r : Rdu) : Work := { w with
  rdu := r
  sru := { w.sru with readout := some (Readout.requested row.index gate), startTimer := true }
  bm := w.bm.made row
  sent := .frameRequest .capture :: w.sent
  bus := w.bus ++ [.reclaim ({ w.bm with free := w.bm.free.drop Config.rawPages } : Bm).reclaimSignal] }

theorem Work.setDrive_same {w : Work} {d : Drive} (hv : (({ w.rdu with drive := d } : Rdu).wantsView && !w.pwc.latched) = w.rdu.viewOn)
    (hh : (({ w.rdu with drive := d } : Rdu).wantsFocus && !w.pwc.latched) = w.rdu.halfPress) :
    w.setDrive d = { w with rdu := { w.rdu with drive := d } } := Work.publishDrive_same _ hv hh

theorem Work.countUp_low {w : Work} {n : Nat} (h : n < 65535) : w.countUp n = (n + 1, w) := by rw [Work.countUp, if_pos h]

/-- What lets a granted row's readout open at once, with the signals of the drive as they stand. -/
structure Work.Clear (w : Work) : Prop where
  latched : w.pwc.latched = false
  readout : w.sru.readout = none
  running : w.sru.running = true
  fault : w.sru.fault = false
  view : w.rdu.viewOn = false
  half : w.rdu.halfPress = true

theorem Work.Clear.request {w : Work} (h : w.Clear) (row : Row) (r : Rdu) (gate : GateOutcome) (origin : Origin) (burst : Nat)
    (ring : Bool) (look : Nat) (hrow : row = Row.fresh row.index origin burst ring look (w.bm.free.take Config.rawPages)) :
    Work.requestCapture row.index gate { w.createRow row.index origin burst ring look with rdu := r } =
      w.opens row gate r := by
  have hmay : w.sru.mayRequest = true := by simp only [Sru.mayRequest, h.running, h.fault]; rfl
  have hcreate : w.createRow row.index origin burst ring look = { w with
      bm := w.bm.made row
      bus := w.bus ++ [.reclaim ({ w.bm with free := w.bm.free.drop Config.rawPages } : Bm).reclaimSignal] } := by
    rw [hrow]
    rfl
  rw [hcreate, Work.requestCapture]
  simp only [hmay, if_true, h.readout]
  rfl

/-- RDU after the grant of a capture of the open release (R37 step 7). -/
def Rdu.tookBurst (r : Rdu) (x : Release) (i : Nat) : Rdu := { r with
  drive := .firing, counter := r.counter + 1, remoteCount := r.remoteCount - 1, release := some { x with granted := true },
  record := r.record.map fun b => { b with captured := b.captured + 1 }, capture := some { row := i, ofBurst := true } }

/-- RDU after the grant of a ring frame. -/
def Rdu.tookRing (r : Rdu) (i : Nat) : Rdu := { r with
  drive := .precapturing, openRow := some i, capture := some { row := i, ofBurst := false } }

section
variable {w : Work} {i : Nat}

theorem Work.Clear.grantBurst (h : w.Clear) {x : Release} (hd : w.rdu.drive = .firing ∨ w.rdu.drive = .stalledFiring)
    (hc : w.rdu.counter < 65535) (hk : (w.rdu.record.map BurstRecord.captured).getD 0 < 65535) :
    w.grantBurst i x = w.opens (Row.fresh i x.origin w.rdu.burstId false w.rdu.active.look (w.bm.free.take Config.rawPages))
      x.gate (w.rdu.tookBurst x i) := by
  have hresumed : w.rdu.drive.resumed = .firing := by rcases hd with hd | hd <;> rw [hd] <;> rfl
  have hrecord : (w.rdu.record.map fun b => { b with captured := (w.rdu.record.map BurstRecord.captured).getD 0 + 1 }) =
      w.rdu.record.map fun b => { b with captured := b.captured + 1 } := by
    cases w.rdu.record <;> rfl
  rw [Work.grantBurst, Work.countUp_low hc]
  dsimp only
  rw [Work.countUp_low hk]
  dsimp only
  rw [hresumed, Work.setDrive_same, Rdu.tookBurst, ← hrecord]
  · exact h.request (Row.fresh i x.origin w.rdu.burstId false w.rdu.active.look (w.bm.free.take Config.rawPages)) _ _ _ _ _ _ rfl
  · exact h.view.symm
  · show ((w.rdu.s1.held || _ || true) && !w.pwc.latched) = w.rdu.halfPress
    rw [Bool.or_true, h.latched, h.half]
    rfl

theorem Work.Clear.grantRing (h : w.Clear) (hd : w.rdu.drive = .precapturing ∨ w.rdu.drive = .stalledPrecapturing)
    (hs : w.rdu.s1.held = true) :
    w.grantRing i = w.opens (Row.fresh i .precapture w.rdu.burstId true w.rdu.active.look (w.bm.free.take Config.rawPages))
      .releasePriority (w.rdu.tookRing i) := by
  have hresumed : w.rdu.drive.resumed = .precapturing := by rcases hd with hd | hd <;> rw [hd] <;> rfl
  rw [Work.grantRing, hresumed, Work.setDrive_same]
  · exact h.request (Row.fresh i .precapture w.rdu.burstId true w.rdu.active.look (w.bm.free.take Config.rawPages)) _ _ _ _ _ _ rfl
  · exact h.view.symm
  · show ((w.rdu.s1.held || _ || false) && !w.pwc.latched) = w.rdu.halfPress
    rw [hs, h.latched, h.half]
    rfl

/-- A capture can be made (R37): what the statements ask of the state, of a step at work. -/
theorem Work.attempt_burst {x : Release} (hcan : w.canCapture) (hv : w.rdu.viewOn = false) (hh : w.rdu.halfPress = true)
    (hd : w.rdu.drive = .firing ∨ w.rdu.drive = .stalledFiring) (hbar : w.rdu.barred = false) (hx : w.rdu.release = some x)
    (hc : w.rdu.counter < 65535) (hk : (w.rdu.record.map BurstRecord.captured).getD 0 < 65535) :
    w.attempt = w.opens (Row.fresh w.bm.freeIndex x.origin w.rdu.burstId false w.rdu.active.look
      (w.bm.free.take Config.rawPages)) x.gate (w.rdu.tookBurst x w.bm.freeIndex) := by
  obtain ⟨hcap, hread, hrun, hfault, hl, hrows, hfree⟩ := hcan
  have hclear : w.Clear := ⟨hl, hread, hrun, hfault, hv, hh⟩
  have hring : w.rdu.drive.isRing = false := by rcases hd with hd | hd <;> rw [hd] <;> rfl
  rw [Work.attempt, hbar, hcap, hfault]
  simp only [Option.isSome_none, Bool.or_self, Bool.false_eq_true, if_false, Work.allocate, hring, false_and,
    Work.judgeRaw_granted hrows hfree hl, Work.grantRow, hx]
  exact hclear.grantBurst hd hc hk

theorem Work.attempt_ring (hcan : w.canCapture) (hv : w.rdu.viewOn = false) (hh : w.rdu.halfPress = true)
    (hd : w.rdu.drive = .precapturing ∨ w.rdu.drive = .stalledPrecapturing) (hbar : w.rdu.barred = false)
    (hs : w.rdu.s1.held = true) (hdepth : w.rdu.ring = [] ∨ w.rdu.ring.length < w.rdu.active.depth) :
    w.attempt = w.opens (Row.fresh w.bm.freeIndex .precapture w.rdu.burstId true w.rdu.active.look
      (w.bm.free.take Config.rawPages)) .releasePriority (w.rdu.tookRing w.bm.freeIndex) := by
  obtain ⟨hcap, hread, hrun, hfault, hl, hrows, hfree⟩ := hcan
  have hclear : w.Clear := ⟨hl, hread, hrun, hfault, hv, hh⟩
  have hring : w.rdu.drive.isRing = true := by rcases hd with hd | hd <;> rw [hd] <;> rfl
  have hstart : (if w.rdu.active.depth ≤ w.rdu.ring.length then w.evictOldest else w) = w := by
    split
    · next h => rw [Work.evictOldest, hdepth.resolve_right (not_lt.2 h)]
    · rfl
  rw [Work.attempt, hbar, hcap, hfault]
  simp only [Option.isSome_none, Bool.or_self, Bool.false_eq_true, if_false, Work.allocate, hring, true_and, hstart,
    Work.judgeRaw_granted hrows hfree hl, Work.grantRow, if_true]
  exact hclear.grantRing hd hs

end

/-- What a step that made a granted attempt ends with. -/
structure Work.Opened (w : Work) (row : Row) (t : State) : Prop where
  rdu : t.rdu = w.rdu
  sru : t.sru = w.sru
  fu : t.fu = w.fu
  pwc : t.pwc = w.pwc
  fixed : t.bm.rows.map Row.fixed = w.bm.rows.map Row.fixed
  row : ∃ z, t.bm.row? row.index = some z ∧ z.fixed = row.fixed ∧ z.raw = row.raw
  free : w.tu.queue = [] → t.bm.free = w.bm.free

theorem Work.finishWarning_none {w : Work} (h : w.pwc.responses = none) : w.finishWarning = w := by
  rw [Work.finishWarning, h]

section
variable {u t : Work} {row : Row} {up : Bool}

theorem Work.Still.opened (h : u.Still t) (hr : u.bm.row? row.index = some row) (hl : row.life ≠ .held)
    (hf : u.tu.queue = [] → t.bm.free = u.bm.free) : u.Opened row t.toState := by
  obtain ⟨z, hz, hfixed, -, hraw⟩ := h.row hr hl
  exact ⟨h.rdu, h.sru, h.fu, h.pwc, h.fixed, ⟨z, hz, hfixed, hraw⟩, hf⟩

/-- The step of a command that made the attempt. -/
theorem Work.Hushed.opened (h : u.Hushed [.reclaim up]) (hr : u.bm.row? row.index = some row) (hl : row.life ≠ .held)
    (hp : u.pwc.responses = none) : u.Opened row u.settle.finishWarning.toState := by
  obtain ⟨hs, -⟩ := h.settle
  rw [Work.finishWarning_none (by rw [hs.pwc]; exact hp)]
  exact hs.opened hr hl fun hq => by rw [h.settle_reclaim hq]

/-- The step of a request whose owner made the attempt: the reply is posted, and the step goes on. -/
theorem Work.Hushed.opened_reply (h : u.Hushed [.reclaim up]) (hr : u.bm.row? row.index = some row) (hl : row.life ≠ .held)
    (hp : u.pwc.responses = none) (k tag : Byte) (p : List Byte) :
    u.Opened row (u.settle.reply k tag p).settle.finishWarning.toState ∧
      OutFrame.reply k tag p ∈ (u.settle.reply k tag p).settle.finishWarning.cp.queue := by
  obtain ⟨hs, hc⟩ := h.settle
  obtain ⟨hs2, -⟩ := Work.settle_still (w := u.settle.reply k tag p) hc
  have hpwc : (u.settle.reply k tag p).settle.pwc = u.pwc := hs2.pwc.trans hs.pwc
  rw [Work.finishWarning_none (by rw [hpwc]; exact hp)]
  constructor
  · obtain ⟨y, hy, hyf, hyl, hyr⟩ := hs.row hr hl
    obtain ⟨z, hz, hzf, -, hzr⟩ := hs2.row (r := y) hy (by rw [hyl]; exact hl)
    refine ⟨hs2.rdu.trans hs.rdu, hs2.sru.trans hs.sru, hs2.fu.trans hs.fu, hpwc, hs2.fixed.trans hs.fixed,
      ⟨z, hz, hzf.trans hyf, hzr.trans hyr⟩, fun hq => ?_⟩
    rw [h.settle_reclaim hq, Work.settle_nil _ rfl]
    rfl
  · have hmem : OutFrame.reply k tag p ∈ (u.settle.reply k tag p).cp.queue.filter OutFrame.isReply :=
      List.mem_filter.2 ⟨List.mem_append_right _ (.head _), rfl⟩
    rw [← hs2.replies] at hmem
    exact (List.mem_filter.1 hmem).1

end

/-- A request that its owner takes: its act, the reports it gives rise to, the reply, and the rest of the step. -/
theorem request_run (r : Request) (tag : Byte) {p : List Byte} {s : State} {v : Work} {body : List Byte} (h : s.answers)
    (hl : p.length = r.size) (ho : r.owner p { toState := s.hears r, bus := [] } = .taken v body) :
    request r tag p s =
      .next (v.settle.reply (replyKind r.kind) tag (0 :: body)).settle.finishWarning.toState := by
  obtain ⟨h1, h2⟩ := Request.reachesOwner_ne (Request.reachesOwner_of_taken ho)
  obtain ⟨ha, -, hw⟩ := h
  have hhalt : s.pwc.power ≠ .halt := by rcases hw with hw | hw <;> rw [hw] <;> decide
  have hsafe : (s.hears r).pwc.power ≠ .failsafe := by
    rw [State.hears_pwc]
    rcases hw with hw | hw <;> rw [hw] <;> decide
  have hdecide (w : Work) : w.decide r tag p = w.answer r tag (r.owner p w) := by
    cases r <;> first | rfl | exact absurd rfl h1 | exact absurd rfl h2
  have hframe : Work.hostFrame r.kind tag p { toState := s, bus := [] } =
      v.settle.reply (replyKind r.kind) tag (0 :: body) := by
    rw [Work.hostFrame_open _ _ _ _ ha (hl ▸ r.size_le) hhalt, hl, ← State.hears]
    simp only [Work.judge, Request.ofKind_kind, hl ▸ r.allows_size, Bool.true_eq_false, if_false, hsafe, false_and]
    rw [hdecide, ho]
    rfl
  simp only [request, run]
  rw [hframe]

end Sys2Proof.Machine
end

section
/-! PROOF. What RDU publishes, and a burst that opens with its first capture (R32 to R37): O30. -/

namespace Sys2Proof.Machine

/-- A work in which FU and CP alone have changed, and FU has published at most once. -/
def Work.Gated (w v : Work) : Prop :=
  ∃ gates : List (Option GateOutcome), (gates = [] ∨ gates = [v.fu.gate]) ∧
    v = { w with fu := v.fu, cp := v.cp, bus := w.bus ++ gates.map Report.focus }

theorem Work.Gated.refl (w : Work) : w.Gated w := ⟨[], .inl rfl, by rw [List.map_nil, List.append_nil]⟩

theorem Work.putFu_fu (w : Work) (f : Fu) : (w.putFu f).fu = f := by
  unfold Work.putFu
  dsimp only
  split <;> rfl

theorem Work.Gated.putFu (w : Work) (f : Fu) : w.Gated (w.putFu f) := by
  refine ⟨[f.gate], .inr (by rw [Work.putFu_fu]), ?_⟩
  unfold Work.putFu
  dsimp only
  split <;> rfl

theorem Work.Gated.fu (w : Work) (f : Fu) : w.Gated { w with fu := f } :=
  ⟨[], .inl rfl, by rw [List.map_nil, List.append_nil]⟩

theorem Work.Gated.gates {w v : Work} (h : w.Gated v) : ∃ gates : List (Option GateOutcome), gates.length ≤ 1 ∧
    v = { w with fu := v.fu, cp := v.cp, bus := w.bus ++ gates.map Report.focus } := by
  obtain ⟨gates, hg, hv⟩ := h
  exact ⟨gates, by rcases hg with h | h <;> rw [h]; exacts [Nat.zero_le _, Nat.le_refl _], hv⟩

theorem Work.setHalfPress_gated (w : Work) (up : Bool) : w.Gated (w.setHalfPress up) := by
  unfold Work.setHalfPress
  dsimp only
  split
  · exact .refl w
  · split
    all_goals first | exact .putFu w _ | exact .fu w _

/-- FU's values when the half-press signal is published (R83). -/
def Fu.takesPress (f : Fu) (up : Bool) : Fu :=
  let g : Fu := { f with halfPress := up }
  if up = f.halfPress then f
  else
    match up, g.state with
    | true, .idle => g.freshStart
    | false, .seeking | false, .locked | false, .noTarget | false, .tracking | false, .lost => { g with state := .idle }
    | _, _ => g

theorem Work.setHalfPress_fu (w : Work) (up : Bool) : (w.setHalfPress up).fu = w.fu.takesPress up := by
  unfold Work.setHalfPress Fu.takesPress
  dsimp only
  split
  · rfl
  · cases up <;> cases w.fu.state <;> first | rfl | exact Work.putFu_fu _ _

theorem Fu.takesPress_halfPress (f : Fu) (up : Bool) : (f.takesPress up).halfPress = up := by
  unfold Fu.takesPress
  dsimp only
  split
  · next h => exact h.symm
  · split <;> rfl

theorem Fu.takesPress_of_ne {f : Fu} {up : Bool} (h : up = f.halfPress) : f.takesPress up = f := if_pos h

/-- The view timer when the view stream is published. -/
def Rdu.publishes (r : Rdu) (latched : Bool) : Rdu :=
  { r with viewOn := r.wantsView && !latched, halfPress := r.wantsFocus && !latched }

/-- SRU when RDU publishes a view stream. -/
def Sru.takesView (s : Sru) (r : Rdu) (latched : Bool) : Sru :=
  { s with viewTimer :=
      if (r.wantsView && !latched) = r.viewOn then s.viewTimer else (r.wantsView && !latched) && s.running }

/-- RDU publishes (R32): the view timer follows the view stream, and FU takes the half-press signal when it changes. -/
structure Work.Published (w v : Work) : Prop where
  gated : ({ w with rdu := w.rdu.publishes w.pwc.latched, sru := w.sru.takesView w.rdu w.pwc.latched } : Work).Gated v
  same : (w.rdu.wantsFocus && !w.pwc.latched) = w.rdu.halfPress → v.fu = w.fu ∧ v.cp = w.cp ∧ v.bus = w.bus
  half : (w.rdu.wantsFocus && !w.pwc.latched) ≠ w.rdu.halfPress →
    v.fu = w.fu.takesPress (w.rdu.wantsFocus && !w.pwc.latched)

theorem Work.publishDrive_published (w : Work) : w.Published w.publishDrive := by
  -- the work after the view stream
  have hview : (if (w.rdu.wantsView && !w.pwc.latched) = w.rdu.viewOn then w
      else (w.withRdu fun r => { r with viewOn := w.rdu.wantsView && !w.pwc.latched }).setView
        (w.rdu.wantsView && !w.pwc.latched)) =
      { w with rdu := { w.rdu with viewOn := w.rdu.wantsView && !w.pwc.latched },
               sru := w.sru.takesView w.rdu w.pwc.latched } := by
    unfold Sru.takesView
    split
    · next h => rw [h]
    · rfl
  unfold Work.publishDrive
  dsimp only
  rw [hview]
  dsimp only
  split
  · next h =>
    refine ⟨?_, fun _ => ⟨rfl, rfl, rfl⟩, fun hne => absurd h hne⟩
    rw [Rdu.publishes, h]
    exact .refl _
  · next h => exact ⟨Work.setHalfPress_gated _ _, fun he => absurd he h, fun _ => Work.setHalfPress_fu _ _⟩

/-! ### A burst opens (R34, R36, R37) -/

/-- The release of a burst that opens. -/
def Rdu.newRelease (r : Rdu) (origin : Origin) (gate : GateOutcome) : Release :=
  { single := decide (r.active.mode = .single), origin := origin, gate := gate, granted := false, ending := none }

/-- RDU when a burst opens, before it has published anything. -/
def Rdu.opening (r : Rdu) (origin : Origin) (gate : GateOutcome) : Rdu := { r with
  drive := .firing, burstId := r.nextBurst, nextBurst := (r.nextBurst + 1) % 65536,
  record := some { id := r.nextBurst, firstShot := 0, captured := 0, skipBusy := 0, skipBuffer := 0, skipTable := 0,
                   cause := .opened },
  counter := 0, phaseFire := true, timer := true, focusWait := false, waiter := none,
  release := some (r.newRelease origin gate) }

/-- RDU when a burst opens, before its first attempt. -/
def Rdu.opensBurst (r : Rdu) (origin : Origin) (gate : GateOutcome) : Rdu :=
  { r.opening origin gate with viewOn := false, halfPress := true }

/-- RDU when a burst has opened with its first capture. -/
def Rdu.firstCapture (r : Rdu) (origin : Origin) (gate : GateOutcome) (i : Nat) : Rdu :=
  (r.opensBurst origin gate).tookBurst (r.newRelease origin gate) i

/-- The row of the first capture of a burst. -/
def Work.burstRow (w : Work) (origin : Origin) : Row :=
  Row.fresh w.bm.freeIndex origin w.rdu.nextBurst false w.rdu.active.look (w.bm.free.take Config.rawPages)

/-- SRU when a burst opens: the view stream is off. -/
def Work.burstSru (w : Work) : Sru := { w.sru with viewTimer := if w.rdu.viewOn then false else w.sru.viewTimer }

/-- What RDU has published when a burst opens. -/
structure Work.BurstStart (w : Work) (origin : Origin) (gate : GateOutcome) (v : Work) : Prop where
  gated : ({ w with rdu := w.rdu.opensBurst origin gate, sru := w.burstSru } : Work).Gated v
  same : w.rdu.halfPress = true → v.fu = w.fu ∧ v.cp = w.cp ∧ v.bus = w.bus

theorem Rdu.opening_wantsFocus (r : Rdu) (origin : Origin) (gate : GateOutcome) :
    (r.opening origin gate).wantsFocus = true := by
  show (r.s1.held || _ || true) = true
  exact Bool.or_true _

theorem Work.burstStart {w : Work} (origin : Origin) (gate : GateOutcome) (hl : w.pwc.latched = false) :
    w.BurstStart origin gate (Work.publishDrive { w with rdu := w.rdu.opening origin gate }) := by
  have hp := Work.publishDrive_published { w with rdu := w.rdu.opening origin gate }
  have hfocus : ((w.rdu.opening origin gate).wantsFocus && !w.pwc.latched) = true := by
    rw [Rdu.opening_wantsFocus, hl]
    rfl
  have hsru : w.burstSru = { w.sru with viewTimer := if false = w.rdu.viewOn then w.sru.viewTimer else false } := by
    rw [Work.burstSru]
    cases w.rdu.viewOn <;> rfl
  refine ⟨?_, fun h => hp.same (hfocus.trans h.symm)⟩
  have h := hp.gated
  rw [Rdu.publishes, hfocus, Sru.takesView] at h
  rw [hsru]
  exact h

theorem Rdu.opensBurst_barred (r : Rdu) (origin : Origin) (gate : GateOutcome)
    (hremote : origin.isRemote = true → 1 ≤ r.remoteCount) : (r.opensBurst origin gate).barred = false := by
  have hlimit : (decide (r.active.limit ≠ 0) && decide (r.active.limit ≤ 0)) = false := by
    by_cases h : r.active.limit = 0 <;> simp [h]
  have hcount : (origin.isRemote && decide (r.remoteCount = 0)) = false := by
    cases h : origin.isRemote with
    | false => rfl
    | true =>
      have := hremote h
      simp only [Bool.true_and, decide_eq_false_iff_not]
      omega
  show (false || (_ && false) || _ || _) = false
  rw [Bool.and_false]
  exact (congr (congrArg _ hlimit) hcount)

/-- A burst that opens when a capture can be made makes its first at once. -/
theorem Work.openBurst_opens {w : Work} (origin : Origin) (gate : GateOutcome) (hcan : w.canCapture)
    (hremote : origin.isRemote = true → 1 ≤ w.rdu.remoteCount) :
    ∃ v : Work, w.BurstStart origin gate v ∧
      w.openBurst origin gate = v.opens (w.burstRow origin) gate (w.rdu.firstCapture origin gate w.bm.freeIndex) := by
  obtain ⟨hcap, hread, hrun, hfault, hl, hroom⟩ := hcan
  have hstart := Work.burstStart (w := w) origin gate hl
  refine ⟨_, hstart, ?_⟩
  show Work.attempt (Work.publishDrive { w with rdu := w.rdu.opening origin gate }) = _
  revert hstart
  generalize Work.publishDrive { w with rdu := w.rdu.opening origin gate } = v
  rintro ⟨⟨gates, -, hv⟩, -⟩
  have hbm : v.bm = w.bm := congrArg (fun x => x.bm) hv
  have hrdu : v.rdu = w.rdu.opensBurst origin gate := congrArg (fun x => x.rdu) hv
  have hsru : v.sru = w.burstSru := congrArg (fun x => x.sru) hv
  have hpwc : v.pwc = w.pwc := congrArg (fun x => x.pwc) hv
  have hcan : v.canCapture := by
    rw [State.canCapture, hbm, hrdu, hsru, hpwc]
    exact ⟨hcap, hread, hrun, hfault, hl, hroom⟩
  rw [Work.attempt_burst (x := w.rdu.newRelease origin gate) hcan (by rw [hrdu]; rfl) (by rw [hrdu]; rfl)
    (by rw [hrdu]; exact .inl rfl) (by rw [hrdu]; exact w.rdu.opensBurst_barred origin gate hremote) (by rw [hrdu]; rfl)
    (by rw [hrdu]; exact Nat.zero_lt_succ _) (by rw [hrdu]; exact Nat.zero_lt_succ _), hrdu, hbm]
  rfl

/-- A burst that has opened leaves FU's gates before the reclaim signal. -/
theorem Work.openBurst_hushed {w v : Work} {origin : Origin} {gate : GateOutcome} (h : w.BurstStart origin gate v)
    {gates : List (Option GateOutcome)} (hb : w.bus = gates.map Report.focus) (hn : gates.length ≤ 1) :
    ∃ up, (v.opens (w.burstRow origin) gate (w.rdu.firstCapture origin gate w.bm.freeIndex)).Hushed [.reclaim up] := by
  obtain ⟨gates2, hn2, hv⟩ := h.gated.gates
  have hbus : v.bus = w.bus ++ gates2.map Report.focus := congrArg (fun x => x.bus) hv
  refine ⟨({ v.bm with free := v.bm.free.drop Config.rawPages } : Bm).reclaimSignal, fun h => Drive.noConfusion h,
    ⟨gates ++ gates2, ?_, ?_⟩, rfl⟩
  · show v.bus ++ _ = _
    rw [hbus, hb, List.map_append]
  · rw [List.length_append]
    omega

/-- The row of an attempt that has just been made. -/
theorem Work.opens_row? {w : Work} {row : Row} {gate : GateOutcome} {r : Rdu} (h : w.bm.row? row.index = none) :
    (w.opens row gate r).bm.row? row.index = some row := by
  show (w.bm.rows ++ [row]).find? _ = _
  rw [List.find?_append, show w.bm.rows.find? _ = none from h]
  simp

theorem Work.BurstStart.burstRow_row? {w v : Work} {origin : Origin} {gate : GateOutcome} {r : Rdu}
    (h : w.BurstStart origin gate v) (hrows : w.bm.rows.length < Config.tableRows) :
    (v.opens (w.burstRow origin) gate r).bm.row? (w.burstRow origin).index = some (w.burstRow origin) := by
  obtain ⟨⟨gates, -, hv⟩, -⟩ := h
  have hbm : v.bm = w.bm := congrArg (fun x => x.bm) hv
  apply Work.opens_row?
  rw [hbm]
  exact Bm.row?_freeIndex hrows

theorem Work.BurstStart.pwc {w v : Work} {origin : Origin} {gate : GateOutcome} (h : w.BurstStart origin gate v) :
    v.pwc = w.pwc := by
  obtain ⟨⟨_, -, hv⟩, -⟩ := h
  exact congrArg (fun x => x.pwc) hv

/-! ### The focus wait (R36) -/

/-- A command that does nothing leaves the state. -/
theorem exec_same {c : Instr} {s : State} (op : Work → Work) (hop : exec c s = .next (run op s)) (hs : s.steady)
    (h : op { toState := s, bus := [] } = { toState := s, bus := [] }) : exec c s = .next s :=
  exec_comes op hop hs (by rw [h]; exact .done _)

/-- The step of a command from what its operation leaves. -/
theorem exec_acts {c : Instr} {s : State} {w : Work} (op : Work → Work) (hop : exec c s = .next (run op s))
    (h : op { toState := s, bus := [] } = w) : exec c s = .next w.settle.finishWarning.toState := by
  rw [hop, run, h]

/-- Settles O30. -/
theorem focusWaitExpiryOpensTheBurst : Obligations.FocusWaitExpiryOpensTheBurst := by
  unfold Obligations.FocusWaitExpiryOpensTheBurst
  intro s hs
  refine ⟨fun h => ?_, fun o hd hw hwait hcan hr hremote => ?_⟩
  · refine exec_same Work.focusWaitExpires rfl hs ?_
    unfold Work.focusWaitExpires
    split
    · next hd _ =>
      rcases h with h | h
      · exact if_neg (by rw [h]; exact Bool.false_ne_true)
      · exact absurd hd h
    · rfl
  · obtain ⟨v, hstart, hopens⟩ := Work.openBurst_opens (w := { toState := s, bus := [] }) o .waitExpired hcan hremote
    obtain ⟨up, hhush⟩ := Work.openBurst_hushed hstart (gates := []) rfl (Nat.zero_le _)
    have hop : Work.focusWaitExpires { toState := s, bus := [] } = Work.openBurst o .waitExpired { toState := s, bus := [] } := by
      unfold Work.focusWaitExpires
      simp only [hd, hwait, hw, if_true]
    obtain ⟨hrdu, -, -, hp, -⟩ := hhush.opened (hstart.burstRow_row? hcan.2.2.2.2.2.1) Life.noConfusion
      (congrArg Pwc.responses hstart.pwc ▸ hr)
    refine ⟨_, exec_acts Work.focusWaitExpires rfl (hop.trans hopens), ?_⟩
    rw [hrdu, hp]
    exact ⟨rfl, rfl, rfl, rfl, rfl, rfl, rfl, rfl, rfl, ⟨_, rfl, rfl, rfl, rfl⟩, rfl, hstart.pwc⟩

end Sys2Proof.Machine
end

section
/-! PROOF. The frame timer: attempts that are skipped, made, or made after the ring has lost its oldest row (R31, R37, R38,
R41): O29. -/

namespace Sys2Proof.Machine

/-! ### A skip (R38) -/

/-- The drive takes frames, with S1 held while they go to the ring. -/
def Rdu.takesFrames (r : Rdu) : Prop :=
  (r.drive = .firing ∨ r.drive = .stalledFiring) ∨
    ((r.drive = .precapturing ∨ r.drive = .stalledPrecapturing) ∧ r.s1.held = true)

/-- RDU after a skipped attempt. -/
def Rdu.skips (r : Rdu) (c : SkipCause) : Rdu := { r with
  drive := r.drive.stalled, record := if r.release.isSome then r.record.map fun b => b.skip c else r.record }

theorem Rdu.takesFrames_signals {r : Rdu} (h : r.takesFrames) (c : SkipCause) :
    (r.skips c).wantsView = false ∧ (r.skips c).wantsFocus = true := by
  rcases h with h | ⟨h, hs⟩
  · rcases h with h | h <;> exact ⟨by rw [Rdu.wantsView, Rdu.skips, h]; rfl, by
      rw [Rdu.wantsFocus, Rdu.skips, h]; exact Bool.or_true _⟩
  · have hfocus : (r.skips c).wantsFocus = true := by
      show (r.s1.held || _ || _) = true
      rw [hs]
      rfl
    rcases h with h | h <;> exact ⟨by rw [Rdu.wantsView, Rdu.skips, h]; rfl, hfocus⟩

theorem Work.skipAttempt_eq {w : Work} (hv : w.rdu.viewOn = false) (hh : w.rdu.halfPress = true)
    (hl : w.pwc.latched = false) (h : w.rdu.takesFrames) (c : SkipCause) :
    w.skipAttempt c = { w with
      rdu := w.rdu.skips c, cp := w.cp.raise .bufferFull (c.byte :: leBytes 2 w.bm.freeCount) } := by
  obtain ⟨hview, hfocus⟩ := Rdu.takesFrames_signals h c
  have hcount : ({ (if w.rdu.release.isSome then { w.rdu with record := w.rdu.record.map fun b => b.skip c } else w.rdu) with
      drive := w.rdu.drive.stalled } : Rdu) = w.rdu.skips c := by
    unfold Rdu.skips
    split <;> rfl
  have hviewOn : (w.rdu.skips c).viewOn = w.rdu.viewOn := rfl
  have hhalf : (w.rdu.skips c).halfPress = w.rdu.halfPress := rfl
  show Work.publishDrive { w with
      rdu := { (if w.rdu.release.isSome then { w.rdu with record := w.rdu.record.map fun b => b.skip c } else w.rdu) with
        drive := w.rdu.drive.stalled }
      cp := w.cp.raise .bufferFull (c.byte :: leBytes 2 w.bm.freeCount) } = _
  rw [hcount]
  refine Work.publishDrive_same _ ?_ ?_
  · show ((w.rdu.skips c).wantsView && !w.pwc.latched) = (w.rdu.skips c).viewOn
    rw [hview, hviewOn, hv]
    rfl
  · show ((w.rdu.skips c).wantsFocus && !w.pwc.latched) = (w.rdu.skips c).halfPress
    rw [hfocus, hhalf, hl, hh]
    rfl

/-! ### The oldest row of the ring (R14, R41) -/

theorem Bm.remove_mapRow (b : Bm) (i : Nat) {f : Row → Row} (hf : ∀ r, (f r).index = r.index) :
    (b.mapRow i f).remove i = b.remove i := by
  have hmap (l : List Row) : (l.map fun r => if r.index = i then f r else r).filter (fun r => !(r.index == i)) =
      l.filter fun r => !(r.index == i) := by
    induction l with
    | nil => rfl
    | cons r l ih =>
      by_cases h : r.index = i
      · simp [h, hf, ih]
      · simp [h, ih]
  rw [Bm.remove, Bm.remove, Bm.mapRow, hmap]

/-- A PRE row that is evicted gives its pages back. -/
theorem Work.evictRow_pre {w : Work} {i : Nat} {r : Row} {c : RawChain} (hr : w.bm.row? i = some r) (hl : r.life = .pre)
    (hc : r.raw = some c) : w.evictRow i = { w with
      bm := { w.bm.remove i with free := c.pages.foldr insertPage w.bm.free }
      bus := w.bus ++ [.deLook] ++
        [.reclaim ({ w.bm with free := c.pages.foldr insertPage w.bm.free } : Bm).reclaimSignal] } := by
  have hrel : w.releaseRaw i = (w.mapRow i fun r => { r with raw := none }).freePages c.pages := by
    rw [Work.releaseRaw, hr, Option.bind_some, hc]
  rw [Work.evictRow, hr]
  simp only [hl, if_true]
  rw [hrel, ← Bm.remove_mapRow w.bm i (f := fun r => { r with raw := none }) (fun _ => rfl)]
  rfl

/-- BM's report of freed pages, with nothing for DE and TU to do. -/
theorem Work.Comes.freed {s t : State} {up : Bool} {rest : List Report} {n : Nat} (h : s.backIdle)
    (hc : Work.Comes { toState := { s with tu := { s.tu with reclaim := up } }, bus := rest } n t) :
    Work.Comes { toState := s, bus := .deLook :: .reclaim up :: rest } (n + 2) t :=
  .skip (Work.handle_deLook _ h.2) (.step (Work.handle_reclaim_empty _ up h.1) hc)

/-- The work after the oldest row of the ring has been evicted. -/
def Work.evicted (w : Work) (i : Nat) (rest : List Nat) (c : RawChain) : Work := { w with
  rdu := { w.rdu with ring := rest }
  bm := { w.bm.remove i with free := c.pages.foldr insertPage w.bm.free }
  bus := w.bus ++ [.deLook] ++ [.reclaim ({ w.bm with free := c.pages.foldr insertPage w.bm.free } : Bm).reclaimSignal] }

theorem Work.evictOldest_eq {w : Work} {i : Nat} {rest : List Nat} {r : Row} {c : RawChain} (hring : w.rdu.ring = i :: rest)
    (hr : w.bm.row? i = some r) (hl : r.life = .pre) (hc : r.raw = some c) : w.evictOldest = w.evicted i rest c := by
  rw [Work.evictOldest, hring]
  exact Work.evictRow_pre (w := w.withRdu fun r => { r with ring := rest }) hr hl hc

/-! ### Attempts (R37) -/

section
variable {w : Work}

theorem Work.judgeRaw_table (h : Config.tableRows ≤ w.bm.rows.length) : w.judgeRaw = .denied .table := by
  rw [Work.judgeRaw, if_pos h]

theorem Work.judgeRaw_buffer (h : w.bm.rows.length < Config.tableRows)
    (hf : w.bm.free.length < Config.rawPages + w.bm.reserve) : w.judgeRaw = .denied .buffer := by
  rw [Work.judgeRaw, if_neg (not_le.2 h), if_pos (by exact hf)]

theorem Work.attempt_busy (hbar : w.rdu.barred = false) (h : w.rdu.capture ≠ none ∨ w.sru.fault = true) :
    w.attempt = w.skipAttempt .busy := by
  rw [Work.attempt, hbar, if_neg Bool.false_ne_true, if_pos]
  rcases h with h | h
  · rw [Option.isSome_iff_ne_none.2 h]
    rfl
  · rw [h, Bool.or_true]

theorem Work.attempt_allocates (hbar : w.rdu.barred = false) (hc : w.rdu.capture = none) (hf : w.sru.fault = false) :
    w.attempt = w.allocate := by
  rw [Work.attempt, hbar, hc, hf]
  rfl

theorem Rdu.isRing_iff {d : Drive} : d.isRing = true ↔ d = .precapturing ∨ d = .stalledPrecapturing := by
  cases d <;> decide

/-- A denial with nothing to evict is a skip. -/
theorem Work.allocate_denied {c : SkipCause} (hring : w.rdu.drive.isRing = true → w.rdu.ring = [])
    (hj : w.judgeRaw = .denied c) : w.allocate = w.skipAttempt c := by
  have hstart : (if w.rdu.drive.isRing = true ∧ w.rdu.active.depth ≤ w.rdu.ring.length then w.evictOldest else w) = w := by
    split
    · next h => rw [Work.evictOldest, hring h.1]
    · rfl
  rw [Work.allocate_eq, hstart, Work.allocateRow, hj]
  exact if_neg fun h => h.2 (hring h.1)

/-- A ring at its depth, or a denial, costs the oldest row; a grant follows. -/
theorem Work.allocate_evicts {c : RawChain} {i j : Nat} {rest : List Nat} {r : Row} (hdrive : w.rdu.drive.isRing = true)
    (hring : w.rdu.ring = i :: rest) (hr : w.bm.row? i = some r) (hl : r.life = .pre) (hc : r.raw = some c)
    (hneed : w.rdu.active.depth ≤ w.rdu.ring.length ∨ ∃ cause, w.judgeRaw = .denied cause)
    (hj : (w.evicted i rest c).judgeRaw = .granted j) : w.allocate = (w.evicted i rest c).grantRow j := by
  have hne : w.rdu.ring ≠ [] := by rw [hring]; exact List.cons_ne_nil _ _
  rw [Work.allocate_eq]
  by_cases hdepth : w.rdu.active.depth ≤ w.rdu.ring.length
  · rw [if_pos ⟨hdrive, hdepth⟩, Work.evictOldest_eq hring hr hl hc, Work.allocateRow, hj]
  · obtain ⟨cause, hcause⟩ := hneed.resolve_left hdepth
    rw [if_neg fun h => hdepth h.2, Work.allocateRow, hcause]
    simp only [hdrive, hne, ne_eq, not_false_eq_true, and_self, if_true, Work.evictOldest_eq hring hr hl hc, hj]

/-- A second denial is the skip. -/
theorem Work.allocate_deniedTwice {c : RawChain} {i : Nat} {rest : List Nat} {r : Row} {cause again : SkipCause}
    (hdrive : w.rdu.drive.isRing = true) (hdepth : w.rdu.ring.length < w.rdu.active.depth)
    (hring : w.rdu.ring = i :: rest) (hr : w.bm.row? i = some r) (hl : r.life = .pre) (hc : r.raw = some c)
    (hj : w.judgeRaw = .denied cause) (hagain : (w.evicted i rest c).judgeRaw = .denied again) :
    w.allocate = (w.evicted i rest c).skipAttempt again := by
  have hne : w.rdu.ring ≠ [] := by rw [hring]; exact List.cons_ne_nil _ _
  rw [Work.allocate_eq, if_neg fun h => absurd h.2 (not_le.2 hdepth), Work.allocateRow, hj]
  simp only [hdrive, hne, ne_eq, not_false_eq_true, and_self, if_true, Work.evictOldest_eq hring hr hl hc, hagain]

end

/-! ### The frame timer (R31) -/

/-- The frame timer's expiry while captures run. -/
theorem Work.frameTimerExpires_attempt {w : Work} (ht : w.rdu.timer = true) (h : w.rdu.takesFrames) :
    w.frameTimerExpires = w.attempt := by
  have hcap : w.rdu.capturing = true := by
    rw [Rdu.capturing]
    rcases h with (h | h) | ⟨h | h, -⟩ <;> rw [h]
  rw [Work.frameTimerExpires, if_pos ⟨ht, hcap⟩]

/-- A frame timer whose attempt is skipped. -/
theorem exec_skip {s : State} {c : SkipCause} (hs : s.steady) (ht : s.rdu.timer = true) (hv : s.rdu.viewOn = false)
    (hh : s.rdu.halfPress = true) (hl : s.pwc.latched = false) (htakes : s.rdu.takesFrames)
    (h : Work.attempt { toState := s, bus := [] } = Work.skipAttempt c { toState := s, bus := [] }) :
    exec .frameTimerExpiry s = .next { s with
      rdu := s.rdu.skips c, cp := s.cp.raise .bufferFull (c.byte :: leBytes 2 s.bm.freeCount) } := by
  refine exec_comes Work.frameTimerExpires rfl hs ?_
  rw [Work.frameTimerExpires_attempt (w := { toState := s, bus := [] }) ht htakes, h,
    Work.skipAttempt_eq (w := { toState := s, bus := [] }) hv hh hl htakes]
  exact .done _

theorem Rdu.takesFrames_stalled {r : Rdu} (h : r.takesFrames) :
    r.drive.stalled = if r.drive = .firing ∨ r.drive = .stalledFiring then .stalledFiring else .stalledPrecapturing := by
  rcases h with (h | h) | ⟨h | h, -⟩ <;> rw [h] <;> rfl

/-- The rows of the table in order, with what an attempt has written into them. -/
def Bm.order (b : Bm) := b.rows.map fun r => (r.index, r.origin, r.burst, r.look)

theorem Bm.order_of_fixed {b c : Bm} (h : c.rows.map Row.fixed = b.rows.map Row.fixed) : c.order = b.order := by
  have hmap (d : Bm) : d.order = (d.rows.map Row.fixed).map fun x =>
      (x.1, x.2.2.2.2.1, x.2.2.2.2.2.1, x.2.2.2.2.2.2.2.2.2.2.2.2.1) := by
    rw [List.map_map]
    rfl
  rw [hmap, hmap, h]

theorem Work.Opened.order {w : Work} {row : Row} {t : State} (h : w.Opened row t) : t.bm.order = w.bm.order :=
  Bm.order_of_fixed h.fixed

/-- An attempt that opens: the work is quiet but for the reclaim signal. -/
theorem Work.opens_hushed {w : Work} {row : Row} {gate : GateOutcome} {r : Rdu} (hb : w.bus = []) (hd : r.drive ≠ .waitingFocus) :
    (w.opens row gate r).Hushed [.reclaim ({ w.bm with free := w.bm.free.drop Config.rawPages } : Bm).reclaimSignal] :=
  ⟨hd, ⟨[], congrArg (· ++ _) hb, Nat.zero_le _⟩, rfl⟩

theorem Bm.order_made (b : Bm) (row : Row) :
    (b.made row).order = b.order ++ [(row.index, row.origin, row.burst, row.look)] := List.map_append

/-- A frame timer whose attempt opens. -/
theorem exec_opens {s : State} {row : Row} {gate : GateOutcome} {r : Rdu} (ht : s.rdu.timer = true)
    (htakes : s.rdu.takesFrames) (hi : row.index = s.bm.freeIndex) (hl : row.life ≠ .held) (hd : r.drive ≠ .waitingFocus)
    (hrows : s.bm.rows.length < Config.tableRows) (hp : s.pwc.responses = none)
    (h : Work.attempt { toState := s, bus := [] } = Work.opens { toState := s, bus := [] } row gate r) :
    ∃ t, exec .frameTimerExpiry s = .next t ∧ (Work.opens { toState := s, bus := [] } row gate r).Opened row t :=
  ⟨_, exec_acts Work.frameTimerExpires rfl
    ((Work.frameTimerExpires_attempt (w := { toState := s, bus := [] }) ht htakes).trans h),
    (Work.opens_hushed rfl hd).opened (Work.opens_row? (hi ▸ Bm.row?_freeIndex hrows)) hl hp⟩

section
variable {s : State} {i : Nat} {rest : List Nat} {r : Row} {c : RawChain} (ht : s.rdu.timer = true)
  (hbar : s.rdu.barred = false) (hv : s.rdu.viewOn = false) (hh : s.rdu.halfPress = true) (hl : s.pwc.latched = false)
  (hring : s.rdu.drive = .precapturing ∨ s.rdu.drive = .stalledPrecapturing) (hheld : s.rdu.s1.held = true)
  (hlist : s.rdu.ring = i :: rest) (hr : s.bm.row? i = some r) (hlife : r.life = .pre) (hraw : r.raw = some c)
  (hback : s.backIdle) (hcap : s.rdu.capture = none) (hfault : s.sru.fault = false)
include ht hbar hv hh hl hring hheld hlist hr hlife hraw hback hcap hfault

/-- The state of the pool and the table after an eviction and the frame that follows it. -/
theorem exec_evicts (hneed : s.rdu.active.depth ≤ s.rdu.ring.length ∨
      ∃ cause, Work.judgeRaw { toState := s, bus := [] } = .denied cause)
    (hrows : (s.bm.remove i).rows.length < Config.tableRows)
    (hfree : Config.rawPages + s.bm.reserve ≤ (c.pages.foldr insertPage s.bm.free).length) (hread : s.sru.readout = none)
    (hrun : s.sru.running = true) (hp : s.pwc.responses = none) :
    let v := (Work.evicted { toState := s, bus := [] } i rest c).opens
      (Row.fresh (s.bm.remove i).freeIndex .precapture s.rdu.burstId true s.rdu.active.look
        ((c.pages.foldr insertPage s.bm.free).take Config.rawPages)) .releasePriority
      (({ s.rdu with ring := rest } : Rdu).tookRing (s.bm.remove i).freeIndex)
    exec .frameTimerExpiry s = .next { v.toState with tu := { s.tu with reclaim := v.bm.reclaimSignal } } := by
  intro v
  have hclear : (Work.evicted { toState := s, bus := [] } i rest c).Clear := ⟨hl, hread, hrun, hfault, hv, hh⟩
  have hattempt : Work.attempt { toState := s, bus := [] } = v := by
    rw [Work.attempt_allocates (w := { toState := s, bus := [] }) hbar hcap hfault,
      Work.allocate_evicts (w := { toState := s, bus := [] }) (Rdu.isRing_iff.2 hring) hlist hr hlife hraw hneed
        (Work.judgeRaw_granted (w := Work.evicted { toState := s, bus := [] } i rest c) hrows hfree hl), Work.grantRow]
    exact (if_pos (Rdu.isRing_iff.2 hring)).trans (hclear.grantRing hring hheld)
  refine exec_comes Work.frameTimerExpires rfl (fun r h => absurd (hp.symm.trans h) (by simp)) ?_
  rw [Work.frameTimerExpires_attempt (w := { toState := s, bus := [] }) ht (.inr ⟨hring, hheld⟩), hattempt]
  exact .freed hback (.step (Work.handle_reclaim_empty _ _ hback.1) (.done _))

/-- A frame that an eviction does not help. -/
theorem exec_evictsInVain {cause again : SkipCause} (hs : s.steady) (hdepth : s.rdu.ring.length < s.rdu.active.depth)
    (hj : Work.judgeRaw { toState := s, bus := [] } = .denied cause)
    (hagain : (Work.evicted { toState := s, bus := [] } i rest c).judgeRaw = .denied again) :
    exec .frameTimerExpiry s = .next (({ s with
      rdu := ({ s.rdu with ring := rest } : Rdu).skips again
      bm := s.bm.remove i
      cp := s.cp.raise .bufferFull (again.byte :: leBytes 2 (c.pages.foldr insertPage s.bm.free).length) } :
        State).freed c.pages) := by
  have htakes : ({ s.rdu with ring := rest } : Rdu).takesFrames := .inr ⟨hring, hheld⟩
  refine exec_comes Work.frameTimerExpires rfl hs ?_
  rw [Work.frameTimerExpires_attempt (w := { toState := s, bus := [] }) ht (.inr ⟨hring, hheld⟩),
    Work.attempt_allocates (w := { toState := s, bus := [] }) hbar hcap hfault,
    Work.allocate_deniedTwice (w := { toState := s, bus := [] }) (Rdu.isRing_iff.2 hring) hdepth hlist hr hlife hraw hj hagain,
    Work.skipAttempt_eq (w := Work.evicted { toState := s, bus := [] } i rest c) hv hh hl htakes]
  exact .freed hback (.done _)

end

/-- Settles O29. -/
theorem frameTimerAttemptsACapture : Obligations.FrameTimerAttemptsACapture := by
  unfold Obligations.FrameTimerAttemptsACapture
  intro s hs skipped opened burst ring
  refine ⟨fun h => ?_, fun ht hbar hv hh hl => ⟨fun htakes => ⟨fun hbusy => ?_, fun hcap hfault hring => ⟨fun hrows => ?_, fun hrows hfree => ?_⟩⟩,
    fun x hburst hx hcan hp hc hk => ?_, fun hring hheld => ⟨fun hcan hp hdepth => ?_, fun i rest r c hlist hr hlife hraw hback hcap hfault => ⟨fun hneed hrows hfree hread hrun hp => ?_, fun hrel hdepth hfree hrows hfree2 => ?_⟩⟩⟩⟩
  · refine exec_same Work.frameTimerExpires rfl hs ?_
    unfold Work.frameTimerExpires
    split
    · next hon =>
      rcases h with h | h | h
      · exact absurd (hon.1.symm.trans h) (by decide)
      · exact absurd (hon.2.symm.trans h) (by decide)
      · exact if_pos h
    · rfl
  · rw [exec_skip hs ht hv hh hl htakes (Work.attempt_busy (w := { toState := s, bus := [] }) hbar hbusy), Rdu.skips,
      Rdu.takesFrames_stalled htakes]
    rfl
  · rw [exec_skip hs ht hv hh hl htakes ((Work.attempt_allocates (w := { toState := s, bus := [] }) hbar hcap hfault).trans
      (Work.allocate_denied (fun h => hring (Rdu.isRing_iff.1 h)) (Work.judgeRaw_table hrows))), Rdu.skips,
      Rdu.takesFrames_stalled htakes]
    rfl
  · rw [exec_skip hs ht hv hh hl htakes ((Work.attempt_allocates (w := { toState := s, bus := [] }) hbar hcap hfault).trans
      (Work.allocate_denied (fun h => hring (Rdu.isRing_iff.1 h)) (Work.judgeRaw_buffer hrows hfree))), Rdu.skips,
      Rdu.takesFrames_stalled htakes]
    rfl
  · obtain ⟨t, he, ho⟩ := exec_opens ht (.inl hburst) rfl Life.noConfusion (by exact Drive.noConfusion) hcan.2.2.2.2.2.1 hp
      (Work.attempt_burst (w := { toState := s, bus := [] }) hcan hv hh hburst hbar hx hc hk)
    obtain ⟨z, hz, -, hraw⟩ := ho.row
    refine ⟨t, he, ho.rdu, ho.sru, ho.order.trans (Bm.order_made _ _), ?_, ho.free, ho.fu, ho.pwc⟩
    rw [show t.bm.row? s.bm.freeIndex = some z from hz]
    exact hraw
  · have htakes : s.rdu.takesFrames := .inr ⟨hring, hheld⟩
    obtain ⟨t, he, ho⟩ := exec_opens ht htakes rfl Life.noConfusion (by exact Drive.noConfusion) hcan.2.2.2.2.2.1 hp
      (Work.attempt_ring (w := { toState := s, bus := [] }) hcan hv hh hring hbar hheld (.inr hdepth))
    obtain ⟨z, hz, hfixed, hraw⟩ := ho.row
    refine ⟨t, he, ho.rdu, ho.sru, ho.order.trans (Bm.order_made _ _), ?_, ho.free, ho.fu, ho.pwc⟩
    rw [show t.bm.row? s.bm.freeIndex = some z from hz]
    have hpre : z.precapture = true := congrArg (fun x => x.2.2.1) hfixed
    have hmark : z.mark = some .opened := congrArg (fun x => x.2.2.2.1) hfixed
    show some (z.precapture, z.mark, z.raw) = _
    rw [hpre, hmark, hraw]
    rfl
  · refine ⟨_, exec_evicts ht hbar hv hh hl hring hheld hlist hr hlife hraw hback hcap hfault ?_ hrows hfree hread hrun hp,
      rfl, rfl, Bm.order_made _ _, rfl, rfl, rfl⟩
    rcases hneed with h | h | h
    · exact .inl h
    · exact .inr ⟨_, Work.judgeRaw_table h⟩
    · by_cases hfull : 128 ≤ s.bm.rows.length
      · exact .inr ⟨_, Work.judgeRaw_table hfull⟩
      · exact .inr ⟨_, Work.judgeRaw_buffer (not_le.1 hfull) h⟩
  · have hdenied : ∃ cause, Work.judgeRaw { toState := s, bus := [] } = .denied cause := by
      by_cases hfull : 128 ≤ s.bm.rows.length
      · exact ⟨_, Work.judgeRaw_table hfull⟩
      · exact ⟨_, Work.judgeRaw_buffer (not_le.1 hfull) hfree⟩
    obtain ⟨cause, hdenied⟩ := hdenied
    rw [exec_evictsInVain ht hbar hv hh hl hring hheld hlist hr hlife hraw hback hcap hfault hs hdepth hdenied
      (Work.judgeRaw_buffer hrows hfree2)]
    rcases hring with h | h <;> rw [Rdu.skips, show ({ s.rdu with ring := rest } : Rdu).drive = _ from h] <;> rfl

end Sys2Proof.Machine
end

section
/-! PROOF. Remote releases and drive settings (R29, R30, R33 to R37, R44): O28 and O25. -/

namespace Sys2Proof.Machine

/-! ### What RDU publishes -/

/-- A half-press signal that stands leaves FU alone. -/
theorem Work.Published.still {w v : Work} (h : w.Published v) (hf : (w.rdu.wantsFocus && !w.pwc.latched) = w.rdu.halfPress) :
    v = { w with rdu := w.rdu.publishes w.pwc.latched, sru := w.sru.takesView w.rdu w.pwc.latched } := by
  obtain ⟨hfu, hcp, hbus⟩ := h.same hf
  obtain ⟨gates, -, hv⟩ := h.gated
  have hnil : w.bus = w.bus ++ gates.map Report.focus := hbus.symm.trans (congrArg (fun x => x.bus) hv)
  rw [hv, ← hnil, hfu, hcp]

theorem Fu.gate_takesPress {f : Fu} {g : Option GateOutcome} (h : f.gate = g)
    (hs : f.active.mode = .manual ∨ f.state = .noLens ∨ f.state = .fault ∨
      (f.active.mode = .single ∧ f.state ∈ [FocusState.idle, .seeking, .noTarget])) : (f.takesPress true).gate = g := by
  rw [← h]
  unfold Fu.takesPress
  dsimp only
  split
  · rfl
  · rcases hs with hm | hm | hm | ⟨hm, hst⟩
    · cases hst : f.state <;> simp [Fu.gate, Fu.freshStart, hm, hst]
    · simp [Fu.gate, hm]
    · simp [Fu.gate, hm]
    · simp only [List.mem_cons, List.not_mem_nil, or_false] at hst
      rcases hst with hst | hst | hst <;> simp [Fu.gate, Fu.freshStart, hm, hst]

/-! ### A remote release (R44) -/

/-- RDU when it has taken a remote release. -/
def Rdu.takesRemote (r : Rdu) (origin : Origin) (n : Nat) : Rdu := { r with remoteCount := n, waiter := some origin }

theorem Rdu.takesRemote_focus (r : Rdu) {origin : Origin} (n : Nat) (h : origin.isRemote = true) :
    (r.takesRemote origin n).wantsFocus = true := by
  show (r.s1.held || (origin.isRemote || _) || _) = true
  rw [h, Bool.true_or, Bool.or_true]
  rfl

/-- What RDU has published when it has taken a remote release. -/
structure Work.RemoteStart (w : Work) (origin : Origin) (n : Nat) (v : Work) : Prop where
  rdu : v.rdu = { w.rdu.takesRemote origin n with viewOn := w.rdu.wantsView, halfPress := true }
  rest : ∃ sru gates, (gates = [] ∨ gates = [v.fu.gate]) ∧ v = { w with
    rdu := v.rdu, sru := sru, fu := v.fu, cp := v.cp, bus := w.bus ++ gates.map Report.focus } ∧
    sru.readout = w.sru.readout ∧ sru.running = w.sru.running ∧ sru.fault = w.sru.fault
  fu : v.fu = w.fu ∨ (w.rdu.halfPress = false ∧ v.fu = w.fu.takesPress true)

theorem Work.remoteStart {w : Work} {origin : Origin} (n : Nat) (ho : origin.isRemote = true) (hl : w.pwc.latched = false) :
    w.RemoteStart origin n (Work.publishDrive { w with rdu := w.rdu.takesRemote origin n }) := by
  have hp := Work.publishDrive_published { w with rdu := w.rdu.takesRemote origin n }
  revert hp
  generalize Work.publishDrive { w with rdu := w.rdu.takesRemote origin n } = v
  intro hp
  have hfocus : ((w.rdu.takesRemote origin n).wantsFocus && !w.pwc.latched) = true := by
    rw [Rdu.takesRemote_focus _ _ ho, hl]
    rfl
  have hview : ((w.rdu.takesRemote origin n).wantsView && !w.pwc.latched) = w.rdu.wantsView := by
    rw [hl, Bool.not_false, Bool.and_true]
    rfl
  obtain ⟨gates, hg, hv⟩ := hp.gated
  have hrdu : v.rdu = { w.rdu.takesRemote origin n with viewOn := w.rdu.wantsView, halfPress := true } := by
    rw [hv]
    show Rdu.publishes _ _ = _
    rw [Rdu.publishes, hfocus, hview]
  refine ⟨hrdu, ⟨w.sru.takesView (w.rdu.takesRemote origin n) w.pwc.latched, gates, hg, ?_, rfl, rfl, rfl⟩, ?_⟩
  · rw [hrdu]
    rw [Rdu.publishes, hfocus, hview] at hv
    exact hv
  · cases hhalf : w.rdu.halfPress with
    | true => exact .inl (hp.same (hfocus.trans hhalf.symm)).1
    | false =>
      refine .inr ⟨rfl, (hp.half ?_).trans (congrArg w.fu.takesPress hfocus)⟩
      show _ ≠ w.rdu.halfPress
      rw [hfocus, hhalf]
      decide

/-- How a remote release in IDLE or READY is judged (R44). -/
theorem Work.judgeRemote_ok {w : Work} {n : Nat} (h1 : 1 ≤ n) (h2 : n ≤ 99) (hrun : w.pwc.power = .run) (hl : w.pwc.latched = false)
    (hd : w.rdu.drive = .idle ∨ w.rdu.drive = .ready) :
    w.judgeRemote n = .ok (if w.rdu.active.mode = .single then 1 else n) := by
  rw [Work.judgeRemote, if_neg (by omega), hrun, hl]
  rcases hd with hd | hd <;> rw [hd] <;> rfl

theorem Work.judgeRemote_badArg {w : Work} {n : Nat} (h : n = 0 ∨ 99 < n) : w.judgeRemote n = .error .badArg := by
  rw [Work.judgeRemote, if_pos h]

theorem Work.judgeRemote_state {w : Work} {n : Nat} (h1 : 1 ≤ n) (h2 : n ≤ 99) (hd : w.rdu.drive ≠ .idle)
    (hd2 : w.rdu.drive ≠ .ready) : w.judgeRemote n = .error .state := by
  rw [Work.judgeRemote, if_neg (by omega)]
  split
  · rfl
  · split <;> first | rfl | exact absurd ‹_› hd | exact absurd ‹_› hd2

/-- RDU when a remote release waits for the gate. -/
def Rdu.waitsRemote (r : Rdu) (origin : Origin) (n : Nat) : Rdu := { r with
  remoteCount := n, waiter := some origin, focusWait := true, drive := .waitingFocus, viewOn := true, halfPress := true }

/-- A work with RDU's values replaced and whatever values of SRU, FU and CP. -/
def Work.Waits (w v : Work) (r : Rdu) : Prop :=
  ∃ gates : List (Option GateOutcome), (gates = [] ∨ gates = [none]) ∧
    v = { w with rdu := r, sru := v.sru, fu := v.fu, cp := v.cp, bus := w.bus ++ gates.map Report.focus }

/-- A remote release waits where no gate is open, before or after the half-press signal. -/
theorem Work.takeRemote_waits {w : Work} {origin : Origin} (n : Nat) (ho : origin.isRemote = true) (hl : w.pwc.latched = false)
    (hpriority : w.rdu.active.priority = .focus) (hgate : w.fu.gate = none) (hgate2 : (w.fu.takesPress true).gate = none) :
    w.Waits (w.takeRemote origin n) (w.rdu.waitsRemote origin n) := by
  have hstart := Work.remoteStart (w := w) n ho hl
  show w.Waits (Work.startRelease origin (Work.publishDrive { w with rdu := w.rdu.takesRemote origin n })) _
  revert hstart
  generalize Work.publishDrive { w with rdu := w.rdu.takesRemote origin n } = v
  rintro ⟨hrdu, ⟨sru, gates, hg, hv, -⟩, hfu⟩
  have hnone : v.fu.gate = none := by rcases hfu with h | ⟨-, h⟩ <;> rw [h] <;> assumption
  have hpwc : v.pwc = w.pwc := congrArg (fun x => x.pwc) hv
  have hbus : v.bus = w.bus ++ gates.map Report.focus := congrArg (fun x => x.bus) hv
  have hactive : v.rdu.active.priority = .focus := by rw [hrdu]; exact hpriority
  have hrelease : v.startRelease origin = Work.publishDrive { v with
      rdu := { v.rdu with focusWait := true, waiter := some origin, drive := .waitingFocus } } := by
    rw [Work.startRelease, hactive, hnone]
    rfl
  have hsame : (({ v.rdu with focusWait := true, waiter := some origin, drive := .waitingFocus } : Rdu).wantsFocus &&
      !v.pwc.latched) = v.rdu.halfPress := by
    rw [hpwc, hl, hrdu]
    show ((_ || (origin.isRemote || _) || _) && true) = true
    rw [ho, Bool.true_or, Bool.or_true]
    rfl
  rw [hrelease, (Work.publishDrive_published _).still hsame]
  refine ⟨gates, hnone ▸ hg, ?_⟩
  have hpublishes : Rdu.publishes { v.rdu with focusWait := true, waiter := some origin, drive := .waitingFocus }
      v.pwc.latched = w.rdu.waitsRemote origin n := by
    rw [Rdu.publishes, hsame, hpwc, hl, hrdu]
    rfl
  rw [hpublishes]
  exact congrArg (fun x : Work => { x with
    rdu := w.rdu.waitsRemote origin n
    sru := v.sru.takesView { v.rdu with focusWait := true, waiter := some origin, drive := .waitingFocus } v.pwc.latched }) hv

/-- Gates that are not open reach a release that waits for one, and leave it waiting. -/
theorem Work.Waits.settle {w v : Work} {r : Rdu} (h : w.Waits v r) (hb : w.bus = []) : v.settle = { v with bus := [] } := by
  obtain ⟨gates, hg, hv⟩ := h
  have hbus : v.bus = gates.map Report.focus := by rw [hv, hb]; rfl
  rcases hg with rfl | rfl
  · rw [Work.settle_nil v hbus]
    exact congrArg (fun b => ({ v with bus := b } : Work)) hbus
  · obtain ⟨s, b⟩ := v
    obtain rfl : b = [.focus none] := hbus
    exact Work.Comes.skip (n := 4095) (Work.handle_focus_none _) (.done _)

/-- A remote release whose gate is open opens its burst with its first capture. -/
theorem Work.takeRemote_opens {w : Work} {origin : Origin} {gate : GateOutcome} (n : Nat) (ho : origin.isRemote = true)
    (hn : 1 ≤ n) (hcan : w.canCapture) (hb : w.bus = [])
    (hgate : ∀ v : Work, w.RemoteStart origin n v → v.startRelease origin = v.openBurst origin gate) :
    ∃ u : Work, u.pwc = w.pwc ∧ u.bm = w.bm ∧ u.tu = w.tu ∧
      w.takeRemote origin n = u.opens (w.burstRow origin) gate
        ((w.rdu.takesRemote origin n).firstCapture origin gate w.bm.freeIndex) ∧
      ∃ up, (w.takeRemote origin n).Hushed [.reclaim up] := by
  obtain ⟨hcap, hread, hrun, hfault, hl, hroom⟩ := hcan
  have hstart := Work.remoteStart (w := w) n ho hl
  show ∃ u : Work, _ ∧ _ ∧ _ ∧ Work.startRelease origin (Work.publishDrive { w with rdu := w.rdu.takesRemote origin n }) = _ ∧
    ∃ up, (Work.startRelease origin (Work.publishDrive { w with rdu := w.rdu.takesRemote origin n })).Hushed _
  revert hstart
  generalize Work.publishDrive { w with rdu := w.rdu.takesRemote origin n } = v
  intro hstart
  rw [hgate v hstart]
  obtain ⟨hrdu, ⟨sru, gates, hg, hv, hsread, hsrun, hsfault⟩, -⟩ := hstart
  have hsru : v.sru = sru := congrArg (fun x => x.sru) hv
  have hbm : v.bm = w.bm := congrArg (fun x => x.bm) hv
  have hpwc : v.pwc = w.pwc := congrArg (fun x => x.pwc) hv
  have htu : v.tu = w.tu := congrArg (fun x => x.tu) hv
  have hbus : v.bus = gates.map Report.focus := (congrArg (fun x => x.bus) hv).trans (congrArg (· ++ _) hb)
  have hvcan : v.canCapture := by
    rw [State.canCapture, hrdu, hsru, hsread, hsrun, hsfault, hpwc, hbm]
    exact ⟨hcap, hread, hrun, hfault, hl, hroom⟩
  obtain ⟨u, hu, hopens⟩ := Work.openBurst_opens (w := v) origin gate hvcan (fun _ => by rw [hrdu]; exact hn)
  obtain ⟨up, hhush⟩ := Work.openBurst_hushed hu hbus (by rcases hg with h | h <;> rw [h]; exacts [Nat.zero_le _, Nat.le_refl _])
  obtain ⟨ugates, -, hue⟩ := hu.gated
  rw [hopens]
  refine ⟨u, hu.pwc.trans hpwc, (congrArg (fun x => x.bm) hue).trans hbm, (congrArg (fun x => x.tu) hue).trans htu, ?_, up, hhush⟩
  rw [Work.burstRow, hrdu, hbm]
  rfl

/-! ### The gate (R34) -/

theorem Fu.gate_noLens {f : Fu} (h : f.state = .noLens ∨ f.state = .fault ∨ f.active.mode = .manual) :
    f.gate = some .noLens := by
  rcases h with h | h | h
  · simp only [Fu.gate, h]
  · simp only [Fu.gate, h]
  · cases hs : f.state <;> simp only [Fu.gate, h, hs]

theorem Fu.gate_focused {f : Fu} (h : (f.active.mode = .single ∧ f.state = .locked) ∨
    (f.active.mode = .continuous ∧ f.state ∉ [FocusState.noLens, .fault] ∧ f.published.any Estimate.inFocus = true)) :
    f.gate = some .focused := by
  rcases h with ⟨hm, hs⟩ | ⟨hm, hs, hp⟩
  · simp only [Fu.gate, hm, hs]
  · have hin : (f.published.map Estimate.inFocus).getD false = true := by
      cases hpub : f.published with
      | none => rw [hpub] at hp; exact Bool.noConfusion hp
      | some e => rw [hpub] at hp; exact hp
    cases hst : f.state <;> simp [Fu.gate, hm, hst, hin] <;> simp [hst] at hs

/-- The bytes heard leave what a release looks at. -/
theorem State.canCapture.hears {s : State} (h : s.canCapture) (r : Request) : (s.hears r).canCapture := by
  rw [State.hears_eq]
  exact h

theorem answerRemoteRelease_ok {count : Byte} {n : Nat} {w : Work} (h : w.judgeRemote count.toNat = .ok n) :
    answerRemoteRelease [count] w = .taken (w.takeRemote .remoteHost n) [BitVec.ofNat 8 n] := by
  rw [answerRemoteRelease, show byteAt [count] 0 = count from rfl, h]

theorem answerRemoteRelease_error {count : Byte} {c : Result} {w : Work} (h : w.judgeRemote count.toNat = .error c) :
    answerRemoteRelease [count] w = .refused c := by
  rw [answerRemoteRelease, show byteAt [count] 0 = count from rfl, h]

/-- A remote release of the host in RUN, in IDLE or READY. -/
theorem request_remoteRelease {tag count : Byte} {s : State} {n : Nat} (hs : s.answers) (h1 : 1 ≤ count.toNat)
    (h2 : count.toNat ≤ 99) (hrun : s.inRun) (hd : s.rdu.drive = .idle ∨ s.rdu.drive = .ready)
    (hn : n = if s.rdu.active.mode = .single then 1 else count.toNat) :
    exec (.remoteRelease tag [count]) s =
      .next ((Work.takeRemote .remoteHost n { toState := s.hears .remoteRelease, bus := [] }).settle.reply 0x88 tag
        [0, BitVec.ofNat 8 n]).settle.finishWarning.toState := by
  have hpwc : (s.hears .remoteRelease).pwc = s.pwc := State.hears_pwc s _
  have hrdu : (s.hears .remoteRelease).rdu = s.rdu := by rw [State.hears_eq]
  refine request_run .remoteRelease tag hs rfl (answerRemoteRelease_ok ?_)
  rw [hn, ← hrdu]
  exact Work.judgeRemote_ok (w := { toState := s.hears .remoteRelease, bus := [] }) h1 h2 (by rw [hpwc, hrun])
    (by rw [hpwc, hrun]) (by rw [hrdu]; exact hd)

/-- The gate that lets a remote release open its burst at once. -/
theorem Work.startRelease_gate {s : State} {origin : Origin} {g : GateOutcome} {n : Nat} {v : Work}
    (hgate : (s.rdu.active.priority = .release ∧ g = .releasePriority) ∨
      (s.rdu.active.priority = .focus ∧ g = .noLens ∧
        (s.fu.state = .noLens ∨ s.fu.state = .fault ∨ s.fu.active.mode = .manual)) ∨
      (s.rdu.active.priority = .focus ∧ g = .focused ∧ s.rdu.drive = .ready ∧ s.rdu.halfPress = true ∧
        ((s.fu.active.mode = .single ∧ s.fu.state = .locked) ∨
          (s.fu.active.mode = .continuous ∧ s.fu.state ∉ [FocusState.noLens, .fault] ∧
            s.fu.published.any Estimate.inFocus = true))))
    (h : Work.RemoteStart { toState := s, bus := [] } origin n v) : v.startRelease origin = v.openBurst origin g := by
  obtain ⟨hrdu, -, hfu⟩ := h
  have hactive : v.rdu.active = s.rdu.active := by rw [hrdu]; rfl
  rcases hgate with ⟨hp, rfl⟩ | ⟨hp, rfl, hlens⟩ | ⟨hp, rfl, -, hhalf, hin⟩
  · rw [Work.startRelease, hactive, hp]
  · have hopen : v.fu.gate = some .noLens := by
      rcases hfu with h | ⟨-, h⟩ <;> rw [h]
      · exact Fu.gate_noLens hlens
      · exact Fu.gate_takesPress (Fu.gate_noLens hlens) (by tauto)
    rw [Work.startRelease, hactive, hp, hopen]
  · have hsame : v.fu = s.fu := hfu.resolve_right fun h => absurd (hhalf.symm.trans h.1) (by decide)
    rw [Work.startRelease, hactive, hp, hsame, Fu.gate_focused hin]

/-- Settles O28. -/
theorem remoteReleaseWaitsForFocus : Obligations.RemoteReleaseWaitsForFocus := by
  unfold Obligations.RemoteReleaseWaitsForFocus
  intro tag count s hs hl
  refine ⟨fun hrun h1 h2 hd hpriority hmode hstate => ?_, fun g n hrun h1 h2 hd hcan hgate hn => ?_,
    fun h => request_turned .remoteRelease .badArg rfl hs rfl fun cp sent =>
      answerRemoteRelease_error (Work.judgeRemote_badArg h),
    fun h1 h2 hd hd2 => request_turned .remoteRelease .state rfl hs rfl fun cp sent =>
      answerRemoteRelease_error (Work.judgeRemote_state h1 h2 hd hd2)⟩
  · have hnone : s.fu.gate = none := by
      simp only [List.mem_cons, List.not_mem_nil, or_false] at hstate
      rcases hstate with h | h | h <;> simp only [Fu.gate, h, hmode]
    refine ⟨_, _, request_remoteRelease hs h1 h2 hrun hd rfl, rfl, ?_⟩
    have hw := Work.takeRemote_waits (w := { toState := s.hears .remoteRelease, bus := [] }) (origin := .remoteHost)
      (if s.rdu.active.mode = .single then 1 else count.toNat) rfl (by rw [State.hears_pwc, hrun])
      (by rw [State.hears_eq]; exact hpriority) (by rw [State.hears_eq]; exact hnone)
      (by rw [State.hears_eq]; exact Fu.gate_takesPress hnone (.inr (.inr (.inr ⟨hmode, hstate⟩))))
    rw [hw.settle rfl]
    revert hw
    generalize Work.takeRemote .remoteHost _ _ = v
    rintro ⟨gates, -, hv⟩
    rw [hv, Work.settle_nil _ rfl, Work.finishWarning_none (by show (s.hears _).pwc.responses = none; rw [State.hears_pwc, hrun])]
    refine ⟨?_, List.mem_append_right _ (.head _), ?_⟩
    · show (State.rdu (s.hears _)).waitsRemote _ _ = _
      rw [State.hears_eq]
      rfl
    · show (s.hears _).bm = _ ∧ (s.hears _).mem = _ ∧ (s.hears _).de = _ ∧ (s.hears _).cw = _ ∧ (s.hears _).tu = _ ∧ (s.hears _).pwc = _
      rw [State.hears_eq]
      exact ⟨rfl, rfl, rfl, rfl, rfl, rfl⟩
  · have hresp : s.pwc.responses = none := by rw [hrun]
    have hn1 : 1 ≤ n := by rw [hn]; split <;> omega
    obtain ⟨u, hup, hub, hut, hopens, up, hhush⟩ := Work.takeRemote_opens (w := { toState := s.hears .remoteRelease, bus := [] })
      (origin := .remoteHost) (gate := g) n rfl hn1 (hcan.hears _) rfl fun v hv =>
        Work.startRelease_gate (s := s.hears .remoteRelease) (by rw [State.hears_eq]; exact hgate) hv
    rw [hopens] at hhush
    have hfresh : u.bm.row? (Work.burstRow { toState := s.hears .remoteRelease, bus := [] } .remoteHost).index = none := by
      rw [hub]
      exact Bm.row?_freeIndex (hcan.hears _).2.2.2.2.2.1
    obtain ⟨⟨hrdu, hsru, -, hp, -, ⟨z, hz, hzf, hzr⟩, hfree⟩, hreply⟩ := hhush.opened_reply (Work.opens_row? hfresh)
      (fun h => Life.noConfusion h) (by show u.pwc.responses = none; rw [hup]; exact (State.hears_pwc s _).symm ▸ hresp)
      0x88 tag [0, BitVec.ofNat 8 n]
    refine ⟨_, request_remoteRelease hs h1 h2 hrun hd hn, ?_⟩
    rw [hopens]
    have hbm : (s.hears .remoteRelease).bm = s.bm := by rw [State.hears_eq]
    have htu : (s.hears .remoteRelease).tu = s.tu := by rw [State.hears_eq]
    refine ⟨hrdu.trans ?_, ?_, by rw [hsru]; rfl, ?_, fun hq => (hfree ?_).trans ?_, hp.trans (hup.trans (State.hears_pwc s _)), hreply⟩
    · show ((s.hears .remoteRelease).rdu.takesRemote .remoteHost n).firstCapture .remoteHost g
        (s.hears .remoteRelease).bm.freeIndex = _
      rw [State.hears_eq]
      rfl
    · rw [hsru]
      show some ((s.hears .remoteRelease).bm.freeIndex, g) = _
      rw [hbm]
    · rw [← hbm]
      refine (congrArg _ hz).trans ?_
      have horigin : z.origin = .remoteHost := congrArg (fun x => x.2.2.2.2.1) hzf
      have hburst : z.burst = (s.hears .remoteRelease).rdu.nextBurst := congrArg (fun x => x.2.2.2.2.2.1) hzf
      show some (z.origin, z.burst, z.raw) = _
      rw [horigin, hburst, hzr, State.hears_eq]
      rfl
    · exact (congrArg Tu.queue (hut.trans htu)).trans hq
    · exact congrArg (List.drop 41) ((congrArg Bm.free (hub.trans hbm)))

end Sys2Proof.Machine
end

section
/-! PROOF. Drive settings (R29, R30, R33, R37): O25. -/

namespace Sys2Proof.Machine

/-! ### The settings' bytes (R29, R197) -/

/-- Settings in the ranges of R29. -/
structure DriveSettings.InRange (d : DriveSettings) : Prop where
  rate : 1 ≤ d.rate ∧ d.rate ≤ 30
  limit : d.limit ≤ 255
  depth : 1 ≤ d.depth ∧ d.depth ≤ 20
  wait : 50 ≤ d.wait ∧ d.wait ≤ 1000
  look : d.look ≤ 7

theorem driveModeOf_byte (m : DriveMode) : driveModeOf m.byte = some m := by cases m <;> rfl
theorem priorityOf_byte (p : Priority) : priorityOf p.byte = some p := by cases p <;> rfl
theorem flashModeOf_byte (f : FlashMode) : flashModeOf f.byte = some f := by cases f <;> rfl

theorem clampNat_of_le {lo hi x : Nat} (h : lo ≤ x ∧ x ≤ hi) : clampNat lo hi x = x := by
  rw [clampNat, Nat.max_eq_right h.1, Nat.min_eq_right h.2]

theorem toNat_ofNat_byte {n : Nat} (h : n < 256) : (BitVec.ofNat 8 n).toNat = n := by
  rw [BitVec.toNat_ofNat, Nat.mod_eq_of_lt h]

theorem driveSettingsOf_bytes {d : DriveSettings} (h : d.InRange) : driveSettingsOf d.bytes = some d := by
  obtain ⟨hrate, hlimit, hdepth, hwait, hlook⟩ := h
  have e0 : byteAt d.bytes 0 = d.mode.byte := rfl
  have e1 : (byteAt d.bytes 1).toNat = d.rate := toNat_ofNat_byte (by omega)
  have e2 : (byteAt d.bytes 2).toNat = d.limit := toNat_ofNat_byte (by omega)
  have e3 : (byteAt d.bytes 3).toNat = d.depth := toNat_ofNat_byte (by omega)
  have e4 : byteAt d.bytes 4 = d.priority.byte := rfl
  have e5 : fieldAt d.bytes 5 2 = d.wait := leNat_leBytes (k := 2) (by omega)
  have e7 : byteAt d.bytes 7 = d.flash.byte := rfl
  have e8 : (byteAt d.bytes 8).toNat = d.look := toNat_ofNat_byte (by omega)
  simp only [driveSettingsOf, e0, e1, e2, e3, e4, e5, e7, e8, driveModeOf_byte, priorityOf_byte, flashModeOf_byte, hlook,
    if_true, clampNat_of_le hrate, clampNat_of_le hdepth, clampNat_of_le hwait]

theorem driveSettingsOf_none {p : List Byte} (h : 2 < (byteAt p 0).toNat) : driveSettingsOf p = none := by
  have hmode : driveModeOf (byteAt p 0) = none := by
    unfold driveModeOf
    split <;> first | omega | rfl
  rw [driveSettingsOf, hmode]

/-! ### PRECAPTURING (R33) -/

/-- RDU's values that leave the half-press signal as it stands, and their view stream. -/
theorem Work.publishDrive_rdu (w : Work) {r : Rdu} {view : Bool} (hview : (r.wantsView && !w.pwc.latched) = view)
    (hf : (r.wantsFocus && !w.pwc.latched) = r.halfPress) :
    Work.publishDrive { w with rdu := r } = { w with
      rdu := { r with viewOn := view }
      sru := { w.sru with viewTimer := if view = r.viewOn then w.sru.viewTimer else view && w.sru.running } } := by
  refine ((Work.publishDrive_published { w with rdu := r }).still hf).trans ?_
  show ({ w with rdu := r.publishes w.pwc.latched, sru := w.sru.takesView r w.pwc.latched } : Work) = _
  rw [Rdu.publishes, Sru.takesView, hf, hview]

theorem Rdu.wantsFocus_held {r : Rdu} (h : r.s1.held = true) : r.wantsFocus = true := by
  rw [Rdu.wantsFocus, h]
  rfl

/-- With S1 held the half-press signal stands. -/
theorem Rdu.half_held {r : Rdu} {latched : Bool} (h : r.s1.held = true) (hl : latched = false) (hh : r.halfPress = true) :
    (r.wantsFocus && !latched) = r.halfPress := by
  rw [Rdu.wantsFocus_held h, hl, hh]
  rfl

/-- No record counts a skip of the ring. -/
theorem Rdu.skips_none {r : Rdu} (h : r.release = none) (c : SkipCause) : r.skips c = { r with drive := r.drive.stalled } := by
  unfold Rdu.skips
  simp only [h, Option.isSome_none, Bool.false_eq_true, if_false]

/-- RDU when it enters PRECAPTURING with settings. -/
def Rdu.startsRing (r : Rdu) (d : DriveSettings) : Rdu := { r with
  drive := .precapturing, active := d, timer := true, burstId := r.nextBurst, nextBurst := (r.nextBurst + 1) % 65536,
  viewOn := false }

/-- The work of a READY drive that enters PRECAPTURING, before its first attempt. -/
def Work.startsRing (w : Work) (d : DriveSettings) : Work := { w with rdu := w.rdu.startsRing d, sru := w.burstSru }

theorem Work.enterPrecapturing_eq {w : Work} (d : DriveSettings) (hs : w.rdu.s1.held = true) (hl : w.pwc.latched = false)
    (hh : w.rdu.halfPress = true) :
    Work.enterPrecapturing { w with rdu := { w.rdu with active := d } } = (w.startsRing d).attempt := by
  have hp := w.publishDrive_rdu (r := { w.rdu with
    drive := .precapturing, active := d, timer := true, burstId := w.rdu.nextBurst,
    nextBurst := (w.rdu.nextBurst + 1) % 65536 }) (view := false) rfl (Rdu.half_held hs hl hh)
  refine congrArg Work.attempt (hp.trans ?_)
  rw [Work.startsRing, Rdu.startsRing, Work.burstSru]
  cases w.rdu.viewOn <;> rfl

/-- The row of the first frame of a ring. -/
def Work.ringRow (w : Work) (d : DriveSettings) : Row :=
  Row.fresh w.bm.freeIndex .precapture w.rdu.nextBurst true d.look (w.bm.free.take Config.rawPages)

/-- A ring frame whose drive has just started the ring. -/
theorem Work.startsRing_opens {w : Work} {d : DriveSettings} (hcan : w.canCapture) (hs : w.rdu.s1.held = true)
    (hh : w.rdu.halfPress = true) (hrel : w.rdu.release = none) (hring : w.rdu.ring = []) :
    (w.startsRing d).attempt = (w.startsRing d).opens (w.ringRow d) .releasePriority ((w.rdu.startsRing d).tookRing w.bm.freeIndex) := by
  have hbar : (w.rdu.startsRing d).barred = false := by
    show (match w.rdu.release with | some x => _ | none => false) = false
    rw [hrel]
  exact Work.attempt_ring (w := w.startsRing d) hcan rfl hh (.inl rfl) hbar hs (.inl hring)

/-- A first ring attempt that is denied for want of pages. -/
theorem Work.startsRing_stalls {w : Work} {d : DriveSettings} (hs : w.rdu.s1.held = true) (hh : w.rdu.halfPress = true)
    (hl : w.pwc.latched = false) (hrel : w.rdu.release = none) (hring : w.rdu.ring = []) (hcap : w.rdu.capture = none)
    (hfault : w.sru.fault = false) (hrows : w.bm.rows.length < 128) (hfree : w.bm.free.length < 41 + w.bm.reserve) :
    (w.startsRing d).attempt = { w.startsRing d with
      rdu := { w.rdu.startsRing d with drive := .stalledPrecapturing }
      cp := w.cp.raise .bufferFull (SkipCause.buffer.byte :: leBytes 2 w.bm.freeCount) } := by
  have hbar : (w.rdu.startsRing d).barred = false := by
    show (match w.rdu.release with | some x => _ | none => false) = false
    rw [hrel]
  rw [Work.attempt_allocates (w := w.startsRing d) hbar hcap hfault,
    Work.allocate_denied (w := w.startsRing d) (fun _ => hring) (Work.judgeRaw_buffer hrows hfree),
    Work.skipAttempt_eq (w := w.startsRing d) rfl hh hl (.inr ⟨.inl rfl, hs⟩),
    Rdu.skips_none (r := (w.startsRing d).rdu) hrel]
  rfl

/-- An attempt that opens in a request: its reply, and what the step ends with. -/
theorem Work.opens_reply {w : Work} {row : Row} {gate : GateOutcome} {r : Rdu} (hb : w.bus = []) (hd : r.drive ≠ .waitingFocus)
    (hfresh : w.bm.row? row.index = none) (hl : row.life ≠ .held) (hp : w.pwc.responses = none) (k tag : Byte)
    (p : List Byte) :
    (w.opens row gate r).Opened row ((w.opens row gate r).settle.reply k tag p).settle.finishWarning.toState ∧
      OutFrame.reply k tag p ∈ ((w.opens row gate r).settle.reply k tag p).settle.finishWarning.cp.queue :=
  (Work.opens_hushed hb hd).opened_reply (Work.opens_row? hfresh) hl hp k tag p

/-- A request whose owner leaves no report. -/
theorem Work.reply_quiet {w : Work} (hb : w.bus = []) (hp : w.pwc.responses = none) (k tag : Byte) (p : List Byte) :
    (w.settle.reply k tag p).settle.finishWarning = w.reply k tag p := by
  rw [Work.settle_nil w hb, Work.settle_nil (w.reply k tag p) hb, Work.finishWarning_none (w := w.reply k tag p) hp]

theorem answerDriveSet_ring {d : DriveSettings} {w : Work} (hof : driveSettingsOf d.bytes = some d) (hring : w.rdu.ring = [])
    (hd : w.rdu.drive = .ready) (hheld : w.rdu.s1.held = true) (hmode : d.mode = .precapture) :
    answerDriveSet d.bytes w =
      .taken (Work.enterPrecapturing { w with rdu := { w.rdu with active := d } }) (d.bytes ++ [0]) := by
  rw [answerDriveSet, hof]
  dsimp only
  rw [if_pos ⟨.inr hd, hring⟩, if_pos ⟨hd, hheld, hmode⟩]
  rfl

/-- DRIVE_SET of a READY drive that starts the ring. -/
theorem request_startsRing {tag : Byte} {d : DriveSettings} {s : State} (hs : s.answers) (hof : driveSettingsOf d.bytes = some d)
    (hrun : s.inRun) (hring : s.rdu.ring = []) (hd : s.rdu.drive = .ready) (hheld : s.rdu.s1.held = true)
    (hmode : d.mode = .precapture) (hh : s.rdu.halfPress = true) :
    exec (.driveSet tag d.bytes) s = .next
      ((((Work.startsRing { toState := s.hears .driveSet, bus := [] } d).attempt).settle.reply 0x86 tag
        (0 :: (d.bytes ++ [0]))).settle.finishWarning.toState) := by
  have hrdu : (s.hears .driveSet).rdu = s.rdu := by rw [State.hears_eq]
  refine request_run .driveSet tag hs rfl ?_
  rw [Request.owner, answerDriveSet_ring hof (by rw [hrdu]; exact hring) (by rw [hrdu]; exact hd) (by rw [hrdu]; exact hheld) hmode]
  rw [Work.enterPrecapturing_eq (w := { toState := s.hears .driveSet, bus := [] }) d
    (by rw [hrdu]; exact hheld) (by rw [State.hears_pwc, hrun]) (by rw [hrdu]; exact hh)]

section
variable {u : State} {d : DriveSettings} (hheld : u.rdu.s1.held = true) (hh : u.rdu.halfPress = true)
  (hrel : u.rdu.release = none) (hring : u.rdu.ring = []) (hp : u.pwc.responses = none)
include hheld hh hrel hring hp

/-- The step of a request that starts the ring with its first frame. -/
theorem Work.startsRing_opened (hcan : u.canCapture) (k tag : Byte) (p : List Byte) :
    ∀ t, t = (((Work.startsRing { toState := u, bus := [] } d).attempt).settle.reply k tag p).settle.finishWarning.toState →
    t.rdu = (u.rdu.startsRing d).tookRing u.bm.freeIndex ∧
      t.sru = { Work.burstSru { toState := u, bus := [] } with
        readout := some (Readout.requested u.bm.freeIndex .releasePriority), startTimer := true } ∧
      (∃ z, t.bm.row? u.bm.freeIndex = some z ∧ z.precapture = true ∧ z.mark = some .opened ∧ z.burst = u.rdu.nextBurst ∧
        z.raw = some { pages := u.bm.free.take Config.rawPages, length := Config.rawLength }) ∧
      (u.tu.queue = [] → t.bm.free = u.bm.free.drop Config.rawPages) ∧ t.fu = u.fu ∧ t.pwc = u.pwc ∧
      OutFrame.reply k tag p ∈ t.cp.queue := by
  rintro t rfl
  have hopens := Work.startsRing_opens (w := { toState := u, bus := [] }) (d := d) hcan hheld hh hrel hring
  obtain ⟨⟨hrdu, hsru, hfu, hpwc, -, ⟨z, hz, hzf, hzr⟩, hfree⟩, hreply⟩ :=
    Work.opens_reply (w := Work.startsRing { toState := u, bus := [] } d)
      (row := Work.ringRow { toState := u, bus := [] } d) (gate := .releasePriority)
      (r := (u.rdu.startsRing d).tookRing u.bm.freeIndex) rfl (fun h => Drive.noConfusion h)
      (Bm.row?_freeIndex hcan.2.2.2.2.2.1) (fun h => Life.noConfusion h) hp k tag p
  rw [hopens]
  exact ⟨hrdu, hsru, ⟨z, hz, congrArg (fun x => x.2.2.1) hzf, congrArg (fun x => x.2.2.2.1) hzf,
    congrArg (fun x => x.2.2.2.2.2.1) hzf, hzr⟩, hfree, hfu, hpwc, hreply⟩

/-- The step of a request that starts the ring with a frame that is denied. -/
theorem Work.startsRing_stalled (hl : u.pwc.latched = false) (hcap : u.rdu.capture = none) (hfault : u.sru.fault = false)
    (hrows : u.bm.rows.length < 128) (hfree : u.bm.free.length < 41 + u.bm.reserve) (k tag : Byte) (p : List Byte) :
    ∀ t, t = (((Work.startsRing { toState := u, bus := [] } d).attempt).settle.reply k tag p).settle.finishWarning.toState →
    t.rdu = { u.rdu.startsRing d with drive := .stalledPrecapturing } ∧ t.sru = Work.burstSru { toState := u, bus := [] } ∧
      t.bm = u.bm ∧ t.fu = u.fu ∧ t.pwc = u.pwc ∧ OutFrame.reply k tag p ∈ t.cp.queue := by
  rintro t rfl
  have hstalls := Work.startsRing_stalls (w := { toState := u, bus := [] }) (d := d) hheld hh hl hrel hring hcap hfault hrows
    hfree
  rw [Work.reply_quiet (w := (Work.startsRing { toState := u, bus := [] } d).attempt) (by rw [hstalls]; rfl)
    (by rw [hstalls]; exact hp), hstalls]
  exact ⟨rfl, rfl, rfl, rfl, rfl, List.mem_append_right _ (.head _)⟩

end

/-- Settles O25. -/
theorem driveSettingsAreTakenOrWait : Obligations.DriveSettingsAreTakenOrWait := by
  unfold Obligations.DriveSettingsAreTakenOrWait
  intro tag d s hs hrate1 hrate2 hlimit hdepth1 hdepth2 hwait1 hwait2 hlook
  have hof := driveSettingsOf_bytes ⟨⟨hrate1, hrate2⟩, hlimit, ⟨hdepth1, hdepth2⟩, ⟨hwait1, hwait2⟩, hlook⟩
  refine ⟨fun hring hd => ?_, fun hd hd2 => ?_, ?_, fun p hp hbad => ?_⟩
  · refine request_done .driveSet hs rfl rfl rfl hs.2.1 fun cp sent => ?_
    rw [Request.owner, answerDriveSet, hof]
    dsimp only
    have hrest : s.rdu.drive = .idle ∨ s.rdu.drive = .ready := hd.imp_right And.left
    rw [if_pos ⟨hrest, hring⟩, if_neg]
    · exact .taken (.done _)
    · rintro ⟨h1, h2, h3⟩
      rcases hd with hd | ⟨-, hd | hd⟩
      · exact absurd (h1.symm.trans hd) (by decide)
      · exact hd h3
      · exact absurd (h2.symm.trans hd) (by decide)
  · refine request_done .driveSet hs rfl rfl rfl hs.2.1 fun cp sent => ?_
    rw [Request.owner, answerDriveSet, hof]
    dsimp only
    rw [if_neg fun h => h.1.elim hd hd2]
    exact .taken (.done _)
  · intro hrun hring hd hheld hmode hrel hh rings sru
    have hexec := request_startsRing (tag := tag) hs hof hrun hring hd hheld hmode hh
    -- what the bytes heard leave
    have hu := State.hears_eq s .driveSet
    revert hexec hu
    generalize s.hears .driveSet = u
    intro hexec hu
    have hrdu : u.rdu = s.rdu := by rw [hu]
    have hsru : u.sru = s.sru := by rw [hu]
    have hbm : u.bm = s.bm := by rw [hu]
    have hfu : u.fu = s.fu := by rw [hu]
    have htu : u.tu = s.tu := by rw [hu]
    have hpwc : u.pwc = s.pwc := by rw [hu]
    have hresp : u.pwc.responses = none := by rw [hpwc, hrun]
    have hsruns : Work.burstSru { toState := u, bus := [] } = sru := by rw [Work.burstSru, hrdu, hsru]
    rw [← hrdu] at hheld hh hrel hring
    refine ⟨fun hcan => ?_, fun hcap hfault hrows hfree => ?_⟩
    · have hucan : u.canCapture := by rw [State.canCapture, hrdu, hsru, hbm, hpwc]; exact hcan
      obtain ⟨hr, hsr, ⟨z, hz, hpre, hmark, hburst, hraw⟩, hfree, hf, hp, hreply⟩ :=
        Work.startsRing_opened hheld hh hrel hring hresp hucan 0x86 tag (0 :: (d.bytes ++ [0])) _ rfl
      rw [hrdu, hbm] at hr
      rw [hsruns, hbm] at hsr
      rw [hbm] at hz hraw hfree
      rw [hrdu] at hburst
      refine ⟨_, hexec, hr, hsr, ?_, fun hq => hfree (by rw [htu]; exact hq), hf.trans hfu, hp.trans hpwc, hreply⟩
      rw [hz]
      show some (z.precapture, z.mark, z.burst, z.raw) = _
      rw [hpre, hmark, hburst, hraw]
      rfl
    · obtain ⟨hr, hsr, hb, hf, hp, hreply⟩ :=
        Work.startsRing_stalled (d := d) hheld hh hrel hring hresp (by rw [hpwc, hrun]) (by rw [hrdu]; exact hcap)
          (by rw [hsru]; exact hfault) (by rw [hbm]; exact hrows) (by rw [hbm]; exact hfree) 0x86 tag
          (0 :: (d.bytes ++ [0])) _ rfl
      rw [hrdu] at hr
      exact ⟨_, hexec, hr, hsr.trans hsruns, hb.trans hbm, hf.trans hfu, hp.trans hpwc, hreply⟩
  · exact request_turned .driveSet .badArg rfl hs hp fun cp sent => by
      rw [Request.owner, answerDriveSet, driveSettingsOf_none hbad]

end Sys2Proof.Machine
end

section
/-! PROOF. The release lines: levels that register nothing, and presses of S1 (R27, R30 to R33, R49, R191). -/

namespace Sys2Proof.Machine

/-! ### A line takes a level (R27) -/

section
variable {l : Line} {high : Bool}

theorem Line.take_stands (h : l.levelOf high = false) (hh : l.held = false) :
    l.take (l.levelOf high) = ({ l with active := false, armed := true }, none) := by
  rw [Line.take, h, hh]
  rfl

theorem Line.take_unarmed (h : l.levelOf high = true) (ha : l.armed = false) :
    l.take (l.levelOf high) = ({ l with active := true }, none) := by
  obtain ⟨p, a, r, d⟩ := l
  obtain rfl : r = false := ha
  rw [Line.take, h]
  cases a <;> rfl

theorem Line.take_press (h : l.levelOf high = true) (ha : l.armed = true) (hn : l.active = false) :
    l.take (l.levelOf high) = ({ l with active := true, armed := false, held := true }, some .press) := by
  rw [Line.take, h, hn, ha]
  rfl

theorem Line.take_release (h : l.levelOf high = false) (hh : l.held = true) :
    l.take (l.levelOf high) = ({ l with active := false, armed := true, held := false }, some .release) := by
  rw [Line.take, h, hh]
  rfl

end

/-! ### What RDU does with the level (R27, R33, R34, R50) -/

section
variable {w : Work} {l : Line} {high : Bool} {e : Option LineEdge}

theorem Work.lineEvent_s1 (h : w.rdu.s1.take (w.rdu.s1.levelOf high) = (l, e)) (hn : e = none ∨ w.pwc.latched = true) :
    w.lineEvent .s1 high = { w with rdu := { w.rdu with s1 := l } } := by
  unfold Work.lineEvent
  dsimp only
  rw [h]
  dsimp only
  split
  · rfl
  · next hl =>
    obtain rfl := hn.resolve_right hl
    rfl

theorem Work.lineEvent_s2 (h : w.rdu.s2.take (w.rdu.s2.levelOf high) = (l, e)) (hn : e = none ∨ w.pwc.latched = true) :
    w.lineEvent .s2 high = { w with rdu := { w.rdu with s2 := l } } := by
  unfold Work.lineEvent
  dsimp only
  rw [h]
  dsimp only
  split
  · rfl
  · next hl =>
    obtain rfl := hn.resolve_right hl
    rfl

theorem Work.lineEvent_s1_press (h : w.rdu.s1.take (w.rdu.s1.levelOf high) = (l, some .press)) (hl : w.pwc.latched = false) :
    (w.pwc.power = .run → w.rdu.drive = .idle →
      w.lineEvent .s1 high = Work.enterReady { w with rdu := { w.rdu with s1 := l } }) ∧
    ((w.pwc.power = .quiet ∨ w.pwc.power = .halt) →
      w.lineEvent .s1 high = Work.wake .s1 { w with rdu := { w.rdu with s1 := l } }) := by
  unfold Work.lineEvent
  dsimp only
  rw [h]
  dsimp only
  rw [hl]
  refine ⟨fun hp hd => ?_, fun hp => ?_⟩
  · rw [hp, hd]
    rfl
  · rcases hp with hp | hp <;> rw [hp] <;> rfl

theorem Work.lineEvent_s2_press (h : w.rdu.s2.take (w.rdu.s2.levelOf high) = (l, some .press)) (hl : w.pwc.latched = false) :
    w.lineEvent .s2 high = if w.pwc.power = .run then Work.s2Pressed { w with rdu := { w.rdu with s2 := l } }
      else { w with rdu := { w.rdu with s2 := l } } := by
  unfold Work.lineEvent
  dsimp only
  rw [h]
  dsimp only
  rw [hl]
  rfl

theorem Work.lineEvent_s1_release (h : w.rdu.s1.take (w.rdu.s1.levelOf high) = (l, some .release))
    (hl : w.pwc.latched = false) : w.lineEvent .s1 high = Work.s1Released { w with rdu := { w.rdu with s1 := l } } := by
  unfold Work.lineEvent
  dsimp only
  rw [h]
  dsimp only
  rw [hl]
  rfl

theorem Work.lineEvent_s2_release (h : w.rdu.s2.take (w.rdu.s2.levelOf high) = (l, some .release))
    (hl : w.pwc.latched = false) : w.lineEvent .s2 high = Work.s2Released { w with rdu := { w.rdu with s2 := l } } := by
  unfold Work.lineEvent
  dsimp only
  rw [h]
  dsimp only
  rw [hl]
  rfl

end

/-- A line event that leaves no report. -/
theorem exec_line {line : LineId} {high : Bool} {s : State} {r : Rdu} (hs : s.steady)
    (h : Work.lineEvent line high { toState := s, bus := [] } = { toState := { s with rdu := r }, bus := [] }) :
    exec (.releaseLineLevel line high) s = .next { s with rdu := r } :=
  exec_comes (Work.lineEvent line high) rfl hs (by rw [h]; exact .done _)

/-! ### Gates that reach no release -/

/-- FU's gates reach RDU where no release waits for one, and nothing else is left. -/
theorem Work.Hushed.settle_nil {w : Work} (h : w.Hushed []) : w.settle = { w with bus := [] } := by
  obtain ⟨k, -, hk⟩ := h.drain
  exact hk.trans (Work.Comes.done _)

/-- What a step ends with that leaves such gates alone. -/
theorem Work.Hushed.ends {w : Work} (h : w.Hushed []) (hs : w.toState.steady) :
    w.settle.finishWarning.toState = w.toState := by
  rw [h.settle_nil, Work.finishWarning_steady { w with bus := [] } hs]

theorem State.steady_of_none {s : State} (h : s.pwc.responses = none) : s.steady :=
  fun _ hr => absurd (h.symm.trans hr) (by simp)

theorem Work.Gated.hushed {w v : Work} (h : w.Gated v) (hb : w.bus = []) (hd : w.rdu.drive ≠ .waitingFocus) :
    v.Hushed [] := by
  obtain ⟨gates, hlen, hv⟩ := h.gates
  have hrdu : v.rdu = w.rdu := congrArg (fun x => x.rdu) hv
  refine ⟨hrdu ▸ hd, ⟨gates, ?_, by omega⟩, rfl⟩
  rw [show v.bus = _ from congrArg (fun x => x.bus) hv, hb, List.append_nil]
  rfl

/-- What a step ends with whose operation has changed FU and CP alone, where no release waits. -/
theorem Work.Gated.ends {w v : Work} (h : w.Gated v) (hb : w.bus = []) (hd : w.rdu.drive ≠ .waitingFocus)
    (hs : w.toState.steady) : v.settle.finishWarning.toState = { w.toState with fu := v.fu, cp := v.cp } := by
  have hhush := h.hushed hb hd
  obtain ⟨gates, hlen, hv⟩ := h.gates
  have hstate : v.toState = { w.toState with fu := v.fu, cp := v.cp } := congrArg (fun x => x.toState) hv
  exact (hhush.ends (by rw [hstate]; exact hs)).trans hstate

/-! ### S1 pressed in IDLE (R30, R33) -/

/-- The settings that become active (R30). -/
def Rdu.settings (r : Rdu) : DriveSettings := r.pending.getD r.active

/-- RDU when the drive enters READY. -/
def Rdu.readies (r : Rdu) : Rdu :=
  { r with drive := .ready, timer := false, active := r.settings, pending := none }

theorem Work.enterReady_ready {w : Work} (h : w.rdu.settings.mode ≠ .precapture) :
    w.enterReady = Work.publishDrive { w with rdu := w.rdu.readies } := by
  rw [Work.enterReady]
  exact if_neg h

/-- RDU adopts its settings and stops the frame timer. -/
def Rdu.adopts (r : Rdu) : Rdu := { r with active := r.settings, pending := none, timer := false }

theorem Work.enterReady_precapture {w : Work} (h : w.rdu.settings.mode = .precapture) :
    w.enterReady = Work.enterPrecapturing { w with rdu := w.rdu.adopts } := by
  rw [Work.enterReady]
  exact if_pos h

/-- What RDU publishes with S1 held, from a drive at rest. -/
structure Work.Raised (w v : Work) : Prop where
  gated : ({ w with rdu := { w.rdu with viewOn := w.rdu.wantsView, halfPress := true }
                    sru := { w.sru with viewTimer :=
                      if w.rdu.wantsView = w.rdu.viewOn then w.sru.viewTimer else w.rdu.wantsView && w.sru.running } } :
    Work).Gated v
  fu : v.fu = w.fu.takesPress true

theorem Work.raised {w : Work} (hs : w.rdu.s1.held = true) (hl : w.pwc.latched = false) (hh : w.rdu.halfPress = false) :
    w.Raised w.publishDrive := by
  have hp := w.publishDrive_published
  have hfocus : (w.rdu.wantsFocus && !w.pwc.latched) = true := by rw [Rdu.wantsFocus_held hs, hl]; rfl
  have hview : (w.rdu.wantsView && !w.pwc.latched) = w.rdu.wantsView := by rw [hl, Bool.not_false, Bool.and_true]
  obtain ⟨hg, -, hfu⟩ := hp
  rw [Rdu.publishes, Sru.takesView, hfocus, hview] at hg
  refine ⟨hg, (hfu ?_).trans (by rw [hfocus])⟩
  rw [hfocus, hh]
  decide

/-- A press of S1 in IDLE that leads to READY. -/
theorem exec_s1_ready {s : State} {high : Bool} {l : Line} (hl : s.pwc.latched = false) (hp : s.pwc.responses = none)
    (ht : s.rdu.s1.take (s.rdu.s1.levelOf high) = (l, some .press)) (hh : l.held = true) (hd : s.rdu.drive = .idle)
    (hmode : s.rdu.settings.mode ≠ .precapture) (hview : s.rdu.viewOn = false) (hhalf : s.rdu.halfPress = false)
    (hrun : s.pwc.power = .run) :
    ∃ fu cp, exec (.releaseLineLevel .s1 high) s = .next { s with
        rdu := { ({ s.rdu with s1 := l } : Rdu).readies with viewOn := true, halfPress := true }
        sru := { s.sru with viewTimer := s.sru.running }, fu := fu, cp := cp } ∧ fu.halfPress = true := by
  have hop : Work.lineEvent .s1 high { toState := s, bus := [] } =
      Work.publishDrive { toState := { s with rdu := ({ s.rdu with s1 := l } : Rdu).readies }, bus := [] } :=
    ((Work.lineEvent_s1_press ht hl).1 hrun hd).trans (Work.enterReady_ready hmode)
  have hraised := Work.raised (w := { toState := { s with rdu := ({ s.rdu with s1 := l } : Rdu).readies }, bus := [] }) hh hl hhalf
  revert hop hraised
  generalize Work.publishDrive _ = v
  intro hop hraised
  have hsru : s.sru.running = if true = s.rdu.viewOn then s.sru.viewTimer else true && s.sru.running := by
    rw [hview]
    rfl
  have hg : Work.Gated { toState := { s with
      rdu := { ({ s.rdu with s1 := l } : Rdu).readies with viewOn := true, halfPress := true }
      sru := { s.sru with viewTimer := s.sru.running } }, bus := [] } v := by
    rw [hsru]
    exact hraised.gated
  refine ⟨v.fu, v.cp, (exec_acts (Work.lineEvent .s1 high) rfl hop).trans ?_, ?_⟩
  · rw [hg.ends rfl (fun h => Drive.noConfusion h) (State.steady_of_none hp)]
  · rw [hraised.fu, Fu.takesPress_halfPress]

/-- RDU when a press of S1 starts the ring, before its first attempt. -/
def Rdu.pressesRing (r : Rdu) (l : Line) : Rdu := { r with
  s1 := l, active := r.settings, pending := none, timer := true, burstId := r.nextBurst,
  nextBurst := (r.nextBurst + 1) % 65536, drive := .precapturing, halfPress := true }

section
variable {s : State} {high : Bool} {l : Line} (hl : s.pwc.latched = false) (hp : s.pwc.responses = none)
  (ht : s.rdu.s1.take (s.rdu.s1.levelOf high) = (l, some .press)) (hh : l.held = true) (hd : s.rdu.drive = .idle)
  (hmode : s.rdu.settings.mode = .precapture) (hview : s.rdu.viewOn = false) (hhalf : s.rdu.halfPress = false)
  (hrun : s.pwc.power = .run)
include hl ht hh hd hmode hview hhalf hrun

/-- A press of S1 in IDLE that leads to PRECAPTURING makes an attempt. -/
theorem Work.lineEvent_ring : ∃ v : Work,
    Work.Gated { toState := { s with rdu := s.rdu.pressesRing l }, bus := [] } v ∧ v.fu.halfPress = true ∧
      Work.lineEvent .s1 high { toState := s, bus := [] } = v.attempt := by
  have hop : Work.lineEvent .s1 high { toState := s, bus := [] } = Work.attempt (Work.publishDrive
      { toState := { s with rdu := { s.rdu.pressesRing l with halfPress := s.rdu.halfPress } }, bus := [] }) :=
    ((Work.lineEvent_s1_press ht hl).1 hrun hd).trans (Work.enterReady_precapture hmode)
  have hraised := Work.raised
    (w := { toState := { s with rdu := { s.rdu.pressesRing l with halfPress := s.rdu.halfPress } }, bus := [] }) hh hl hhalf
  revert hop hraised
  generalize Work.publishDrive _ = v
  intro hop hraised
  have hrdu : s.rdu.pressesRing l = { s.rdu.pressesRing l with viewOn := false } := by rw [← hview]; rfl
  have hsru : s.sru = { s.sru with viewTimer :=
      if false = s.rdu.viewOn then s.sru.viewTimer else false && s.sru.running } := by rw [hview]; rfl
  refine ⟨v, ?_, by rw [hraised.fu, Fu.takesPress_halfPress], hop⟩
  rw [hrdu, hsru]
  exact hraised.gated

include hp

theorem exec_s1_ring (hrel : s.rdu.release = none) (hring : s.rdu.ring = []) (hcan : s.canCapture) :
    ∃ t, exec (.releaseLineLevel .s1 high) s = .next t ∧ t.rdu = (s.rdu.pressesRing l).tookRing s.bm.freeIndex ∧
      t.sru = { s.sru with
        readout := some (Readout.requested s.bm.freeIndex .releasePriority), startTimer := true } ∧
      (∃ z, t.bm.row? s.bm.freeIndex = some z ∧ z.precapture = true ∧ z.mark = some .opened ∧ z.burst = s.rdu.nextBurst ∧
        z.raw = some { pages := s.bm.free.take Config.rawPages, length := Config.rawLength }) ∧
      (s.tu.queue = [] → t.bm.free = s.bm.free.drop Config.rawPages) ∧ t.fu.halfPress = true ∧ t.pwc = s.pwc := by
  obtain ⟨v, hg, hfu, hop⟩ := Work.lineEvent_ring hl ht hh hd hmode hview hhalf hrun
  obtain ⟨gates, hlen, hv⟩ := hg.gates
  have hrdu : v.rdu = s.rdu.pressesRing l := congrArg (fun x => x.rdu) hv
  have hsru : v.sru = s.sru := congrArg (fun x => x.sru) hv
  have hbm : v.bm = s.bm := congrArg (fun x => x.bm) hv
  have hpwc : v.pwc = s.pwc := congrArg (fun x => x.pwc) hv
  have htu : v.tu = s.tu := congrArg (fun x => x.tu) hv
  have hbus : v.bus = gates.map Report.focus := congrArg (fun x => x.bus) hv
  have hvcan : v.canCapture := by rw [State.canCapture, hrdu, hsru, hbm, hpwc]; exact hcan
  have hbar : v.rdu.barred = false := by
    rw [hrdu, Rdu.barred, show (s.rdu.pressesRing l).release = none from hrel]
  have hopens := Work.attempt_ring (w := v) hvcan (by rw [hrdu]; exact hview) (by rw [hrdu]; rfl) (by rw [hrdu]; exact .inl rfl) hbar
    (by rw [hrdu]; exact hh) (.inl (by rw [hrdu]; exact hring))
  have hhush : Work.Hushed (v.opens (Row.fresh v.bm.freeIndex .precapture v.rdu.burstId true v.rdu.active.look
      (v.bm.free.take Config.rawPages)) .releasePriority (v.rdu.tookRing v.bm.freeIndex))
      [.reclaim ({ v.bm with free := v.bm.free.drop Config.rawPages } : Bm).reclaimSignal] :=
    ⟨fun h => Drive.noConfusion h, ⟨gates, congrArg (· ++ _) hbus, by omega⟩, rfl⟩
  obtain ⟨hr, hsr, hf, hpw, -, ⟨z, hz, hzf, hzr⟩, hfree⟩ := hhush.opened (Work.opens_row? (Bm.row?_freeIndex hvcan.2.2.2.2.2.1))
    (fun h => Life.noConfusion h) (by show v.pwc.responses = none; rw [hpwc]; exact hp)
  refine ⟨_, exec_acts (Work.lineEvent .s1 high) rfl (hop.trans hopens), ?_, ?_, ⟨z, ?_, ?_⟩, ?_, ?_, ?_⟩
  · rw [hr]
    show v.rdu.tookRing v.bm.freeIndex = _
    rw [hrdu, hbm]
  · rw [hsr]
    show ({ v.sru with readout := some (Readout.requested v.bm.freeIndex .releasePriority), startTimer := true } : Sru) = _
    rw [hsru, hbm]
  · rw [← hbm]
    exact hz
  · refine ⟨congrArg (fun x => x.2.2.1) hzf, congrArg (fun x => x.2.2.2.1) hzf,
      (congrArg (fun x => x.2.2.2.2.2.1) hzf).trans ?_, hzr.trans ?_⟩
    · show v.rdu.burstId = _
      rw [hrdu]
      rfl
    · show some ({ pages := v.bm.free.take Config.rawPages, length := Config.rawLength } : RawChain) = _
      rw [hbm]
  · intro hq
    rw [hfree (by show v.tu.queue = []; rw [htu]; exact hq)]
    show v.bm.free.drop _ = _
    rw [hbm]
  · rw [hf]
    exact hfu
  · rw [hpw]
    exact hpwc

theorem exec_s1_stalls (hrel : s.rdu.release = none) (hring : s.rdu.ring = []) (hcap : s.rdu.capture = none)
    (hfault : s.sru.fault = false) (hrows : s.bm.rows.length < 128) (hfree : s.bm.free.length < 41 + s.bm.reserve) :
    ∃ t, exec (.releaseLineLevel .s1 high) s = .next t ∧
      t.rdu = { s.rdu.pressesRing l with drive := .stalledPrecapturing } ∧
      t.sru = s.sru ∧ t.bm = s.bm ∧ t.fu.halfPress = true ∧ t.pwc = s.pwc := by
  obtain ⟨v, hg, hfu, hop⟩ := Work.lineEvent_ring hl ht hh hd hmode hview hhalf hrun
  obtain ⟨gates, hlen, hv⟩ := hg.gates
  have hrdu : v.rdu = s.rdu.pressesRing l := congrArg (fun x => x.rdu) hv
  have hsru : v.sru = s.sru := congrArg (fun x => x.sru) hv
  have hbm : v.bm = s.bm := congrArg (fun x => x.bm) hv
  have hpwc : v.pwc = s.pwc := congrArg (fun x => x.pwc) hv
  have hbus : v.bus = gates.map Report.focus := congrArg (fun x => x.bus) hv
  have hbar : v.rdu.barred = false := by
    rw [hrdu, Rdu.barred, show (s.rdu.pressesRing l).release = none from hrel]
  have hskip : v.attempt = v.skipAttempt .buffer := by
    rw [Work.attempt_allocates hbar (by rw [hrdu]; exact hcap) (by rw [hsru]; exact hfault),
      Work.allocate_denied (fun _ => by rw [hrdu]; exact hring) (Work.judgeRaw_buffer (by rw [hbm]; exact hrows) (by rw [hbm]; exact hfree))]
  have hstall : v.attempt = { v with
      rdu := { s.rdu.pressesRing l with drive := .stalledPrecapturing }
      cp := v.cp.raise .bufferFull (SkipCause.buffer.byte :: leBytes 2 v.bm.freeCount) } := by
    rw [hskip, Work.skipAttempt_eq (w := v) (by rw [hrdu]; exact hview) (by rw [hrdu]; rfl) (by rw [hpwc]; exact hl)
      (by rw [hrdu]; exact .inr ⟨.inl rfl, hh⟩), hrdu, Rdu.skips_none (r := s.rdu.pressesRing l) hrel]
    rfl
  have hhush : v.attempt.Hushed [] := by
    rw [hstall]
    exact ⟨fun h => Drive.noConfusion h, ⟨gates, hbus.trans (List.append_nil _).symm, by omega⟩, rfl⟩
  refine ⟨v.attempt.toState, (exec_acts (Work.lineEvent .s1 high) rfl hop).trans (congrArg _ (hhush.ends (State.steady_of_none ?_))), ?_⟩
  · rw [hstall]
    exact (congrArg Pwc.responses hpwc).trans hp
  · rw [hstall]
    exact ⟨rfl, hsru, hbm, hfu, hpwc⟩

end

/-! ### A press of S1 that wakes the part (R49, R191) -/

theorem Cp.raise_latch_ne (c : Cp) {k j : Notice} (b : List Byte) (h : j ≠ k) : (c.raise k b).latch j = c.latch j := by
  rw [Cp.raise_latch, Cp.latch_setLatch_ne _ _ h]

section
variable {w : Work} {k : Notice}

theorem Work.putFu_latch (f : Fu) (hk : k ≠ .focusState) : (w.putFu f).cp.latch k = w.cp.latch k := by
  unfold Work.putFu
  dsimp only
  split
  · rfl
  · exact Cp.raise_latch_ne _ _ hk

theorem Work.setHalfPress_latch (up : Bool) (hk : k ≠ .focusState) : (w.setHalfPress up).cp.latch k = w.cp.latch k := by
  unfold Work.setHalfPress
  dsimp only
  split
  · rfl
  · split
    all_goals first | rfl | exact Work.putFu_latch _ hk

/-- What RDU publishes raises no notice but FOCUS_STATE. -/
theorem Work.publishDrive_latch (hk : k ≠ .focusState) : w.publishDrive.cp.latch k = w.cp.latch k := by
  unfold Work.publishDrive
  dsimp only
  split <;> split
  · rfl
  · exact Work.setHalfPress_latch _ hk
  · rfl
  · exact Work.setHalfPress_latch _ hk

theorem Work.sendQuery_eq (w : Work) (bare : Bool) : ∃ fu sent, w.sendQuery bare = { w with fu := fu, sent := sent } := by
  unfold Work.sendQuery
  split
  · exact ⟨_, _, rfl⟩
  · exact ⟨_, _, rfl⟩

theorem Work.focusFromQuiet_eq (w : Work) : ∃ fu sent, w.focusFromQuiet = { w with fu := fu, sent := sent } := by
  unfold Work.focusFromQuiet
  dsimp only
  split
  · exact Work.sendQuery_eq { w with fu := { w.fu with firstQuery := false } } true
  · exact ⟨_, _, rfl⟩

theorem Work.focusFromHalt_eq (w : Work) : ∃ fu sent, w.focusFromHalt = { w with fu := fu, sent := sent } := by
  unfold Work.focusFromHalt
  dsimp only
  split
  · exact Work.sendQuery_eq { w with fu := { w.fu with firstQuery := false } } _
  · exact ⟨_, _, rfl⟩

/-- At the wake TU may only raise TETHER_CHANGE and send HELLO. -/
theorem Work.tetherWake_eq (w : Work) : ∃ tu sent cp, w.tetherWake = { w with tu := tu, sent := sent, cp := cp } ∧
    cp.latch .wake = w.cp.latch .wake ∧ cp.latches.length = w.cp.latches.length := by
  have hlink (v : Work) (l : Link) : ∃ tu cp, v.enterLink l = { v with tu := tu, cp := cp } ∧
      cp.latch .wake = v.cp.latch .wake ∧ cp.latches.length = v.cp.latches.length := by
    unfold Work.enterLink
    split
    · exact ⟨_, _, rfl, rfl, rfl⟩
    · exact ⟨_, _, rfl, Cp.raise_latch_ne _ _ (by decide), by rw [Cp.raise_latches, List.length_set]⟩
  unfold Work.tetherWake
  split
  · obtain ⟨tu, cp, hv, hl, hn⟩ := hlink { w with tu := w.tu.unbind } .unbound
    unfold Work.enterUnbound
    dsimp only
    rw [hv]
    split
    · exact ⟨_, _, _, rfl, hl, hn⟩
    · exact ⟨_, _, _, rfl, hl, hn⟩
  · exact ⟨_, _, _, rfl, rfl, rfl⟩

end

/-- What a wake leaves before RDU looks at S1. -/
theorem Work.wake_eq (w : Work) (c : WakeCause) : ∃ fu tu sent cp,
    w.wake c = (({ w with pwc := { w.pwc with power := .run }, sru := w.sru.run, fu := fu, tu := tu, sent := sent, cp := cp } :
      Work).raise .wake [c.byte]).lookS1 ∧
    cp.latch .wake = w.cp.latch .wake ∧ cp.latches.length = w.cp.latches.length := by
  unfold Work.wake
  dsimp only
  split
  · obtain ⟨fu, sent, hf⟩ := Work.focusFromHalt_eq { w.setPower .run with sru := (w.setPower .run).sru.run }
    rw [hf]
    obtain ⟨tu, sent2, cp, ht, hl, hn⟩ := Work.tetherWake_eq
      { ({ w.setPower .run with sru := (w.setPower .run).sru.run } : Work) with fu := fu, sent := sent }
    rw [ht]
    exact ⟨_, _, _, _, rfl, hl, hn⟩
  · obtain ⟨fu, sent, hf⟩ := Work.focusFromQuiet_eq { w.setPower .run with sru := (w.setPower .run).sru.run }
    rw [hf]
    exact ⟨_, _, _, _, rfl, rfl, rfl⟩

theorem exec_s1_wake {s : State} {high : Bool} {l : Line} (hl : s.pwc.latched = false) (hp : s.pwc.responses = none)
    (ht : s.rdu.s1.take (s.rdu.s1.levelOf high) = (l, some .press)) (hh : l.held = true) (hd : s.rdu.drive = .idle)
    (hmode : s.rdu.settings.mode ≠ .precapture) (hview : s.rdu.viewOn = false) (hhalf : s.rdu.halfPress = false)
    (hpower : s.pwc.power = .quiet ∨ s.pwc.power = .halt) (hlen : s.cp.latches.length = 19) :
    ∃ t, exec (.releaseLineLevel .s1 high) s = .next t ∧
      t.rdu = { ({ s.rdu with s1 := l } : Rdu).readies with viewOn := true, halfPress := true } ∧
      t.sru = { s.sru with running := true, viewTimer := true } ∧ t.pwc = { s.pwc with power := .run } ∧
      t.cp.latch .wake = { count := min 255 ((s.cp.latch .wake).count + 1), snapshot := some [0] } := by
  obtain ⟨fu, tu, sent, cp, hwake, hlatch, hn⟩ := Work.wake_eq { toState := { s with rdu := { s.rdu with s1 := l } }, bus := [] } .s1
  -- the work that RDU looks at S1 in
  obtain ⟨v, hv⟩ : ∃ v : Work, v = { toState := { s with
      rdu := ({ s.rdu with s1 := l } : Rdu).readies, pwc := { s.pwc with power := .run }, sru := s.sru.run, fu := fu
      tu := tu, sent := sent, cp := cp.raise .wake [0] }, bus := [] } := ⟨_, rfl⟩
  have hop : Work.lineEvent .s1 high { toState := s, bus := [] } = v.publishDrive := by
    rw [(Work.lineEvent_s1_press ht hl).2 hpower, hwake, Work.lookS1]
    refine (if_pos ⟨hh, hd, hl⟩).trans ((Work.enterReady_ready hmode).trans ?_)
    rw [hv]
    rfl
  have hraised : v.Raised v.publishDrive := Work.raised (by rw [hv]; exact hh) (by rw [hv]; exact hl) (by rw [hv]; exact hhalf)
  have hends := hraised.gated.ends (by rw [hv]) (by rw [hv]; exact fun h => Drive.noConfusion h)
    (State.steady_of_none (by rw [hv]; exact hp))
  refine ⟨_, (exec_acts (Work.lineEvent .s1 high) rfl hop).trans (congrArg _ hends), ?_, ?_, ?_, ?_⟩
  · rw [hv]
    rfl
  · rw [hv]
    show ({ s.sru.run with viewTimer := if true = s.rdu.viewOn then s.sru.viewTimer else true && true } : Sru) = _
    rw [hview]
    rfl
  · rw [hv]
  · refine (Work.publishDrive_latch (by decide)).trans ?_
    rw [hv]
    show (cp.raise .wake [0]).latch .wake = _
    rw [Cp.raise_latch, Cp.latch_setLatch_same _ _ _ (hn.trans hlen), hlatch]
    rfl

end Sys2Proof.Machine
end

section
/-! PROOF. The release lines: presses of S2 and releases of both lines, but for the ring (R30, R33 to R36, R40). -/

namespace Sys2Proof.Machine

/-! ### The drive at rest with S1 up (R30, R32) -/

/-- RDU when the drive enters IDLE and publishes. -/
def Rdu.idles (r : Rdu) : Rdu := { r with
  drive := .idle, timer := false, active := r.settings, pending := none, viewOn := false, halfPress := false }

/-- What FU's state is when the half-press signal falls (R83). -/
def FocusState.lowered (f : FocusState) : FocusState :=
  if f ∈ [FocusState.seeking, .locked, .noTarget, .tracking, .lost] then .idle else f

theorem Fu.takesPress_lowered {f : Fu} (h : f.halfPress = true) : (f.takesPress false).state = f.state.lowered := by
  unfold Fu.takesPress
  dsimp only
  rw [h, if_neg (by decide)]
  cases hs : f.state <;> simp [FocusState.lowered, hs]

/-- The drive has entered IDLE from a work with no reason for the half-press signal. -/
structure Work.Rested (w v : Work) : Prop where
  gated : ({ w with
    rdu := w.rdu.idles
    sru := { w.sru with viewTimer := if w.rdu.viewOn then false else w.sru.viewTimer } } : Work).Gated v
  halfPress : v.fu.halfPress = false
  state : v.fu.state = w.fu.state.lowered

theorem Work.rested {w : Work} (hs : w.rdu.s1.held = false) (hw : w.rdu.waiter = none) (hr : w.rdu.release = none)
    (hh : w.rdu.halfPress = true) (hf : w.fu.halfPress = true) : w.Rested w.enterIdle := by
  have hp := Work.publishDrive_published { w with rdu := { w.rdu.idles with viewOn := w.rdu.viewOn, halfPress := w.rdu.halfPress } }
  have hfocus : ({ w.rdu.idles with viewOn := w.rdu.viewOn, halfPress := w.rdu.halfPress } : Rdu).wantsFocus = false := by
    show (w.rdu.s1.held || (w.rdu.waiter.any _ || w.rdu.release.any _) || false) = false
    rw [hs, hw, hr]
    rfl
  obtain ⟨hg, -, hfu⟩ := hp
  have hfu2 := hfu (by
    show _ ≠ w.rdu.halfPress
    rw [hfocus, hh]
    exact Bool.false_ne_true)
  rw [Rdu.publishes, Sru.takesView, hfocus] at hg
  rw [hfocus, Bool.false_and] at hfu2
  refine ⟨?_, ?_, ?_⟩
  · have hsru : (if w.rdu.viewOn then false else w.sru.viewTimer) =
        if false = w.rdu.viewOn then w.sru.viewTimer else false && w.sru.running := by
      cases w.rdu.viewOn <;> rfl
    rw [hsru]
    exact hg
  · exact (congrArg Fu.halfPress hfu2).trans (Fu.takesPress_halfPress _ _)
  · exact (congrArg Fu.state hfu2).trans (Fu.takesPress_lowered hf)

/-- A step that ends at rest. -/
theorem Work.Rested.ends {w v : Work} (h : w.Rested v) (hb : w.bus = []) (hp : w.toState.steady) :
    v.settle.finishWarning.toState = { w.toState with
      rdu := w.rdu.idles
      sru := { w.sru with viewTimer := if w.rdu.viewOn then false else w.sru.viewTimer }, fu := v.fu, cp := v.cp } :=
  h.gated.ends hb (fun h => Drive.noConfusion h) (State.steady_congr (s := w.toState) rfl rfl hp)

/-- A line event after which the drive rests with S1 up. -/
theorem exec_rests {line : LineId} {high : Bool} {s : State} {r : Rdu} {c : Cp} (hs : s.steady)
    (h : Work.lineEvent line high { toState := s, bus := [] } =
      Work.enterIdle { toState := { s with rdu := r, cp := c }, bus := [] })
    (h1 : r.s1.held = false) (hw : r.waiter = none) (hr : r.release = none) (hh : r.halfPress = true)
    (hf : s.fu.halfPress = true) :
    ∃ fu cp, exec (.releaseLineLevel line high) s = .next { s with
        rdu := r.idles, sru := { s.sru with viewTimer := if r.viewOn then false else s.sru.viewTimer }, fu := fu, cp := cp } ∧
      fu.halfPress = false ∧ fu.state = s.fu.state.lowered := by
  have hrest := Work.rested (w := { toState := { s with rdu := r, cp := c }, bus := [] }) h1 hw hr hh hf
  exact ⟨_, _, (exec_acts (Work.lineEvent line high) rfl h).trans (congrArg _ (hrest.ends rfl (State.steady_congr rfl rfl hs))),
    hrest.halfPress, hrest.state⟩

/-! ### S2 pressed (R34, R36) -/

/-- A press of S2 that the drive does not take. -/
theorem Work.s2Pressed_spent {w : Work} (h : w.rdu.drive ∈ [Drive.idle, .waitingFocus, .firing, .stalledFiring]) :
    w.s2Pressed = w := by
  simp only [List.mem_cons, List.not_mem_nil, or_false] at h
  unfold Work.s2Pressed
  rcases h with h | h | h | h <;> rw [h]

/-- A press of S2 in READY whose gate is open. -/
theorem Work.s2Pressed_opens {w : Work} {g : GateOutcome} (h : w.rdu.drive = .ready)
    (hg : (w.rdu.active.priority = .release ∧ g = .releasePriority) ∨
      (w.rdu.active.priority = .focus ∧ w.fu.gate = some g)) : w.s2Pressed = w.openBurst .release g := by
  unfold Work.s2Pressed
  rw [h]
  dsimp only
  unfold Work.startRelease
  rcases hg with ⟨hp, rfl⟩ | ⟨hp, hg⟩
  · rw [hp]
  · rw [hp, hg]

/-- A press of S2 in READY that waits for the gate. -/
theorem Work.s2Pressed_waits {w : Work} (h : w.rdu.drive = .ready) (hp : w.rdu.active.priority = .focus)
    (hg : w.fu.gate = none) (hl : w.pwc.latched = false) (hv : w.rdu.viewOn = true) (hh : w.rdu.halfPress = true)
    (hs : w.rdu.s1.held = true) : w.s2Pressed = { w with
      rdu := { w.rdu with drive := .waitingFocus, focusWait := true, waiter := some .release } } := by
  unfold Work.s2Pressed
  rw [h]
  dsimp only
  unfold Work.startRelease
  rw [hp, hg]
  dsimp only
  refine Work.setDrive_same ?_ ?_
  · show (true && !w.pwc.latched) = w.rdu.viewOn
    rw [hl, hv]
    rfl
  · exact Rdu.half_held hs hl hh

/-- A press of S2 in READY that opens its burst. -/
theorem exec_s2_opens {s : State} {high : Bool} {l : Line} {g : GateOutcome} (hl : s.pwc.latched = false)
    (hp : s.pwc.responses = none) (hrun : s.pwc.power = .run)
    (ht : s.rdu.s2.take (s.rdu.s2.levelOf high) = (l, some .press)) (hd : s.rdu.drive = .ready)
    (hh : s.rdu.halfPress = true) (hcan : s.canCapture)
    (hg : (s.rdu.active.priority = .release ∧ g = .releasePriority) ∨
      (s.rdu.active.priority = .focus ∧ s.fu.gate = some g)) :
    ∃ t, exec (.releaseLineLevel .s2 high) s = .next t ∧
      t.rdu = ({ s.rdu with s2 := l } : Rdu).firstCapture .release g s.bm.freeIndex ∧
      t.sru = { Work.burstSru { toState := s, bus := [] } with
        readout := some (Readout.requested s.bm.freeIndex g), startTimer := true } ∧
      (t.bm.row? s.bm.freeIndex).bind Row.raw =
        some { pages := s.bm.free.take Config.rawPages, length := Config.rawLength } ∧
      (s.tu.queue = [] → t.bm.free = s.bm.free.drop Config.rawPages) ∧ t.fu = s.fu ∧ t.pwc = s.pwc := by
  obtain ⟨u, hu, hopens⟩ := Work.openBurst_opens (w := { toState := { s with rdu := { s.rdu with s2 := l } }, bus := [] })
    .release g hcan (fun h => Bool.noConfusion h)
  obtain ⟨up, hhush⟩ := Work.openBurst_hushed hu (gates := []) rfl (Nat.zero_le _)
  have hop : Work.lineEvent .s2 high { toState := s, bus := [] } = _ :=
    ((Work.lineEvent_s2_press ht hl).trans ((if_pos hrun).trans (Work.s2Pressed_opens hd hg))).trans hopens
  obtain ⟨hfu, -, -⟩ := hu.same hh
  obtain ⟨gates, -, hv⟩ := hu.gated
  have hsru : u.sru = _ := congrArg (fun x => x.sru) hv
  have hbm : u.bm = s.bm := congrArg (fun x => x.bm) hv
  have htu : u.tu = s.tu := congrArg (fun x => x.tu) hv
  have hpwc : u.pwc = s.pwc := hu.pwc
  obtain ⟨hr, hsr, hf, hpw, -, ⟨z, hz, -, hzr⟩, hfree⟩ := hhush.opened (hu.burstRow_row? hcan.2.2.2.2.2.1)
    (fun h => Life.noConfusion h) ((congrArg Pwc.responses hpwc).trans hp)
  refine ⟨_, exec_acts (Work.lineEvent .s2 high) rfl hop, hr, hsr.trans ?_, ?_, fun hq => (hfree ?_).trans ?_,
    hf.trans hfu, hpw.trans hpwc⟩
  · show ({ u.sru with readout := some (Readout.requested s.bm.freeIndex g), startTimer := true } : Sru) = _
    rw [hsru]
    rfl
  · exact (congrArg (Option.bind · Row.raw) hz).trans hzr
  · exact (congrArg Tu.queue htu).trans hq
  · exact congrArg (fun b => b.free.drop Config.rawPages) hbm

/-! ### S2 released (R34, R36, R40) -/

theorem Work.enterRest_held {w : Work} (hs : w.rdu.s1.held = true) (hm : w.rdu.settings.mode ≠ .precapture) :
    w.enterRest = Work.publishDrive { w with rdu := w.rdu.readies } :=
  (if_pos hs).trans (Work.enterReady_ready hm)

theorem Work.enterRest_up {w : Work} (hs : w.rdu.s1.held = false) : w.enterRest = w.enterIdle :=
  if_neg (by rw [hs]; exact Bool.false_ne_true)

/-- The drive returns to READY with the half-press signal up. -/
theorem Work.enterRest_ready {w : Work} (hs : w.rdu.s1.held = true) (hm : w.rdu.settings.mode ≠ .precapture)
    (hl : w.pwc.latched = false) (hh : w.rdu.halfPress = true) : w.enterRest = { w with
      rdu := { w.rdu.readies with viewOn := true }
      sru := { w.sru with viewTimer := if w.rdu.viewOn then w.sru.viewTimer else w.sru.running } } := by
  have hp := w.publishDrive_rdu (r := w.rdu.readies) (view := true)
    (by show (true && !w.pwc.latched) = true; rw [hl]; rfl) (Rdu.half_held hs hl hh)
  have hsru : (if w.rdu.viewOn then w.sru.viewTimer else w.sru.running) =
      if true = w.rdu.viewOn then w.sru.viewTimer else true && w.sru.running := by
    cases w.rdu.viewOn <;> rfl
  rw [Work.enterRest_held hs hm, hsru]
  exact hp

theorem Work.enterRest_viewOn {w : Work} (hs : w.rdu.s1.held = true) (hm : w.rdu.settings.mode ≠ .precapture)
    (hl : w.pwc.latched = false) (hh : w.rdu.halfPress = true) (hv : w.rdu.viewOn = true) :
    w.enterRest = { w with rdu := { w.rdu.readies with viewOn := true } } := by
  rw [Work.enterRest_ready hs hm hl hh, if_pos hv]

theorem Work.enterRest_viewOff {w : Work} (hs : w.rdu.s1.held = true) (hm : w.rdu.settings.mode ≠ .precapture)
    (hl : w.pwc.latched = false) (hh : w.rdu.halfPress = true) (hv : w.rdu.viewOn = false) : w.enterRest = { w with
      rdu := { w.rdu.readies with viewOn := true }, sru := { w.sru with viewTimer := w.sru.running } } := by
  rw [Work.enterRest_ready hs hm hl hh, if_neg (by rw [hv]; exact Bool.false_ne_true)]

theorem Work.s2Released_wait {w : Work} (hd : w.rdu.drive = .waitingFocus) (hw : w.rdu.waiter = some .release) :
    w.s2Released = Work.enterRest { w with rdu := w.rdu.endWait } := by
  unfold Work.s2Released
  rw [hd]
  exact if_pos hw

section
variable {w : Work} {x : Release} (hd : w.rdu.drive = .firing ∨ w.rdu.drive = .stalledFiring) (hx : w.rdu.release = some x)
  (ho : x.origin = .release)
include hd hx ho

theorem Work.s2Released_single (h : x.single = true ∧ x.granted = true) : w.s2Released = w := by
  unfold Work.s2Released
  rcases hd with hd | hd <;> rw [hd, hx] <;> exact if_neg fun hn => hn.2 h

theorem Work.s2Released_meets (h : ¬ (x.single = true ∧ x.granted = true)) : w.s2Released = w.meetEnd .s2Up := by
  unfold Work.s2Released
  rcases hd with hd | hd <;> rw [hd, hx] <;> exact if_pos ⟨ho, h⟩

end

section
variable {w : Work} {x : Release} {c : EndCause} (hx : w.rdu.release = some x)
include hx

theorem Work.meetEnd_flight (h : w.rdu.capture.any Capture.ofBurst = true) : w.meetEnd c = { w with
    rdu := { w.rdu with release := some { x with ending := some (x.ending.getD c) } } } := by
  unfold Work.meetEnd
  rw [hx]
  exact if_pos h

/-- RDU when the record of its burst has closed. -/
def Rdu.closed (r : Rdu) (b : BurstRecord) (c : EndCause) : Rdu := { r with
  record := some { b with cause := c }, timer := false, release := none, remoteCount := 0 }

theorem Work.meetEnd_closes {b : BurstRecord} (h : w.rdu.capture.any Capture.ofBurst = false) (he : x.ending = none)
    (hb : w.rdu.record = some b) : w.meetEnd c = Work.enterRest { w with
      rdu := w.rdu.closed b c
      cp := w.cp.raise .burstEnd ({ b with cause := c } : BurstRecord).bytes } := by
  have hclose (v : Work) (hv : v.rdu.record = some b) : v.closeRecord c = { v with
      rdu := v.rdu.closed b c
      cp := v.cp.raise .burstEnd ({ b with cause := c } : BurstRecord).bytes } := by
    unfold Work.closeRecord Work.withRdu
    dsimp only
    rw [hv]
    rfl
  unfold Work.meetEnd
  rw [hx]
  dsimp only
  rw [he]
  exact (if_neg (by rw [show (Work.withRdu _ w).rdu.capture = w.rdu.capture from rfl, h]; exact Bool.false_ne_true)).trans
    (congrArg Work.enterRest (hclose (w.withRdu fun r => { r with release := some { x with ending := some c } }) hb))

end

end Sys2Proof.Machine
end

section
/-! PROOF. The ring is dropped (R14, R43): what its rows give back, and the reports of it that find DE and TU with nothing to
do. -/

namespace Sys2Proof.Machine

/-! ### Reports that find nothing to do -/

/-- Reports that change nothing but the reclaim signal when DE and TU have nothing to do and no release waits. -/
def Report.isIdle : Report → Bool
  | .deLook | .reclaim _ | .focus _ => true
  | _ => false

theorem Work.drain_idle : ∀ (k : Nat) (w : Work), w.toState.backIdle → w.rdu.drive ≠ .waitingFocus →
    w.bus.all Report.isIdle = true →
    ∃ up rest, Work.drain k w = { w with tu := { w.tu with reclaim := up }, bus := rest }
  | 0, w, _, _, _ => ⟨w.tu.reclaim, w.bus, rfl⟩
  | k + 1, w, hb, hd, hall => by
    obtain ⟨s, bus⟩ := w
    match bus, hall with
    | [], _ => exact ⟨s.tu.reclaim, [], rfl⟩
    | .deLook :: rest, hall =>
      obtain ⟨up, r, h⟩ := Work.drain_idle k { toState := s, bus := rest } hb hd hall
      refine ⟨up, r, ?_⟩
      rw [Work.drain]
      dsimp only
      rw [Work.handle_deLook { toState := s, bus := rest } hb.2, h]
    | .reclaim u :: rest, hall =>
      obtain ⟨up, r, h⟩ := Work.drain_idle k { toState := { s with tu := { s.tu with reclaim := u } }, bus := rest } hb hd hall
      refine ⟨up, r, ?_⟩
      rw [Work.drain]
      dsimp only
      rw [Work.handle_reclaim_empty { toState := s, bus := rest } u hb.1, h]
    | .focus g :: rest, hall =>
      obtain ⟨up, r, h⟩ := Work.drain_idle k { toState := s, bus := rest } hb hd hall
      refine ⟨up, r, ?_⟩
      rw [Work.drain]
      dsimp only
      rw [Work.handle_focus { toState := s, bus := rest } g hd, h]

/-- A step whose reports find nothing to do. -/
theorem Work.ends_idle {w : Work} (hb : w.toState.backIdle) (hd : w.rdu.drive ≠ .waitingFocus)
    (hall : w.bus.all Report.isIdle = true) (hs : w.toState.steady) :
    ∃ up, w.settle.finishWarning.toState = { w.toState with tu := { w.tu with reclaim := up } } := by
  obtain ⟨up, rest, h⟩ := Work.drain_idle 4096 w hb hd hall
  refine ⟨up, ?_⟩
  rw [Work.settle, h, Work.finishWarning_steady]
  exact State.steady_congr (s := w.toState) rfl rfl hs

/-! ### The rows of the ring (R14) -/

/-- An open row of the ring that has been marked. -/
def Row.marked (m : RingMark) (r : Row) : Row :=
  if r.life = .exposing ∧ r.mark = some .opened then { r with mark := some m } else r

/-- The rows that a drop of the ring leaves. -/
def droppedRows (l : List Row) : List Row :=
  (l.filter fun r => decide (r.life ≠ .pre)).map (Row.marked .dropped)

/-- The pages of the rows that a drop of the ring removes. -/
def droppedPages (l : List Row) : List Nat :=
  ((l.filter fun r => decide (r.life = .pre)).map fun r => r.pagesOf .raw).flatten

/-- What a drop of the ring does to one row. -/
def Work.dropRow (v : Work) (r : Row) : Work :=
  if r.life = .pre then v.evictRow r.index
  else if r.life = .exposing ∧ r.mark = some .opened then
    v.mapRow r.index fun x => { x with mark := some .dropped }
  else v

theorem Work.dropRing_eq (w : Work) : w.dropRing = w.bm.rows.foldl Work.dropRow w := rfl

/-- The table's rows are replaced, pages come back to the pool, and the reports of it find nothing to do. -/
structure Work.Drops (v w : Work) (rows : List Row) (pages : List Nat) : Prop where
  eq : w = { v with bm := { v.bm with rows := rows, free := w.bm.free }, bus := w.bus }
  free : w.bm.free.Perm (v.bm.free ++ pages)
  idle : v.bus.all Report.isIdle = true → w.bus.all Report.isIdle = true

theorem Work.Drops.trans {u v w : Work} {rows rows2 : List Row} {pages pages2 : List Nat} (h : u.Drops v rows pages)
    (g : v.Drops w rows2 pages2) : u.Drops w rows2 (pages ++ pages2) where
  eq := g.eq.trans (congrArg (fun x : Work =>
    { x with bm := { x.bm with rows := rows2, free := w.bm.free }, bus := w.bus }) h.eq)
  free := by
    rw [← List.append_assoc]
    exact g.free.trans (h.free.append_right _)
  idle hb := g.idle (h.idle hb)

section
variable {v : Work} {r : Row} {before after : List Row} (hrows : v.bm.rows = before ++ r :: after)
  (hn : (v.bm.rows.map Row.index).Nodup)
include hrows hn

theorem Bm.index_ne : (∀ x ∈ before, x.index ≠ r.index) ∧ ∀ x ∈ after, x.index ≠ r.index := by
  rw [hrows, List.map_append, List.map_cons] at hn
  obtain ⟨-, hafter, hdis⟩ := List.nodup_append.1 hn
  obtain ⟨hr, -⟩ := List.nodup_cons.1 hafter
  exact ⟨fun x hx he => hdis _ (List.mem_map_of_mem hx) _ (.head _) he,
    fun x hx he => hr (he ▸ List.mem_map_of_mem hx)⟩

theorem Bm.remove_at : v.bm.remove r.index = { v.bm with rows := before ++ after } := by
  obtain ⟨hb, ha⟩ := Bm.index_ne hrows hn
  have hkeep (l : List Row) (h : ∀ x ∈ l, x.index ≠ r.index) : l.filter (fun x => !(x.index == r.index)) = l :=
    List.filter_eq_self.2 fun x hx => by simp [h x hx]
  rw [Bm.remove, hrows, List.filter_append, List.filter_cons_of_neg (by simp), hkeep _ hb, hkeep _ ha]

theorem Bm.mapRow_at (f : Row → Row) : v.bm.mapRow r.index f = { v.bm with rows := before ++ f r :: after } := by
  obtain ⟨hb, ha⟩ := Bm.index_ne hrows hn
  have hkeep (l : List Row) (h : ∀ x ∈ l, x.index ≠ r.index) :
      l.map (fun x => if x.index = r.index then f x else x) = l :=
    (List.map_congr_left fun x hx => if_neg (h x hx)).trans (List.map_id _)
  rw [Bm.mapRow, hrows, List.map_append, List.map_cons, if_pos rfl, hkeep _ hb, hkeep _ ha]

theorem Work.dropRow_pre (hl : r.life = .pre) : v.Drops (v.dropRow r) (before ++ after) (r.pagesOf .raw) := by
  have hr : v.bm.row? r.index = some r := Bm.row?_of_mem hn (hrows ▸ List.mem_append_right _ (.head _))
  rw [Work.dropRow, if_pos hl]
  cases hc : r.raw with
  | some c =>
    rw [Work.evictRow_pre hr hl hc, Bm.remove_at hrows hn, Row.pagesOf, hc]
    exact ⟨rfl, (returned_perm _ _).trans List.perm_append_comm, fun h => by
      show (v.bus ++ [Report.deLook] ++ [Report.reclaim _]).all _ = true
      rw [List.all_append, List.all_append, h]
      rfl⟩
  | none =>
    have hrel : v.releaseRaw r.index = v := by rw [Work.releaseRaw, hr, Option.bind_some, hc]
    have hevict : v.evictRow r.index = { v with bm := { v.bm with rows := before ++ after } } := by
      rw [← Bm.remove_at hrows hn, Work.evictRow, hr]
      exact (if_pos hl).trans (congrArg (Work.removeRow r.index) hrel)
    rw [hevict, Row.pagesOf, hc]
    exact ⟨rfl, .of_eq (List.append_nil _).symm, id⟩

theorem Work.dropRow_kept (hl : r.life ≠ .pre) : v.Drops (v.dropRow r) (before ++ r.marked .dropped :: after) [] := by
  rw [Work.dropRow, if_neg hl, Row.marked]
  split
  · exact ⟨congrArg (fun b => ({ v with bm := b } : Work)) (Bm.mapRow_at hrows hn fun x => { x with mark := some .dropped }),
      .of_eq (List.append_nil _).symm, id⟩
  · rw [← hrows]
    exact ⟨rfl, .of_eq (List.append_nil _).symm, id⟩

end

theorem Row.marked_index (m : RingMark) (r : Row) : (r.marked m).index = r.index := by
  unfold Row.marked
  split <;> rfl

theorem Work.dropRows : ∀ (l : List Row) {before : List Row} {v : Work}, v.bm.rows = before ++ l →
    (v.bm.rows.map Row.index).Nodup → v.Drops (l.foldl Work.dropRow v) (before ++ droppedRows l) (droppedPages l)
  | [], before, v, hrows, _ => by
    refine ⟨?_, .of_eq (List.append_nil _).symm, id⟩
    rw [show before ++ droppedRows [] = v.bm.rows from hrows.symm]
    rfl
  | r :: l, before, v, hrows, hn => by
    rw [List.foldl_cons]
    by_cases hl : r.life = .pre
    · have h := Work.dropRow_pre hrows hn hl
      have hnow : (v.dropRow r).bm.rows = before ++ l := congrArg (fun x => x.bm.rows) h.eq
      have g := Work.dropRows l hnow (by
        rw [hnow, List.map_append]
        rw [hrows, List.map_append, List.map_cons] at hn
        exact hn.sublist ((List.Sublist.refl _).append (List.sublist_cons_self _ _)))
      have hdr : droppedRows (r :: l) = droppedRows l := by
        rw [droppedRows, List.filter_cons_of_neg (by simp [hl]), ← droppedRows]
      have hdp : droppedPages (r :: l) = r.pagesOf .raw ++ droppedPages l := by
        rw [droppedPages, List.filter_cons_of_pos (by simp [hl]), List.map_cons, List.flatten_cons, ← droppedPages]
      rw [hdr, hdp]
      exact h.trans g
    · have h := Work.dropRow_kept hrows hn hl
      have hnow : (v.dropRow r).bm.rows = (before ++ [r.marked .dropped]) ++ l := by
        rw [List.append_assoc]
        exact congrArg (fun x => x.bm.rows) h.eq
      have g := Work.dropRows l hnow (by
        rw [hnow]
        rw [hrows] at hn
        simpa only [List.map_append, List.map_cons, List.map_nil, Row.marked_index, List.append_assoc, List.cons_append,
          List.nil_append] using hn)
      have hdr : droppedRows (r :: l) = r.marked .dropped :: droppedRows l := by
        rw [droppedRows, List.filter_cons_of_pos (by simp [hl]), List.map_cons, ← droppedRows]
      have hdp : droppedPages (r :: l) = droppedPages l := by
        rw [droppedPages, List.filter_cons_of_neg (by simp [hl]), ← droppedPages]
      rw [hdr, hdp]
      rw [List.append_assoc] at g
      exact h.trans g

/-! ### S1 released while the ring runs (R33, R43) -/

theorem Work.s1Released_ready {w : Work} (hd : w.rdu.drive = .ready) : w.s1Released = w.enterIdle := by
  rw [Work.s1Released, hd]

theorem Work.s1Released_wait {w : Work} (hd : w.rdu.drive = .waitingFocus) (hw : w.rdu.waiter = some .release) :
    w.s1Released = Work.enterIdle { w with rdu := w.rdu.endWait } := by
  rw [Work.s1Released, hd]
  exact if_pos hw

theorem Work.s1Released_ring {w : Work} (hd : w.rdu.drive = .precapturing ∨ w.rdu.drive = .stalledPrecapturing) :
    w.s1Released = w.dropTheRing.enterIdle := by
  rcases hd with hd | hd <;> rw [Work.s1Released, hd]

/-- A release of S1 that drops the ring. -/
theorem exec_s1_drops {s : State} {high : Bool} {l : Line} (hs : s.steady) (hl : s.pwc.latched = false)
    (ht : s.rdu.s1.take (s.rdu.s1.levelOf high) = (l, some .release)) (hup : l.held = false)
    (hd : s.rdu.drive = .precapturing ∨ s.rdu.drive = .stalledPrecapturing) (hw : s.rdu.waiter = none)
    (hr : s.rdu.release = none) (hh : s.rdu.halfPress = true) (hf : s.fu.halfPress = true) (hb : s.backIdle)
    (hn : (s.bm.rows.map Row.index).Nodup) :
    ∃ t, exec (.releaseLineLevel .s1 high) s = .next t ∧
      t.rdu = ({ s.rdu with s1 := l, ring := [], openRow := none } : Rdu).idles ∧
      t.sru = { s.sru with viewTimer := if s.rdu.viewOn then false else s.sru.viewTimer } ∧ t.fu.halfPress = false ∧
      t.fu.state = s.fu.state.lowered ∧ t.pwc = s.pwc ∧ t.bm.rows = droppedRows s.bm.rows ∧
      t.bm.free.Perm (s.bm.free ++ droppedPages s.bm.rows) ∧ t.mem = s.mem ∧ t.cw = s.cw := by
  have hdrop := Work.dropRows s.bm.rows (before := []) (v := { toState := { s with rdu := { s.rdu with s1 := l } }, bus := [] })
    rfl hn
  have hop : Work.lineEvent .s1 high { toState := s, bus := [] } = Work.enterIdle (Work.dropTheRing
      { toState := { s with rdu := { s.rdu with s1 := l } }, bus := [] }) :=
    (Work.lineEvent_s1_release ht hl).trans (Work.s1Released_ring hd)
  revert hop
  rw [Work.dropTheRing, Work.dropRing_eq]
  revert hdrop
  show Work.Drops _ (s.bm.rows.foldl Work.dropRow _) _ _ → _ = Work.enterIdle (Work.withRdu _ (s.bm.rows.foldl Work.dropRow _)) → _
  generalize s.bm.rows.foldl Work.dropRow _ = d
  rintro ⟨heq, hfree, hidle⟩ hop
  obtain ⟨u, hu⟩ : ∃ u : Work, u = d.withRdu fun r => { r with ring := [], openRow := none } := ⟨_, rfl⟩
  have hurdu : u.rdu = { s.rdu with s1 := l, ring := [], openRow := none } := by rw [hu, heq]; rfl
  have husru : u.sru = s.sru := by rw [hu, heq]; rfl
  have hufu : u.fu = s.fu := by rw [hu, heq]; rfl
  have hupwc : u.pwc = s.pwc := by rw [hu, heq]; rfl
  have hucw : u.cw = s.cw := by rw [hu, heq]; rfl
  have hude : u.de = s.de := by rw [hu, heq]; rfl
  have hutu : u.tu = s.tu := by rw [hu, heq]; rfl
  have humem : u.mem = s.mem := by rw [hu, heq]; rfl
  have hubm : u.bm.rows = droppedRows s.bm.rows := by rw [hu, heq]; rfl
  have hufree : u.bm.free = d.bm.free := by rw [hu]; rfl
  have hubus : u.bus.all Report.isIdle = true := by rw [hu]; exact hidle rfl
  rw [← hu] at hop
  obtain ⟨hg, hhalf, hstate⟩ := Work.rested (w := u) (by rw [hurdu]; exact hup) (by rw [hurdu]; exact hw) (by rw [hurdu]; exact hr)
    (by rw [hurdu]; exact hh) (by rw [hufu]; exact hf)
  obtain ⟨gates, hlen, hv⟩ := hg.gates
  have hback : u.enterIdle.backIdle := by rw [hv]; exact (by rw [State.backIdle, hutu, hude]; exact hb : u.backIdle)
  have hall : u.enterIdle.bus.all Report.isIdle = true := by
    rw [hv]
    show (u.bus ++ gates.map Report.focus).all _ = true
    rw [List.all_append, hubus, List.all_map]
    exact List.all_eq_true.2 fun _ _ => rfl
  obtain ⟨up, hend⟩ := Work.ends_idle hback (by rw [hv]; exact fun h => Drive.noConfusion h) hall
    (State.steady_congr (s := s) (by rw [hv]; exact hupwc) (by rw [hv]; exact hucw) hs)
  refine ⟨_, (exec_acts (Work.lineEvent .s1 high) rfl hop).trans (congrArg _ hend), ?_, ?_, hhalf, ?_, ?_, ?_, ?_, ?_, ?_⟩
  · show u.enterIdle.rdu = _
    rw [hv, ← hurdu]
  · show u.enterIdle.sru = _
    rw [hv, ← husru, show s.rdu.viewOn = u.rdu.viewOn by rw [hurdu]]
  · show u.enterIdle.fu.state = _
    rw [hstate, hufu]
  · show u.enterIdle.pwc = _
    rw [hv]
    exact hupwc
  · show u.enterIdle.bm.rows = _
    rw [hv]
    exact hubm
  · show u.enterIdle.bm.free.Perm _
    rw [hv]
    show u.bm.free.Perm _
    rw [hufree]
    exact hfree
  · show u.enterIdle.mem = _
    rw [hv]
    exact humem
  · show u.enterIdle.cw = _
    rw [hv]
    exact hucw

end Sys2Proof.Machine
end

section
/-! PROOF. The ring is promoted (R12, R14, R42): the rows of the table in order, with the numbers that the held ones take. -/

namespace Sys2Proof.Machine

/-! ### A row's place, number and mark -/

/-- The index, the number and the mark of a row. -/
abbrev RowTag := Nat × Option Nat × Option RingMark

def Row.tag (r : Row) : RowTag := (r.index, r.number, r.mark)

def Bm.tags (b : Bm) : List RowTag := b.rows.map Row.tag

theorem Bm.tags_of_fixed {b c : Bm} (h : c.rows.map Row.fixed = b.rows.map Row.fixed) : c.tags = b.tags := by
  have hmap (d : Bm) : d.tags = (d.rows.map Row.fixed).map fun x => (x.1, x.2.1, x.2.2.2.1) := by
    rw [List.map_map]
    rfl
  rw [hmap, hmap, h]

theorem Bm.tags_index (b : Bm) : b.tags.map Prod.fst = b.rows.map Row.index := by
  rw [Bm.tags, List.map_map]
  rfl

theorem Bm.tags_number (b : Bm) : b.tags.filterMap (fun x => x.2.1) = b.rows.filterMap Row.number := by
  rw [Bm.tags, List.filterMap_map]
  rfl

/-- A change of one row, seen by its tags. -/
theorem Bm.tags_mapRow (b : Bm) (i : Nat) {f : Row → Row} {g : RowTag → RowTag} (hf : ∀ r, (f r).tag = g r.tag) :
    (b.mapRow i f).tags = b.tags.map fun x => if x.1 = i then g x else x := by
  rw [Bm.tags, Bm.mapRow, Bm.tags, List.map_map, List.map_map]
  refine List.map_congr_left fun r _ => ?_
  simp only [Function.comp_apply]
  by_cases h : r.index = i
  · rw [if_pos h, if_pos (show r.tag.1 = i from h), hf]
  · rw [if_neg h, if_neg (show ¬ r.tag.1 = i from h)]

/-! ### A row enters HELD (R10, R12) -/

/-- The tag of a row that enters HELD with a number. -/
def RowTag.held (n : Nat) (x : RowTag) : RowTag := (x.1, some n, none)

section
variable (w : Work) (i : Nat)

/-- The work in which a row has just entered HELD, without its duties. -/
def Work.entersHeld : Work :=
  ((w.numberRow i).mapRow i fun r => { r with life := .held, mark := none }).raise .shotHeld (leBytes 3 w.bm.pickNumber)

theorem Work.hold_front : (w.hold i).toState.front = ((w.entersHeld i).mapRow i fun r =>
    { r with policy := some (w.entersHeld i).cw.policy }).toState.front := Work.createDuties_front i _ _

theorem Work.hold_apart : (w.entersHeld i).Apart (w.hold i) := (Work.Apart.refl _).createDuties i _

theorem Work.entersHeld_tags : (w.entersHeld i).bm.tags =
    w.bm.tags.map fun x => if x.1 = i then RowTag.held w.bm.pickNumber x else x := by
  show ((w.bm.mapRow i fun r => { r with number := some w.bm.pickNumber }).mapRow i fun r =>
    { r with life := .held, mark := none }).tags = _
  rw [Bm.tags_mapRow (g := fun x => (x.1, x.2.1, none)) _ _ fun _ => rfl,
    Bm.tags_mapRow (g := fun x => (x.1, some w.bm.pickNumber, x.2.2)) _ _ fun _ => rfl, List.map_map]
  refine List.map_congr_left fun x _ => ?_
  simp only [Function.comp_apply]
  by_cases h : x.1 = i
  · rw [if_pos h, if_pos h, if_pos h]
    rfl
  · rw [if_neg h, if_neg h, if_neg h]

/-- What entry to HELD leaves of the table's order, of RDU, SRU and FU, of the reports and of the power. -/
theorem Work.hold_tags : (w.hold i).bm.tags =
    w.bm.tags.map fun x => if x.1 = i then RowTag.held w.bm.pickNumber x else x := by
  have h := Bm.tags_of_fixed (congrArg (fun x => x.2.2.2.1) (w.hold_front i))
  rw [h, ← w.entersHeld_tags i]
  refine (Bm.tags_mapRow _ _ (f := fun r => { r with policy := some (w.entersHeld i).cw.policy }) (g := id)
    fun _ => rfl).trans ?_
  simp only [id, ite_self, List.map_id']

theorem Work.hold_nextNumber : (w.hold i).bm.nextNumber = numberAfter w.bm.pickNumber :=
  congrArg (fun x => x.2.2.2.2.1) (w.hold_front i)

theorem Work.hold_rdu : (w.hold i).rdu = w.rdu := congrArg (fun x => x.1) (w.hold_front i)
theorem Work.hold_sru : (w.hold i).sru = w.sru := congrArg (fun x => x.2.1) (w.hold_front i)
theorem Work.hold_fu : (w.hold i).fu = w.fu := congrArg (fun x => x.2.2.1) (w.hold_front i)
theorem Work.hold_pwc : (w.hold i).pwc = w.pwc := congrArg (fun x => x.2.1) (Work.hold_outer i w)
theorem Work.hold_calm : (w.hold i).calm = w.calm := Work.createDuties_calm i _ _

end

/-- With every number below the next one, that is the one a row takes. -/
theorem Bm.pickNumber_next {b : Bm} (h : ∀ n ∈ b.rows.filterMap Row.number, n < b.nextNumber) :
    b.pickNumber = b.nextNumber := by
  have hnone : b.numbered? b.nextNumber = none := by
    rw [Bm.numbered?, List.find?_eq_none]
    intro r hr hn
    have := h _ (List.mem_filterMap.2 ⟨r, hr, of_decide_eq_true hn⟩)
    omega
  rw [Bm.pickNumber, Bm.freeNumber, hnone]
  rfl

theorem Work.entersHeld_row? (w : Work) (i j : Nat) : (w.entersHeld i).bm.row? j = (w.bm.row? j).map fun r =>
    if j = i then { r with number := some w.bm.pickNumber, life := .held, mark := none } else r := by
  show ((w.bm.mapRow i fun r => { r with number := some w.bm.pickNumber }).mapRow i fun r =>
    { r with life := .held, mark := none }).row? j = _
  rw [Bm.row?_mapRow _ _ _ (f := fun r => { r with life := .held, mark := none }) fun _ => rfl,
    Bm.row?_mapRow _ _ _ (f := fun r => { r with number := some w.bm.pickNumber }) fun _ => rfl, Option.map_map]
  refine congrArg (Option.map · _) (funext fun r => ?_)
  simp only [Function.comp_apply]
  split <;> rfl

/-- A PRE row after another row has entered HELD was PRE before, and is another row. -/
theorem Work.hold_pre {w : Work} {i j : Nat} {z : Row} (hz : (w.hold i).bm.row? j = some z) (hl : z.life = .pre) :
    j ≠ i ∧ ∃ r, w.bm.row? j = some r ∧ r.life = .pre := by
  obtain ⟨r, hr, hrz⟩ := (w.hold_apart i).of_row hz
  have hrl : r.life = .pre := by
    by_cases h : r.life = .held
    · rcases hrz.held h with g | g <;> rw [hl] at g <;> cases g
    · exact (hrz.apart h).1.symm.trans hl
  rw [Work.entersHeld_row?] at hr
  obtain ⟨y, hy, rfl⟩ := Option.map_eq_some_iff.1 hr
  by_cases h : j = i
  · rw [if_pos h] at hrl
    cases hrl
  · rw [if_neg h] at hrl
    exact ⟨h, y, hy, hrl⟩

/-! ### The rows of the ring, one after the other (R14) -/

def Row.isPre (r : Row) : Bool := decide (r.life = .pre)

theorem Row.isPre_iff {r : Row} : r.isPre = true ↔ r.life = .pre := decide_eq_true_iff

/-- What a promotion does to one row. -/
def Work.holdRow (v : Work) (r : Row) : Work := if r.life = .pre then v.hold r.index else v

/-- The tags of rows when those that are PRE take the numbers from `n` on. -/
def promotedTags : Nat → List Row → List RowTag
  | _, [] => []
  | n, r :: l =>
    if r.isPre then RowTag.held n (r.marked .promoted).tag :: promotedTags (n + 1) l
    else (r.marked .promoted).tag :: promotedTags n l

/-- The work before the rows of a list are promoted. -/
structure Work.Promotes (v : Work) (before : List RowTag) (l : List Row) : Prop where
  tags : v.bm.tags = before ++ l.map fun r => (r.marked .promoted).tag
  distinct : (v.bm.rows.map Row.index).Nodup
  numbers : ∀ n ∈ v.bm.rows.filterMap Row.number, n < v.bm.nextNumber
  room : v.bm.nextNumber + (l.filter Row.isPre).length ≤ Config.maxShot
  pre : ∀ j z, v.bm.row? j = some z → z.life = .pre → ∃ r ∈ l, r.life = .pre ∧ r.index = j

/-- What the promotion of the rows of a list leaves. -/
structure Work.Promoted (v t : Work) (before : List RowTag) (l : List Row) : Prop where
  tags : t.bm.tags = before ++ promotedTags v.bm.nextNumber l
  nextNumber : t.bm.nextNumber = v.bm.nextNumber + (l.filter Row.isPre).length
  rdu : t.rdu = v.rdu
  sru : t.sru = v.sru
  fu : t.fu = v.fu
  pwc : t.pwc = v.pwc
  calm : t.calm = v.calm
  none : ∀ j z, t.bm.row? j = some z → z.life ≠ .pre
  exposing : ∀ j r, v.bm.row? j = some r → r.life = .exposing → (∀ x ∈ l, x.life = .pre → x.index ≠ j) → ∃ z, t.bm.row? j = some z ∧ z.life = .exposing

theorem Work.Promotes.hold {v : Work} {before : List RowTag} {r : Row} {l : List Row} (h : v.Promotes before (r :: l))
    (hr : r.life = .pre) :
    (v.hold r.index).Promotes (before ++ [RowTag.held v.bm.nextNumber (r.marked .promoted).tag]) l ∧
      (v.hold r.index).bm.nextNumber = v.bm.nextNumber + 1 := by
  obtain ⟨htags, hdistinct, hnumbers, hroom, hpre⟩ := h
  have hpick : v.bm.pickNumber = v.bm.nextNumber := Bm.pickNumber_next hnumbers
  have hroom2 : v.bm.nextNumber + 1 + (l.filter Row.isPre).length ≤ Config.maxShot := by
    rw [List.filter_cons_of_pos (Row.isPre_iff.2 hr), List.length_cons] at hroom
    omega
  have hnext : (v.hold r.index).bm.nextNumber = v.bm.nextNumber + 1 := by
    rw [Work.hold_nextNumber, hpick, numberAfter, if_neg (by omega)]
  have hidx : (v.bm.tags.map Prod.fst).Nodup := by rw [Bm.tags_index]; exact hdistinct
  have hmapfst : (v.hold r.index).bm.tags.map Prod.fst = v.bm.tags.map Prod.fst := by
    rw [Work.hold_tags, List.map_map]
    refine List.map_congr_left fun x _ => ?_
    simp only [Function.comp_apply]
    split <;> rfl
  have htags2 : (v.hold r.index).bm.tags = (before ++ [RowTag.held v.bm.nextNumber (r.marked .promoted).tag]) ++
      l.map fun r => (r.marked .promoted).tag := by
    rw [htags, List.map_append, List.map_cons, List.map_cons] at hidx
    obtain ⟨-, hafter, hdis⟩ := List.nodup_append.1 hidx
    obtain ⟨hnot, -⟩ := List.nodup_cons.1 hafter
    have hkeep (m : List RowTag) (hm : ∀ x ∈ m, x.1 ≠ r.index) :
        m.map (fun x => if x.1 = r.index then RowTag.held v.bm.nextNumber x else x) = m :=
      (List.map_congr_left fun x hx => if_neg (hm x hx)).trans (List.map_id _)
    have hrtag : (r.marked .promoted).tag.1 = r.index := Row.marked_index _ _
    rw [Work.hold_tags, hpick, htags, List.map_append, List.map_cons, List.map_cons, if_pos hrtag,
      hkeep before fun x hx he => hdis _ (List.mem_map_of_mem hx) _ (.head _) (he.trans hrtag.symm),
      hkeep _ fun x hx he => hnot (by rw [hrtag, ← he]; exact List.mem_map_of_mem hx), List.append_assoc]
    rfl
  refine ⟨⟨htags2, ?_, ?_, by rw [hnext]; exact hroom2, ?_⟩, hnext⟩
  · rw [← Bm.tags_index, hmapfst]
    exact hidx
  · intro n hn
    rw [hnext]
    rw [← Bm.tags_number, Work.hold_tags, hpick] at hn
    obtain ⟨x, hx, hxn⟩ := List.mem_filterMap.1 hn
    obtain ⟨y, hy, rfl⟩ := List.mem_map.1 hx
    split at hxn
    · cases hxn
      omega
    · have := hnumbers n (by rw [← Bm.tags_number]; exact List.mem_filterMap.2 ⟨y, hy, hxn⟩)
      omega
  · intro j z hz hzl
    obtain ⟨hji, y, hy, hyl⟩ := Work.hold_pre hz hzl
    obtain ⟨x, hx, hxl, hxi⟩ := hpre j y hy hyl
    rcases List.mem_cons.1 hx with rfl | hx
    · exact absurd hxi.symm hji
    · exact ⟨x, hx, hxl, hxi⟩

theorem Work.Promotes.skip {v : Work} {before : List RowTag} {r : Row} {l : List Row} (h : v.Promotes before (r :: l))
    (hr : r.life ≠ .pre) : v.Promotes (before ++ [(r.marked .promoted).tag]) l := by
  obtain ⟨htags, hdistinct, hnumbers, hroom, hpre⟩ := h
  refine ⟨by rw [htags, List.append_assoc]; rfl, hdistinct, hnumbers, ?_, fun j z hz hzl => ?_⟩
  · rwa [List.filter_cons_of_neg (mt Row.isPre_iff.1 hr)] at hroom
  · obtain ⟨x, hx, hxl, hxi⟩ := hpre j z hz hzl
    rcases List.mem_cons.1 hx with rfl | hx
    · exact absurd hxl hr
    · exact ⟨x, hx, hxl, hxi⟩

theorem Work.Promotes.all : ∀ (l : List Row) {before : List RowTag} {v : Work}, v.Promotes before l →
    v.Promoted (l.foldl Work.holdRow v) before l
  | [], before, v, h => ⟨h.tags, rfl, rfl, rfl, rfl, rfl, rfl,
      fun j z hz hl => (by obtain ⟨_, hx, -⟩ := h.pre j z hz hl; cases hx), fun _ r hr hl _ => ⟨r, hr, hl⟩⟩
  | r :: l, before, v, h => by
    rw [List.foldl_cons, Work.holdRow]
    by_cases hr : r.life = .pre
    · obtain ⟨h2, hnext⟩ := h.hold hr
      obtain ⟨htags, hnn, hrdu, hsru, hfu, hpwc, hcalm, hnone, hexp⟩ := Work.Promotes.all l h2
      rw [if_pos hr]
      refine ⟨?_, ?_, hrdu.trans (v.hold_rdu _), hsru.trans (v.hold_sru _), hfu.trans (v.hold_fu _), hpwc.trans (v.hold_pwc _),
        hcalm.trans (v.hold_calm _), hnone, fun j x hx hl hj => ?_⟩
      · rw [htags, hnext, List.append_assoc, promotedTags, if_pos (Row.isPre_iff.2 hr)]
        rfl
      · rw [hnn, hnext, List.filter_cons_of_pos (Row.isPre_iff.2 hr), List.length_cons]
        omega
      · obtain ⟨y, hy, hyl, -⟩ := Work.hold_other (hj r (.head _) hr).symm hx (by rw [hl]; decide)
        exact hexp j y hy (hyl.trans hl) fun x hx => hj x (.tail _ hx)
    · obtain ⟨htags, hnn, hrdu, hsru, hfu, hpwc, hcalm, hnone, hexp⟩ := Work.Promotes.all l (h.skip hr)
      rw [if_neg hr]
      refine ⟨?_, ?_, hrdu, hsru, hfu, hpwc, hcalm, hnone,
        fun j x hx hl hj => hexp j x hx hl fun y hy => hj y (.tail _ hy)⟩
      · rw [htags, List.append_assoc, promotedTags, if_neg (mt Row.isPre_iff.1 hr)]
        rfl
      · rw [hnn, List.filter_cons_of_neg (mt Row.isPre_iff.1 hr)]

/-! ### The tags of a promoted table -/

theorem promotedTags_index : ∀ (n : Nat) (l : List Row), (promotedTags n l).map Prod.fst = l.map Row.index
  | _, [] => rfl
  | n, r :: l => by
    have hr : (r.marked .promoted).tag.1 = r.index := Row.marked_index _ _
    rw [promotedTags]
    split
    · rw [List.map_cons, List.map_cons, promotedTags_index (n + 1) l, ← hr]
      rfl
    · rw [List.map_cons, List.map_cons, promotedTags_index n l, hr]

/-- The rows of the ring carry the numbers from the next one on, in their order. -/
theorem promotedTags_numbers (ring : List Nat) : ∀ (n : Nat) (l : List Row), (∀ r ∈ l, ring.contains r.index = r.isPre) →
    ((promotedTags n l).filter fun x => ring.contains x.1).map (fun x => x.2.1) =
      (List.range (l.filter Row.isPre).length).map fun k => some (n + k)
  | _, [], _ => rfl
  | n, r :: l, h => by
    have hr : (r.marked .promoted).tag.1 = r.index := Row.marked_index _ _
    have hc := h r (.head _)
    have hl := fun x hx => h x (.tail _ hx)
    rw [promotedTags]
    cases hp : r.isPre with
    | true =>
      have hhead : ring.contains (RowTag.held n (r.marked .promoted).tag).1 = true := by
        rw [show (RowTag.held n (r.marked .promoted).tag).1 = r.index from hr, hc, hp]
      rw [if_pos rfl, List.filter_cons_of_pos (p := fun x : RowTag => ring.contains x.1) hhead, List.filter_cons_of_pos hp, List.map_cons, List.length_cons,
        promotedTags_numbers ring (n + 1) l hl, List.range_succ_eq_map, List.map_cons, List.map_map]
      refine congrArg₂ List.cons rfl (List.map_congr_left fun k _ => ?_)
      simp only [Function.comp_apply]
      congr 1
      omega
    | false =>
      rw [if_neg Bool.false_ne_true, List.filter_cons_of_neg (p := fun x : RowTag => ring.contains x.1) (by
        rw [hr, hc, hp]; exact Bool.false_ne_true),
        List.filter_cons_of_neg (by rw [hp]; exact Bool.false_ne_true), promotedTags_numbers ring n l hl]

/-- The first row of the ring takes the next number. -/
theorem promotedTags_first {i : Nat} {rest : List Nat} : ∀ (n : Nat) (l : List Row), (l.map Row.index).Nodup →
    (l.filter Row.isPre).map Row.index = i :: rest →
    ((promotedTags n l).find? fun x => decide (x.1 = i)).map (fun x => x.2.1) = some (some n)
  | _, [], _, h => nomatch h
  | n, r :: l, hn, h => by
    have hr : (r.marked .promoted).tag.1 = r.index := Row.marked_index _ _
    obtain ⟨hnot, hl⟩ := List.nodup_cons.1 hn
    rw [promotedTags]
    cases hp : r.isPre with
    | true =>
      rw [List.filter_cons_of_pos hp, List.map_cons] at h
      have hi : r.index = i := (List.cons.inj h).1
      rw [if_pos rfl, List.find?_cons_of_pos (p := fun x : RowTag => decide (x.1 = i))
        (a := RowTag.held n (r.marked .promoted).tag) (decide_eq_true (hr.trans hi))]
      rfl
    | false =>
      rw [List.filter_cons_of_neg (by rw [hp]; exact Bool.false_ne_true)] at h
      have hi : r.index ≠ i := fun he => hnot (by
        rw [he]
        exact (List.filter_sublist.map _).subset (h ▸ List.mem_cons_self))
      rw [if_neg Bool.false_ne_true, List.find?_cons_of_neg (p := fun x : RowTag => decide (x.1 = i)) (by
        rw [hr]; exact mt of_decide_eq_true hi)]
      exact promotedTags_first n l hl h

theorem mem_promotedTags {r : Row} (hr : r.life ≠ .pre) : ∀ (n : Nat) (l : List Row), r ∈ l →
    (r.marked .promoted).tag ∈ promotedTags n l
  | n, x :: l, h => by
    rw [promotedTags]
    rcases List.mem_cons.1 h with rfl | h
    · rw [if_neg (mt Row.isPre_iff.1 hr)]
      exact .head _
    · split
      · exact .tail _ (mem_promotedTags hr (n + 1) l h)
      · exact .tail _ (mem_promotedTags hr n l h)

theorem Bm.row?_tag (b : Bm) (i : Nat) : (b.row? i).map Row.tag = b.tags.find? fun x => decide (x.1 = i) := by
  rw [Bm.tags, List.find?_map]
  rfl

/-! ### The promotion (R14, R42) -/

/-- What a promotion does to the mark of one row. -/
def Work.promoteRow (v : Work) (r : Row) : Work :=
  if r.life = .exposing ∧ r.mark = some .opened then v.mapRow r.index fun x => { x with mark := some .promoted } else v

theorem Work.promoteRing_eq (w : Work) : w.promoteRing = w.bm.rows.foldl Work.holdRow (w.bm.rows.foldl Work.promoteRow w) := rfl

theorem Work.promoteRows : ∀ (l : List Row) {before : List Row} {v : Work}, v.bm.rows = before ++ l →
    (v.bm.rows.map Row.index).Nodup →
    l.foldl Work.promoteRow v = { v with bm := { v.bm with rows := before ++ l.map (Row.marked .promoted) } }
  | [], before, v, hrows, _ => by
    rw [show before ++ [].map (Row.marked .promoted) = v.bm.rows from hrows.symm]
    rfl
  | r :: l, before, v, hrows, hn => by
    have hone : v.promoteRow r = { v with bm := { v.bm with rows := (before ++ [r.marked .promoted]) ++ l } } := by
      rw [List.append_assoc, Work.promoteRow]
      split
      · next h =>
        rw [Row.marked, if_pos h]
        exact congrArg (fun b => ({ v with bm := b } : Work)) (Bm.mapRow_at hrows hn fun x => { x with mark := some .promoted })
      · next h =>
        rw [Row.marked, if_neg h]
        show v = { v with bm := { v.bm with rows := before ++ r :: l } }
        rw [← hrows]
    rw [List.foldl_cons, hone, Work.promoteRows l (before := before ++ [r.marked .promoted]) rfl (by
      rw [hrows] at hn
      simpa only [List.map_append, List.map_cons, List.map_nil, Row.marked_index, List.append_assoc, List.cons_append,
        List.nil_append] using hn)]
    exact congrArg (fun rows => ({ v with bm := { v.bm with rows := rows } } : Work)) (List.append_assoc _ _ _)

theorem Row.marked_life (m : RingMark) (r : Row) : (r.marked m).life = r.life := by
  unfold Row.marked
  split <;> rfl

theorem Row.marked_number (m : RingMark) (r : Row) : (r.marked m).number = r.number := by
  unfold Row.marked
  split <;> rfl

/-- The table before its ring is promoted. -/
theorem Work.promotes {w : Work} (hn : (w.bm.rows.map Row.index).Nodup)
    (hnumbers : ∀ n ∈ w.bm.rows.filterMap Row.number, n < w.bm.nextNumber)
    (hroom : w.bm.nextNumber + (w.bm.rows.filter Row.isPre).length ≤ Config.maxShot) :
    Work.Promotes { w with bm := { w.bm with rows := w.bm.rows.map (Row.marked .promoted) } } [] w.bm.rows where
  tags := List.map_map
  distinct := by
    show ((w.bm.rows.map (Row.marked .promoted)).map Row.index).Nodup
    rw [List.map_map, show Row.index ∘ Row.marked .promoted = Row.index from funext (Row.marked_index _)]
    exact hn
  numbers := by
    show ∀ n ∈ (w.bm.rows.map (Row.marked .promoted)).filterMap Row.number, n < w.bm.nextNumber
    rw [List.filterMap_map, show Row.number ∘ Row.marked .promoted = Row.number from funext (Row.marked_number _)]
    exact hnumbers
  room := hroom
  pre := fun j z hz hl => by
    obtain ⟨hmem, hi⟩ := Bm.row?_some hz
    obtain ⟨r, hr, rfl⟩ := List.mem_map.1 hmem
    exact ⟨r, hr, (Row.marked_life _ _).symm.trans hl, (Row.marked_index _ _).symm.trans hi⟩

theorem Work.promoteRing_promoted {w : Work} (hn : (w.bm.rows.map Row.index).Nodup)
    (hnumbers : ∀ n ∈ w.bm.rows.filterMap Row.number, n < w.bm.nextNumber)
    (hroom : w.bm.nextNumber + (w.bm.rows.filter Row.isPre).length ≤ Config.maxShot) :
    Work.Promoted { w with bm := { w.bm with rows := w.bm.rows.map (Row.marked .promoted) } } w.promoteRing [] w.bm.rows := by
  rw [Work.promoteRing_eq, Work.promoteRows w.bm.rows (before := []) rfl hn]
  exact (Work.promotes hn hnumbers hroom).all w.bm.rows

/-! ### S2 pressed while the ring runs (R42) -/

/-- RDU when the ring has become a burst. -/
def Rdu.promotes (r : Rdu) (first : Nat) : Rdu := { r with
  drive := .firing
  record := some { id := r.burstId, firstShot := first, captured := r.ring.length + (if r.openRow.isSome then 1 else 0),
                   skipBusy := 0, skipBuffer := 0, skipTable := 0, cause := .opened }
  ring := [], openRow := none
  capture := r.capture.map fun c => if r.openRow = some c.row then { c with ofBurst := true } else c
  counter := 0, phaseFire := true
  release := some { single := false, origin := .release, gate := .releasePriority, granted := false, ending := none } }

theorem Work.promoteTheRing_eq {w p : Work} (hp : w.promoteRing = p) (hrdu : p.rdu = w.rdu) (hpwc : p.pwc = w.pwc)
    (hl : w.pwc.latched = false) (hv : w.rdu.viewOn = false) (hh : w.rdu.halfPress = true) :
    w.promoteTheRing = { p with rdu := w.rdu.promotes ((w.rdu.ring.head?.map fun i => p.shotOf i).getD 0) } := by
  rw [Work.promoteTheRing, hp]
  have hset := Work.setDrive_same (w := { p with
    rdu := { w.rdu.promotes ((w.rdu.ring.head?.map fun i => p.shotOf i).getD 0) with drive := w.rdu.drive } }) (d := .firing)
    (by show (false && !p.pwc.latched) = w.rdu.viewOn; rw [hv]; rfl)
    (by
      show ((_ || _ || true) && !p.pwc.latched) = w.rdu.halfPress
      rw [Bool.or_true, hpwc, hl, hh]
      rfl)
  rw [← show p.rdu = w.rdu from hrdu] at hset ⊢
  exact hset

theorem Work.s2Pressed_ring {w : Work} (hd : w.rdu.drive = .precapturing ∨ w.rdu.drive = .stalledPrecapturing) :
    w.s2Pressed = w.promoteTheRing := by
  rcases hd with hd | hd <;> rw [Work.s2Pressed, hd]

/-- What a press of S2 leaves of a ring. -/
theorem exec_s2_promotes {s : State} {high : Bool} {l : Line} (hl : s.pwc.latched = false) (hp : s.pwc.responses = none)
    (hrun : s.pwc.power = .run) (ht : s.rdu.s2.take (s.rdu.s2.levelOf high) = (l, some .press))
    (hd : s.rdu.drive = .precapturing ∨ s.rdu.drive = .stalledPrecapturing) (hv : s.rdu.viewOn = false)
    (hh : s.rdu.halfPress = true) (hn : (s.bm.rows.map Row.index).Nodup)
    (hring : s.rdu.ring = (s.bm.rows.filter Row.isPre).map Row.index)
    (hnumbers : ∀ n ∈ s.bm.rows.filterMap Row.number, n < s.bm.nextNumber)
    (hroom : s.bm.nextNumber + s.rdu.ring.length ≤ Config.maxShot) :
    ∃ t, exec (.releaseLineLevel .s2 high) s = .next t ∧
      t.rdu = ({ s.rdu with s2 := l } : Rdu).promotes (if s.rdu.ring = [] then 0 else s.bm.nextNumber) ∧
      t.bm.tags = promotedTags s.bm.nextNumber s.bm.rows ∧ (∀ r ∈ t.bm.rows, r.life ≠ .pre) ∧
      t.bm.nextNumber = s.bm.nextNumber + s.rdu.ring.length ∧
      (∀ r ∈ s.bm.rows, r.life = .exposing → ∃ z ∈ t.bm.rows, z.index = r.index ∧ z.life = .exposing) ∧ t.pwc = s.pwc := by
  have hlen : s.rdu.ring.length = (s.bm.rows.filter Row.isPre).length := by rw [hring, List.length_map]
  have hprom := Work.promoteRing_promoted (w := { toState := { s with rdu := { s.rdu with s2 := l } }, bus := [] }) hn hnumbers
    (hlen ▸ hroom)
  obtain ⟨p, hpe⟩ : ∃ p, Work.promoteRing { toState := { s with rdu := { s.rdu with s2 := l } }, bus := [] } = p := ⟨_, rfl⟩
  rw [hpe] at hprom
  obtain ⟨htags, hnext, hrdu, -, -, hpwc, hcalm, hnone, hexp⟩ := hprom
  have hop : Work.lineEvent .s2 high { toState := s, bus := [] } = { p with
      rdu := ({ s.rdu with s2 := l } : Rdu).promotes ((s.rdu.ring.head?.map fun i => p.shotOf i).getD 0) } :=
    ((Work.lineEvent_s2_press ht hl).trans ((if_pos hrun).trans (Work.s2Pressed_ring hd))).trans
      (Work.promoteTheRing_eq hpe hrdu hpwc hl hv hh)
  have hfirst : (s.rdu.ring.head?.map fun i => p.shotOf i).getD 0 = if s.rdu.ring = [] then 0 else s.bm.nextNumber := by
    cases hr : s.rdu.ring with
    | nil => rfl
    | cons i rest =>
      have h := promotedTags_first s.bm.nextNumber s.bm.rows hn (hring.symm.trans hr)
      rw [show promotedTags s.bm.nextNumber s.bm.rows = p.bm.tags from htags.symm, ← Bm.row?_tag] at h
      obtain ⟨z, hz, hzn⟩ := Option.map_eq_some_iff.1 (by rwa [Option.map_map] at h)
      show p.shotOf i = _
      rw [Work.shotOf, hz]
      exact congrArg (Option.getD · 0) hzn
  rw [hfirst] at hop
  -- the work before its reports are taken
  revert hop
  generalize ({ s.rdu with s2 := l } : Rdu).promotes (if s.rdu.ring = [] then 0 else s.bm.nextNumber) = r
  obtain ⟨v, hve⟩ : ∃ v : Work, v = { p with rdu := r } := ⟨_, rfl⟩
  rw [← hve]
  intro hop
  have hvcalm : v.calm = true := by rw [hve]; exact hcalm
  have hvrdu : v.rdu = r := by rw [hve]
  have hvpwc : v.pwc = s.pwc := by rw [hve]; exact hpwc
  have hvbm : v.bm = p.bm := by rw [hve]
  obtain ⟨hstill, -⟩ := Work.settle_still hvcalm
  have htags2 : v.settle.bm.tags = promotedTags s.bm.nextNumber s.bm.rows :=
    (Bm.tags_of_fixed hstill.fixed).trans (hvbm ▸ htags)
  have hnext2 : v.settle.bm.nextNumber = s.bm.nextNumber + (s.bm.rows.filter Row.isPre).length :=
    (congrArg (fun x => x.2.2.2.2.1) hstill.front).trans ((congrArg Bm.nextNumber hvbm).trans hnext)
  have hidx : v.settle.bm.rows.map Row.index = s.bm.rows.map Row.index := by
    rw [← Bm.tags_index, htags2]
    exact promotedTags_index _ _
  have hend : v.settle.finishWarning = v.settle :=
    Work.finishWarning_none (by rw [hstill.pwc, hvpwc]; exact hp)
  refine ⟨v.settle.toState, (exec_acts (Work.lineEvent .s2 high) rfl hop).trans (congrArg (fun w : Work => Host.Outcome.next w.toState) hend),
    hstill.rdu.trans hvrdu, htags2, fun z hz hzl => ?_, by rw [hnext2, hlen], fun y hy hyl => ?_, hstill.pwc.trans hvpwc⟩
  · obtain ⟨y, hy, hyz⟩ := hstill.apart.of_row (Bm.row?_of_mem (by rw [hidx]; exact hn) hz)
    rw [hvbm] at hy
    by_cases h : y.life = .held
    · rcases hyz.held h with g | g <;> rw [hzl] at g <;> cases g
    · exact hnone _ y hy ((hyz.apart h).1.symm.trans hzl)
  · obtain ⟨z, hz, hzl⟩ := hexp y.index (y.marked .promoted) (by
      show (s.bm.rows.map (Row.marked .promoted)).find? _ = _
      rw [List.find?_map]
      have hfind : s.bm.rows.find? ((fun r => decide (r.index = y.index)) ∘ Row.marked .promoted) = some y := by
        rw [show ((fun r : Row => decide (r.index = y.index)) ∘ Row.marked .promoted) = fun r => decide (r.index = y.index) from
          funext fun r => congrArg (fun i => decide (i = y.index)) (Row.marked_index _ r)]
        exact Bm.row?_of_mem hn hy
      rw [hfind]
      rfl) ((Row.marked_life _ _).trans hyl) fun x hx hxl he => by
        have hxy : x = y := List.inj_on_of_nodup_map hn hx hy he
        rw [hxy, hyl] at hxl
        cases hxl
    obtain ⟨t, htr, htl, -⟩ := hstill.apart.row (hvbm ▸ hz) (by rw [hzl]; decide)
    exact ⟨t, (Bm.row?_some htr).1, (Bm.row?_some htr).2, htl.trans hzl⟩

end Sys2Proof.Machine
end

section
/-! PROOF. The release lines: O27, from what presses and releases come to. -/

namespace Sys2Proof.Machine

/-- The gate of FU's values, case by case (R35). -/
theorem Fu.gate_eq (f : Fu) : f.gate =
    (if f.state = .noLens ∨ f.state = .fault ∨ f.active.mode = .manual then some .noLens
      else if (f.active.mode = .single ∧ f.state = .locked) ∨
        (f.active.mode = .continuous ∧ f.published.any Estimate.inFocus = true) then some .focused
      else none) := by
  have hpub : (f.published.map Estimate.inFocus).getD false = f.published.any Estimate.inFocus := by
    cases f.published <;> rfl
  split
  · next h => exact Fu.gate_noLens h
  · next h =>
    simp only [not_or] at h
    obtain ⟨h1, h2, h3⟩ := h
    cases hm : f.active.mode with
    | manual => exact absurd hm h3
    | single => cases hs : f.state <;> simp_all [Fu.gate]
    | continuous => cases hs : f.state <;> simp_all [Fu.gate]

section
variable {s : State} {high : Bool} {l : Line} (hs : s.steady) (hl : s.pwc.latched = false)
  (ht : s.rdu.s2.take (s.rdu.s2.levelOf high) = (l, some .release))
include hs hl ht

/-- A release of S2 that ends a wait with S1 held. -/
theorem exec_s2_unwaits (hd : s.rdu.drive = .waitingFocus) (hw : s.rdu.waiter = some .release)
    (hheld : s.rdu.s1.held = true) (hv : s.rdu.viewOn = true) (hh : s.rdu.halfPress = true)
    (hm : s.rdu.settings.mode ≠ .precapture) : exec (.releaseLineLevel .s2 high) s = .next { s with
      rdu := { ({ s.rdu with s2 := l } : Rdu).endWait.readies with viewOn := true } } := by
  refine exec_line hs ?_
  have hrest := Work.enterRest_viewOn (w := { toState := { s with rdu := ({ s.rdu with s2 := l } : Rdu).endWait }, bus := [] })
    hheld hm hl hh hv
  exact ((Work.lineEvent_s2_release ht hl).trans (Work.s2Released_wait hd hw)).trans hrest

variable {x : Release} (hd : s.rdu.drive = .firing ∨ s.rdu.drive = .stalledFiring) (hx : s.rdu.release = some x)
  (ho : x.origin = .release)
include hd hx ho

theorem exec_s2_single (h : x.single = true ∧ x.granted = true) :
    exec (.releaseLineLevel .s2 high) s = .next { s with rdu := { s.rdu with s2 := l } } :=
  exec_line hs ((Work.lineEvent_s2_release ht hl).trans (Work.s2Released_single hd hx ho h))

variable (hn : ¬ (x.single = true ∧ x.granted = true))
include hn

theorem exec_s2_flight (h : s.rdu.capture.any Capture.ofBurst = true) :
    exec (.releaseLineLevel .s2 high) s = .next { s with rdu := { s.rdu with
      s2 := l, release := some { x with ending := some (x.ending.getD .s2Up) } } } :=
  exec_line hs (((Work.lineEvent_s2_release ht hl).trans (Work.s2Released_meets hd hx ho hn)).trans
    (Work.meetEnd_flight hx h))

variable {b : BurstRecord} (h : s.rdu.capture.any Capture.ofBurst = false) (he : x.ending = none)
  (hb : s.rdu.record = some b)
include h he hb

theorem Work.lineEvent_s2_closes : Work.lineEvent .s2 high { toState := s, bus := [] } = Work.enterRest ⟨{ s with
    rdu := ({ s.rdu with s2 := l } : Rdu).closed b .s2Up
    cp := s.cp.raise .burstEnd ({ b with cause := .s2Up } : BurstRecord).bytes }, []⟩ :=
  ((Work.lineEvent_s2_release ht hl).trans (Work.s2Released_meets hd hx ho hn)).trans (Work.meetEnd_closes hx h he hb)

theorem exec_s2_closes (hheld : s.rdu.s1.held = true) (hv : s.rdu.viewOn = false) (hh : s.rdu.halfPress = true)
    (hm : s.rdu.settings.mode ≠ .precapture) : exec (.releaseLineLevel .s2 high) s = .next (({ s with
      rdu := { (({ s.rdu with s2 := l } : Rdu).closed b .s2Up).readies with viewOn := true }
      sru := { s.sru with viewTimer := s.sru.running } } : State).raised .burstEnd
        ({ b with cause := .s2Up } : BurstRecord).bytes) := by
  have hrest := Work.enterRest_viewOff (w := ⟨{ s with
    rdu := ({ s.rdu with s2 := l } : Rdu).closed b .s2Up
    cp := s.cp.raise .burstEnd ({ b with cause := .s2Up } : BurstRecord).bytes }, []⟩) hheld hm hl hh hv
  have hop := (Work.lineEvent_s2_closes hs hl ht hd hx ho hn h he hb).trans hrest
  exact exec_comes (Work.lineEvent .s2 high) rfl (State.steady_congr (s := s) rfl rfl hs) (by rw [hop]; exact .done _)

end

theorem Rdu.firstCapture_half {r : Rdu} (h : r.halfPress = true) (origin : Origin) (gate : GateOutcome) (i : Nat) :
    r.firstCapture origin gate i = { r.firstCapture origin gate i with halfPress := r.halfPress } := by
  rw [h]
  rfl

/-- Settles O27. -/
theorem releaseLinesRegisterPresses : Obligations.ReleaseLinesRegisterPresses := by
  unfold Obligations.ReleaseLinesRegisterPresses
  intro high s hs down up pressed released settings rests ready
  refine ⟨s.fu.gate_eq, fun h hh => exec_line hs (Work.lineEvent_s1 (Line.take_stands h hh) (.inl rfl)),
    fun h hh => exec_line hs (Work.lineEvent_s2 (Line.take_stands h hh) (.inl rfl)),
    fun h ha => exec_line hs (Work.lineEvent_s1 (Line.take_unarmed h ha) (.inl rfl)),
    fun h ha => exec_line hs (Work.lineEvent_s2 (Line.take_unarmed h ha) (.inl rfl)), fun hlatch => ⟨?_, ?_⟩, ?_, ?_, ?_, ?_, ?_⟩
  · exact fun ⟨h, ha, hn⟩ => exec_line hs (Work.lineEvent_s1 (Line.take_press h ha hn) (.inr hlatch))
  · exact fun ⟨h, ha, hn⟩ => exec_line hs (Work.lineEvent_s2 (Line.take_press h ha hn) (.inr hlatch))
  · rintro ⟨h, ha, hn⟩ hl hp hd hm hv hh
    refine ⟨fun hrun => ?_, fun hpower hlen => exec_s1_wake hl hp (Line.take_press h ha hn) rfl hd hm hv hh hpower hlen⟩
    obtain ⟨fu, cp, he, hhalf⟩ := exec_s1_ready hl hp (Line.take_press h ha hn) rfl hd hm hv hh hrun
    exact ⟨_, he, rfl, rfl, hhalf, rfl, rfl, rfl, rfl, rfl, rfl⟩
  · rintro ⟨h, ha, hn⟩ hrun hd hm hv hh hring hrel rings
    have hl : s.pwc.latched = false := by rw [hrun]
    have hp : s.pwc.responses = none := by rw [hrun]
    have hpower : s.pwc.power = .run := by rw [hrun]
    refine ⟨fun hcan => ?_, fun hcap hfault hrows hfree =>
      exec_s1_stalls hl hp (Line.take_press h ha hn) rfl hd hm hv hh hpower hrel hring hcap hfault hrows hfree⟩
    obtain ⟨t, he, hr, hsr, ⟨z, hz, hpre, hmark, hburst, hraw⟩, hfree, hf, hpw⟩ :=
      exec_s1_ring hl hp (Line.take_press h ha hn) rfl hd hm hv hh hpower hrel hring hcan
    refine ⟨t, he, hr, hsr, ?_, hfree, hf, hpw⟩
    rw [hz]
    show some (z.precapture, z.mark, z.burst, z.raw) = _
    rw [hpre, hmark, hburst, hraw]
    rfl
  · rintro ⟨h, ha, hn⟩ hl
    have ht := Line.take_press h ha hn
    refine ⟨fun hspent => exec_line hs ?_, fun hrun hd hv hh => ⟨fun g hcan hg => ?_, fun hpr hg hheld => exec_line hs ?_⟩,
      fun hrun hd hv hh hdist hring hnum h1 hroom => ?_⟩
    · refine (Work.lineEvent_s2_press ht hl).trans ?_
      split
      · next hrun => exact Work.s2Pressed_spent (hspent.resolve_left fun hne => hne hrun)
      · rfl
    · obtain ⟨t, he, hr, hsr, hraw, hfree, hf, hpw⟩ := exec_s2_opens hl (by rw [hrun]) (by rw [hrun]) ht hd hh hcan hg
      refine ⟨t, he, hr.trans ?_, by rw [hsr]; rfl, by rw [hsr], ?_, hraw, hfree, hf, hpw⟩
      · exact Rdu.firstCapture_half (r := { s.rdu with s2 := pressed s.rdu.s2 }) hh .release g s.bm.freeIndex
      · rw [hsr]
        exact if_pos hv
    · exact ((Work.lineEvent_s2_press ht hl).trans (if_pos (by rw [hrun]))).trans (Work.s2Pressed_waits hd hpr hg hl hv hh hheld)
    · have hcontains (r : Row) (hr : r ∈ s.bm.rows) : s.rdu.ring.contains r.index = r.isPre := by
        rw [hring, Bool.eq_iff_iff, List.contains_iff_mem, List.mem_map]
        constructor
        · rintro ⟨x, hx, he⟩
          obtain ⟨hx, hxp⟩ := List.mem_filter.1 hx
          exact List.inj_on_of_nodup_map hdist hx hr he ▸ hxp
        · exact fun hp => ⟨r, List.mem_filter.2 ⟨hr, hp⟩, rfl⟩
      have hlen : s.rdu.ring.length = (s.bm.rows.filter Row.isPre).length := by
        rw [hring, List.length_map]
        rfl
      obtain ⟨t, he, hr, htags, hnone, hnext, hexp, hpw⟩ := exec_s2_promotes hl (by rw [hrun]) (by rw [hrun]) ht hd hv hh hdist
        hring hnum hroom
      have hidx : t.bm.rows.map Row.index = s.bm.rows.map Row.index := by
        rw [← Bm.tags_index, htags, promotedTags_index]
      refine ⟨t, he, hr, hidx, hnone, ?_, hnext, fun r hr hl hm => ?_, hpw⟩
      · rw [hlen, ← promotedTags_numbers s.rdu.ring s.bm.nextNumber s.bm.rows hcontains, ← htags, Bm.tags, List.filter_map,
          List.map_map]
        rfl
      · obtain ⟨z, hz, hzi, hzl⟩ := hexp r hr hl
        refine ⟨z, hz, hzi, hzl, ?_⟩
        have hmem : (r.marked .promoted).tag ∈ t.bm.tags := htags ▸ mem_promotedTags (by rw [hl]; decide) _ _ hr
        have hz2 : z.tag ∈ t.bm.tags := List.mem_map_of_mem hz
        have heq : z.tag = (r.marked .promoted).tag :=
          List.inj_on_of_nodup_map (f := Prod.fst) (by rw [Bm.tags_index, hidx]; exact hdist) hz2 hmem
            (hzi.trans (Row.marked_index _ _).symm)
        have hmark : z.mark = (r.marked .promoted).mark := congrArg (fun x => x.2.2) heq
        rw [hmark, Row.marked, if_pos ⟨hl, hm⟩]
  · rintro ⟨h, hh1⟩ hl hrel hh hf
    have ht := Line.take_release h hh1
    refine ⟨fun hd hw => ?_, fun hd hw => ?_, fun hd hw hb hdist => ?_⟩
    · obtain ⟨fu, cp, he, hhalf, hstate⟩ := exec_rests (c := s.cp) (r := { s.rdu with s1 := released s.rdu.s1 }) hs
        ((Work.lineEvent_s1_release ht hl).trans (Work.s1Released_ready hd)) rfl hw hrel hh hf
      exact ⟨_, he, ⟨rfl, rfl, hhalf, hstate, rfl⟩, rfl, rfl, rfl, rfl, rfl⟩
    · obtain ⟨fu, cp, he, hhalf, hstate⟩ := exec_rests (c := s.cp)
        (r := ({ s.rdu with s1 := released s.rdu.s1 } : Rdu).endWait) hs
        ((Work.lineEvent_s1_release ht hl).trans (Work.s1Released_wait hd hw)) rfl rfl hrel hh hf
      exact ⟨_, he, ⟨rfl, rfl, hhalf, hstate, rfl⟩, rfl, rfl, rfl, rfl, rfl⟩
    · obtain ⟨t, he, hr, hsr, hhalf, hstate, hpw, hrows, hfree, hmem, hcw⟩ := exec_s1_drops hs hl ht rfl hd hw hrel hh hf hb hdist
      exact ⟨t, he, ⟨hr, hsr, hhalf, hstate, hpw⟩, hrows, hfree, hmem, hcw⟩
  · rintro ⟨h, hh2⟩ hl hh hf
    have ht := Line.take_release h hh2
    refine ⟨fun hd hw hrel => ⟨fun hheld hv hm => exec_s2_unwaits hs hl ht hd hw hheld hv hh hm, fun hup => ?_⟩,
      fun x b hd hx ho hb => ⟨exec_s2_single hs hl ht hd hx ho, fun hn =>
        ⟨exec_s2_flight hs hl ht hd hx ho hn, fun hcap he hw => ⟨fun hheld hv hm => ?_, fun hup => ?_⟩⟩⟩⟩
    · obtain ⟨fu, cp, he, hhalf, hstate⟩ := exec_rests (c := s.cp)
        (r := ({ s.rdu with s2 := released s.rdu.s2 } : Rdu).endWait) hs (((Work.lineEvent_s2_release ht hl).trans
        (Work.s2Released_wait hd hw)).trans (Work.enterRest_up hup)) hup rfl hrel hh hf
      exact ⟨_, he, rfl, rfl, hhalf, hstate, rfl⟩
    · exact exec_s2_closes hs hl ht hd hx ho hn hcap he hb hheld hv hh hm
    · obtain ⟨fu, cp, hex, hhalf, hstate⟩ := exec_rests hs
        ((Work.lineEvent_s2_closes hs hl ht hd hx ho hn hcap he hb).trans
        (Work.enterRest_up hup)) hup hw rfl hh hf
      exact ⟨_, hex, rfl, rfl, hhalf, hstate, rfl⟩

end Sys2Proof.Machine
end

section
/-! PROOF. The supply warning (R192): what the blocks leave when it is delivered, and that no report of the step wakes one of
them again. -/

namespace Sys2Proof.Machine

/-! ### RDU and SRU through the checks of BM -/

section
variable {w : Work}

/-- RDU and SRU, which BM does not touch. -/
def State.heads (s : State) : Rdu × Sru := (s.rdu, s.sru)

theorem State.heads_of_front {s t : State} (h : s.front = t.front) : s.heads = t.heads :=
  congrArg (fun x => (x.1, x.2.1)) h

theorem Work.abortRow_heads (i : Nat) (c : ShotOutcome) : (w.abortRow i c).heads = w.heads := by
  unfold Work.abortRow
  split
  · split
    · have hraw : (w.releaseRaw i).heads = w.heads := State.heads_of_front (Work.releaseRaw_front i w)
      split <;> exact hraw
    · rfl
  · rfl

theorem Work.evictRow_heads (i : Nat) : (w.evictRow i).heads = w.heads := by
  unfold Work.evictRow
  split
  · split
    · have hraw : (w.releaseRaw i).heads = w.heads := State.heads_of_front (Work.releaseRaw_front i w)
      exact hraw
    · rfl
  · rfl

theorem Work.dropRing_heads : w.dropRing.heads = w.heads := by
  have hfold (l : List Row) : ∀ w : Work, (l.foldl (fun v r =>
      if r.life = .pre then v.evictRow r.index
      else if r.life = .exposing ∧ r.mark = some .opened then v.mapRow r.index fun x => { x with mark := some .dropped }
      else v) w).heads = w.heads := by
    induction l with
    | nil => exact fun w => rfl
    | cons r l ih =>
      intro w
      rw [List.foldl_cons, ih]
      split
      · exact Work.evictRow_heads _
      · split <;> rfl
  exact hfold _ w

/-! ### The warning at each block (R50, R65, R115, R146, R173) -/

theorem Work.setDrive_drive (d : Drive) : (w.setDrive d).rdu.drive = d ∧ (w.setDrive d).rdu.release = w.rdu.release := by
  obtain ⟨_, _, hv⟩ := (Work.publishDrive_published (w.withRdu fun r => { r with drive := d })).gated
  have h := congrArg (fun v : Work => v.rdu) hv
  exact ⟨(congrArg Rdu.drive h).trans rfl, (congrArg Rdu.release h).trans rfl⟩

theorem Work.closeRecord_release (c : EndCause) : (w.closeRecord c).rdu.release = none := by
  unfold Work.closeRecord
  dsimp only
  split <;> rfl

theorem Work.driveWarning_idle : w.driveWarning.rdu.drive = .idle ∧ w.driveWarning.rdu.release = none := by
  have hidle (v : Work) (h : v.rdu.release = none) : v.enterIdle.rdu.drive = .idle ∧ v.enterIdle.rdu.release = none := by
    obtain ⟨hd, hr⟩ := Work.setDrive_drive (w := v.withRdu fun r => { r.adopt with timer := false }) .idle
    exact ⟨hd, hr.trans h⟩
  have hring (v : Work) (h : v.rdu.release = none) :
      (if v.rdu.ring ≠ [] ∨ v.rdu.openRow.isSome = true then v.dropTheRing else v).rdu.release = none := by
    split
    · exact (congrArg (fun x => x.1.release) v.dropRing_heads).trans h
    · exact h
  unfold Work.driveWarning
  refine hidle _ (hring _ ?_)
  split
  · exact Work.closeRecord_release _
  · next h => exact h

/-- SRU is stopped. -/
def Sru.ended (s : Sru) : Prop := s.running = false ∧ s.readout = none ∧ s.waiting = none

theorem Work.sensorStop_ended : w.sensorStop.sru.ended ∧ w.sensorStop.rdu = w.rdu := by
  suffices h : w.sensorStop.heads = (w.rdu, ({ w.sru.quiet.close with waiting := none } : Sru)) by
    rw [show w.sensorStop.sru = _ from congrArg Prod.snd h]
    exact ⟨⟨rfl, rfl, rfl⟩, congrArg Prod.fst h⟩
  unfold Work.sensorStop
  dsimp only
  have hread : (match w.sru.readout with
      | some r => if r.kind = FrameKind.capture then
          ({ w with sru := { w.sru.quiet.close with waiting := none } } : Work).abortRow r.row .power
        else { w with sru := { w.sru.quiet.close with waiting := none } }
      | none => ({ w with sru := { w.sru.quiet.close with waiting := none } } : Work)).heads =
      (w.rdu, ({ w.sru.quiet.close with waiting := none } : Sru)) := by
    split
    · split
      · exact Work.abortRow_heads _ _
      · rfl
    · rfl
  split
  · exact (Work.abortRow_heads _ _).trans hread
  · exact hread

/-- DE is stopped with no job. -/
theorem Work.developWarning_stopped : w.developWarning.de.engine = .stopped ∧ w.developWarning.de.job = none := by
  unfold Work.developWarning
  split
  · dsimp only
    rw [((Work.Served.refl _).check _).de]
    exact ⟨rfl, rfl⟩
  · exact ⟨rfl, by assumption⟩

theorem Work.tetherWarning_stopped : w.tetherWarning.tu.stopped = true :=
  ((((Work.Served.refl { w with tu := { w.tu with stopped := true } }).endTransfer .warning).setTu
    { (({ w with tu := { w.tu with stopped := true } } : Work).endTransfer .warning).tu.freeBuffers with helloTimer := false }
    fun h => h).stops.tu rfl)

theorem Work.cardWarning_stopped : w.cardWarning.cw.stopped = true := by
  have hstop {u v : Work} (s : SlotId) (hw : u.Served v) :
      u.Served (if (v.cw.slot s).writing.isSome then v.askStop s .power else v) := by
    split
    · exact hw.askStop _ _
    · exact hw
  exact (hstop .b (hstop .a
    (Work.Served.refl { w with cw := ({ w.cw with stopped := true } : Cw).mapBoth Slot.dropReads }))).stops.cw rfl

end

/-! ### No report of the step wakes a block -/

/-- Every block has responded to the warning but CW, which may still write. -/
structure Work.Silenced (w : Work) : Prop where
  drive : w.rdu.drive = .idle
  release : w.rdu.release = none
  sensor : w.sru.ended
  engine : w.de.engine = .stopped
  job : w.de.job = none
  tether : w.tu.stopped = true
  cards : w.cw.stopped = true

theorem Work.warn_silenced (w : Work) : w.warn.Silenced := by
  have hcards (v : Work) (hs : v.sru.ended) (hr : v.rdu.drive = .idle ∧ v.rdu.release = none) :
      v.developWarning.tetherWarning.cardWarning.Silenced := by
    have hfront : v.developWarning.tetherWarning.cardWarning.heads = v.heads := State.heads_of_front (by simp)
    have hserved : v.developWarning.Served v.developWarning.tetherWarning := (Work.Served.refl _).tetherWarning
    have hcard : v.developWarning.tetherWarning.Served v.developWarning.tetherWarning.cardWarning :=
      (Work.Served.refl _).cardWarning
    have hde := hcard.de.trans hserved.de
    obtain ⟨hengine, hjob⟩ := v.developWarning_stopped
    have hrdu : v.developWarning.tetherWarning.cardWarning.rdu = v.rdu := congrArg Prod.fst hfront
    have hsru : v.developWarning.tetherWarning.cardWarning.sru = v.sru := congrArg Prod.snd hfront
    exact ⟨by rw [hrdu]; exact hr.1, by rw [hrdu]; exact hr.2, by rw [hsru]; exact hs, by rw [hde]; exact hengine,
      by rw [hde]; exact hjob, hcard.stops.tu Work.tetherWarning_stopped, Work.cardWarning_stopped⟩
  have hsensor (v : Work) (hr : v.rdu.drive = .idle ∧ v.rdu.release = none) :
      v.sensorStop.developWarning.tetherWarning.cardWarning.Silenced :=
    hcards v.sensorStop v.sensorStop_ended.1 (by rw [v.sensorStop_ended.2]; exact hr)
  obtain ⟨h1, h2, h3, h4, h5, h6, h7⟩ := hsensor _
    (Work.driveWarning_idle (w := (({ w with pwc := { w.pwc with latched := true } } : Work).raise .powerWarn []).focusWarning))
  exact ⟨h1, h2, h3, h4, h5, h6, h7⟩

section
variable {w v : Work}

/-- CW and TU act on a part that has responded. -/
theorem Work.Silenced.serve (h : w.Silenced) (hs : w.Served v) (hf : v.heads = w.heads) : v.Silenced := by
  have hrdu : v.rdu = w.rdu := congrArg Prod.fst hf
  have hsru : v.sru = w.sru := congrArg Prod.snd hf
  exact ⟨by rw [hrdu]; exact h.drive, by rw [hrdu]; exact h.release, by rw [hsru]; exact h.sensor,
    by rw [hs.de]; exact h.engine, by rw [hs.de]; exact h.job, hs.stops.tu h.tether, hs.stops.cw h.cards⟩

/-- The end of a capture of a burst that is closed concerns the ring alone. -/
theorem Work.Silenced.captureEnds (h : w.Silenced) (i : Nat) (l : Option Life) (n : Option Nat) :
    (w.captureEnds i l n).Silenced := by
  have hset (r : Rdu) (hd : r.drive = .idle) (hr : r.release = none) : ({ w with rdu := r } : Work).Silenced :=
    ⟨hd, hr, h.sensor, h.engine, h.job, h.tether, h.cards⟩
  unfold Work.captureEnds
  split
  · split
    · dsimp only
      split
      · exact hset _ h.drive h.release
      · split
        · next hr => exact absurd (hr.symm.trans h.release) (Option.some_ne_none _)
        · exact hset _ h.drive h.release
    · exact h
  · exact h

theorem Work.Silenced.handle (h : w.Silenced) (r : Report) : (w.handle r).Silenced := by
  have hback {r : Report} (hb : r.isBack = true) : (w.handle r).heads = w.heads := State.heads_of_front (w.handle_front r hb)
  cases r with
  | deLook =>
    rw [w.handle_deLook (.inr (.inl h.engine))]
    exact h
  | reclaim up => exact h.serve ((Work.Served.refl w).takeReclaim up) (hback rfl)
  | readEnded b d => exact h.serve ((Work.Served.refl w).takeRead b d) (hback rfl)
  | cardDone i c => exact h.serve ((Work.Served.refl w).takeCardDone i c) (hback rfl)
  | developChanged i => exact h.serve ((Work.Served.refl w).takeDevelop i) (hback rfl)
  | frontier i => exact h.serve (Work.Served.refl w).updateWait (hback rfl)
  | proofLost i => exact h.serve ((Work.Served.refl w).tetherProofLost i) (hback rfl)
  | select => exact h.serve (Work.Served.refl w).selectEntry (hback rfl)
  | focus g =>
    rw [w.handle_focus g (by rw [h.drive]; exact fun h => Drive.noConfusion h)]
    exact h
  | rowEnded i l n => exact h.captureEnds i l n

theorem Work.Silenced.drain : ∀ (k : Nat) {w : Work}, w.Silenced → (Work.drain k w).Silenced
  | 0, _, h => h
  | k + 1, w, h => by
    unfold Work.drain
    split
    · exact h
    · next r rest _ =>
      have hrest : ({ w with bus := rest } : Work).Silenced := ⟨h.drive, h.release, h.sensor, h.engine, h.job, h.tether, h.cards⟩
      exact Work.Silenced.drain k (hrest.handle r)

theorem Work.Silenced.settle (h : w.Silenced) : w.settle.Silenced := h.drain 4096

/-- The end of the step of a warning: FAILSAFE when CW is quiet, and CW's response missing otherwise (R192). -/
theorem Work.finishWarning_latched {p : Power} {b : Bool}
    (hp : w.pwc = { power := p, latched := true, responses := some (Responses.delivered b) }) :
    w.finishWarning = { w with pwc :=
      if w.cw.quiet then { power := .failsafe, latched := true, responses := none }
      else { power := p, latched := true, responses := some (Responses.delivered false) } } := by
  cases hq : w.cw.quiet with
  | true => rw [Work.finishWarning_delivered (by rw [hp]) hq, hp, if_pos rfl]
  | false =>
    simp only [Work.finishWarning, hp, hq]
    rfl

theorem Work.Silenced.latch (h : w.Silenced) (p : Pwc) : ({ w with pwc := p } : Work).Silenced :=
  ⟨h.drive, h.release, h.sensor, h.engine, h.job, h.tether, h.cards⟩

end

/-- Settles O22: the warning silences every block, and the reports of the step find each of them silent. -/
theorem supplyWarningIsDelivered : Obligations.SupplyWarningIsDelivered := by
  unfold Obligations.SupplyWarningIsDelivered
  intro s hs
  have hrun (b : Bool) : exec (.supplyWarning b) s = .next (run (Work.warningInput b) s) := rfl
  have hlevel (b : Bool) : ({ s with pins := { s.pins with warning := b } } : State).steady := State.steady_congr rfl rfl hs
  refine ⟨?_, fun hl => ?_, fun hl => ?_⟩
  · exact exec_comes (Work.warningInput false) (hrun false) (hlevel false) (.done _)
  · refine exec_comes (Work.warningInput true) (hrun true) (hlevel true) ?_
    rw [Work.warningInput, if_neg (fun h => Bool.noConfusion (h.2.symm.trans hl))]
    exact .done _
  · have hop : Work.warningInput true { toState := s, bus := [] } =
        Work.warn { toState := { s with pins := { s.pins with warning := true } }, bus := [] } := if_pos ⟨rfl, hl⟩
    have hexec := exec_acts (Work.warningInput true) (hrun true) hop
    have hpwc := Work.warn_pwc { toState := { s with pins := { s.pins with warning := true } }, bus := [] }
    have hsil := Work.warn_silenced { toState := { s with pins := { s.pins with warning := true } }, bus := [] }
    generalize Work.warn { toState := { s with pins := { s.pins with warning := true } }, bus := [] } = v at hexec hpwc hsil
    have hp : v.settle.pwc = v.pwc := congrArg (fun x => x.2.1) v.settle_outer
    rw [Work.finishWarning_latched (hp.trans hpwc)] at hexec
    obtain ⟨hdrive, hrel, ⟨hrun, hread, hwait⟩, hengine, hjob, htu, hcw⟩ := hsil.settle
    refine ⟨_, hexec, ?_, hdrive, hrel, hrun, hread, hwait, hengine, hjob, htu, hcw, ?_⟩
    · dsimp only
      split <;> rfl
    · dsimp only
      split <;> exact ⟨rfl, rfl⟩

end Sys2Proof.Machine
end

section
/-! PROOF. The develop duty of a row as requests make and end it (R99, R100, R110), and the checks of BM on a row whose chains
are wanted. -/

namespace Sys2Proof.Machine

/-! ### One row of a table with distinct indices (R7) -/

section
variable {b : Bm} {i : Nat} {r : Row} {f g : Row → Row}

/-- A change of a row concerns that row alone. -/
theorem Bm.mapRow_congr (hnd : (b.rows.map Row.index).Nodup) (hr : b.row? i = some r) (h : f r = g r) :
    b.mapRow i f = b.mapRow i g := by
  unfold Bm.mapRow
  congr 1
  refine List.map_congr_left fun x hx => ?_
  split
  · next hi =>
    have hxr : some x = some r := by rw [← hr, ← hi, Bm.row?_of_mem hnd hx]
    rw [Option.some.inj hxr, h]
  · rfl

theorem Bm.mapRow_mapRow (b : Bm) (i : Nat) (hf : ∀ x, (f x).index = x.index) :
    (b.mapRow i f).mapRow i g = b.mapRow i fun x => g (f x) := by
  simp only [Bm.mapRow, List.map_map]
  congr 1
  refine List.map_congr_left fun x _ => ?_
  simp only [Function.comp_apply]
  split
  · next hx => rw [if_pos ((hf x).trans hx)]
  · rfl

theorem Bm.mapRow_same (hnd : (b.rows.map Row.index).Nodup) (hr : b.row? i = some r) (h : f r = r) : b.mapRow i f = b := by
  rw [Bm.mapRow_congr (g := id) hnd hr h]
  simp only [Bm.mapRow, id, ite_self, List.map_id']

theorem Bm.row?_mapRow_same (hr : b.row? i = some r) (hf : ∀ x, (f x).index = x.index) :
    (b.mapRow i f).row? i = some (f r) := by
  rw [Bm.row?_mapRow b i i hf, hr, Option.map_some, if_pos rfl]

theorem Bm.mapRow_index (b : Bm) (i : Nat) (hf : ∀ x, (f x).index = x.index) :
    (b.mapRow i f).rows.map Row.index = b.rows.map Row.index := Bm.mapRow_map Row.index b i hf

theorem Bm.row?_numbered {n : Nat} (hnd : (b.rows.map Row.index).Nodup) (hr : b.numbered? n = some r) :
    b.row? r.index = some r := Bm.row?_of_mem hnd (Bm.numbered?_some hr).1

end

/-! ### The checks of BM (R16, R17) -/

section
variable {w : Work} {i : Nat} {r : Row}

/-- A HELD row whose chains are wanted or absent stands. -/
theorem Work.releaseCheck_same (hr : w.bm.row? i = some r) (hraw : r.rawRead = true ∨ r.raw = none)
    (hproof : r.proofRead = true ∨ r.proof = none) : w.releaseCheck i = w := by
  have hfirst : (if r.rawRead then w else w.releaseRaw i) = w := by
    rcases hraw with h | h
    · rw [h]
      rfl
    · rw [Work.releaseRaw, hr, Option.bind_some, h, ite_self]
  unfold Work.releaseCheck
  rw [hr]
  dsimp only
  rw [hfirst]
  split
  · rcases hproof with h | h
    · rw [h]
      rfl
    · rw [Work.releaseProof, hr, Option.bind_some, h, ite_self]
  · rfl

theorem Work.settleCheck_same (hr : w.bm.row? i = some r) (hs : r.settles = false) : w.settleCheck i = w := by
  unfold Work.settleCheck
  rw [hr]
  dsimp only
  rw [hs, if_neg Bool.false_ne_true]

theorem Row.settles_of_open (h : r.openDuties ≠ 0) : r.settles = false := by
  rw [← Bool.not_eq_true, r.settles_iff]
  exact fun hs => h hs.2.1

/-- A row with an open card duty has an open duty. -/
theorem Row.openDuties_of_card {d : CardDuty} (hd : d ∈ r.cards) (hf : d.state.isFinal = false) : r.openDuties ≠ 0 := by
  have hlen : 0 < (r.cards.filter fun d => !d.state.isFinal).length :=
    List.length_pos_of_mem (List.mem_filter.2 ⟨hd, by rw [hf]; rfl⟩)
  rw [Row.openDuties]
  omega

theorem Row.rawRead_of_card {d : CardDuty} (hd : d ∈ r.cards) (hc : d.chain = .raw) (hf : d.state.isFinal = false) :
    r.rawRead = true := by
  have hany : r.cards.any (fun d => decide (d.chain = .raw) && !d.state.isFinal) = true :=
    List.any_eq_true.2 ⟨d, hd, by rw [hc, hf]; rfl⟩
  rw [Row.rawRead, hany]
  rfl

/-- No card PROOF duty: the loss of the proof fails none. -/
theorem Work.cardProofLost_raw (hr : w.bm.row? i = some r) (hc : ∀ d ∈ r.cards, d.chain = .raw) :
    w.cardProofLost i = w := by
  have hduty (d : DutyRef) (hd : d ∈ r.openCards) (x : CardDuty) (hx : w.duty? d = some x) : x.chain = .raw := by
    simp only [Row.openCards, List.mem_map] at hd
    obtain ⟨k, -, rfl⟩ := hd
    rw [Work.duty?, (Bm.row?_some hr).2, hr, Option.bind_some] at hx
    exact hc x (List.mem_of_getElem? hx)
  have hfold (l : List DutyRef) (hl : ∀ d ∈ l, d ∈ r.openCards) : l.foldl (fun v d =>
      match v.duty? d with
      | some x => if x.chain = .proof ∧ x.state ≠ .writing then (v.unlist d).failDuty d .sourceLost false else v
      | none => v) w = w := by
    induction l with
    | nil => rfl
    | cons d l ih =>
      have hstep : (match w.duty? d with
          | some x => if x.chain = .proof ∧ x.state ≠ .writing then (w.unlist d).failDuty d .sourceLost false else w
          | none => w) = w := by
        split
        · next x hx =>
          rw [if_neg]
          intro h
          exact Chain.noConfusion ((hduty d (hl d List.mem_cons_self) x hx).symm.trans h.1)
        · rfl
      rw [List.foldl_cons, hstep]
      exact ih fun d hd => hl d (List.mem_cons_of_mem _ hd)
  unfold Work.cardProofLost
  rw [hr]
  exact hfold r.openCards fun d h => h

/-- No entry in the send queue: TU loses no proof. -/
theorem Work.handle_proofLost (i : Nat) (h : w.tu.queue = []) : w.handle (.proofLost i) = w := by
  rw [Work.handle, Work.tetherProofLost, h]
  rfl

theorem Work.handle_developChanged_nil (i : Nat) (h : w.tu.queue = []) : w.handle (.developChanged i) = w :=
  w.handle_developChanged i (by rw [h]; exact fun _ he => absurd he List.not_mem_nil)

/-! ### The duty changes (R9) -/

/-- A develop duty that is not final takes its next state. -/
theorem Work.setDevelop_eq (hnd : (w.bm.rows.map Row.index).Nodup) (hr : w.bm.row? i = some r)
    (ho : r.develop = .absent ∨ r.develop.isFinal = false) (st : DevelopState) : w.setDevelop i st = { w with
      bm := w.bm.mapRow i fun x => { x with develop := st }, bus := w.bus ++ [.developChanged i] } := by
  have hrow : w.bm.mapRow i (fun x => if x.develop.isFinal && !Decidable.decide (x.develop = .absent) then x
      else { x with develop := st }) = w.bm.mapRow i fun x => { x with develop := st } := by
    refine Bm.mapRow_congr hnd hr (if_neg ?_)
    rcases ho with h | h
    · rw [h]
      exact fun h => Bool.noConfusion h
    · rw [h]
      exact fun h => Bool.noConfusion h
  unfold Work.setDevelop
  show Work.post _ { w with bm := _ } = _
  rw [hrow]
  rfl

/-- A duty joins the tail of its class, and DE looks at its queue (R99). -/
theorem Work.createDevelop_eq (hnd : (w.bm.rows.map Row.index).Nodup) (hr : w.bm.row? i = some r) (ho : r.develop = .absent)
    (c : DevelopClass) : w.createDevelop i c = { w with
      bm := w.bm.mapRow i fun x => { x with cls := c, develop := .pending }
      de := w.de.join i c
      bus := w.bus ++ [.developChanged i] ++ [.deLook] } := by
  have hi : ∀ x : Row, ({ x with cls := c } : Row).index = x.index := fun _ => rfl
  have hset := Work.setDevelop_eq (w := w.mapRow i fun r => { r with cls := c }) (i := i) (r := { r with cls := c })
    ((Bm.mapRow_index w.bm i hi).symm ▸ hnd) (Bm.row?_mapRow_same hr hi) (.inl ho) .pending
  unfold Work.createDevelop
  rw [hset]
  show Work.post _ { w with bm := (w.bm.mapRow i _).mapRow i _, de := _, bus := _ } = _
  rw [Bm.mapRow_mapRow w.bm i hi]
  rfl

/-- DE starts the job at the head of its queue with the lowest 12 free pages (R4, R100). -/
theorem Work.lookHead_starts {c : RawChain} (hnd : (w.bm.rows.map Row.index).Nodup) (hr : w.bm.row? i = some r)
    (hp : r.develop = .pending) (hraw : r.raw = some c) (he : w.de.engine = .idle) (hu : w.de.urgent = [i])
    (hn : w.de.normal = []) (hfree : 12 ≤ w.bm.free.length) (hl : w.pwc.latched = false) : w.lookHead = { w with
      bm := { w.bm.mapRow i fun x => { x with
          develop := .running, proof := some { pages := w.bm.free.take 12, length := 12000064, frontier := 0 } }
        with free := w.bm.free.drop 12 }
      de := { w.de with
        urgent := [], normal := [], engine := .running
        job := some { row := i, slot := r.look, look := w.de.looks.getD r.look Look.defaults, bins := List.replicate 64 0,
                      clip := 0, cancel := false, discard := false } }
      mem := chainWrite w.mem (w.bm.free.take 12) 0 (1 :: chainRead w.mem c.pages 1 63)
      bus := w.bus ++ [.reclaim (Decidable.decide ((w.bm.free.drop 12).length < w.bm.threshold))] ++ [.developChanged i] } := by
  obtain ⟨pc, hpc⟩ : ∃ pc : ProofChain, pc = { pages := w.bm.free.take 12, length := 12000064, frontier := 0 } := ⟨_, rfl⟩
  have hi : ∀ x : Row, ({ x with proof := some pc } : Row).index = x.index := fun _ => rfl
  have hhead : w.de.head? = some i := by rw [De.head?, hu]
  obtain ⟨v, hv⟩ : ∃ v : Work, v = { w with
      bm := { w.bm.mapRow i fun x => { x with proof := some pc } with free := w.bm.free.drop 12 }
      bus := w.bus ++ [.reclaim (Decidable.decide ((w.bm.free.drop 12).length < w.bm.threshold))] } := ⟨_, rfl⟩
  have halloc : w.proofAlloc i = some v := by
    rw [Work.proofAlloc, if_pos ⟨hfree, hl⟩, hv, hpc]
    rfl
  have hvr : v.bm.row? i = some { r with proof := some pc } := by
    rw [hv]
    exact Bm.row?_mapRow_same hr hi
  have hset := Work.setDevelop_eq (w := v) (i := i) (r := { r with proof := some pc })
    (by rw [hv]; exact (Bm.mapRow_index w.bm i hi).symm ▸ hnd) hvr (.inr (by rw [hp]; rfl)) .running
  have hrow : v.bm.mapRow i (fun x => { x with develop := .running }) =
      { w.bm.mapRow i fun x => { x with develop := .running, proof := some pc } with free := w.bm.free.drop 12 } := by
    rw [hv]
    show ({ (w.bm.mapRow i _).mapRow i _ with free := _ } : Bm) = _
    rw [Bm.mapRow_mapRow w.bm i hi]
  have hraws : Row.pagesOf { r with proof := some pc } .raw = c.pages := by
    rw [Row.pagesOf]
    show (r.raw.map RawChain.pages).getD [] = _
    rw [hraw]
    rfl
  have hproofs : Row.pagesOf { r with proof := some pc } .proof = w.bm.free.take 12 := by
    rw [hpc]
    rfl
  have hdrop : w.de.drop i = { w.de with urgent := [], normal := [] } := by
    rw [De.drop, hu, hn, List.filter_cons_of_neg (by rw [beq_self_eq_true]; decide)]
    rfl
  unfold Work.lookHead
  rw [he, hhead]
  dsimp only
  rw [halloc]
  dsimp only
  unfold Work.startJob
  rw [hvr]
  dsimp only
  rw [hset]
  dsimp only
  rw [hrow, hraws, hproofs, show v.de = w.de from by rw [hv], hdrop, show v.mem = w.mem from by rw [hv],
    show v.bus = w.bus ++ [.reclaim (Decidable.decide ((w.bm.free.drop 12).length < w.bm.threshold))] from by rw [hv], hpc, hv]
  rfl

end

/-! ### DEVELOP and DEVELOP_CANCEL -/

section
variable {w : Work} {i : Nat} {r : Row}

/-- The cancel of a PENDING duty of a row that CW still writes (R110). -/
theorem Work.cancelPending_eq {d : CardDuty} (hnd : (w.bm.rows.map Row.index).Nodup) (hr : w.bm.row? i = some r)
    (hp : r.develop = .pending) (hd : d ∈ r.cards) (hf : d.state.isFinal = false) (hc : ∀ d ∈ r.cards, d.chain = .raw)
    (hproof : r.proof = none) : w.cancelPending i = { w with
      bm := w.bm.mapRow i fun x => { x with develop := .cancelled }
      de := w.de.drop i
      bus := w.bus ++ [.developChanged i] ++ [.proofLost i] ++ [.deLook] } := by
  have hset := Work.setDevelop_eq (w := { w with de := w.de.drop i }) hnd hr (.inr (by rw [hp]; rfl)) .cancelled
  obtain ⟨v, hv⟩ : ∃ v : Work, v = { w with
      bm := w.bm.mapRow i fun x => { x with develop := .cancelled }
      de := w.de.drop i
      bus := w.bus ++ [.developChanged i] } := ⟨_, rfl⟩
  have hvr : v.bm.row? i = some { r with develop := .cancelled } := by
    rw [hv]
    exact Bm.row?_mapRow_same (f := fun x => { x with develop := .cancelled }) hr fun _ => rfl
  have hcheck : v.check i = v := by
    have hrel := Work.releaseCheck_same hvr
      (.inl (Row.rawRead_of_card (r := { r with develop := .cancelled }) hd (hc d hd) hf)) (.inr hproof)
    rw [Work.check, hrel]
    exact Work.settleCheck_same hvr (Row.settles_of_open (Row.openDuties_of_card (r := { r with develop := .cancelled }) hd hf))
  have hlose : v.loseProof i = v.post (.proofLost i) := by
    rw [Work.loseProof, Work.cardProofLost_raw hvr hc]
  unfold Work.cancelPending
  dsimp only
  rw [hset]
  show ((Work.check i { w with bm := _, de := _, bus := _ }).loseProof i).post .deLook = _
  rw [← hv, hcheck, hlose, hv]
  rfl

end

section
variable {n : Nat} {r : Row} {b : Byte} {w : Work}

theorem byteAt_behind_number (n : Nat) (b : Byte) : byteAt (leBytes 3 n ++ [b]) 3 = b :=
  (byteAt_behind (j := 3) 0 (leBytes_length 3 n)).trans rfl

theorem fieldAt_number (h : n < 16777216) : fieldAt (leBytes 3 n) 0 3 = n := by
  conv_lhs => rw [← List.append_nil (leBytes 3 n)]
  exact fieldAt_front [] h

/-- How DEVELOP of a known shot is judged (R99). -/
theorem answerDevelop_eq {urgent : Bool} (hn : n < 16777216) (hb : flagOf b = some urgent) (hr : w.bm.numbered? n = some r) :
    answerDevelop (leBytes 3 n ++ [b]) w =
      if r.life ≠ .held ∨ r.discarding = true then .refused .state
      else
        match r.develop with
        | .pending => if r.cls = .normal ∧ urgent = true then .taken (w.promoteJob r.index) [] else .refused .inUse
        | .running => .refused .inUse
        | .done | .failed | .cancelled => .refused .state
        | .absent =>
          if r.raw.isSome then
            .taken (w.createDevelop r.index (if urgent then .urgent else .normal))
              [(if urgent then DevelopClass.urgent else .normal).byte,
                BitVec.ofNat 8 (w.de.aheadOf (if urgent then .urgent else .normal))]
          else .refused .state := by
  rw [answerDevelop, byteAt_behind_number, hb, fieldAt_front _ hn]
  simp only [hr] <;> rfl

theorem answerDevelopCancel_eq (hn : n < 16777216) (hr : w.bm.numbered? n = some r) :
    answerDevelopCancel (leBytes 3 n) w =
      match r.develop with
      | .pending => .taken (w.cancelPending r.index) [0]
      | .running => .taken { w with de := { w.de with job := w.de.job.map fun j => { j with cancel := true } } } [1]
      | .absent | .done | .failed | .cancelled => .refused .state := by
  rw [answerDevelopCancel, fieldAt_number hn]
  simp only [hr] <;> rfl

/-- A new duty: DEVELOP is taken as its creation. -/
theorem answerDevelop_creates {urgent : Bool} (hn : n < 16777216) (hb : flagOf b = some urgent)
    (hr : w.bm.numbered? n = some r) (hl : r.life = .held) (hd : r.discarding = false) (ha : r.develop = .absent)
    (hraw : r.raw ≠ none) :
    answerDevelop (leBytes 3 n ++ [b]) w =
      .taken (w.createDevelop r.index (if urgent then .urgent else .normal))
        [(if urgent then DevelopClass.urgent else .normal).byte,
          BitVec.ofNat 8 (w.de.aheadOf (if urgent then .urgent else .normal))] := by
  rw [answerDevelop_eq hn hb hr, if_neg (by rw [hl, hd]; exact fun h => h.elim (fun h => h rfl) Bool.noConfusion), ha]
  exact if_pos (Option.isSome_iff_ne_none.2 hraw)

end

/-- Settles O46: DEVELOP makes the duty and DE looks at its queue; DEVELOP_CANCEL ends a PENDING duty and asks the running
job to stop. -/
theorem developJoinsAndCancelLeavesTheQueue : Obligations.DevelopJoinsAndCancelLeavesTheQueue := by
  unfold Obligations.DevelopJoinsAndCancelLeavesTheQueue
  intro tag n r s hs hn hnd hr hq
  have hrow := Bm.row?_numbered hnd hr
  have hlen (b : Byte) : (leBytes 3 n ++ [b]).length = Request.develop.size := by
    rw [List.length_append, leBytes_length]
    rfl
  have howner (p : List Byte) (w : Work) : Request.develop.owner p w = answerDevelop p w := rfl
  have hlen3 : (leBytes 3 n).length = Request.developCancel.size := leBytes_length 3 n
  refine ⟨fun urgent hl hdis ha hraw he => ?_, fun c hl hdis ha hraw he hu hno hfree hlat => ?_, fun hl => ?_,
    fun hl hdis hrun => ?_, fun hp hl hopen hall htether hproof he => ?_, fun hrun => ?_⟩
  · -- a new duty waits behind the running job
    have hbody : ([(if urgent then DevelopClass.urgent else .normal).byte,
        BitVec.ofNat 8 (s.de.aheadOf (if urgent then .urgent else .normal))] : List Byte) =
        [if urgent then 0 else 1, BitVec.ofNat 8 (s.de.urgent.length + if urgent then 0 else s.de.normal.length)] := by
      cases urgent <;> rfl
    have hde : s.de.join r.index (if urgent then .urgent else .normal) = { s.de with
        urgent := if urgent then s.de.urgent ++ [r.index] else s.de.urgent,
        normal := if urgent then s.de.normal else s.de.normal ++ [r.index] } := by
      cases urgent <;> rfl
    refine request_done .develop (t := { s with
        bm := s.bm.mapRow r.index fun x => { x with cls := if urgent then .urgent else .normal, develop := .pending },
        de := { s.de with
          urgent := if urgent then s.de.urgent ++ [r.index] else s.de.urgent,
          normal := if urgent then s.de.normal else s.de.normal ++ [r.index] } }) hs (hlen _) rfl rfl
      (State.steady_congr rfl rfl hs.2.1) fun cp sent => ?_
    rw [← hbody, ← hde]
    have hcreate := Work.createDevelop_eq (w := { toState := { s with cp := cp, sent := sent }, bus := [] }) hnd hrow ha
      (if urgent then .urgent else .normal)
    refine ⟨_, answerDevelop_creates hn (flagOf_flagByte urgent) hr hl hdis ha hraw, ?_⟩
    rw [hcreate]
    exact .skip (Work.handle_developChanged_nil _ hq) (.skip (Work.handle_deLook _ (.inl (by
      show (s.de.join r.index _).engine = _
      rw [hde]
      exact he))) (.done _))
  · -- an idle engine starts the job at once
    refine request_done .develop (t := { s with
        bm := { (s.bm.mapRow r.index fun x => { x with
            cls := .urgent, develop := .running,
            proof := some { pages := s.bm.free.take 12, length := 12000064, frontier := 0 } })
          with free := s.bm.free.drop 12 },
        de := { s.de with
          engine := .running,
          job := some { row := r.index, slot := r.look, look := s.de.looks.getD r.look Look.defaults,
                        bins := List.replicate 64 0, clip := 0, cancel := false, discard := false } },
        mem := chainWrite s.mem (s.bm.free.take 12) 0 (1 :: chainRead s.mem c.pages 1 63),
        tu := { s.tu with reclaim := Decidable.decide ((s.bm.free.drop 12).length < s.bm.threshold) } }) hs (hlen _) rfl rfl
      (State.steady_congr rfl rfl hs.2.1) fun cp sent => ?_
    have hi : ∀ x : Row, ({ x with cls := .urgent, develop := .pending } : Row).index = x.index := fun _ => rfl
    have hcreate := Work.createDevelop_eq (w := { toState := { s with cp := cp, sent := sent }, bus := [] }) hnd hrow ha .urgent
    have hbody : ([(if true = true then DevelopClass.urgent else .normal).byte,
        BitVec.ofNat 8 (s.de.aheadOf (if true = true then .urgent else .normal))] : List Byte) = [0, 0] := by
      rw [show s.de.aheadOf (if true = true then .urgent else .normal) = 0 from by rw [if_pos rfl, De.aheadOf, hu]; rfl]
      rfl
    have htaken := answerDevelop_creates (w := { toState := { s with cp := cp, sent := sent }, bus := [] }) (b := 1)
      (urgent := true) hn rfl hr hl hdis ha (by rw [hraw]; exact Option.some_ne_none _)
    refine ⟨_, htaken.trans (congrArg _ hbody), ?_⟩
    rw [if_pos rfl, hcreate]
    refine .skip (Work.handle_developChanged_nil _ hq) ?_
    refine .step (Work.lookHead_starts (r := { r with cls := .urgent, develop := .pending }) (c := c)
      ((Bm.mapRow_index s.bm r.index hi).symm ▸ hnd) (Bm.row?_mapRow_same hrow hi) rfl hraw he
      (by show s.de.urgent ++ [r.index] = _; rw [hu]; rfl) hno hfree hlat) ?_
    refine .step (Work.handle_reclaim_empty _ _ hq) (.skip (Work.handle_developChanged_nil _ hq) ?_)
    have hbm := Bm.mapRow_mapRow (g := fun x : Row => { x with
      develop := .running, proof := some { pages := s.bm.free.take 12, length := 12000064, frontier := 0 } }) s.bm r.index hi
    dsimp only [De.join]
    rw [Bm.mapRow_free, hbm, hu, hno]
    exact .done _
  · exact request_turned .develop .state rfl hs (hlen _) fun cp sent => by
      rw [howner, answerDevelop_eq hn (urgent := false) rfl hr, if_pos (.inl hl)]
  · exact request_turned .develop .inUse rfl hs (hlen _) fun cp sent => by
      rw [howner, answerDevelop_eq hn (urgent := true) rfl hr,
        if_neg (by rw [hl, hdis]; exact fun h => h.elim (fun h => h rfl) Bool.noConfusion), hrun]
  · obtain ⟨d, hd, hf⟩ := hopen
    refine request_done .developCancel (t := { s with
        bm := s.bm.mapRow r.index fun x => { x with develop := .cancelled }, de := s.de.drop r.index }) hs hlen3 rfl rfl
      (State.steady_congr rfl rfl hs.2.1) fun cp sent => ?_
    refine ⟨_, (answerDevelopCancel_eq hn hr).trans (by rw [hp]), ?_⟩
    rw [Work.cancelPending_eq (w := { toState := { s with cp := cp, sent := sent }, bus := [] }) hnd hrow hp hd hf hall hproof]
    exact .skip (Work.handle_developChanged_nil _ hq) (.skip (Work.handle_proofLost _ hq)
      (.skip (Work.handle_deLook _ (.inl he)) (.done _)))
  · refine request_done .developCancel (t := { s with
        de := { s.de with job := s.de.job.map fun j => { j with cancel := true } } }) hs hlen3 rfl rfl
      (State.steady_congr rfl rfl hs.2.1) fun cp sent => ?_
    exact ⟨_, (answerDevelopCancel_eq hn hr).trans (by rw [hrun]), .done _⟩

end Sys2Proof.Machine
end

section
/-! PROOF. The lens comes and goes at the host's request (R67, R72, R73). -/

namespace Sys2Proof.Machine

section
variable {w : Work}

/-- A QUERY is sent while no supply warning is latched (R68, R91). -/
theorem Work.sendQuery_sends (bare : Bool) (h : w.pwc.latched = false) : w.sendQuery bare = { w with
    fu := { w.fu with query := true, bare := bare }, sent := .lensQuery :: w.sent } := by
  unfold Work.sendQuery
  rw [h]
  rfl

/-- FU publishes values of another state. -/
theorem Work.putFu_moves {f : Fu} (h : f.state ≠ w.fu.state) : w.putFu f = { w with
    fu := f, cp := w.cp.raise .focusState (f.state.byte :: zoneBytes f.zone), bus := w.bus ++ [.focus f.gate] } := by
  rw [Work.putFu, if_neg h]
  rfl

/-- FU publishes values of the same state. -/
theorem Work.putFu_stays {f : Fu} (h : f.state = w.fu.state) :
    w.putFu f = { w with fu := f, bus := w.bus ++ [.focus f.gate] } := by
  rw [Work.putFu, if_pos h]
  rfl

/-- FU publishes values and raises FOCUS_STATE. -/
def Work.showsFu (f : Fu) (w : Work) : Work := (({ w with fu := f } : Work).post (.focus f.gate)).raiseFocus

/-- FU when a lens has been attached with the half-press signal down (R72). -/
def Fu.attached (f : Fu) (d : Descriptor) : Fu := { f with
  descriptor := some d, known := false, moving := false, missing := 0, query := false, bare := false,
  firstQuery := false, frame := none, speed := 20, array := none, current := none, previous := none,
  published := none, tracking := Tracking.start f.active, seek := 0, state := .idle }

theorem Work.attachLens_idle {d : Descriptor} (hh : w.fu.halfPress = false) (hp : w.pwc.power = .run)
    (hl : w.pwc.latched = false) : w.attachLens d = { w with
      fu := { w.fu.attached d with query := true, bare := true }
      sent := .lensQuery :: w.sent
      cp := w.cp.raise .focusState [1, 0xFF, 0xFF]
      bus := w.bus ++ [.focus (w.fu.attached d).gate] } := by
  have hfresh : (if (w.fu.attached d).halfPress = true ∧ (w.fu.attached d).active.mode ≠ .manual then
      (w.fu.attached d).freshStart else w.fu.attached d) = w.fu.attached d :=
    if_neg fun h => Bool.noConfusion (hh.symm.trans h.1)
  have hdef : w.attachLens d = (fun v : Work => if w.pwc.power = .run then v.sendQuery true
      else { v with fu := { v.fu with firstQuery := true } })
      (w.showsFu (if (w.fu.attached d).halfPress = true ∧ (w.fu.attached d).active.mode ≠ .manual then
        (w.fu.attached d).freshStart else w.fu.attached d)) := rfl
  rw [hdef, hfresh]
  dsimp only
  rw [if_pos hp, Work.sendQuery_sends true (by exact hl)]
  rfl

end

/-- Settles O41: the descriptor is judged, then a move in flight; a taken lens is asked for its position. -/
theorem lensAttachAndDetach : Obligations.LensAttachAndDetach := by
  unfold Obligations.LensAttachAndDetach
  intro tag m k o t s hs hm hk ho p d
  have hbytes : descriptorOf p = if 1 ≤ m ∧ m ≤ 32767 ∧ 1 ≤ k ∧ k ≤ 32767 ∧ 1 ≤ t.toNat then some d else none := by
    have hm' : fieldAt p 0 2 = m := leNat_leBytes (k := 2) (by omega)
    have hk' : fieldAt p 2 2 = k := leNat_leBytes (k := 2) (by omega)
    have ht' : byteAt p 4 = t := rfl
    have ho' : fieldAt p 5 2 = o := leNat_leBytes (k := 2) (by omega)
    have hclamp : clampNat 50 2000 o = max 50 (min 2000 o) := by rw [clampNat]; omega
    simp only [descriptorOf, hm', hk', ht', ho', hclamp]
    rfl
  have ht : t ≠ 0 ↔ 1 ≤ t.toNat := by
    rw [Nat.one_le_iff_ne_zero, Ne, Ne, ← BitVec.toNat_inj]
    rfl
  refine ⟨fun h => ?_, fun h1 h2 h3 h4 h5 hmove => ?_, fun h1 h2 h3 h4 h5 hmove hrun hh hd => ?_, fun hst hd => ?_⟩
  · refine request_turned .lensAttach .badArg rfl hs rfl fun cp sent => ?_
    rw [Request.owner, answerLensAttach, hbytes, if_neg]
    rintro ⟨h1, h2, h3, h4, h5⟩
    rcases h with h | h | h | h | h
    · omega
    · omega
    · omega
    · omega
    · exact ht.2 h5 h
  · refine request_turned .lensAttach .busy rfl hs rfl fun cp sent => ?_
    rw [Request.owner, answerLensAttach, hbytes, if_pos ⟨h1, h2, h3, h4, ht.1 h5⟩]
    exact if_pos (Option.isSome_iff_ne_none.2 hmove)
  · refine request_comes .lensAttach (fun x => { x with
      fu := { s.fu.attached d with query := true, bare := true }
      sent := .lensQuery :: x.sent
      cp := x.cp.raise .focusState [1, 0xFF, 0xFF] }) hs rfl (fun cp sent => State.steady_congr (s := s) rfl rfl hs.2.1)
      fun cp sent => ?_
    rw [Request.owner, answerLensAttach, hbytes, if_pos ⟨h1, h2, h3, h4, ht.1 h5⟩]
    dsimp only
    rw [hmove]
    refine .taken (v := Work.attachLens d _) ?_
    rw [Work.attachLens_idle hh (congrArg Pwc.power hrun) (congrArg Pwc.latched hrun)]
    exact .skip (Work.handle_focus _ _ hd) (.done _)
  · refine request_comes .lensDetach (fun x => { x with
      fu := { s.fu with
        descriptor := none, query := false, bare := false, firstQuery := false, move := none, moveTimer := false,
        frame := none, array := none, current := none, previous := none, published := none,
        tracking := Tracking.start s.fu.active, missing := 0, known := false, state := .noLens }
      cp := x.cp.raise .focusState [0, 0xFF, 0xFF] }) hs rfl (fun cp sent => State.steady_congr (s := s) rfl rfl hs.2.1)
      fun cp sent => ?_
    rw [Request.owner, answerLensDetach, Work.detachLens, Work.putFu_moves (by exact fun h => hst h.symm)]
    exact .taken (.skip (Work.handle_focus _ _ hd) (.done _))

end Sys2Proof.Machine
end

section
/-! PROOF. AF settings and the host's moves of the lens (R75, R87). -/

namespace Sys2Proof.Machine

theorem afModeOf_byte (m : AfMode) : afModeOf m.byte = some m := by cases m <;> rfl
theorem afAreaOf_byte (a : AfArea) : afAreaOf a.byte = some a := by cases a <;> rfl

/-- AF settings in range are read back from their bytes (R75). -/
theorem afSettingsOf_bytes {n : AfSettings} (hcol : n.startCol ≤ 12) (hrow : n.startRow ≤ 8) (hc : n.cMin ≤ 131040)
    (hd : n.dMin ≤ 262080) : afSettingsOf n.bytes = some n := by
  have e0 : byteAt n.bytes 0 = n.mode.byte := rfl
  have e1 : byteAt n.bytes 1 = n.area.byte := rfl
  have e2 : (byteAt n.bytes 2).toNat = n.startCol := toNat_ofNat_byte (by omega)
  have e3 : (byteAt n.bytes 3).toNat = n.startRow := toNat_ofNat_byte (by omega)
  have e4 : byteAt n.bytes 4 = flagByte n.prediction := rfl
  have e5 : fieldAt n.bytes 5 4 = n.cMin := leNat_leBytes (k := 4) (by omega)
  have e9 : fieldAt n.bytes 9 4 = n.dMin := leNat_leBytes (k := 4) (by omega)
  simp only [afSettingsOf, e0, e1, e2, e3, e4, e5, e9, afModeOf_byte, afAreaOf_byte, flagOf_flagByte, hcol, hrow, and_self,
    if_true, clampNat_of_le ⟨Nat.zero_le _, hc⟩, clampNat_of_le ⟨Nat.zero_le _, hd⟩]

/-- FU when it has adopted settings with no half-press (R75, R76). -/
def Fu.adopted (f : Fu) (n : AfSettings) : Fu :=
  if n.area = f.active.area ∧ n.startCol = f.active.startCol ∧ n.startRow = f.active.startRow
    then { f with active := n, requested := none }
    else { f with active := n, requested := none, tracking := Tracking.start n, seek := 0 }

section
variable {w : Work}

theorem Work.requestAf_waits (n : AfSettings) (hl : w.fu.live = true) (hh : w.fu.halfPress = true) :
    w.requestAf n = { w with fu := { w.fu with requested := some n } } := by
  rw [Work.requestAf, hl, hh]
  rfl

theorem Work.requestAf_adopts (n : AfSettings) (hh : w.fu.halfPress = false) (hm : w.fu.move = none) :
    w.requestAf n = { w with fu := w.fu.adopted n, bus := w.bus ++ [.focus (w.fu.adopted n).gate] } := by
  have hst : (w.fu.adopted n).state = w.fu.state ∧ (w.fu.adopted n).move = none ∧ (w.fu.adopted n).halfPress = false := by
    unfold Fu.adopted
    split <;> exact ⟨rfl, hm, hh⟩
  have hfresh : (if n.mode ≠ w.fu.active.mode ∧ (w.fu.adopted n).halfPress = true ∧ (w.fu.adopted n).live = true then
      (w.fu.adopted n).freshStart else w.fu.adopted n) = w.fu.adopted n :=
    if_neg fun h => Bool.noConfusion (hst.2.2.symm.trans h.2.1)
  have hdef : Work.adoptAf { w with fu := { w.fu with requested := some n } } = (fun f2 : Fu =>
      if n.mode ≠ w.fu.active.mode ∧ n.mode = .manual ∧ (f2.move.any fun m => Decidable.decide (m.origin = .af)) = true then
        (Work.putFu f2 { w with fu := { w.fu with requested := some n } }).haltLens
      else Work.putFu f2 { w with fu := { w.fu with requested := some n } })
      (if n.mode ≠ w.fu.active.mode ∧ (w.fu.adopted n).halfPress = true ∧ (w.fu.adopted n).live = true then
        (w.fu.adopted n).freshStart else w.fu.adopted n) := rfl
  rw [Work.requestAf, if_pos (.inr hh), hdef, hfresh]
  dsimp only
  rw [hst.2.1, if_neg fun h => Bool.noConfusion h.2.2]
  exact Work.putFu_stays (w := { w with fu := { w.fu with requested := some n } }) hst.1

/-- A MOVE that opens the move record (R69). -/
theorem Work.moveLens_opens {target : Nat} {origin : MoveOrigin} (hk : w.fu.known = true) (hl : w.pwc.latched = false)
    (hm : w.fu.move = none) (hne : target ≠ w.fu.position) : w.moveLens target origin = { w with
      fu := { w.fu with
        move := some { target := target, origin := origin, startPos := w.fu.position, startTime := w.now, halted := false },
        moveTimer := true, moving := true }
      sent := .lensMove target :: w.sent } := by
  unfold Work.moveLens
  dsimp only
  rw [hk, hl, if_neg (fun h => h.elim Bool.noConfusion Bool.noConfusion), hm]
  exact if_neg hne

/-- HALT is sent to a move that has none unanswered (R70). -/
theorem Work.haltLens_halts {m : MoveRecord} (hm : w.fu.move = some m) (hh : m.halted = false) : w.haltLens = { w with
    fu := { w.fu with move := some { m with halted := true } }, sent := .lensHalt :: w.sent } := by
  unfold Work.haltLens
  rw [hm]
  exact if_neg (by rw [hh]; exact Bool.false_ne_true)

theorem answerLensMove_eq {halt : Bool} {b : Byte} {target : Nat} (hb : flagOf b = some halt) (ht : target < 65536) :
    answerLensMove (b :: leBytes 2 target) w =
      if w.fu.live = false ∨ w.fu.known = false then .refused .notReady
      else if w.pwc.power ≠ .run then .refused .state
      else if halt = false ∧ ((w.fu.descriptor.map Descriptor.lensMax).getD 0) < target then .refused .badArg
      else if w.fu.active.mode = .continuous ∧ (w.fu.move.any fun m => Decidable.decide (m.origin = .af)) = true then
        .refused .lensBusy
      else .taken (if halt then (if w.pwc.latched then w else w.haltLens) else w.moveLens target .host)
        (lensMoveBytes (if halt then (if w.pwc.latched then w else w.haltLens) else w.moveLens target .host).fu) := by
  have hfield : fieldAt (b :: leBytes 2 target) 1 2 = target := leNat_leBytes (k := 2) (by omega)
  have hflag : flagOf (byteAt (b :: leBytes 2 target) 0) = some halt := hb
  simp only [answerLensMove, hfield, hflag]

end

/-- Settles O42: the settings wait under a half-press and are adopted without one; a host's move is judged before it is
sent. -/
theorem focusIsSetAndMovedByTheHost : Obligations.FocusIsSetAndMovedByTheHost := by
  unfold Obligations.FocusIsSetAndMovedByTheHost
  intro tag n target s hs hcol hrow hc hd ht
  have hof := afSettingsOf_bytes hcol hrow hc hd
  have hsize : Request.lensMove.size = 3 := rfl
  refine ⟨fun hl hh => ?_, fun hh hm hdr => ?_, fun h => ?_, fun hl hk hrun hmode hmove => ?_,
    fun d hl hk hrun hdesc hle hm hne => ?_, fun m hl hk hrun hmode hm hhalt => ?_⟩
  · refine request_done .afSet (t := { s with fu := { s.fu with requested := some n } }) hs rfl rfl rfl
      (State.steady_congr (s := s) rfl rfl hs.2.1) fun cp sent => ?_
    rw [Request.owner, answerAfSet, hof]
    dsimp only
    rw [Work.requestAf_waits n hl hh]
    exact .taken (.done _)
  · refine request_done .afSet (t := { s with fu := s.fu.adopted n }) hs rfl rfl rfl
      (State.steady_congr (s := s) rfl rfl hs.2.1) fun cp sent => ?_
    rw [Request.owner, answerAfSet, hof]
    dsimp only
    rw [Work.requestAf_adopts n hh hm]
    have hreq : (s.fu.adopted n).requested = none := by
      unfold Fu.adopted
      split <;> rfl
    dsimp only
    rw [hreq]
    exact .taken (.skip (Work.handle_focus _ _ hdr) (.done _))
  · have hturned {b : Byte} {halt : Bool} (hb : flagOf b = some halt) :=
      request_turned (p := b :: leBytes 2 target) (tag := tag) (s := s) .lensMove .notReady rfl hs rfl fun cp sent =>
        (answerLensMove_eq (w := { toState := { s with cp := cp, sent := sent }, bus := [] }) hb ht).trans (if_pos h)
    exact ⟨hturned rfl, hturned rfl⟩
  · obtain ⟨m, hm, hor⟩ := hmove
    have hlive : ¬ (s.fu.live = false ∨ s.fu.known = false) := by
      rw [hl, hk]
      exact fun h => h.elim Bool.noConfusion Bool.noConfusion
    have hturned {b : Byte} {halt : Bool} (hb : flagOf b = some halt)
        (hle : ¬ (halt = false ∧ ((s.fu.descriptor.map Descriptor.lensMax).getD 0) < target)) :
        request .lensMove tag (b :: leBytes 2 target) s = .next (s.replied .lensMove tag [Result.lensBusy.byte]) := by
      refine request_turned .lensMove .lensBusy rfl hs rfl fun cp sent => ?_
      refine (answerLensMove_eq (w := { toState := { s with cp := cp, sent := sent }, bus := [] }) hb ht).trans ?_
      rw [if_neg hlive, if_neg (fun h => h (congrArg Pwc.power hrun)), if_neg hle, if_pos]
      refine ⟨hmode, ?_⟩
      rw [hm]
      exact decide_eq_true hor
    refine ⟨fun d hdesc hle => hturned (b := 0) (halt := false) rfl ?_, hturned (b := 1) (halt := true) rfl fun h => Bool.noConfusion h.1⟩
    rw [hdesc]
    exact fun h => absurd h.2 (not_lt.2 hle)
  · refine request_comes .lensMove (fun x => { x with
      fu := { s.fu with
        move := some { target := target, origin := .host, startPos := s.fu.position, startTime := s.now, halted := false },
        moveTimer := true, moving := true },
      sent := .lensMove target :: x.sent }) hs rfl (fun cp sent => State.steady_congr (s := s) rfl rfl hs.2.1)
      fun cp sent => ?_
    refine ⟨Work.moveLens target .host { toState := { s with cp := cp, sent := sent }, bus := [] },
      (answerLensMove_eq (b := 0) (halt := false) rfl ht).trans ?_, ?_⟩
    · rw [if_neg (by rw [hl, hk]; exact fun h => h.elim Bool.noConfusion Bool.noConfusion),
        if_neg (fun h => h (congrArg Pwc.power hrun)), if_neg (by rw [hdesc]; exact fun h => absurd h.2 (not_lt.2 hle)),
        if_neg (by rw [hm]; exact fun h => Bool.noConfusion h.2), if_neg Bool.false_ne_true,
        Work.moveLens_opens hk (congrArg Pwc.latched hrun) hm hne]
      rfl
    · rw [Work.moveLens_opens hk (congrArg Pwc.latched hrun) hm hne]
      exact .done _
  · refine request_comes .lensMove (fun x => { x with
      fu := { s.fu with move := some { m with halted := true } },
      sent := .lensHalt :: x.sent }) hs rfl (fun cp sent => State.steady_congr (s := s) rfl rfl hs.2.1) fun cp sent => ?_
    have hhalts := Work.haltLens_halts (w := { toState := { s with cp := cp, sent := sent }, bus := [] }) hm hhalt
    refine ⟨Work.haltLens { toState := { s with cp := cp, sent := sent }, bus := [] },
      (answerLensMove_eq (b := 1) (halt := true) rfl ht).trans ?_, ?_⟩
    · rw [if_neg (by rw [hl, hk]; exact fun h => h.elim Bool.noConfusion Bool.noConfusion),
        if_neg (fun h => h (congrArg Pwc.power hrun)), if_neg (fun h => Bool.noConfusion h.1),
        if_neg (fun h => hmode h.1), if_pos rfl,
        if_neg (by rw [show s.pwc.latched = false from congrArg Pwc.latched hrun]; exact Bool.false_ne_true), hhalts]
      rfl
    · rw [hhalts]
      exact .done _

end Sys2Proof.Machine
end

section
/-! PROOF. The answers of the lens and FU's timers (R67 to R71, R74). -/

namespace Sys2Proof.Machine

section
variable {w : Work}

/-! ### What a lens message can change -/

/-- FU has acted on the lens: of the other blocks the notices, the messages sent and the gates reported alone have changed. -/
def Work.Focuses (w v : Work) : Prop :=
  ∃ fu cp sent, ∃ gates : List (Option GateOutcome), gates.length ≤ 2 ∧
    v = { w with fu := fu, cp := cp, sent := sent, bus := w.bus ++ gates.map Report.focus }

theorem Work.drain_gates (s : State) (h : s.rdu.drive ≠ .waitingFocus) :
    ∀ (gates : List (Option GateOutcome)) (n : Nat), gates.length ≤ n →
      Work.Comes { toState := s, bus := gates.map Report.focus } n s
  | [], _, _ => .done s
  | g :: gates, n + 1, hn => .skip (Work.handle_focus _ g h) (Work.drain_gates s h gates n (Nat.le_of_succ_le_succ hn))

/-- A step in which FU alone acts ends in the state it leaves. -/
theorem Work.Focuses.comes {s : State} {v : Work} (h : Work.Focuses { toState := s, bus := [] } v)
    (hd : s.rdu.drive ≠ .waitingFocus) : v.Comes 4096 v.toState := by
  obtain ⟨fu, cp, sent, gates, hg, rfl⟩ := h
  exact Work.drain_gates { s with fu := fu, cp := cp, sent := sent } hd gates 4096 (hg.trans (by decide))

theorem exec_focuses {c : Instr} {s : State} {v : Work} (op : Work → Work) (hop : exec c s = .next (run op s))
    (hs : s.steady) (hd : s.rdu.drive ≠ .waitingFocus) (hv : op { toState := s, bus := [] } = v)
    (h : Work.Focuses { toState := s, bus := [] } v) : exec c s = .next v.toState := by
  have hc := h.comes hd
  have hst : v.toState.steady := by
    obtain ⟨fu, cp, sent, gates, -, rfl⟩ := h
    exact State.steady_congr (s := s) rfl rfl hs
  exact exec_comes op hop hst (by rw [hv]; exact hc)

theorem Work.Focuses.fu (f : Fu) : w.Focuses { w with fu := f } :=
  ⟨f, w.cp, w.sent, [], Nat.zero_le _, by rw [List.map_nil, List.append_nil]⟩

/-! ### The completion of a frame (R80) does not look at the missing count -/

/-- The work with FU's count of missing answers replaced. -/
def Work.missed (k : Nat) (w : Work) : Work := { w with fu := { w.fu with missing := k } }

theorem Work.putFu_missed (f : Fu) (j k : Nat) : Work.putFu { f with missing := k } (w.missed j) = (w.putFu f).missed k := by
  by_cases h : f.state = w.fu.state
  · rw [Work.putFu_stays h, Work.putFu_stays (w := w.missed j) (f := { f with missing := k }) h]
    rfl
  · rw [Work.putFu_moves h, Work.putFu_moves (w := w.missed j) (f := { f with missing := k }) h]
    rfl

/-- A MOVE is not sent to where the lens is or already goes, without a known position, or after the warning (R69, R91). -/
theorem Work.moveLens_same {t : Nat} {o : MoveOrigin} (h : w.fu.known = false ∨ w.pwc.latched = true ∨
    (w.fu.move = none ∧ t = w.fu.position) ∨ ∃ m, w.fu.move = some m ∧ t = m.target) : w.moveLens t o = w := by
  unfold Work.moveLens
  dsimp only
  rcases h with h | h | ⟨hm, ht⟩ | ⟨m, hm, ht⟩
  · exact if_pos (.inl h)
  · exact if_pos (.inr h)
  · rw [hm]
    dsimp only
    rw [if_pos ht, ite_self]
  · rw [hm]
    dsimp only
    rw [if_pos ht, ite_self]

/-- A MOVE in flight gets another target (R69). -/
theorem Work.moveLens_retargets {t : Nat} {o : MoveOrigin} {m : MoveRecord} (hk : w.fu.known = true)
    (hl : w.pwc.latched = false) (hm : w.fu.move = some m) (hne : t ≠ m.target) : w.moveLens t o = { w with
      fu := { w.fu with move := some { m with target := t, origin := o }, moveTimer := true, moving := true }
      sent := .lensMove t :: w.sent } := by
  unfold Work.moveLens
  dsimp only
  rw [hk, hl, if_neg (fun h => h.elim Bool.noConfusion Bool.noConfusion), hm]
  exact if_neg hne

theorem Work.moveLens_missed (t : Nat) (o : MoveOrigin) (k : Nat) : (w.missed k).moveLens t o = (w.moveLens t o).missed k := by
  cases hk : w.fu.known with
  | false => rw [Work.moveLens_same (.inl hk), Work.moveLens_same (w := w.missed k) (.inl hk)]
  | true =>
    cases hl : w.pwc.latched with
    | true => rw [Work.moveLens_same (.inr (.inl hl)), Work.moveLens_same (w := w.missed k) (.inr (.inl hl))]
    | false =>
      cases hm : w.fu.move with
      | none =>
        by_cases ht : t = w.fu.position
        · rw [Work.moveLens_same (.inr (.inr (.inl ⟨hm, ht⟩))),
            Work.moveLens_same (w := w.missed k) (.inr (.inr (.inl ⟨hm, ht⟩)))]
        · rw [Work.moveLens_opens hk hl hm ht, Work.moveLens_opens (w := w.missed k) hk hl hm ht]
          rfl
      | some m =>
        by_cases ht : t = m.target
        · rw [Work.moveLens_same (.inr (.inr (.inr ⟨m, hm, ht⟩))),
            Work.moveLens_same (w := w.missed k) (.inr (.inr (.inr ⟨m, hm, ht⟩)))]
        · rw [Work.moveLens_retargets hk hl hm ht, Work.moveLens_retargets (w := w.missed k) hk hl hm ht]
          rfl

/-- FU after its frame has been completed, and the MOVE it asks for (R80 to R85). -/
def Fu.completes (f : Fu) (d : Descriptor) (fr : FrameRecord) (shapes : List ZoneShape) (lead : Nat) : Fu × Option Nat :=
  let zones := shapes.map (estimateOf d fr.position)
  let won := winnerOf (heldFor f.active f.tracking) (candidates zones (zoneSet f.active f.tracking))
  let e := estimateFor f d fr lead won
  let f1 : Fu := { f with
    tracking := f.tracking.after f.active.area won, previous := f.current, current := some e, published := some e,
    array := some { frameId := fr.frameId, kind := fr.kind, timestamp := fr.timestamp, position := fr.position,
                    zones := zones } }
  let r := f1.react d e
  ({ f1 with state := r.1, seek := r.2.1 }, r.2.2)

/-- FU publishes values, and sends a MOVE if one is asked for. -/
def Work.showsAndMoves (x : Fu × Option Nat) (w : Work) : Work :=
  match x.2 with
  | some t => (w.putFu x.1).moveLens t .af
  | none => w.putFu x.1

theorem Work.completeFrame_eq {d : Descriptor} {fr : FrameRecord} {shapes : List ZoneShape} (hf : w.fu.frame = some fr)
    (hd : w.fu.descriptor = some d) (hs : fr.formed = some shapes) :
    w.completeFrame = w.showsAndMoves (w.fu.completes d fr shapes w.lead) := by
  unfold Work.completeFrame
  rw [hf, hd]
  dsimp only
  rw [hs]
  rfl

theorem Work.completeFrame_none {fr : FrameRecord} (hf : w.fu.frame = some fr) (hs : fr.formed = none) :
    w.completeFrame = w := by
  unfold Work.completeFrame
  split
  · next fr' d hfr hd =>
    rw [hf] at hfr
    cases hfr
    rw [hs]
  · rfl

theorem Fu.completes_missed (f : Fu) (d : Descriptor) (fr : FrameRecord) (shapes : List ZoneShape) (lead k : Nat) :
    Fu.completes { f with missing := k } d fr shapes lead =
      ({ (f.completes d fr shapes lead).1 with missing := k }, (f.completes d fr shapes lead).2) := rfl

theorem Work.showsAndMoves_missed (f : Fu) (m : Option Nat) (k : Nat) :
    (w.missed k).showsAndMoves ({ f with missing := k }, m) = (w.showsAndMoves (f, m)).missed k := by
  cases m with
  | none => exact Work.putFu_missed f k k
  | some t => exact (congrArg (Work.moveLens t .af) (Work.putFu_missed f k k)).trans (Work.moveLens_missed t .af k)

theorem Work.completeFrame_missed (k : Nat) : (w.missed k).completeFrame = w.completeFrame.missed k := by
  cases hf : w.fu.frame with
  | none =>
    unfold Work.completeFrame
    rw [show (w.missed k).fu.frame = none from hf, hf]
  | some fr =>
    cases hs : fr.formed with
    | none => rw [Work.completeFrame_none hf hs, Work.completeFrame_none (w := w.missed k) hf hs]
    | some shapes =>
      cases hd : w.fu.descriptor with
      | none =>
        unfold Work.completeFrame
        rw [show (w.missed k).fu.frame = some fr from hf, show (w.missed k).fu.descriptor = none from hd, hf, hd]
      | some d =>
        rw [Work.completeFrame_eq hf hd hs, Work.completeFrame_eq (w := w.missed k) hf hd hs]
        exact Work.showsAndMoves_missed (w.fu.completes d fr shapes w.lead).1 (w.fu.completes d fr shapes w.lead).2 k

theorem Work.settleFrame_missed (p : Option Nat) (m : Bool) (k : Nat) :
    (w.missed k).settleFrame p m = (w.settleFrame p m).missed k := by
  unfold Work.settleFrame
  rw [show (w.missed k).fu.frame = w.fu.frame from rfl]
  split
  · split
    · rfl
    · exact Work.completeFrame_missed (w := { w with fu := { w.fu with frame := _ } }) k
  · rfl

/-! ### What the completion can change -/

theorem Work.Focuses.putFu (f : Fu) : w.Focuses (w.putFu f) := by
  by_cases h : f.state = w.fu.state
  · rw [Work.putFu_stays h]
    exact ⟨f, w.cp, w.sent, [f.gate], Nat.le_succ 1, rfl⟩
  · rw [Work.putFu_moves h]
    exact ⟨f, _, w.sent, [f.gate], Nat.le_succ 1, rfl⟩

theorem Work.moveLens_acts (t : Nat) (o : MoveOrigin) :
    ∃ fu sent, w.moveLens t o = { w with fu := fu, sent := sent } := by
  unfold Work.moveLens
  dsimp only
  split
  · exact ⟨_, _, rfl⟩
  · split
    · split <;> exact ⟨_, _, rfl⟩
    · split <;> exact ⟨_, _, rfl⟩

theorem Work.Focuses.showsAndMoves (x : Fu × Option Nat) : w.Focuses (w.showsAndMoves x) := by
  obtain ⟨f, m⟩ := x
  obtain ⟨fu, cp, sent, gates, hg, hv⟩ := Work.Focuses.putFu (w := w) f
  cases m with
  | none => exact ⟨fu, cp, sent, gates, hg, hv⟩
  | some t =>
    obtain ⟨fu2, sent2, h2⟩ := Work.moveLens_acts (w := w.putFu f) t .af
    refine ⟨fu2, cp, sent2, gates, hg, h2.trans ?_⟩
    rw [hv]

theorem Work.Focuses.completeFrame (f : Fu) : w.Focuses (Work.completeFrame { w with fu := f }) := by
  unfold Work.completeFrame
  split
  · split
    · exact Work.Focuses.showsAndMoves (w := { w with fu := f }) (Fu.completes _ _ _ _ _)
    · exact .fu f
  · exact .fu f

theorem Work.Focuses.settleFrame (f : Fu) (p : Option Nat) (m : Bool) :
    w.Focuses (Work.settleFrame p m { w with fu := f }) := by
  unfold Work.settleFrame
  split
  · split
    · exact .fu f
    · exact .completeFrame _
  · exact .fu f

end

/-! ### The lens answers -/

section
variable {w : Work} {p : Nat} {moving : Bool}

/-- FU when a POS has answered its QUERY (R68). -/
def Fu.answered (f : Fu) (p : Nat) (moving : Bool) : Fu := { f with
  query := false, bare := false, position := p, moving := moving, known := true, missing := 0 }

theorem Work.takePos_ignored (h : w.fu.query = false ∨ w.fu.live = false) : w.takePos p moving = w := by
  refine if_neg fun hh => ?_
  rcases h with h | h
  · exact Bool.noConfusion (h.symm.trans hh.2)
  · have hl : (w.fu.live && !Decidable.decide (w.pwc.power = .halt) && !w.pwc.latched) = true := hh.1
    rw [h] at hl
    exact Bool.noConfusion hl

theorem Work.takePos_answers (hl : w.fu.live = true) (hp : w.toState.inRun) (hq : w.fu.query = true) :
    w.takePos p moving = if w.fu.bare then { w with fu := w.fu.answered p moving }
      else Work.settleFrame (some p) moving { w with fu := w.fu.answered p moving } := by
  have hpwc : w.pwc = { power := .run, latched := false, responses := none } := hp
  have hears : w.hearsLens = true := by
    rw [Work.hearsLens, hl, hpwc]
    rfl
  exact if_pos ⟨hears, hq⟩

/-- A frame whose estimates are not formed is settled and waits for them (R68). -/
theorem Work.settleFrame_unformed {f : FrameRecord} (hf : w.fu.frame = some f) (hs : f.settled = false)
    (hn : f.formed = none) : w.settleFrame (some p) moving = { w with fu := { w.fu with
      frame := some { f with settled := true, position := some p, moving := moving } } } ∧
    ∀ q, w.settleFrame q moving = { w with fu := { w.fu with
      frame := some { f with settled := true, position := q, moving := moving } } } := by
  have h (q : Option Nat) : w.settleFrame q moving = { w with fu := { w.fu with
      frame := some { f with settled := true, position := q, moving := moving } } } := by
    unfold Work.settleFrame
    rw [hf]
    dsimp only
    rw [hs]
    exact Work.completeFrame_none (w := { w with fu := { w.fu with
      frame := some { f with settled := true, position := q, moving := moving } } }) rfl hn
  exact ⟨h _, h⟩

/-- FU when an ARRIVED has ended the move (R69). -/
def Fu.arrives (f : Fu) (p : Nat) : Fu := { f with
  position := p, moving := false, known := true, missing := 0, move := none, moveTimer := false }

theorem Work.takeArrived_dead (h : w.fu.live = false) : w.takeArrived p = w := if_pos (.inl h)

theorem Work.takeArrived_eq (hl : w.fu.live = true) (hp : w.toState.inRun) : w.takeArrived p = match w.fu.move with
    | some m =>
      if m.halted = false ∧ 50 ≤ natDist p m.startPos then
        { w with fu := { w.fu.arrives p with speed := speedOf (natDist p m.startPos) (w.now - m.startTime) } }
      else { w with fu := w.fu.arrives p }
    | none => { w with fu := w.fu.arrives p } := by
  have hpwc : w.pwc = { power := .run, latched := false, responses := none } := hp
  have hnot : ¬ (w.fu.live = false ∨ w.pwc.power = .halt ∨ (w.pwc.latched = true ∧ w.fu.move = none)) := by
    rw [hl, hpwc]
    rintro (h | h | h)
    · exact Bool.noConfusion h
    · exact Power.noConfusion h
    · exact Bool.noConfusion h.1
  refine (if_neg hnot).trans ?_
  rw [hpwc]
  simp only [and_true]
  rfl

/-! ### The timers -/

theorem Work.answerExpires_none (h : w.fu.query = false) : w.answerExpires = w := if_neg (by rw [h]; exact Bool.false_ne_true)

/-- FU when an answer is missing (R68). -/
def Fu.misses (f : Fu) : Fu := { f with query := false, bare := false, missing := min 3 (f.missing + 1) }

theorem Work.answerExpires_eq (h : w.fu.query = true) :
    w.answerExpires = (fun v : Work => if 3 ≤ min 3 (w.fu.missing + 1) then v.faultLens else v)
      (if w.fu.bare then { w with fu := w.fu.misses }
        else Work.settleFrame w.fu.heldPosition w.fu.moving { w with fu := w.fu.misses }) := if_pos h

theorem Work.settleFrame_none {q : Option Nat} (h : w.fu.frame = none) : w.settleFrame q moving = w := by
  unfold Work.settleFrame
  rw [h]

/-- FU when the lens has faulted (R71). -/
def Fu.faulted (f : Fu) : Fu :=
  { f with query := false, bare := false, moveTimer := false, move := none, published := none, state := .fault }

theorem Work.faultLens_eq (h : w.fu.state ≠ .fault) : w.faultLens = { w with
    fu := w.fu.faulted, cp := (w.cp.raise .lensFault []).raise .focusState [7, 0xFF, 0xFF]
    bus := w.bus ++ [.focus w.fu.faulted.gate] } :=
  Work.putFu_moves (w := w.raise .lensFault []) (f := w.fu.faulted) fun e => h e.symm

theorem Work.Focuses.faultLens (h : w.fu.state ≠ .fault) : w.Focuses w.faultLens := by
  rw [Work.faultLens_eq h]
  exact ⟨_, _, w.sent, [w.fu.faulted.gate], Nat.le_succ 1, rfl⟩

theorem Work.moveExpires_eq (h : w.fu.moveTimer = true) : w.moveExpires = w.faultLens := if_pos h
theorem Work.moveExpires_none (h : w.fu.moveTimer = false) : w.moveExpires = w :=
  if_neg (by rw [h]; exact Bool.false_ne_true)

end

section
variable {s : State}

/-- A command of the lens link after which FU alone is another. -/
theorem exec_sets {c : Instr} (op : Work → Work) (f : Fu) (hop : exec c s = .next (run op s)) (hs : s.steady)
    (h : op { toState := s, bus := [] } = { toState := { s with fu := f }, bus := [] }) :
    exec c s = .next { s with fu := f } :=
  exec_comes op hop (State.steady_congr (s := s) rfl rfl hs) (by rw [h]; exact .done _)

/-- A command of the lens link after which the lens has faulted. -/
theorem exec_faults {c : Instr} (op : Work → Work) (f : Fu) (hop : exec c s = .next (run op s)) (hs : s.steady)
    (hd : s.rdu.drive ≠ .waitingFocus) (hf : f.state ≠ .fault)
    (h : op { toState := s, bus := [] } = Work.faultLens { toState := { s with fu := f }, bus := [] }) :
    exec c s = .next ((({ s with fu := f.faulted } : State).raised .lensFault []).raised .focusState [7, 0xFF, 0xFF]) := by
  have heq := Work.faultLens_eq (w := { toState := { s with fu := f }, bus := [] }) hf
  have hfoc : Work.Focuses { toState := s, bus := [] } (Work.faultLens { toState := { s with fu := f }, bus := [] }) := by
    rw [heq]
    exact ⟨_, _, s.sent, [f.faulted.gate], Nat.le_succ 1, rfl⟩
  have hexec := exec_focuses op hop hs hd h hfoc
  rw [heq] at hexec
  exact hexec

end

/-- Settles O43: each answer and each timer changes FU's record of the lens as its rule says; a fault publishes. -/
theorem lensAnswersAndTimers : Obligations.LensAnswersAndTimers := by
  unfold Obligations.LensAnswersAndTimers
  intro p moving s hs hd
  have hpos : exec (.pos p moving) s = .next (run (Work.takePos p.toNat moving) s) := rfl
  have harr : exec (.arrived p) s = .next (run (Work.takeArrived p.toNat) s) := rfl
  have hans : exec .answerTimerExpiry s = .next (run Work.answerExpires s) := rfl
  have hmove : exec .moveTimerExpiry s = .next (run Work.moveExpires s) := rfl
  refine ⟨fun h => ?_, fun hl hr hq hb => ?_, fun f hl hr hq hb hf hset hform => ?_, fun m hl hr hm hh h50 ht => ?_,
    fun m hl hr hm hh => ?_, fun hl => ?_, fun hl hr hm ht => ?_, fun hq => ?_, fun f hq hb hf hset => ⟨fun hform => ⟨fun hlt => ?_,
    fun heq hst => ?_⟩, fun hl hr hk hp hm hlt => ?_⟩, fun hq hf hlt => ?_, fun hq hf heq hst => ?_, fun ht => ?_, fun ht hst => ?_⟩
  · exact exec_same _ hpos hs (Work.takePos_ignored h)
  · refine exec_sets _ (s.fu.answered p.toNat moving) hpos hs ?_
    exact (Work.takePos_answers (w := { toState := s, bus := [] }) hl hr hq).trans (if_pos hb)
  · have hfu : ({ s.fu.answered p.toNat moving with
        frame := some { f with settled := true, position := some p.toNat, moving := moving } } : Fu) = { s.fu with
        query := false, position := p.toNat, moving := moving, known := true, missing := 0,
        frame := some { f with settled := true, position := some p.toNat, moving := moving } } := by
      rw [Fu.answered, ← hb]
    rw [← hfu]
    refine exec_sets _ _ hpos hs ?_
    refine (Work.takePos_answers (w := { toState := s, bus := [] }) hl hr hq).trans ((if_neg (by
      rw [hb]
      exact Bool.false_ne_true)).trans ?_)
    exact (Work.settleFrame_unformed (w := { toState := { s with fu := s.fu.answered p.toNat moving }, bus := [] }) hf hset
      hform).1
  · refine exec_sets _ { s.fu.arrives p.toNat with
      speed := speedOf (natDist p.toNat m.startPos) (s.now - m.startTime) } harr hs ?_ |>.trans ?_
    · refine (Work.takeArrived_eq (w := { toState := s, bus := [] }) hl hr).trans ?_
      rw [hm]
      exact if_pos ⟨hh, h50⟩
    · rw [speedOf, if_neg (by omega)]
      rfl
  · refine exec_sets _ (s.fu.arrives p.toNat) harr hs ?_
    refine (Work.takeArrived_eq (w := { toState := s, bus := [] }) hl hr).trans ?_
    rw [hm]
    refine if_neg fun hc => ?_
    rcases hh with hh | hh
    · exact Bool.noConfusion (hh.symm.trans hc.1)
    · exact absurd hc.2 (not_le.2 hh)
  · exact exec_same _ harr hs (Work.takeArrived_dead hl)
  · have hfu : s.fu.arrives p.toNat = { s.fu with
        position := p.toNat, moving := false, known := true, missing := 0 } := by
      rw [Fu.arrives, ← hm, ← ht]
    rw [← hfu]
    refine exec_sets _ _ harr hs ?_
    refine (Work.takeArrived_eq (w := { toState := s, bus := [] }) hl hr).trans ?_
    rw [hm]
  · exact exec_same _ hans hs (Work.answerExpires_none hq)
  · -- the frame is settled with the held position
    have hfu : ({ s.fu.misses with
        frame := some { f with settled := true, position := s.fu.heldPosition, moving := s.fu.moving } } : Fu) = { s.fu with
        query := false, missing := s.fu.missing + 1,
        frame := some { f with
          settled := true, position := if s.fu.known then some s.fu.position else none, moving := s.fu.moving } } := by
      rw [Fu.misses, ← hb, Nat.min_eq_right (by omega)]
      rfl
    refine (exec_sets _ _ hans hs ?_).trans (congrArg (fun x : Fu => Host.Outcome.next { s with fu := x }) hfu)
    refine (Work.answerExpires_eq (w := { toState := s, bus := [] }) hq).trans ?_
    dsimp only
    rw [if_neg (by rw [Nat.min_eq_right (by omega)]; omega), if_neg (by rw [hb]; exact Bool.false_ne_true)]
    exact (Work.settleFrame_unformed (w := { toState := { s with fu := s.fu.misses }, bus := [] }) (p := 0) hf hset hform).2 _
  · have hfault := exec_faults (s := s) Work.answerExpires { s.fu.misses with
      frame := some { f with settled := true, position := s.fu.heldPosition, moving := s.fu.moving } } hans hs hd hst (by
        refine (Work.answerExpires_eq (w := { toState := s, bus := [] }) hq).trans ?_
        dsimp only
        rw [if_pos (by rw [heq]; decide), if_neg (by rw [hb]; exact Bool.false_ne_true)]
        exact congrArg Work.faultLens ((Work.settleFrame_unformed
          (w := { toState := { s with fu := s.fu.misses }, bus := [] }) (p := 0) hf hset hform).2 _))
    refine hfault.trans ?_
    rw [Fu.misses, Nat.min_eq_right (by omega)]
    rfl
  · -- a POS of the held position does the same but for the count of missing answers
    have hfu : s.fu.answered p.toNat moving = { s.fu.misses with missing := 0 } := by
      rw [Fu.answered, Fu.misses, hp, hm, ← hk]
    have hsettle := Work.settleFrame_missed (w := { toState := { s with fu := s.fu.misses }, bus := [] })
      (some p.toNat) moving
    have hheld : s.fu.heldPosition = some p.toNat := by
      rw [Fu.heldPosition, hk, hp]
      rfl
    have hfoc := Work.Focuses.settleFrame (w := { toState := s, bus := [] }) s.fu.misses (some p.toNat) moving
    have hfoc0 := Work.Focuses.settleFrame (w := { toState := s, bus := [] }) (s.fu.answered p.toNat moving)
      (some p.toNat) moving
    have hopPos : Work.takePos p.toNat moving { toState := s, bus := [] } =
        Work.settleFrame (some p.toNat) moving { toState := { s with fu := s.fu.answered p.toNat moving }, bus := [] } :=
      (Work.takePos_answers (w := { toState := s, bus := [] }) hl hr hq).trans
        (if_neg (by rw [hb]; exact Bool.false_ne_true))
    have hopAns : Work.answerExpires { toState := s, bus := [] } =
        Work.settleFrame (some p.toNat) moving { toState := { s with fu := s.fu.misses }, bus := [] } := by
      refine (Work.answerExpires_eq (w := { toState := s, bus := [] }) hq).trans ?_
      dsimp only
      rw [if_neg (by rw [Nat.min_eq_right (by omega)]; omega), if_neg (by rw [hb]; exact Bool.false_ne_true), hheld, ← hm]
    refine ⟨_, exec_focuses _ hpos hs hd hopPos hfoc0, (exec_focuses _ hans hs hd hopAns hfoc).trans ?_⟩
    have hcount : s.fu.misses.missing = s.fu.missing + 1 := Nat.min_eq_right (by omega)
    obtain ⟨w, hw⟩ : ∃ w : Work, w = { toState := { s with fu := s.fu.misses }, bus := [] } := ⟨_, rfl⟩
    have hzero : ({ toState := { s with fu := s.fu.answered p.toNat moving }, bus := [] } : Work) = w.missed 0 := by
      rw [hfu, hw]
      rfl
    have hsame : w.missed (s.fu.missing + 1) = w := by
      rw [hw, ← hcount]
      rfl
    have hv := hsettle (s.fu.missing + 1)
    have h0 := hsettle 0
    rw [← hw] at hv h0 ⊢
    rw [hsame] at hv
    rw [hzero, h0, hv]
    rfl
  · have hfu : s.fu.misses = { s.fu with query := false, bare := false, missing := s.fu.missing + 1 } := by
      rw [Fu.misses, Nat.min_eq_right (by omega)]
    refine (exec_sets _ s.fu.misses hans hs ?_).trans (congrArg (fun x : Fu => Host.Outcome.next { s with fu := x }) hfu)
    refine (Work.answerExpires_eq (w := { toState := s, bus := [] }) hq).trans ?_
    dsimp only
    rw [if_neg (by rw [Nat.min_eq_right (by omega)]; omega),
      Work.settleFrame_none (w := { toState := { s with fu := s.fu.misses }, bus := [] }) hf, ite_self]
  · have hfault := exec_faults (s := s) Work.answerExpires s.fu.misses hans hs hd hst (by
      refine (Work.answerExpires_eq (w := { toState := s, bus := [] }) hq).trans ?_
      dsimp only
      rw [if_pos (by rw [heq]; decide),
        Work.settleFrame_none (w := { toState := { s with fu := s.fu.misses }, bus := [] }) hf, ite_self])
    refine hfault.trans ?_
    rw [Fu.misses, heq]
    rfl
  · exact exec_same _ hmove hs (Work.moveExpires_none ht)
  · exact exec_faults _ s.fu hmove hs hd hst (Work.moveExpires_eq ht)

end Sys2Proof.Machine
end

section
/-! PROOF. The completion of a frame (R80, R81): the statement takes the zones of the grid alone for the area's set, and the
model takes the start zone as it stands, also one that no AF_SET would accept (R75). -/

namespace Sys2Proof.Machine

/-- The record of a frame with fourteen valid zones. -/
def offGridFrame : FrameRecord :=
  { frameId := 7, kind := .view, timestamp := 100, settled := false, position := none, moving := false,
    formed := some (List.replicate 14 { validity := .valid, p16 := 52, c := 1000, d := 100 }) }

/-- A lens whose position is asked for, with SPOT at a start zone right of the grid: column 13 of row 0, which stands at the
place of column 0 of row 1. -/
def offGrid : State := { State.reset with fu := { Fu.reset with
  descriptor := some { lensMax := 20000, k16 := 400, tolerance := 10, timeout := 300 }
  known := true, position := 500, query := true, state := .idle
  active := { Fu.reset.active with area := .spot, startCol := 13, startRow := 0 }
  frame := some offGridFrame } }

/-- The model selects the zone: the tracking run is 0 afterwards. -/
theorem offGrid_selects : ∃ t, exec (.pos 0 false) offGrid = .next t ∧ t.fu.tracking.run = 0 := by
  have hop : Work.takePos 0 false { toState := offGrid, bus := [] } =
      Work.settleFrame (some 0) false { toState := { offGrid with fu := offGrid.fu.answered 0 false }, bus := [] } :=
    (Work.takePos_answers (w := { toState := offGrid, bus := [] }) rfl rfl rfl).trans (if_neg Bool.false_ne_true)
  refine ⟨_, exec_focuses (s := offGrid) (Work.takePos 0 false) rfl (State.steady_of_none rfl) (fun h => Drive.noConfusion h) hop
    (Work.Focuses.settleFrame (w := { toState := offGrid, bus := [] }) _ _ _), rfl⟩

/-- Refutes O44: with SPOT at column 13 no zone of the grid is in the set, and yet a zone is selected, so that the tracking
run is 0 and not 1. -/
theorem not_completedFramesSelectAndReact : ¬ Obligations.CompletedFramesSelectAndReact := by
  unfold Obligations.CompletedFramesSelectAndReact
  intro h
  obtain ⟨-, hnone⟩ := h 0 false offGrid { lensMax := 20000, k16 := 400, tolerance := 10, timeout := 300 } offGridFrame
    (List.replicate 14 { validity := .valid, p16 := 52, c := 1000, d := 100 }) rfl (fun h => Drive.noConfusion h) rfl rfl rfl
    rfl rfl rfl rfl
  obtain ⟨t, hexec, htrack, -⟩ := hnone fun c hc r _ => if_neg fun ⟨_, _, hin⟩ => by
    have h13 : c = 13 := (of_decide_eq_true hin).1
    have hlt := List.mem_range.1 hc
    omega
  obtain ⟨u, hu, hrun⟩ := offGrid_selects
  have htu : t = u := Host.Outcome.next.inj (hexec.symm.trans hu)
  have hone : t.fu.tracking.run = 1 := congrArg Tracking.run htrack
  rw [htu, hrun] at hone
  exact absurd hone (by decide)

end Sys2Proof.Machine
end

section
/-! PROOF. The messages of a frame: its start, its AF block and its lines (R46, R56 to R58, R62, R64, R68, R90). -/

namespace Sys2Proof.Machine

/-! ### FU and the flash at a frame start -/

section
variable {w : Work} {kind : FrameKind} {id : Nat}

/-- FU's record of a frame that starts (R68). -/
def Fu.opens (f : Fu) (kind : FrameKind) (id now : Nat) : Fu := { f with
  frame := some { frameId := id, kind := kind, timestamp := now, settled := false, position := none, moving := false,
                  formed := none }
  query := true, bare := false }

/-- A frame start with no frame to complete: the record opens, and the position is asked for unless a QUERY is
outstanding (R68). -/
theorem Work.focusFrameStart_opens {now : Nat} (hl : w.fu.live = true) (hr : w.toState.inRun)
    (hf : ∀ g, w.fu.frame = some g → g.formed = none ∨ g.settled = true) : w.focusFrameStart kind id now = { w with
      fu := w.fu.opens kind id now, sent := if w.fu.query then w.sent else .lensQuery :: w.sent } := by
  have hpwc : w.pwc = { power := .run, latched := false, responses := none } := hr
  have hfirst : (if (w.fu.frame.bind FrameRecord.formed).isSome then w.settleFrame w.fu.heldPosition w.fu.moving else w) = w := by
    cases hfr : w.fu.frame with
    | none => exact if_neg Bool.false_ne_true
    | some g =>
      rw [Option.bind_some]
      rcases hf g hfr with h | h
      · rw [h]
        exact if_neg Bool.false_ne_true
      · have hset : w.settleFrame w.fu.heldPosition w.fu.moving = w := by
          rw [Work.settleFrame, hfr]
          exact if_pos h
        rw [hset, ite_self]
  unfold Work.focusFrameStart
  rw [if_pos hl]
  dsimp only
  rw [hfirst]
  cases hq : w.fu.query with
  | true =>
    rw [if_neg (fun h => Bool.noConfusion h.1), if_pos rfl, Fu.opens, ← hq]
  | false =>
    rw [if_pos ⟨rfl, congrArg Pwc.power hpwc⟩, if_neg Bool.false_ne_true]
    exact Work.sendQuery_sends (w := { w with fu := _ }) false (congrArg Pwc.latched hpwc)

theorem Work.focusFrameStart_dead {now : Nat} (hl : w.fu.live = false) :
    w.focusFrameStart kind id now = { w with fu := { w.fu with frame := none } } := if_neg (by rw [hl]; exact Bool.false_ne_true)

/-- The flash decision at an exposure start: the row's flash, the phase after it, and whether a pulse is sent (R46). -/
def Rdu.flashes (x : Rdu) (r : Row) (ready : Bool) : Flash × Bool × Bool :=
  if r.mark = some .opened ∨ r.mark = some .dropped then (.notFired, x.phaseFire, false)
  else flashOf x.active.flash x.phaseFire ready

theorem Work.decideFlash_eq {i : Nat} {r : Row} {ready : Bool} (hr : w.bm.row? i = some r) : w.decideFlash i ready = { w with
    rdu := { w.rdu with phaseFire := (w.rdu.flashes r ready).2.1 }
    bm := w.bm.mapRow i fun x => { x with flash := (w.rdu.flashes r ready).1 }
    sent := if (w.rdu.flashes r ready).2.2 then .flashPulse :: w.sent else w.sent } := by
  unfold Work.decideFlash Rdu.flashes
  rw [hr]
  dsimp only
  split
  · rfl
  · split <;> rfl

/-- SRU's record of the readout when its frame has started, with the focus state at the exposure (R56). -/
def Readout.starts (o : Readout) (id now : Nat) (st : FocusState) : Readout := { o with
  reading := true, frameId := some id, timestamp := now, focusAt := st }

/-- SRU's timers when a frame starts (R55, R56, R59). -/
def Sru.starts (s : Sru) : Sru := { s with startTimer := false, missed := 0, endTimer := true }

/-- A FRAME_START that fits a view readout (R56), from what FU makes of it. -/
theorem Work.frameStarts_view {o : Readout} {v : Work} {ready : Bool} (ho : w.sru.readout = some o) (hr : o.reading = false)
    (hk : o.kind = .view) (hv : Work.reportStart .view id { w with sru := w.sru.starts } = v) :
    w.frameStarts .view id ready = { v with sru := { v.sru with readout := some (o.starts id w.now v.fu.state) } } := by
  unfold Work.frameStarts
  rw [ho]
  dsimp only
  rw [if_pos ⟨hr, hk⟩]
  exact hv ▸ rfl

/-- A FRAME_START that fits a capture (R46, R56), from what FU makes of it: the row takes the time and the flash decision. -/
theorem Work.frameStarts_capture {o : Readout} {v : Work} {r : Row} {ready : Bool} (ho : w.sru.readout = some o)
    (hr : o.reading = false) (hk : o.kind = .capture) (hv : Work.reportStart .capture id { w with sru := w.sru.starts } = v)
    (hrow : v.bm.row? o.row = some r) : w.frameStarts .capture id ready = { v with
      sru := { v.sru with readout := some (o.starts id w.now v.fu.state) }
      rdu := { v.rdu with phaseFire := (v.rdu.flashes r ready).2.1 }
      bm := v.bm.mapRow o.row fun x => { x with timestamp := w.now, flash := (v.rdu.flashes r ready).1 }
      sent := if (v.rdu.flashes r ready).2.2 then .flashPulse :: v.sent else v.sent } := by
  have hi : ∀ x : Row, ({ x with timestamp := w.now } : Row).index = x.index := fun _ => rfl
  have hflash := Work.decideFlash_eq (ready := ready) (w := { v with
    sru := { v.sru with readout := some (o.starts id w.now v.fu.state) }
    bm := v.bm.mapRow o.row fun x => { x with timestamp := w.now } }) (Bm.row?_mapRow_same hrow hi)
  rw [show ({ v with
    sru := { v.sru with readout := some (o.starts id w.now v.fu.state) }
    bm := v.bm.mapRow o.row fun x => { x with timestamp := w.now } } : Work).bm.mapRow o.row _ = _ from
    Bm.mapRow_mapRow v.bm o.row hi] at hflash
  unfold Work.frameStarts
  rw [ho]
  dsimp only
  rw [if_pos ⟨hr, hk⟩]
  refine Eq.trans ?_ hflash
  exact hv ▸ rfl

/-- A FRAME_START that does not fit is a stray (R62). -/
theorem Work.frameStarts_stray {ready : Bool}
    (h : w.sru.readout = none ∨ ∃ o, w.sru.readout = some o ∧ (o.reading = true ∨ o.kind ≠ kind)) :
    w.frameStarts kind id ready = w := by
  unfold Work.frameStarts
  rcases h with h | ⟨o, h, hn⟩
  · rw [h]
  · rw [h]
    refine if_neg fun hc => ?_
    rcases hn with hn | hn
    · exact Bool.noConfusion (hn.symm.trans hc.1)
    · exact hn hc.2

/-- With the sensor link STOPPED nothing of the start reaches FU (R64). -/
theorem Work.reportStart_stopped (h : w.sru.running = false) : w.reportStart kind id = w :=
  if_neg (by rw [h]; exact Bool.false_ne_true)

theorem Work.reportStart_running (h : w.sru.running = true) : w.reportStart kind id = w.focusFrameStart kind id w.now := if_pos h

end

/-- A command whose operation leaves no report ends in the state that the operation leaves. -/
theorem exec_leaves {c : Instr} {s t : State} (op : Work → Work) (hop : exec c s = .next (run op s)) (hs : s.steady)
    (hp : t.pwc = s.pwc) (hc : t.cw = s.cw) (h : op { toState := s, bus := [] } = { toState := t, bus := [] }) :
    exec c s = .next t :=
  exec_comes op hop (State.steady_congr hp hc hs) (by rw [h]; exact .done _)

/-- The flash decision as R46 tells it. -/
theorem Rdu.flashes_eq (x : Rdu) (r : Row) (ready : Bool) : x.flashes r ready =
    if r.mark = some .opened ∨ r.mark = some .dropped then (.notFired, x.phaseFire, false)
    else match x.active.flash, x.phaseFire with
      | .off, phase => (.notFired, phase, false)
      | .front, phase => (if ready then .fired else .notReady, phase, ready)
      | .alternate, true => (if ready then .fired else .notReady, false, ready)
      | .alternate, false => (.notFired, true, false) := by
  unfold Rdu.flashes flashOf
  split
  · rfl
  · cases x.active.flash <;> cases x.phaseFire <;> cases ready <;> rfl

/-- Settles O38: SRU's record opens, FU's with it while the link runs, and the row of a capture takes its flash. -/
theorem frameStartsOpenTheReading : Obligations.FrameStartsOpenTheReading := by
  unfold Obligations.FrameStartsOpenTheReading
  intro kind id ready s hs reading
  have hop (k : FrameKind) : exec (.frameStart k id ready) s = .next (run (Work.frameStarts k id.toNat ready) s) := rfl
  refine ⟨fun h => ?_, fun o ho hr hk hrun hl hf hq hin => ?_, fun o ho hr hk hrun => ?_, fun o r ho hr hk hrow => ?_⟩
  · exact exec_same _ (hop kind) hs (Work.frameStarts_stray h)
  · refine exec_leaves _ (hop .view) hs rfl rfl ?_
    refine (Work.frameStarts_view (w := { toState := s, bus := [] }) ho hr hk
      ((Work.reportStart_running (w := { toState := { s with sru := s.sru.starts }, bus := [] }) hrun).trans
        (Work.focusFrameStart_opens (w := { toState := { s with sru := s.sru.starts }, bus := [] }) hl hin
          fun g hg => absurd (hf.symm.trans hg) (Option.some_ne_none g).symm))).trans ?_
    dsimp only
    rw [hq]
    rfl
  · exact exec_leaves _ (hop .view) hs rfl rfl (Work.frameStarts_view (w := { toState := s, bus := [] }) ho hr hk
      (Work.reportStart_stopped (w := { toState := { s with sru := s.sru.starts }, bus := [] }) hrun))
  · intro f starts
    have hf : f = s.rdu.flashes r ready := (Rdu.flashes_eq s.rdu r ready).symm
    have hcapture (fu : Fu) (sent : List Output) (hst : fu.state = s.fu.state)
        (hv : Work.reportStart .capture id.toNat { toState := { s with sru := s.sru.starts }, bus := [] } =
          { toState := { s with sru := s.sru.starts, fu := fu, sent := sent }, bus := [] }) :
        exec (.frameStart .capture id ready) s = .next (starts fu sent) := by
      refine exec_leaves _ (hop .capture) hs rfl rfl ?_
      refine (Work.frameStarts_capture (w := { toState := s, bus := [] }) ho hr hk hv hrow).trans ?_
      show Work.mk { s with sru := _, fu := fu, rdu := _, bm := _, sent := _ } [] = Work.mk (starts fu sent) []
      dsimp only [starts, reading]
      rw [hf, ← hst]
      rfl
    refine ⟨fun hrun => ?_, fun hrun hl => ?_, fun hrun hl hin hg => ?_⟩
    · exact hcapture s.fu s.sent rfl
        (Work.reportStart_stopped (w := { toState := { s with sru := s.sru.starts }, bus := [] }) hrun)
    · exact hcapture { s.fu with frame := none } s.sent rfl
        ((Work.reportStart_running (w := { toState := { s with sru := s.sru.starts }, bus := [] }) hrun).trans
          (Work.focusFrameStart_dead hl))
    · exact hcapture (s.fu.opens .capture id.toNat s.now) _ rfl
        ((Work.reportStart_running (w := { toState := { s with sru := s.sru.starts }, bus := [] }) hrun).trans
          (Work.focusFrameStart_opens (w := { toState := { s with sru := s.sru.starts }, bus := [] }) hl hin hg))

/-! ### The AF block and the lines (R57, R58) -/

section
variable {w : Work} {o : Readout}

theorem Work.afArrives_none {zones : List AfZone} (h : w.sru.readout = none) : w.afArrives zones = w := by
  rw [Work.afArrives, h]

theorem Work.afArrives_taken {zones : List AfZone} (ho : w.sru.readout = some o) (h : o.afTaken = true) :
    w.afArrives zones = w := by
  rw [Work.afArrives, ho]
  dsimp only
  cases o.frameId with
  | none => rfl
  | some id => exact if_neg fun hc => Bool.noConfusion (h.symm.trans hc.2)

/-- The first AF block of a frame goes to FU (R57). -/
theorem Work.afArrives_reports {zones : List AfZone} {id : Nat} (ho : w.sru.readout = some o) (hr : o.reading = true)
    (h : o.afTaken = false) (hid : o.frameId = some id) : w.afArrives zones =
      Work.reportAf id zones { w with sru := { w.sru with readout := some { o with afTaken := true } } } := by
  rw [Work.afArrives, ho]
  dsimp only
  rw [hid]
  exact if_pos ⟨hr, h⟩

theorem Work.reportAf_stopped {zones : List AfZone} {id : Nat} (h : w.sru.running = false) : w.reportAf id zones = w :=
  if_neg (by rw [h]; exact Bool.false_ne_true)

/-- The estimates of a frame that is not settled are formed and kept (R77, R80). -/
theorem Work.reportAf_forms {zones : List AfZone} {f : FrameRecord} (h : w.sru.running = true) (hl : w.fu.live = true)
    (hf : w.fu.frame = some f) (hs : f.settled = false) (hreq : w.fu.requested = none) : w.reportAf f.frameId zones = { w with
      fu := { w.fu with frame := some { f with formed := some (zones.map (shapeOf w.fu.active)) } } } := by
  have hadopt : w.adoptAf = w := by rw [Work.adoptAf, hreq]
  refine (if_pos h).trans ?_
  rw [Work.takeAfBlock, hf]
  dsimp only
  rw [if_pos ⟨rfl, hl⟩, hadopt]
  exact if_neg (by rw [hs]; exact Bool.false_ne_true)

theorem Work.lineArrives_none {samples : List Byte} {crc : BitVec 16} (h : w.sru.readout = none) :
    w.lineArrives samples crc = w := by
  rw [Work.lineArrives, h]

theorem Work.lineArrives_view {samples : List Byte} {crc : BitVec 16} (ho : w.sru.readout = some o) (hr : o.reading = true)
    (hk : o.kind = .view) : w.lineArrives samples crc = w.emit (.viewLine samples crc) := by
  rw [Work.lineArrives, ho]
  dsimp only
  rw [if_pos hr, hk]

theorem Work.lineArrives_past {samples : List Byte} {crc : BitVec 16} (ho : w.sru.readout = some o) (hr : o.reading = true)
    (hk : o.kind = .capture) (hn : 4000 ≤ o.lines) : w.lineArrives samples crc = w := by
  rw [Work.lineArrives, ho]
  dsimp only
  rw [if_pos hr, hk]
  exact if_neg (not_lt.2 hn)

/-- A line of a capture goes into the raw chain and is counted (R58). -/
theorem Work.lineArrives_capture {samples : List Byte} {crc : BitVec 16} {r : Row} {c : RawChain}
    (ho : w.sru.readout = some o) (hr : o.reading = true) (hk : o.kind = .capture) (hn : o.lines < 4000)
    (hrow : w.bm.row? o.row = some r) (hc : r.raw = some c) : w.lineArrives samples crc = { w with
      sru := { w.sru with readout := some { o with
        lines := o.lines + 1, bad := if lineIsGood samples crc then o.bad else o.bad + 1 } }
      mem := chainWrite w.mem c.pages (Config.headerBytes + Config.lineBytes * o.lines) (lineBytesOf samples)
      bm := w.bm.mapRow o.row fun x => { x with damage := if lineIsGood samples crc then o.bad else o.bad + 1 } } := by
  have hpages : ((w.bm.row? o.row).map fun x => x.pagesOf .raw).getD [] = c.pages := by
    rw [hrow]
    show (r.raw.map RawChain.pages).getD [] = _
    rw [hc]
    rfl
  rw [Work.lineArrives, ho]
  dsimp only
  rw [if_pos hr, hk]
  dsimp only
  rw [if_pos (show o.lines < Config.frameLines from hn), hpages]
  rfl

end

/-- Settles O39: the block is kept and its estimates formed; each line goes to the view output or into the chain. -/
theorem frameDataGoesToItsPlace : Obligations.FrameDataGoesToItsPlace := by
  unfold Obligations.FrameDataGoesToItsPlace
  intro zones samples crc s hs
  have haf : exec (.afBlock zones) s = .next (run (Work.afArrives zones) s) := rfl
  have hline : exec (.imageLine samples crc) s = .next (run (Work.lineArrives samples crc) s) := rfl
  refine ⟨fun ho => ⟨?_, ?_⟩, fun o ho ht => ?_, fun o f ho hr ht hrun hl hf hid hset hreq => ?_,
    fun o ho hr ht hid hrun => ?_, fun o ho hr hk => ?_, fun o ho hr hk hn => ?_, fun o r c bad ho hr hk hn hrow hc hbad => ?_⟩
  · exact exec_same _ haf hs (Work.afArrives_none ho)
  · exact exec_same _ hline hs (Work.lineArrives_none ho)
  · exact exec_same _ haf hs (Work.afArrives_taken ho ht)
  · refine exec_leaves _ haf hs rfl rfl ?_
    refine (Work.afArrives_reports (w := { toState := s, bus := [] }) ho hr ht hid).trans ?_
    exact Work.reportAf_forms (w := { toState := { s with sru := { s.sru with readout := some { o with afTaken := true } } },
                                      bus := [] }) hrun hl hf hset hreq
  · obtain ⟨id, hid⟩ := Option.ne_none_iff_exists'.1 hid
    refine exec_leaves _ haf hs rfl rfl ?_
    exact (Work.afArrives_reports (w := { toState := s, bus := [] }) ho hr ht hid).trans (Work.reportAf_stopped hrun)
  · exact exec_leaves _ hline hs rfl rfl (Work.lineArrives_view (w := { toState := s, bus := [] }) ho hr hk)
  · exact exec_same _ hline hs (Work.lineArrives_past ho hr hk hn)
  · have hgood : (if lineIsGood samples crc then o.bad else o.bad + 1) = bad := by
      rw [hbad]
      simp only [lineIsGood, Bool.and_eq_true, decide_eq_true_eq]
      rfl
    refine exec_leaves _ hline hs rfl rfl ?_
    refine (Work.lineArrives_capture (w := { toState := s, bus := [] }) ho hr hk hn hrow hc).trans ?_
    rw [hgood]
    rfl

end Sys2Proof.Machine
end

section
/-! PROOF. Readouts that give no complete frame (R11, R14, R39, R54, R55, R59, R60): how they end, and what BM and RDU make of
the row. -/

namespace Sys2Proof.Machine

/-! ### The readout ends -/

section
variable {w : Work} {o : Readout}

/-- The row of a capture ends; a view readout has none (R11). -/
def Work.drops (o : Readout) (cause : ShotOutcome) (w : Work) : Work :=
  match o.kind with
  | .capture => w.abortRow o.row cause
  | .view => w

/-- The end of a row does not look at SRU or the notices. -/
theorem Work.abortRow_set (i : Nat) (c : ShotOutcome) (x : Sru) (y : Cp) :
    ({ w with sru := x, cp := y } : Work).abortRow i c = { w.abortRow i c with sru := x, cp := y } := by
  have hrel : ({ w with sru := x, cp := y } : Work).releaseRaw i = { w.releaseRaw i with sru := x, cp := y } := by
    unfold Work.releaseRaw
    dsimp only
    split <;> rfl
  unfold Work.abortRow
  rw [hrel]
  dsimp only
  split
  · split
    · split <;> rfl
    · rfl
  · rfl

theorem Work.drops_set (o : Readout) (c : ShotOutcome) (x : Sru) (y : Cp) :
    Work.drops o c { w with sru := x, cp := y } = { w.drops o c with sru := x, cp := y } := by
  unfold Work.drops
  cases o.kind with
  | capture => exact Work.abortRow_set o.row c x y
  | view => rfl

/-- SRU when its readout has ended (R51). -/
def Sru.gone (s : Sru) (missed : Nat) (fault : Bool) : Sru :=
  { s with readout := none, startTimer := false, endTimer := false, missed := missed, fault := fault }

theorem Work.serveCapture_none (h : w.sru.waiting = none) : w.serveCapture = w := by
  rw [Work.serveCapture, h]

/-- A missed start with no capture waiting (R55). -/
theorem Work.startExpires_eq (ho : w.sru.readout = some o) (ht : w.sru.startTimer = true) (hr : o.reading = false)
    (hw : w.sru.waiting = none) : w.startExpires = Work.drops o .noFrame { w with
      sru := w.sru.gone (min 3 (w.sru.missed + 1)) (Decidable.decide (min 3 (w.sru.missed + 1) = 3))
      cp := if min 3 (w.sru.missed + 1) = 3 then w.cp.raise .sensorFault [] else w.cp } := by
  have hdef : w.startExpires = (fun u : Work =>
      (if min 3 (w.sru.missed + 1) = 3 then Work.raise .sensorFault []
          { u with sru := { u.sru with
            missed := min 3 (w.sru.missed + 1), fault := Decidable.decide (min 3 (w.sru.missed + 1) = 3) } }
        else { u with sru := { u.sru with
            missed := min 3 (w.sru.missed + 1),
            fault := Decidable.decide (min 3 (w.sru.missed + 1) = 3) } }).serveCapture)
      (Work.drops o .noFrame { w with sru := w.sru.close, cp := w.cp }) := by
    unfold Work.startExpires
    rw [ho]
    dsimp only
    rw [if_pos ⟨ht, hr⟩]
    unfold Work.drops
    cases o.kind <;> rfl
  rw [hdef, Work.drops_set o .noFrame w.sru.close w.cp, Work.drops_set o .noFrame
    (w.sru.gone (min 3 (w.sru.missed + 1)) (Decidable.decide (min 3 (w.sru.missed + 1) = 3)))
    (if min 3 (w.sru.missed + 1) = 3 then w.cp.raise .sensorFault [] else w.cp)]
  generalize w.drops o .noFrame = v
  dsimp only
  by_cases hn : min 3 (w.sru.missed + 1) = 3
  · rw [if_pos hn, if_pos hn]
    refine Work.serveCapture_none ?_
    exact hw
  · rw [if_neg hn, if_neg hn]
    refine Work.serveCapture_none ?_
    exact hw

/-- A readout that is over with no capture waiting (R54, R61). -/
theorem Work.endReadout_eq (cause : ShotOutcome) (hw : w.sru.waiting = none) : w.endReadout o cause =
    Work.drops o cause { w with sru := w.sru.gone w.sru.missed w.sru.fault } := by
  have hdrop : w.drops o cause = { w.drops o cause with sru := w.sru, cp := w.cp } := Work.drops_set (w := w) o cause w.sru w.cp
  have hsru : (Work.drops o cause { w with sru := w.sru.close }).sru = w.sru.close := by
    rw [show ({ w with sru := w.sru.close } : Work) = { w with sru := w.sru.close, cp := w.cp } from rfl, Work.drops_set]
  have hdef : w.endReadout o cause = (Work.drops o cause { w with sru := w.sru.close }).serveCapture := by
    unfold Work.endReadout Work.drops
    cases o.kind <;> rfl
  rw [hdef]
  exact Work.serveCapture_none (by rw [hsru]; exact hw)

theorem Work.endExpires_eq (ho : w.sru.readout = some o) (ht : w.sru.endTimer = true) (hr : o.reading = true) :
    w.endExpires = w.endReadout o .readoutTimeout := by
  rw [Work.endExpires, ho]
  exact if_pos ⟨ht, hr⟩

theorem Work.frameEnds_short {n : Nat} (ho : w.sru.readout = some o) (hr : o.reading = true)
    (h : o.kind = .view ∨ o.lines ≠ 4000 ∨ n < 4000) : w.frameEnds n = w.endReadout o .shortFrame := by
  rw [Work.frameEnds, ho]
  dsimp only
  rw [if_pos hr, if_neg]
  rintro ⟨h1, h2, h3⟩
  rcases h with h | h | h
  · exact FrameKind.noConfusion (h.symm.trans h1)
  · exact h h2
  · exact absurd h3 (not_le.2 h)

/-! ### A capture waits behind a view frame (R54) -/

/-- SRU when the capture that waited has been requested. -/
def Sru.serves (s : Sru) (missed i : Nat) (g : GateOutcome) : Sru := { s with
  readout := some (Readout.requested i g), waiting := none, startTimer := true, endTimer := false, missed := missed }

theorem Work.serveCapture_sends {i : Nat} {g : GateOutcome} (hw : w.sru.waiting = some (i, g)) (hrun : w.sru.running = true)
    (hf : w.sru.fault = false) (hread : w.sru.readout = none) : w.serveCapture = { w with
      sru := { w.sru with waiting := none, readout := some (Readout.requested i g), startTimer := true }
      sent := .frameRequest .capture :: w.sent } := by
  have hmay : ({ w.sru with waiting := none } : Sru).mayRequest = true := by
    rw [Sru.mayRequest, hrun, hf]
    rfl
  rw [Work.serveCapture, hw]
  show Work.requestCapture i g { w with sru := { w.sru with waiting := none } } = _
  rw [Work.requestCapture, if_pos hmay]
  dsimp only
  rw [hread]
  rfl

theorem Work.startExpires_serves {i : Nat} {g : GateOutcome} (ho : w.sru.readout = some o) (hk : o.kind = .view)
    (ht : w.sru.startTimer = true) (hr : o.reading = false) (hm : w.sru.missed < 2) (hf : w.sru.fault = false)
    (hw : w.sru.waiting = some (i, g)) (hrun : w.sru.running = true) : w.startExpires = { w with
      sru := w.sru.serves (w.sru.missed + 1) i g, sent := .frameRequest .capture :: w.sent } := by
  have hn : min 3 (w.sru.missed + 1) = w.sru.missed + 1 := Nat.min_eq_right (by omega)
  have hne : ¬ (w.sru.missed + 1 = 3) := by omega
  have hfault : Decidable.decide (w.sru.missed + 1 = 3) = w.sru.fault := (decide_eq_false hne).trans hf.symm
  unfold Work.startExpires
  rw [ho]
  dsimp only
  rw [if_pos ⟨ht, hr⟩, hk]
  dsimp only
  rw [hn, if_neg hne, hfault]
  exact Work.serveCapture_sends (w := { w with sru := { w.sru.close with missed := w.sru.missed + 1 } }) hw hrun hf rfl

theorem Work.endReadout_serves {i : Nat} {g : GateOutcome} (cause : ShotOutcome) (hk : o.kind = .view)
    (hf : w.sru.fault = false) (hw : w.sru.waiting = some (i, g)) (hrun : w.sru.running = true) :
    w.endReadout o cause = { w with
      sru := w.sru.serves w.sru.missed i g, sent := .frameRequest .capture :: w.sent } := by
  unfold Work.endReadout
  rw [hk]
  exact Work.serveCapture_sends (w := { w with sru := w.sru.close }) hw hrun hf rfl

/-! ### What BM and RDU make of the row (R11, R14, R39) -/

/-- The row of a failed capture loses its raw chain and is VOID. -/
def Row.voided (cause : ShotOutcome) (r : Row) : Row := { r with raw := none, life := .void, outcome := some cause, mark := none }

theorem Work.abortRow_voids {i : Nat} {r : Row} {c : RawChain} (cause : ShotOutcome) (hr : w.bm.row? i = some r)
    (hl : r.life = .exposing) (hc : r.raw = some c) (hm : r.mark ≠ some .dropped) : w.abortRow i cause = { w with
      bm := { w.bm.mapRow i (Row.voided cause) with free := c.pages.foldr insertPage w.bm.free }
      bus := w.bus ++ [.deLook] ++ [.reclaim (Decidable.decide ((c.pages.foldr insertPage w.bm.free).length < w.bm.threshold))] ++
        [.rowEnded i (some .void) none] } := by
  have hrel : w.releaseRaw i = (w.mapRow i fun r => { r with raw := none }).freePages c.pages := by
    rw [Work.releaseRaw, hr, Option.bind_some, hc]
  have hmap := Bm.mapRow_mapRow (f := fun r : Row => { r with raw := none })
    (g := fun x : Row => { x with life := .void, outcome := some cause, mark := none }) w.bm i fun _ => rfl
  unfold Work.abortRow
  rw [hr]
  dsimp only
  rw [if_pos hl, if_neg hm, hrel]
  show Work.mk { w.toState with bm := { (w.bm.mapRow i _).mapRow i _ with free := _ } } _ = _
  rw [hmap]
  rfl

theorem Work.abortRow_removes {i : Nat} {r : Row} {c : RawChain} (cause : ShotOutcome) (hr : w.bm.row? i = some r)
    (hl : r.life = .exposing) (hc : r.raw = some c) (hm : r.mark = some .dropped) : w.abortRow i cause = { w with
      bm := { w.bm.remove i with free := c.pages.foldr insertPage w.bm.free }
      bus := w.bus ++ [.deLook] ++ [.reclaim (Decidable.decide ((c.pages.foldr insertPage w.bm.free).length < w.bm.threshold))] ++
        [.rowEnded i none none] } := by
  have hrel : w.releaseRaw i = (w.mapRow i fun r => { r with raw := none }).freePages c.pages := by
    rw [Work.releaseRaw, hr, Option.bind_some, hc]
  unfold Work.abortRow
  rw [hr]
  dsimp only
  rw [if_pos hl, if_pos hm, hrel, ← Bm.remove_mapRow w.bm i (f := fun r => { r with raw := none }) (fun _ => rfl)]
  rfl

/-- The end of a capture of a burst that goes on (R39, R40). -/
theorem Work.handle_rowEnded_burst {i : Nat} {x : Release} (hc : w.rdu.capture = some { row := i, ofBurst := true })
    (ho : w.rdu.openRow = none) (hr : w.rdu.release = some x) (hs : x.single = false) (horg : x.origin = .release)
    (he : x.ending = none) (hl : w.rdu.active.limit = 0) {l : Option Life} (hl2 : l ≠ some .held) :
    w.handle (.rowEnded i l none) = { w with rdu := { w.rdu with capture := none } } := by
  have hrec : w.rdu.record.map (fun b => if l = some .held ∧ b.firstShot = 0 then
      { b with firstShot := (none : Option Nat).getD 0 } else b) = w.rdu.record := by
    cases w.rdu.record with
    | none => rfl
    | some b => exact congrArg some (if_neg fun h => hl2 h.1)
  unfold Work.handle Work.captureEnds
  dsimp only
  rw [hc]
  dsimp only
  rw [if_pos rfl, if_neg (by rw [ho]; exact fun h => Option.noConfusion rfl (heq_of_eq h)), hr]
  dsimp only
  rw [if_pos rfl, Work.burstCaptureEnds, hs, if_neg Bool.false_ne_true, horg]
  refine (if_neg (show ¬ (Origin.release.isRemote = true ∧ w.rdu.remoteCount = 0) from fun h => Bool.noConfusion h.1)).trans ?_
  refine (if_neg (show ¬ (w.rdu.active.limit ≠ 0 ∧ w.rdu.active.limit ≤ w.rdu.counter) from fun h => h.1 hl)).trans ?_
  rw [he]
  dsimp only [Work.withRdu]
  rw [hrec, hr]

/-- The end of the open ring frame when it is VOID (R39). -/
theorem Work.handle_rowEnded_open {i : Nat} (hc : w.rdu.capture = some { row := i, ofBurst := false })
    (ho : w.rdu.openRow = some i) {l : Option Life} (hl : l ≠ some .pre) :
    w.handle (.rowEnded i l none) = { w with rdu := { w.rdu with capture := none, openRow := none } } := by
  unfold Work.handle Work.captureEnds
  dsimp only
  rw [hc]
  dsimp only
  have hring : (if l = some .pre then w.rdu.ring ++ [i] else w.rdu.ring) = w.rdu.ring := if_neg hl
  rw [if_pos rfl, if_pos ho]
  exact congrArg (fun x => ({ w with rdu := { w.rdu with capture := none, openRow := none, ring := x } } : Work)) hring

/-- The end of a dropped ring frame (R39, R43). -/
theorem Work.handle_rowEnded_dropped {i : Nat} (hc : w.rdu.capture = some { row := i, ofBurst := false })
    (ho : w.rdu.openRow = none) {l : Option Life} {n : Option Nat} :
    w.handle (.rowEnded i l n) = { w with rdu := { w.rdu with capture := none } } := by
  unfold Work.handle Work.captureEnds
  dsimp only
  rw [hc]
  dsimp only
  rw [if_pos rfl, if_neg (by rw [ho]; exact fun h => Option.noConfusion rfl (heq_of_eq h))]
  split
  · exact if_neg Bool.false_ne_true
  · rfl

end

/-! ### The statement -/

section
variable {s : State} {o : Readout}

/-- The readout has ended, and the rest of the part has taken the cause (R55, R59, R60). -/
def State.EndsReadout (s : State) (o : Readout) (v : ShotOutcome → State) : Prop :=
  (o.reading = false → s.sru.startTimer = true →
    (s.sru.missed < 2 → exec .startTimerExpiry s =
      .next { v .noFrame with sru := s.sru.gone (s.sru.missed + 1) false }) ∧
    (s.sru.missed = 2 → exec .startTimerExpiry s =
      .next (({ v .noFrame with sru := s.sru.gone 3 true } : State).raised .sensorFault []))) ∧
  (o.reading = true →
    (s.sru.endTimer = true → exec .endTimerExpiry s =
      .next { v .readoutTimeout with sru := s.sru.gone s.sru.missed false }) ∧
    ∀ n : BitVec 16, (o.kind = .view ∨ o.lines ≠ 4000 ∨ n.toNat < 4000) →
      exec (.frameEnd n) s = .next { v .shortFrame with sru := s.sru.gone s.sru.missed false })

/-- A readout with no capture waiting ends, where the reports of its row's end come to a state whatever SRU and the notices
are. -/
theorem State.endsReadout {v : ShotOutcome → State} (hs : s.steady) (ho : s.sru.readout = some o) (hf : s.sru.fault = false)
    (hw : s.sru.waiting = none) (hp : ∀ c, (v c).pwc = s.pwc ∧ (v c).cw = s.cw ∧ (v c).cp = s.cp)
    (hc : ∀ (x : Sru) (y : Cp) c, (Work.drops o c { toState := { s with sru := x, cp := y }, bus := [] }).Comes 4096
      { v c with sru := x, cp := y }) : s.EndsReadout o v := by
  have hsteady (x : Sru) (y : Cp) (c : ShotOutcome) : ({ v c with sru := x, cp := y } : State).steady :=
    State.steady_congr (hp c).1 (hp c).2.1 hs
  have hcp (x : Sru) (c : ShotOutcome) : ({ v c with sru := x, cp := s.cp } : State) = { v c with sru := x } := by
    rw [← (hp c).2.2]
  have hends (op : Work → Work) {c : Instr} {cause : ShotOutcome} (hop : exec c s = .next (run op s))
      (h : op { toState := s, bus := [] } = Work.endReadout o cause { toState := s, bus := [] }) :
      exec c s = .next { v cause with sru := s.sru.gone s.sru.missed false } := by
    rw [← hcp, ← hf]
    refine exec_comes op hop (hsteady _ _ _) ?_
    rw [h, Work.endReadout_eq (w := { toState := s, bus := [] }) cause hw]
    exact hc _ _ _
  refine ⟨fun hr ht => ⟨fun hm => ?_, fun hm => ?_⟩, fun hr => ⟨fun ht => ?_, fun n hn => ?_⟩⟩
  · rw [← hcp]
    refine exec_comes Work.startExpires rfl (hsteady _ _ _) ?_
    rw [Work.startExpires_eq (w := { toState := s, bus := [] }) ho ht hr hw]
    dsimp only
    rw [Nat.min_eq_right (show s.sru.missed + 1 ≤ 3 by omega), if_neg (show ¬ s.sru.missed + 1 = 3 by omega),
      decide_eq_false (show ¬ s.sru.missed + 1 = 3 by omega)]
    exact hc _ _ _
  · have hraised : ({ v .noFrame with sru := s.sru.gone 3 true } : State).raised .sensorFault [] =
        { v .noFrame with sru := s.sru.gone 3 true, cp := s.cp.raise .sensorFault [] } := by
      rw [← (hp .noFrame).2.2]
      rfl
    rw [hraised]
    refine exec_comes Work.startExpires rfl (hsteady _ _ _) ?_
    rw [Work.startExpires_eq (w := { toState := s, bus := [] }) ho ht hr hw]
    dsimp only
    rw [hm]
    exact hc _ _ _
  · exact hends Work.endExpires rfl (Work.endExpires_eq ho ht hr)
  · exact hends (Work.frameEnds n.toNat) rfl (Work.frameEnds_short ho hr hn)

/-- The reports of a row that is VOID: the freed pages, and the end of the capture for RDU (R5, R39). -/
theorem State.endsReadout_voids {r : Row} {c : RawChain} {x : Rdu} (hs : s.steady) (ho : s.sru.readout = some o)
    (hf : s.sru.fault = false) (hw : s.sru.waiting = none) (hk : o.kind = .capture) (hb : s.backIdle)
    (hr : s.bm.row? o.row = some r) (hl : r.life = .exposing) (hc : r.raw = some c) (hm : r.mark ≠ some .dropped)
    (hrdu : ∀ t : State, t.rdu = s.rdu → Work.handle (.rowEnded o.row (some .void) none) { toState := t, bus := [] } =
      { toState := { t with rdu := x }, bus := [] }) :
    s.EndsReadout o fun cause => ({ s with rdu := x, bm := s.bm.mapRow o.row (Row.voided cause) } : State).freed c.pages := by
  refine State.endsReadout hs ho hf hw (fun _ => ⟨rfl, rfl, rfl⟩) fun y z cause => ?_
  rw [Work.drops, hk]
  dsimp only
  rw [Work.abortRow_voids (w := { toState := { s with sru := y, cp := z }, bus := [] }) cause hr hl hc hm]
  refine Work.Comes.freed (by exact hb) (.step (hrdu _ rfl) ?_)
  exact .done _

end

/-- Settles O37: what each cause leaves of SRU, and what the end of the row leaves of BM and RDU. -/
theorem failedCapturesAreVoid : Obligations.FailedCapturesAreVoid := by
  unfold Obligations.FailedCapturesAreVoid
  intro s o hs ho hf gone ends
  refine ⟨fun hk => ⟨fun hw => ?_, ?_⟩, ?_⟩
  rotate_left
  · intro i g hw hrun sends
    refine ⟨fun hr ht hm => ?_, fun hr => ⟨fun ht => ?_, fun n => ?_⟩⟩
    · exact exec_leaves Work.startExpires rfl hs rfl rfl
        (Work.startExpires_serves (w := { toState := s, bus := [] }) ho hk ht hr hm hf hw hrun)
    · exact exec_leaves Work.endExpires rfl hs rfl rfl ((Work.endExpires_eq (w := { toState := s, bus := [] }) ho ht hr).trans
        (Work.endReadout_serves _ hk hf hw hrun))
    · exact exec_leaves (Work.frameEnds n.toNat) rfl hs rfl rfl
        ((Work.frameEnds_short (w := { toState := s, bus := [] }) ho hr (.inl hk)).trans (Work.endReadout_serves _ hk hf hw hrun))
  · intro r c hk hw hb hr hl hc void
    refine ⟨fun x hm hcap hopen hrel hsingle horg hend hlim => ?_, fun hm hcap hopen => ?_, fun hm hcap hopen => ?_⟩
    · refine State.endsReadout_voids hs ho hf hw hk hb hr hl hc hm fun t ht => ?_
      rw [← ht] at hcap hopen hrel hlim ⊢
      exact Work.handle_rowEnded_burst hcap hopen hrel hsingle horg hend hlim fun h => Life.noConfusion (Option.some.inj h)
    · refine State.endsReadout_voids hs ho hf hw hk hb hr hl hc (by rw [hm]; exact fun h => RingMark.noConfusion (Option.some.inj h))
        fun t ht => ?_
      rw [← ht] at hcap hopen ⊢
      exact Work.handle_rowEnded_open hcap hopen fun h => Life.noConfusion (Option.some.inj h)
    · refine State.endsReadout (v := fun _ => ({ s with
        rdu := { s.rdu with capture := none }, bm := s.bm.remove o.row } : State).freed c.pages)
        hs ho hf hw (fun _ => ⟨rfl, rfl, rfl⟩) fun x y cause => ?_
      rw [Work.drops, hk]
      dsimp only
      rw [Work.abortRow_removes (w := { toState := { s with sru := x, cp := y }, bus := [] }) cause hr hl hc hm]
      refine Work.Comes.freed (by exact hb) (.step (Work.handle_rowEnded_dropped hcap hopen) ?_)
      exact .done _
  · refine State.endsReadout hs ho hf hw (fun _ => ⟨rfl, rfl, rfl⟩) fun x y c => ?_
    rw [Work.drops, hk]
    exact .done _

end Sys2Proof.Machine
end

section
/-! PROOF. The link and the send queue (R149 to R157, R162): the link enters a state, an entry is mirrored in its duty, and a
transfer that is interrupted gives its entry back. -/

namespace Sys2Proof.Machine

/-! ### A row whose raw chain a tether duty wants (R16, R152) -/

section
variable {r : Row} {d : TetherDuty}

theorem Row.rawRead_of_tether (hd : d ∈ r.tethers) (hc : d.chain = .raw) (hf : d.state.isFinal = false)
    (hs : d.source = .buffer) : r.rawRead = true := by
  have hany : r.tethers.any (fun d => decide (d.chain = .raw) && !d.state.isFinal && decide (d.source = .buffer)) = true :=
    List.any_eq_true.2 ⟨d, hd, by rw [hc, hf, hs]; rfl⟩
  rw [Row.rawRead, hany, Bool.or_true]

theorem Row.openDuties_of_tether (hd : d ∈ r.tethers) (hf : d.state.isFinal = false) : r.openDuties ≠ 0 := by
  have hlen : 0 < (r.tethers.filter fun d => !d.state.isFinal).length :=
    List.length_pos_of_mem (List.mem_filter.2 ⟨hd, by rw [hf]; rfl⟩)
  rw [Row.openDuties]
  omega

/-- What an entry reports to its duty (R152). -/
def Entry.report (e : Entry) (d : TetherDuty) : TetherDuty :=
  { d with state := if e.sending then .sending else .pending, source := e.source, prio := e.prio, early := e.early }

theorem Entry.report_open (e : Entry) (d : TetherDuty) : (e.report d).state.isFinal = false := by
  unfold Entry.report
  dsimp only
  split <;> rfl

end

section
variable {w : Work} {e : Entry}

/-- The RAW duty of a row that has no other, read from the buffer: the entry is mirrored and nothing is released. -/
theorem Work.mirror_raw {i : Nat} {r : Row} {d : TetherDuty} (hnd : (w.bm.rows.map Row.index).Nodup) (he : e.row = some i)
    (hc : e.chain = .raw) (hs : e.source = .buffer) (hr : w.bm.row? i = some r) (ht : r.tethers = [d]) (hd : d.chain = .raw)
    (ho : d.state.isFinal = false) (hp : r.proof = none) : w.mirror e = { w with
      bm := w.bm.mapRow i fun x => { x with tethers := [e.report d] } } := by
  have hmap : w.mapTether i e.chain e.report = { w with
      bm := w.bm.mapRow i fun x => { x with tethers := [e.report d] } } := by
    refine congrArg (fun b : Bm => ({ w with bm := b } : Work)) (Bm.mapRow_congr hnd hr ?_)
    have hg : (if d.chain = e.chain ∧ d.state.isFinal = false then e.report d else d) = e.report d :=
      if_pos ⟨hd.trans hc.symm, ho⟩
    rw [ht, List.map_singleton, hg]
  have hr1 : (w.bm.mapRow i fun x => { x with tethers := [e.report d] }).row? i = some { r with tethers := [e.report d] } :=
    Bm.row?_mapRow_same (f := fun x => { x with tethers := [e.report d] }) hr fun _ => rfl
  have hmem : e.report d ∈ ({ r with tethers := [e.report d] } : Row).tethers := List.mem_singleton.2 rfl
  have hdef : w.mirror e = (w.mapTether i e.chain e.report).check i := by
    rw [Work.mirror, he]
    rfl
  rw [hdef, hmap, Work.check, Work.releaseCheck_same hr1 (.inl (Row.rawRead_of_tether hmem hd (e.report_open d) hs)) (.inr hp)]
  exact Work.settleCheck_same hr1 (Row.settles_of_open (Row.openDuties_of_tether hmem (e.report_open d)))

theorem Work.mirror_none (he : e.row = none) : w.mirror e = w := by rw [Work.mirror, he]

/-! ### The link (R149, R151) -/

theorem Work.enterLink_ne {l : Link} (h : w.tu.link ≠ l) : w.enterLink l = { w with
    tu := { w.tu with link := l }, cp := w.cp.raise .tetherChange [l.byte] } := if_neg h

theorem Work.sendHello_eq {m : BitVec 48} (hm : w.tu.settings.ownMac = some m) :
    w.sendHello = { w with sent := .desk (helloFrame w.tu.settings m) :: w.sent } := by
  unfold Work.sendHello Work.sendTo
  rw [hm]
  rfl

/-- UNBOUND is entered with a HELLO (R151). -/
theorem Work.enterUnbound_eq {m : BitVec 48} (hm : w.tu.settings.ownMac = some m) (hl : w.tu.link ≠ .unbound)
    (hs : w.tu.stopped = false) : w.enterUnbound = { w with
      tu := { w.tu with link := .unbound, bound := none, helloTimer := true, deskTimer := false }
      sent := .desk (helloFrame w.tu.settings m) :: w.sent
      cp := w.cp.raise .tetherChange [2] } := by
  have hlink := Work.enterLink_ne (w := { w with tu := w.tu.unbind }) (l := .unbound) hl
  unfold Work.enterUnbound
  rw [hlink]
  refine (if_neg (by rw [hs]; exact Bool.false_ne_true)).trans ?_
  exact Work.sendHello_eq (w := { w with
    tu := { w.tu with link := .unbound, bound := none, helloTimer := true, deskTimer := false }
    cp := w.cp.raise .tetherChange [2] }) hm

/-! ### A transfer is interrupted (R162) -/

theorem Entry.is_eq (e : Entry) (n : Nat) (c : Chain) : e.is n c = decide (e.number = n ∧ e.chain = c) := by
  rw [Entry.is, Bool.decide_and]

/-- The ends that give the entry back and leave the link to their callers. -/
def TransferEnd.returns : TransferEnd → Bool
  | .linkDown | .deskLoss | .disable => true
  | .good | .rejected | .timeout | .sourceLost | .underrun | .cancel | .warning | .reset => false

/-- The ABORT that an end sends. -/
def Work.aborts (w : Work) (x : TransferEnd) (id : Nat) : List Output :=
  match x.abort with
  | some c => [.desk (wireFrame (w.tu.bound.getD 0) (w.tu.settings.ownMac.getD 0) w.tu.settings.etherType 0x09
      (leBytes 2 id ++ [c.byte]))]
  | none => []

theorem Work.sends_tethers {x : Transfer} (h : w.toState.sends x e) {i : Nat} (he : e.row = some i) :
    w.tu.reclaim = false ∧ (w.bm.rows.map Row.index).Nodup ∧ e.source = .buffer ∧ e.chain = .raw ∧
      ∃ r d, w.bm.row? i = some r ∧ r.proof = none ∧ r.tethers = [d] ∧ d.chain = .raw ∧ d.state = .sending := by
  obtain ⟨-, -, -, -, hrow⟩ := h
  rcases hrow with hrow | ⟨hrec, hnd, hs, hc, hany⟩
  · exact absurd (he.symm.trans hrow) (Option.some_ne_none i)
  · refine ⟨hrec, hnd, hs, hc, ?_⟩
    rw [he, Option.bind_some, Option.any_eq_true] at hany
    obtain ⟨r, hr, hd⟩ := hany
    obtain ⟨hp, ht⟩ := of_decide_eq_true hd
    cases hl : r.tethers with
    | nil =>
      rw [hl] at ht
      exact absurd ht.symm (List.cons_ne_nil _ _)
    | cons d l =>
      rw [hl, List.map_cons] at ht
      obtain ⟨h1, h2⟩ := List.cons.inj ht
      obtain ⟨hdc, hds⟩ := Prod.mk.inj h1
      exact ⟨r, d, hr, hp, by rw [List.map_eq_nil_iff.1 h2] at hl; exact hl, hdc, hds⟩

/-- The entry returns to PENDING at the front of its class (R162). -/
theorem Work.returnEntry_requeues {x : Transfer} (h : w.toState.sends x e) (v : Work) (hb : v.bm = w.bm)
    (hq : v.tu = w.tu.close) : v.returnEntry e true e.early = { v with
      bm := (w.toState.requeued e).bm, tu := (w.toState.requeued e).tu } := by
  obtain ⟨e1, he1⟩ : ∃ e1 : Entry, e1 = { e with sending := false } := ⟨_, rfl⟩
  have hfilter : (w.tu.queue.filter fun y => !y.is e.number e.chain) =
      w.tu.queue.filter fun y => !Decidable.decide (y.number = e.number ∧ y.chain = e.chain) := by
    simp only [Entry.is_eq]
  have hqueue : ({ w.tu.close with
      queue := insertFront e1 (w.tu.close.queue.filter fun y => !y.is e.number e.chain) } : Tu) = (w.toState.requeued e).tu := by
    rw [show w.tu.close.queue = w.tu.queue from rfl, hfilter, he1]
    rfl
  have hdef : v.returnEntry e true e.early = (fun u : Work => if v.tu.demotes then u.demote e1 else u)
      (Work.mirror e1 { v with tu := { w.tu.close with
        queue := insertFront e1 (w.tu.close.queue.filter fun y => !y.is e.number e.chain) } }) := by
    rw [he1, ← hq]
    rfl
  rw [hdef, hqueue]
  dsimp only
  cases he : e.row with
  | none =>
    have hrow : e1.row = none := by rw [he1, ← he]
    have hdem (u : Work) : u.demote e1 = u := by
      rw [Work.demote, hrow]
      rfl
    have hbm : (w.toState.requeued e).bm = v.bm := by
      rw [State.requeued, he, hb]
    rw [Work.mirror_none hrow, hdem, ite_self, hbm]
  | some i =>
    obtain ⟨hrec, hnd, hs, hc, r, d, hr, hp, ht, hdc, hds⟩ := Work.sends_tethers h he
    have hmir := Work.mirror_raw (w := { v with tu := (w.toState.requeued e).tu }) (e := e1) (by rw [hb]; exact hnd)
      (by rw [he1, ← he]) (by rw [he1]; exact hc) (by rw [he1]; exact hs) (by rw [hb]; exact hr) ht hdc (by rw [hds]; rfl) hp
    have hbm : (v.bm.mapRow i fun x => { x with tethers := [e1.report d] }) = (w.toState.requeued e).bm := by
      rw [State.requeued, he, hb, he1]
      refine Bm.mapRow_congr hnd hr ?_
      rw [ht]
      rfl
    have hdem : v.tu.demotes = false := by
      rw [hq]
      show (w.tu.reclaim && !w.tu.stopped) = false
      rw [hrec]
      rfl
    rw [hmir, hdem, if_neg Bool.false_ne_true, hbm]

/-- A transfer ends, and its entry is PENDING at the front of its class. -/
theorem Work.endTransfer_returns {x : Transfer} {y : TransferEnd} (hy : y.returns = true) (h : w.toState.sends x e) :
    w.endTransfer y = { w with
      bm := (w.toState.requeued e).bm, tu := (w.toState.requeued e).tu, sent := w.aborts y x.id ++ w.sent } := by
  have ht : w.tu.transfer = some x := h.1
  have ha : w.tu.active? = some e := h.2.1
  obtain ⟨v, hv⟩ : ∃ v : Work, v = { w with tu := w.tu.close, sent := w.aborts y x.id ++ w.sent } := ⟨_, rfl⟩
  have hret := Work.returnEntry_requeues h v (by rw [hv]) (by rw [hv])
  have hend : w.endTransfer y = v.returnEntry e true e.early := by
    unfold Work.endTransfer
    rw [ht, ha, hv]
    cases y <;> first | exact Bool.noConfusion hy | rfl
  rw [hend, hret, hv]

end

/-! ### A transfer starts (R156, R157) -/

section
variable {w : Work} {e : Entry}

/-- TU's record of a transfer that starts (R157). -/
def Tu.opens (t : Tu) (e : Entry) (q : List Entry) : Tu := { t with
  link := .sending, queue := q, nextId := (t.nextId + 1) % 65536, transfer := some (Transfer.start t.nextId e t.settings) }

/-- The OFFER of an entry (07 section 7.2). -/
def Tu.offer (t : Tu) (desk m : BitVec 48) (e : Entry) : Output :=
  .desk (wireFrame desk m t.settings.etherType 0x04
    (leBytes 2 t.nextId ++ leBytes 3 e.number ++ [e.chain.byte] ++ leBytes 4 e.length))

/-- The start of a transfer up to its reads: the duty is mirrored, OFFER goes out and the link is SENDING. -/
theorem Work.startTransfer_eq {q : List Entry} {b : Bm} {desk m : BitVec 48} (hlink : w.tu.link ≠ .sending)
    (hb : w.tu.bound = some desk) (hm : w.tu.settings.ownMac = some m)
    (hq : (w.tu.queue.map fun y => if y.is e.number e.chain then { e with sending := true } else y) = q)
    (hmir : Work.mirror { e with sending := true } { w with tu := { w.tu with queue := q } } =
      { w with tu := { w.tu with queue := q }, bm := b }) :
    w.startTransfer e = Work.updateWait (Work.askReads 8 { w with
      bm := b, tu := w.tu.opens e q, sent := w.tu.offer desk m e :: w.sent, cp := w.cp.raise .tetherChange [4] }) := by
  have hqueue : w.tu.mapEntry e.number e.chain (fun _ => { e with sending := true }) = { w.tu with queue := q } := by
    rw [Tu.mapEntry, hq]
  have hoffer (v : Work) (t : Transfer) (hv : v.tu.bound = some desk) (hvm : v.tu.settings.ownMac = some m) :
      v.sendOffer t = { v with sent := .desk (wireFrame desk m v.tu.settings.etherType 0x04
        (leBytes 2 t.id ++ leBytes 3 t.number ++ [t.chain.byte] ++ leBytes 4 t.length)) :: v.sent } := by
    unfold Work.sendOffer Work.sendDesk Work.sendTo
    rw [hv, hvm]
    rfl
  unfold Work.startTransfer
  dsimp only
  rw [hqueue, hmir]
  dsimp only
  rw [hoffer, Work.enterLink_ne]
  · rfl
  · exact hlink
  · exact hb
  · exact hm

/-- A transfer from the buffer asks no reads. -/
theorem Work.askReads_none (k : Nat) (h : w.tu.active?.bind Entry.copy = none) : Work.askReads k w = w := by
  have hone : w.askOne = none := by
    unfold Work.askOne
    rw [h]
    cases w.tu.transfer <;> rfl
  cases k with
  | zero => rfl
  | succ k => rw [Work.askReads, hone]

/-- The limit alone never holds back a transfer whose limit is its length (R163, R164). -/
theorem Work.updateWait_whole {t : Transfer} (ht : w.tu.transfer = some t) (ha : w.tu.active? = some e)
    (hl : w.sendLimit t e = t.length) (hn : t.next ≤ t.length) :
    w.updateWait = { w with tu := { w.tu with underTimer := false } } := by
  have hwait : w.atFrontier = false := by
    have hpay : ¬ t.length < t.next + t.payload := by
      rw [Transfer.payload]
      omega
    unfold Work.atFrontier
    rw [ht, ha]
    split
    · next h1 h2 =>
      cases h1
      cases h2
      rw [hl, decide_eq_false hpay, Bool.and_false]
    · rfl
  rw [Work.updateWait, hwait]

theorem Work.sendLimit_raw (t : Transfer) (hs : e.source = .buffer) (hc : e.chain = .raw) : w.sendLimit t e = t.length := by
  rw [Work.sendLimit, hs, hc]

theorem Work.sendLimit_card (t : Transfer) (hs : e.source = .card) : w.sendLimit t e = t.length := by
  rw [Work.sendLimit, hs]

/-- A RAW entry read from the buffer starts its transfer. -/
theorem Work.startTransfer_raw {q : List Entry} {i : Nat} {r : Row} {d : TetherDuty} {desk m : BitVec 48}
    (hlink : w.tu.link ≠ .sending) (hb : w.tu.bound = some desk) (hm : w.tu.settings.ownMac = some m)
    (hq : (w.tu.queue.map fun y => if y.is e.number e.chain then { e with sending := true } else y) = q)
    (hfind : q.find? (fun y => y.is e.number e.chain) = some { e with sending := true })
    (hnd : (w.bm.rows.map Row.index).Nodup) (he : e.row = some i) (hc : e.chain = .raw) (hs : e.source = .buffer)
    (hcopy : e.copy = none) (hr : w.bm.row? i = some r) (ht : r.tethers = [d]) (hd : d.chain = .raw)
    (ho : d.state.isFinal = false) (hp : r.proof = none) : w.startTransfer e = { w with
      bm := w.bm.mapRow i fun x => { x with tethers := [Entry.report { e with sending := true } d] }
      tu := { w.tu.opens e q with underTimer := false }
      sent := w.tu.offer desk m e :: w.sent
      cp := w.cp.raise .tetherChange [4] } := by
  have hmir := Work.mirror_raw (w := { w with tu := { w.tu with queue := q } }) (e := { e with sending := true }) hnd he hc hs
    hr ht hd ho hp
  rw [Work.startTransfer_eq hlink hb hm hq hmir]
  obtain ⟨v, hv⟩ : ∃ v : Work, v = { w with
      bm := w.bm.mapRow i fun x => { x with tethers := [Entry.report { e with sending := true } d] }
      tu := w.tu.opens e q
      sent := w.tu.offer desk m e :: w.sent
      cp := w.cp.raise .tetherChange [4] } := ⟨_, rfl⟩
  have hactive : v.tu.active? = some { e with sending := true } := by
    rw [hv]
    exact hfind
  have htr : v.tu.transfer = some (Transfer.start w.tu.nextId e w.tu.settings) := by rw [hv]; rfl
  show Work.updateWait (Work.askReads 8 _) = _
  rw [← hv, Work.askReads_none 8 (by rw [hactive]; exact hcopy), Work.updateWait_whole htr hactive
    (Work.sendLimit_raw (e := { e with sending := true }) _ hs hc) (Nat.zero_le _), hv]

/-- In BOUND_IDLE a selection takes the first ready entry. -/
theorem Work.handle_select_starts (hl : w.tu.link = .boundIdle) (hs : w.tu.stopped = false)
    (hf : w.tu.queue.find? (fun e => w.ready e) = some e) : w.handle .select = w.startTransfer e := by
  rw [Work.handle, Work.selectEntry, if_pos ⟨hl, hs⟩, hf]

theorem Work.handle_select_none (h : w.tu.queue.find? (fun e => w.ready e) = none) : w.handle .select = w := by
  rw [Work.handle, Work.selectEntry, h, ite_self]

end

end Sys2Proof.Machine
end

section
/-! PROOF. The link follows the PHY and the desk (R149 to R151, R156, R162). -/

namespace Sys2Proof.Machine

section
variable {w : Work} {h : DeskHead} {m : BitVec 48}

/-- A frame is for the part: its EtherType, and its own address or the broadcast address (R150). -/
def Tu.reaches (t : Tu) (h : DeskHead) (m : BitVec 48) : Prop :=
  h.etherType = t.settings.etherType ∧ (h.dst = m ∨ h.dst = 0xFFFFFFFFFFFF#48)

theorem Tu.passes_of_reaches {t : Tu} (hm : t.settings.ownMac = some m) (hh : t.reaches h m) : t.passes h = true := by
  obtain ⟨hety, hdst⟩ := hh
  rw [Tu.passes, hm, Bool.and_eq_true, Bool.or_eq_true]
  exact ⟨hdst.imp decide_eq_true decide_eq_true, decide_eq_true hety⟩

/-- In OFF and DOWN no frame arrives. -/
theorem Work.takeDesk_deaf {x : DeskMsg} (hl : w.tu.link = .off ∨ w.tu.link = .down) : w.takeDesk h x = w := by
  refine if_pos ?_
  rcases hl with hl | hl <;> rw [hl] <;> rfl

theorem Work.takeDesk_passes {x : DeskMsg} (hl : w.tu.link ≠ .off) (hd : w.tu.link ≠ .down)
    (hm : w.tu.settings.ownMac = some m) (hh : w.tu.reaches h m) (hx : x.malformed = false) :
    w.takeDesk h x = w.takePassed h.src x := by
  have hears : w.tu.link.hears = true := by
    cases hk : w.tu.link with
    | off => exact absurd hk hl
    | down => exact absurd hk hd
    | unbound | boundIdle | sending | finishing => rfl
  rw [Work.takeDesk, if_neg (by rw [hears]; exact Bool.noConfusion), if_neg]
  rw [Tu.passes_of_reaches hm hh, hx]
  exact fun h => h.elim Bool.noConfusion Bool.noConfusion

/-- A frame of the bound desk refreshes the desk-loss timer and acts by its kind (R150, R151). -/
theorem Work.takePassed_bound {x : DeskMsg} {src : BitVec 48}
    (hl : w.tu.link = .boundIdle ∨ w.tu.link = .sending ∨ w.tu.link = .finishing) (hb : w.tu.bound = some src) :
    w.takePassed src x = Work.takeBound x { w with tu := { w.tu with deskTimer := true } } := by
  unfold Work.takePassed
  rcases hl with hl | hl | hl <;> rw [hl] <;> exact if_pos hb

theorem Work.takePassed_other {x : DeskMsg} {src : BitVec 48} (hl : w.tu.link ≠ .unbound) (hb : w.tu.bound ≠ some src) :
    w.takePassed src x = w := by
  unfold Work.takePassed
  split
  · rfl
  · rfl
  · next h => exact absurd h hl
  all_goals exact if_neg hb

/-- A BIND of the chosen desk in UNBOUND binds it and asks for a selection (R151, R156). -/
theorem Work.takePassed_binds {src : BitVec 48} (hl : w.tu.link = .unbound)
    (hd : w.tu.settings.deskMac = 0 ∨ w.tu.settings.deskMac = src) : w.takePassed src .bind = { w with
      tu := { w.tu with link := .boundIdle, bound := some src, helloTimer := false, deskTimer := true }
      cp := w.cp.raise .tetherChange [3]
      bus := w.bus ++ [.select] } := by
  have hne : ({ w.tu with bound := some src, helloTimer := false } : Tu).link ≠ .boundIdle := by
    show w.tu.link ≠ .boundIdle
    rw [hl]
    exact fun h => Link.noConfusion h
  unfold Work.takePassed
  rw [hl]
  dsimp only
  rw [if_pos rfl, Work.takeBind, if_pos hd]
  dsimp only
  rw [Work.enterLink_ne (w := { w with tu := { w.tu with bound := some src, helloTimer := false } }) hne]
  rfl

theorem Work.helloExpires_eq (hm : w.tu.settings.ownMac = some m) : w.helloExpires =
    if w.tu.helloTimer then { w with sent := .desk (helloFrame w.tu.settings m) :: w.sent } else w := by
  rw [Work.helloExpires, Work.sendHello_eq hm]

/-! ### The PHY and the desk-loss timer -/

theorem Work.phyDown_linked (hl : w.tu.link ≠ .off) (hd : w.tu.link ≠ .down) :
    w.phyDown = Work.linkDown { w with pins := { w.pins with phyUp := false } } := by
  unfold Work.phyDown
  split
  · rfl
  · rfl
  · rfl
  · rfl
  · next h => exact absurd h hl
  · next h => exact absurd h hd

theorem Work.phyDown_idle (hl : w.tu.link = .off ∨ w.tu.link = .down) :
    w.phyDown = { w with pins := { w.pins with phyUp := false } } := by
  unfold Work.phyDown
  rcases hl with hl | hl <;> rw [hl]

/-- The link goes DOWN from what the end of the transfer leaves. -/
theorem Work.linkDown_eq {v : Work} (hv : w.endTransfer .linkDown = v) (hl : v.tu.link ≠ .down) : w.linkDown = { v with
    tu := { v.tu with link := .down, bound := none, helloTimer := false, deskTimer := false }
    cp := v.cp.raise .tetherChange [1] } := by
  unfold Work.linkDown
  rw [hv]
  exact Work.enterLink_ne (w := { v with tu := v.tu.unbind }) hl

theorem Work.deskExpires_eq (ht : w.tu.deskTimer = true) : w.deskExpires = (w.endTransfer .deskLoss).enterUnbound := if_pos ht
theorem Work.deskExpires_none (ht : w.tu.deskTimer = false) : w.deskExpires = w := if_neg (by rw [ht]; exact Bool.false_ne_true)

end

/-- Settles O57: a desk frame is judged by the link and its source; a transfer in progress gives its entry back. -/
theorem theLinkFollowsPhyAndDesk : Obligations.TheLinkFollowsPhyAndDesk := by
  unfold Obligations.TheLinkFollowsPhyAndDesk
  intro h m s hs hm up down hello heard
  have hbind : exec (.bind h) s = .next (run (Work.takeDesk h .bind) s) := rfl
  have hping : exec (.ping h) s = .next (run (Work.takeDesk h .ping) s) := rfl
  have hup : exec .phyLinkUp s = .next (run Work.phyUp s) := rfl
  have hdown : exec .phyLinkDown s = .next (run Work.phyDown s) := rfl
  have hhello : exec .helloTimerExpiry s = .next (run Work.helloExpires s) := rfl
  have hdesk : exec .deskLossTimerExpiry s = .next (run Work.deskExpires s) := rfl
  have hne {l k : Link} (hl : s.tu.link = l) (hk : l ≠ k) : s.tu.link ≠ k := hl.symm ▸ hk
  refine ⟨fun ht => ⟨fun hl => ?_, fun hl hp hst => ?_, fun hl => ?_, fun hl hl2 => ?_, ?_, fun hd => ?_, fun hd hl hst => ?_,
    fun hl => ⟨?_, ?_⟩, fun hl hh hq hst hdm => ?_, ?_, fun hl hh hb => ⟨?_, ?_⟩, fun hl hh hb => ?_⟩, fun x e hx => ⟨?_, fun hd => ?_⟩⟩
  · exact exec_leaves _ hup hs rfl rfl (if_neg fun hc => hl hc.1)
  · refine exec_leaves _ hup hs rfl rfl ((if_pos ⟨hl, hp⟩).trans ?_)
    refine Work.enterUnbound_eq (w := { toState := { s with pins := { s.pins with phyUp := true } }, bus := [] }) hm ?_ hst
    show s.tu.link ≠ .unbound
    rw [hl]
    exact fun h => Link.noConfusion h
  · exact exec_leaves _ hdown hs rfl rfl (Work.phyDown_idle (w := { toState := s, bus := [] }) hl)
  · refine exec_leaves _ hdown hs rfl rfl ((Work.phyDown_linked (w := { toState := s, bus := [] }) hl hl2).trans ?_)
    exact Work.linkDown_eq (Work.endTransfer_none ht _) hl2
  · rw [apply_ite Host.Outcome.next]
    split
    · next hc =>
      exact exec_leaves _ hhello hs rfl rfl ((Work.helloExpires_eq (w := { toState := s, bus := [] }) hm).trans (if_pos hc))
    · next hc =>
      exact exec_same _ hhello hs ((Work.helloExpires_eq (w := { toState := s, bus := [] }) hm).trans (if_neg hc))
  · exact exec_same _ hdesk hs (Work.deskExpires_none hd)
  · refine exec_leaves _ hdesk hs rfl rfl ((Work.deskExpires_eq (w := { toState := s, bus := [] }) hd).trans ?_)
    rw [Work.endTransfer_none (by exact ht)]
    refine Work.enterUnbound_eq (w := { toState := s, bus := [] }) hm ?_ hst
    show s.tu.link ≠ .unbound
    rw [hl]
    exact fun h => Link.noConfusion h
  · exact exec_same _ hbind hs (Work.takeDesk_deaf hl)
  · exact exec_same _ hping hs (Work.takeDesk_deaf hl)
  · refine exec_comes _ hbind (State.steady_congr (s := s) rfl rfl hs) ?_
    rw [Work.takeDesk_passes (w := { toState := s, bus := [] }) (hne hl (by decide)) (hne hl (by decide)) hm hh rfl,
      Work.takePassed_binds (w := { toState := s, bus := [] }) hl hdm]
    refine .skip (Work.handle_select_none ?_) (.done _)
    show s.tu.queue.find? _ = none
    rw [hq]
    rfl
  · intro e rest i r d hl hh hst hdm hq hkind he hsrc hc hcopy hrest hnd hr hproof hte hd hdst t
    have hlen : e.length = 42000064 := by
      rw [Entry.length, hcopy, hc]
      rfl
    have hself (y : Entry) : y.is y.number y.chain = true := by
      rw [Entry.is_eq]
      exact decide_eq_true ⟨rfl, rfl⟩
    have hmap : ((e :: rest).map fun y => if y.is e.number e.chain then { e with sending := true } else y) =
        { e with sending := true } :: rest := by
      rw [List.map_cons, if_pos (hself e)]
      congr 1
      refine (List.map_congr_left fun y hy => ?_).trans (List.map_id _)
      refine if_neg ?_
      rw [Entry.is_eq, hc]
      exact fun hc => hrest y hy (of_decide_eq_true hc)
    refine exec_comes _ hbind (State.steady_congr (s := s) rfl rfl hs) ?_
    rw [Work.takeDesk_passes (w := { toState := s, bus := [] }) (hne hl (by decide)) (hne hl (by decide)) hm hh rfl,
      Work.takePassed_binds (w := { toState := s, bus := [] }) hl hdm]
    obtain ⟨u, hu⟩ : ∃ u : State, u = { s with
        tu := { s.tu with link := .boundIdle, bound := some h.src, helloTimer := false, deskTimer := true }
        cp := s.cp.raise .tetherChange [3] } := ⟨_, rfl⟩
    have hready : ({ toState := u, bus := [] } : Work).tu.queue.find? (fun y => Work.ready { toState := u, bus := [] } y) = some e := by
      rw [hu]
      show s.tu.queue.find? _ = some e
      rw [hq]
      refine List.find?_cons_of_pos ?_
      rw [Work.ready, hsrc, hc]
    have hstart := Work.startTransfer_raw (w := { toState := u, bus := [] }) (e := e) (q := { e with sending := true } :: rest)
      (i := i) (r := r) (d := d) (desk := h.src) (m := m) (by rw [hu]; exact fun h => Link.noConfusion h) (by rw [hu])
      (by rw [hu]; exact hm) (by rw [hu]; exact hq ▸ hmap) (List.find?_cons_of_pos (hself _)) (by rw [hu]; exact hnd) he hc hsrc
      hcopy (by rw [hu]; exact hr) hte hd (by rw [hdst]; rfl) hproof
    show Work.Comes { toState := { s with tu := _, cp := _ }, bus := [.select] } _ _
    rw [← hu]
    refine .step ((Work.handle_select_starts (w := { toState := u, bus := [] }) (by rw [hu]) (by rw [hu]; exact hst) hready).trans
      hstart) ?_
    rw [hu]
    dsimp only [Tu.opens, Tu.offer, Transfer.start, Entry.report]
    rw [hlen, hc, hsrc]
    exact .done _
  · refine exec_leaves _ hping hs rfl rfl ?_
    rw [Work.takeDesk_passes (w := { toState := s, bus := [] }) (hne hl (by decide)) (hne hl (by decide)) hm hh rfl,
      Work.takePassed_bound (.inl hl) hb]
    rfl
  · refine exec_leaves _ hbind hs rfl rfl ?_
    rw [Work.takeDesk_passes (w := { toState := s, bus := [] }) (hne hl (by decide)) (hne hl (by decide)) hm hh rfl,
      Work.takePassed_bound (.inl hl) hb]
    rfl
  · refine exec_same _ hping hs ?_
    rw [Work.takeDesk_passes (w := { toState := s, bus := [] }) (hne hl (by decide)) (hne hl (by decide)) hm hh rfl]
    exact Work.takePassed_other (hne hl (by decide)) hb
  · obtain ⟨-, -, -, hlink, -⟩ := id hx
    have hoff : s.tu.link ≠ .off ∧ s.tu.link ≠ .down ∧ s.tu.link ≠ .unbound := by
      rcases hlink with hl | hl <;> exact ⟨hne hl (by decide), hne hl (by decide), hne hl (by decide)⟩
    refine exec_leaves _ hdown hs rfl rfl ((Work.phyDown_linked (w := { toState := s, bus := [] }) hoff.1 hoff.2.1).trans ?_)
    have hend := Work.endTransfer_returns (w := { toState := { s with pins := { s.pins with phyUp := false } }, bus := [] })
      (y := .linkDown) rfl hx
    exact Work.linkDown_eq hend hoff.2.1
  · obtain ⟨-, -, hst, hlink, -⟩ := id hx
    refine exec_leaves _ hdesk hs rfl rfl ((Work.deskExpires_eq (w := { toState := s, bus := [] }) hd).trans ?_)
    rw [Work.endTransfer_returns (w := { toState := s, bus := [] }) (y := .deskLoss) rfl hx]
    refine Work.enterUnbound_eq (w := { toState := { s with bm := (s.requeued e).bm, tu := (s.requeued e).tu }, bus := [] }) hm ?_ hst
    show s.tu.link ≠ .unbound
    rcases hlink with hl | hl <;> exact hne hl (by decide)

end Sys2Proof.Machine
end

section
/-! PROOF. The tether's settings and its enable (R148, R149, R170, R173). -/

namespace Sys2Proof.Machine

/-- An address is individual when it is neither null nor a group address (R148). -/
theorem individual_of {m : BitVec 48} (h0 : m ≠ 0) (h : m.getLsbD 0 = false) : individual m = true := by
  rw [individual, h, decide_eq_true h0]
  rfl

/-- Settings in range are read back from their bytes (R148). -/
theorem tetherSettingsOf_bytes {m : BitVec 48} {x : TetherSettings} (hown : x.ownMac = some m) (hm : m ≠ 0)
    (hm0 : m.getLsbD 0 = false) (hdesk : x.deskMac = 0 ∨ x.deskMac.getLsbD 0 = false) (hety : 0x600 ≤ x.etherType.toNat)
    (hlen : x.name.length = 16) (hname : ∀ b ∈ x.name, 0x20 ≤ b.toNat ∧ b.toNat ≤ 0x7E) (hw : 16 ≤ x.window)
    (hw2 : x.window ≤ 64) (ha : 50 ≤ x.ackTimeout) (ha2 : x.ackTimeout ≤ 2000) : tetherSettingsOf x.bytes = some x := by
  have hb : x.bytes = leBytes 6 m.toNat ++ (leBytes 6 x.deskMac.toNat ++ (leBytes 2 x.etherType.toNat ++ (x.name ++
      ([BitVec.ofNat 8 x.window] ++ (leBytes 2 x.ackTimeout ++ [flagByte x.remote]))))) := by
    rw [TetherSettings.bytes, hown]
    simp only [List.append_assoc]
  have h6 (n : Nat) : (leBytes 6 n).length = 6 := leBytes_length 6 n
  have h2 (n : Nat) : (leBytes 2 n).length = 2 := leBytes_length 2 n
  have eown : fieldAt x.bytes 0 6 = m.toNat := by
    rw [hb]
    exact fieldAt_front _ m.isLt
  have edesk : fieldAt x.bytes 6 6 = x.deskMac.toNat := by
    rw [hb]
    exact (fieldAt_behind 0 6 (h6 _)).trans (fieldAt_front _ x.deskMac.isLt)
  have eety : fieldAt x.bytes 12 2 = x.etherType.toNat := by
    rw [hb]
    exact (fieldAt_behind 6 2 (h6 _)).trans ((fieldAt_behind 0 2 (h6 _)).trans (fieldAt_front _ x.etherType.isLt))
  have ename : (x.bytes.drop 14).take 16 = x.name := by
    rw [hb, ← List.append_assoc, ← List.append_assoc]
    rw [List.drop_left' (by rw [List.length_append, List.length_append, h6, h6, h2]), List.take_left' hlen]
  have hback (i : Nat) : byteAt x.bytes (30 + i) =
      byteAt ([BitVec.ofNat 8 x.window] ++ (leBytes 2 x.ackTimeout ++ [flagByte x.remote])) i := by
    rw [hb, ← List.append_assoc, ← List.append_assoc, ← List.append_assoc]
    exact byteAt_behind i (by simp only [List.length_append, h6, h2, hlen])
  have ewin : (byteAt x.bytes 30).toNat = x.window := (congrArg BitVec.toNat (hback 0)).trans (toNat_ofNat_byte (by omega))
  have eack : fieldAt x.bytes 31 2 = x.ackTimeout := by
    rw [hb, ← List.append_assoc, ← List.append_assoc, ← List.append_assoc]
    exact (fieldAt_behind (j := 30) 1 2 (by simp only [List.length_append, h6, h2, hlen])).trans (leNat_leBytes (k := 2) (by omega))
  have erem : byteAt x.bytes 33 = flagByte x.remote := hback 3
  have hown2 : individual (BitVec.ofNat 48 m.toNat) = true := by
    rw [BitVec.ofNat_toNat, BitVec.setWidth_eq]
    exact individual_of hm hm0
  have hdesk2 : BitVec.ofNat 48 x.deskMac.toNat = 0 ∨ individual (BitVec.ofNat 48 x.deskMac.toNat) = true := by
    rw [BitVec.ofNat_toNat, BitVec.setWidth_eq]
    by_cases h0 : x.deskMac = 0
    · exact .inl h0
    · exact .inr (individual_of h0 (hdesk.resolve_left h0))
  have hchars : (x.name.all fun b => decide (0x20 ≤ b.toNat) && decide (b.toNat ≤ 0x7E)) = true :=
    List.all_eq_true.2 fun b hb => by
      rw [Bool.and_eq_true]
      exact ⟨decide_eq_true (hname b hb).1, decide_eq_true (hname b hb).2⟩
  unfold tetherSettingsOf
  simp only [eown, edesk, eety, ename, ewin, eack, erem, flagOf_flagByte, hown2, hdesk2, hety, hchars, and_self, if_true]
  rw [BitVec.ofNat_toNat, BitVec.ofNat_toNat, BitVec.ofNat_toNat, BitVec.setWidth_eq, BitVec.setWidth_eq, BitVec.setWidth_eq,
    clampNat_of_le ⟨hw, hw2⟩, clampNat_of_le ⟨ha, ha2⟩, ← hown]

section
variable {w : Work}

/-- TETHER_ENABLE is judged by its flag, the stopped flag and the own MAC (R149, R173). -/
theorem answerTetherEnable_eq {b : Byte} {on : Bool} (hb : flagOf b = some on) : answerTetherEnable [b] w =
    if w.tu.stopped then .refused .state
    else if on then
      if w.tu.settings.ownMac = none then .refused .notReady
      else if w.tu.link = .off then
        (fun v : Work => Answer.taken v [v.tu.link.byte]) (if w.pins.phyUp then w.enterUnbound else w.enterLink .down)
      else .taken w [w.tu.link.byte]
    else (fun v : Work => Answer.taken v [v.tu.link.byte]) (if w.tu.link = .off then w else w.disableTether) := by
  unfold answerTetherEnable
  rw [show byteAt [b] 0 = b from rfl, hb]

theorem answerTetherEnable_on {m : BitVec 48} (hst : w.tu.stopped = false) (hown : w.tu.settings.ownMac = some m) :
    answerTetherEnable [1] w = if w.tu.link = .off then
        (fun v : Work => Answer.taken v [v.tu.link.byte]) (if w.pins.phyUp then w.enterUnbound else w.enterLink .down)
      else .taken w [w.tu.link.byte] := by
  rw [answerTetherEnable_eq (b := 1) (on := true) rfl, if_neg (by rw [hst]; exact Bool.false_ne_true), if_pos rfl,
    if_neg (by rw [hown]; exact Option.some_ne_none m)]

theorem answerTetherEnable_off (hst : w.tu.stopped = false) : answerTetherEnable [0] w =
    (fun v : Work => Answer.taken v [v.tu.link.byte]) (if w.tu.link = .off then w else w.disableTether) := by
  rw [answerTetherEnable_eq (b := 0) (on := false) rfl, if_neg (by rw [hst]; exact Bool.false_ne_true),
    if_neg Bool.false_ne_true]

/-- OFF from what the end of the transfer leaves (R149). -/
theorem Work.disableTether_eq {v : Work} (hv : w.endTransfer .disable = v) (hl : v.tu.link ≠ .off) : w.disableTether = { v with
    tu := { v.tu with link := .off, bound := none, helloTimer := false, deskTimer := false }
    cp := v.cp.raise .tetherChange [0] } := by
  unfold Work.disableTether
  rw [hv]
  exact Work.enterLink_ne (w := { v with tu := v.tu.unbind }) hl

end

/-- Settles O55: the settings are read back and judged by the link, and the enable moves the link as the PHY and the transfer
in progress have it. -/
theorem tetherIsSetAndEnabled : Obligations.TetherIsSetAndEnabled := by
  unfold Obligations.TetherIsSetAndEnabled
  intro tag s hs
  have hon (p : List Byte) : exec (.tetherEnableOn tag p) s = request .tetherEnable tag p s := rfl
  have hoff (p : List Byte) : exec (.tetherEnableOff tag p) s = request .tetherEnable tag p s := rfl
  have howner (p : List Byte) (w : Work) : Request.tetherEnable.owner p w = answerTetherEnable p w := rfl
  refine ⟨fun m x hown hm hm0 hdesk hety hlen hname hw hw2 ha ha2 => ?_, ?_, fun hst => ⟨?_, ?_⟩,
    fun hst => ⟨fun hown => ?_, fun m hown => ⟨fun hl => ?_, fun hl hup => ?_, fun hl hup => ?_⟩, fun hl => ?_, fun hl ht => ?_,
      fun x e m desk hx hown hb => ?_⟩⟩
  · have hof := tetherSettingsOf_bytes hown hm hm0 hdesk hety hlen hname hw hw2 ha ha2
    have hsize : x.bytes.length = Request.tetherSet.size := by
      rw [TetherSettings.bytes, hown]
      simp only [List.length_append, leBytes_length, hlen]
      rfl
    split
    · next hc =>
      refine request_done .tetherSet (t := { s with tu := { s.tu with settings := x } }) hs hsize rfl rfl
        (State.steady_congr (s := s) rfl rfl hs.2.1) fun cp sent => ?_
      rw [Request.owner, answerTetherSet, hof]
      dsimp only
      rw [if_neg (fun h => hc.elim h.1 h.2)]
      exact .taken (.done _)
    · next hc =>
      refine request_turned .tetherSet .state rfl hs hsize fun cp sent => ?_
      rw [Request.owner, answerTetherSet, hof]
      exact if_pos (not_or.1 hc)
  · exact request_done .tetherStats (t := { s with tu := { s.tu with counters := Counters.zero } }) hs rfl rfl rfl
      (State.steady_congr (s := s) rfl rfl hs.2.1) fun cp sent => ⟨_, rfl, .done _⟩
  · rw [hon]
    refine request_turned .tetherEnable .state rfl hs rfl fun cp sent => ?_
    rw [howner, answerTetherEnable_eq (b := 1) (on := true) rfl]
    exact if_pos hst
  · rw [hoff]
    refine request_turned .tetherEnable .state rfl hs rfl fun cp sent => ?_
    rw [howner, answerTetherEnable_eq (b := 0) (on := false) rfl]
    exact if_pos hst
  · rw [hon]
    refine request_turned .tetherEnable .notReady rfl hs rfl fun cp sent => ?_
    rw [howner, answerTetherEnable_eq (b := 1) (on := true) rfl]
    dsimp only
    rw [hst, if_neg Bool.false_ne_true, if_pos rfl, if_pos hown]
  · rw [hon]
    refine request_done .tetherEnable hs rfl rfl rfl hs.2.1 fun cp sent => ?_
    exact ⟨_, (answerTetherEnable_on hst hown).trans (if_neg hl), .done _⟩
  · rw [hon]
    refine request_comes .tetherEnable (fun x => { x with
      tu := { s.tu with link := .down }, cp := x.cp.raise .tetherChange [1] }) hs rfl
      (fun cp sent => State.steady_congr (s := s) rfl rfl hs.2.1) fun cp sent => ?_
    rw [howner, answerTetherEnable_on hst hown, if_pos (by exact hl), if_neg (by rw [hup]; exact Bool.false_ne_true),
      Work.enterLink_ne (by exact hl ▸ fun h => Link.noConfusion h)]
    exact .taken (.done _)
  · rw [hon]
    refine request_comes .tetherEnable (fun x => { x with
      tu := { s.tu with link := .unbound, bound := none, helloTimer := true, deskTimer := false },
      sent := .desk (helloFrame s.tu.settings m) :: x.sent, cp := x.cp.raise .tetherChange [2] }) hs rfl
      (fun cp sent => State.steady_congr (s := s) rfl rfl hs.2.1) fun cp sent => ?_
    rw [howner, answerTetherEnable_on hst hown, if_pos (by exact hl), if_pos (by exact hup),
      Work.enterUnbound_eq hown (by exact hl ▸ fun h => Link.noConfusion h) hst]
    exact .taken (.done _)
  · rw [hoff]
    refine request_done .tetherEnable hs rfl rfl rfl hs.2.1 fun cp sent => ?_
    rw [howner, answerTetherEnable_off hst, if_pos (by exact hl)]
    refine ⟨_, congrArg _ ?_, .done _⟩
    exact congrArg (fun l : Link => [l.byte]) hl
  · rw [hoff]
    refine request_comes .tetherEnable (fun x => { x with
      tu := { s.tu with link := .off, bound := none, helloTimer := false, deskTimer := false },
      cp := x.cp.raise .tetherChange [0] }) hs rfl
      (fun cp sent => State.steady_congr (s := s) rfl rfl hs.2.1) fun cp sent => ?_
    rw [howner, answerTetherEnable_off hst, if_neg (by exact hl), Work.disableTether_eq (Work.endTransfer_none ht _) hl]
    exact .taken (.done _)
  · rw [hoff]
    obtain ⟨-, -, -, hlink, -⟩ := id hx
    have hl : s.tu.link ≠ .off := by
      rcases hlink with hl | hl <;> rw [hl] <;> exact fun h => Link.noConfusion h
    refine request_comes .tetherEnable (fun y => { y with
      bm := (s.requeued e).bm,
      tu := { (s.requeued e).tu with link := .off, bound := none, helloTimer := false, deskTimer := false },
      sent := .desk (wireFrame desk m s.tu.settings.etherType 0x09 (leBytes 2 x.id ++ [3])) :: y.sent,
      cp := y.cp.raise .tetherChange [0] }) hs rfl
      (fun cp sent => State.steady_congr (s := s) rfl rfl hs.2.1) fun cp sent => ?_
    have hend := Work.endTransfer_returns (w := { toState := { s with cp := cp, sent := sent }, bus := [] }) (y := .disable)
      rfl hx
    have habort : Work.aborts { toState := { s with cp := cp, sent := sent }, bus := [] } .disable x.id =
        [.desk (wireFrame desk m s.tu.settings.etherType 0x09 (leBytes 2 x.id ++ [3]))] := by
      unfold Work.aborts
      dsimp only
      rw [hb, hown]
      rfl
    rw [habort] at hend
    rw [howner, answerTetherEnable_off hst, if_neg (by exact hl), Work.disableTether_eq hend hl]
    exact .taken (.done _)

end Sys2Proof.Machine
end

section
/-! PROOF. Sends as they are judged and join the queue, and the requests of the desk (R150, R153, R167, R168). -/

namespace Sys2Proof.Machine

/-! ### The judgment of a send (R153) -/

section
variable {w : Work} {n prio : Nat} {b : Byte} {c : Chain} {r : Row}

theorem chainOf_byte (c : Chain) : chainOf c.byte = some c := by cases c <;> rfl

theorem chainOf_range (hb : b.toNat ≤ 1) : ∃ c, chainOf b = some c := by
  rcases Nat.le_one_iff_eq_zero_or_eq_one.1 hb with h | h
  · exact ⟨.raw, by rw [chainOf, h]; rfl⟩
  · exact ⟨.proof, by rw [chainOf, h]; rfl⟩

theorem Work.judgeSend_known (hc : chainOf b = some c) (hp : prio ≤ 3) (h1 : 1 ≤ n) (h2 : n ≤ 16777215) :
    w.judgeSend n b prio = match w.bm.numbered? n with
      | none => .error .noSuchShot
      | some r =>
        if r.discarding then .error .state
        else if (w.tu.entry? n c).isSome then .error .inUse
        else if Config.sendEntries ≤ w.tu.queue.length then .error .full
        else
          match planSend r c with
          | some p => .ok p
          | none => .error .noSource := by
  have hrange : ¬ (3 < prio ∨ n = 0 ∨ Config.maxShot < n) := by
    rw [show Config.maxShot = 16777215 from rfl]
    omega
  unfold Work.judgeSend
  rw [hc]
  exact if_neg hrange

theorem Work.judgeSend_unknown (hc : chainOf b = some c) (hp : prio ≤ 3) (h1 : 1 ≤ n) (h2 : n ≤ 16777215)
    (hr : w.bm.numbered? n = none) : w.judgeSend n b prio = .error .noSuchShot := by
  rw [Work.judgeSend_known hc hp h1 h2, hr]

theorem Work.judgeSend_inUse {e : Entry} (hc : chainOf b = some c) (hp : prio ≤ 3) (h1 : 1 ≤ n) (h2 : n ≤ 16777215)
    (hr : w.bm.numbered? n = some r) (hd : r.discarding = false) (he : w.tu.entry? n c = some e) :
    w.judgeSend n b prio = .error .inUse := by
  rw [Work.judgeSend_known hc hp h1 h2, hr]
  dsimp only
  rw [hd, if_neg Bool.false_ne_true, he]
  rfl

/-- A SEND of a HELD shot's RAW chain, planned as a DUTY entry with source BUFFER. -/
def SendPlan.raw (r : Row) : SendPlan := { row := r, chain := .raw, kind := .duty, source := .buffer, copy := none }

theorem Work.judgeSend_raw (hp : prio ≤ 3) (h1 : 1 ≤ n) (h2 : n ≤ 16777215) (hr : w.bm.numbered? n = some r)
    (hd : r.discarding = false) (he : w.tu.entry? n .raw = none) (hq : w.tu.queue.length < 64) (hl : r.life = .held)
    (hraw : r.raw ≠ none) (ht : r.tethers = []) : w.judgeSend n 0 prio = .ok (SendPlan.raw r) := by
  have hplan : planSend r .raw = some (SendPlan.raw r) := by
    unfold planSend
    rw [ht]
    dsimp only [List.find?_nil]
    rw [if_pos ⟨hl, rfl⟩]
    exact if_pos (Option.isSome_iff_ne_none.2 hraw)
  rw [Work.judgeSend_known (c := .raw) rfl hp h1 h2, hr]
  dsimp only
  rw [hd, if_neg Bool.false_ne_true, he, if_neg (by exact Bool.false_ne_true), if_neg (show ¬ Config.sendEntries ≤ w.tu.queue.length from not_le.2 hq), hplan]

/-- The entry of a RAW chain that is sent from the buffer. -/
def Row.rawEntry (r : Row) (n prio : Nat) : Entry :=
  { number := n, chain := .raw, kind := .duty, row := some r.index, sending := false, source := .buffer, copy := none,
    prio := prio, early := false }

/-- The duty that BM creates for it. -/
def rawDuty (prio : Nat) : TetherDuty :=
  { chain := .raw, state := .pending, source := .buffer, prio := prio, early := false, cause := none }

theorem Work.joinSend_raw (early : Bool) : w.joinSend (SendPlan.raw r) n prio early = { w with
    bm := w.bm.mapRow r.index fun x => { x with tethers := x.tethers ++ [rawDuty prio] }
    tu := { w.tu with queue := insertTail (r.rawEntry n prio) w.tu.queue }
    bus := w.bus ++ [.select] } := by
  have hearly : (early && Decidable.decide (Chain.raw = .proof) && Decidable.decide (Source.buffer = .buffer)) = false := by
    rw [decide_eq_false (fun h => Chain.noConfusion h), Bool.and_false]
    rfl
  unfold Work.joinSend SendPlan.raw
  dsimp only
  rw [hearly]
  rfl

end

/-! ### The requests of the desk (R150, R167, R168) -/

section
variable {w : Work} {h : DeskHead} {m : BitVec 48} {n : Nat} {b : Byte}

theorem Work.bump_dropped (hc : w.tu.counters.dropped < 254) : w.bump .dropped = { w with
    tu := { w.tu with counters := { w.tu.counters with dropped := w.tu.counters.dropped + 1 } } } := by
  have hrise : satSucc 255 w.tu.counters.dropped = w.tu.counters.dropped + 1 := by
    unfold satSucc
    exact if_neg (by omega)
  refine (if_neg (show ¬ w.tu.counters.get .dropped = 254 from Nat.ne_of_lt hc)).trans ?_
  rw [Counters.rise, hrise]

theorem Link.hears_of (hl : w.tu.link ≠ .off) (hd : w.tu.link ≠ .down) : w.tu.link.hears = true := by
  revert hl hd
  cases w.tu.link with
  | off => exact fun h => absurd rfl h
  | down => exact fun _ h => absurd rfl h
  | unbound | boundIdle | sending | finishing => exact fun _ _ => rfl

/-- A frame with an EtherType that is not the part's is dropped and counted (R150). -/
theorem Work.takeDesk_foreign {x : DeskMsg} (hl : w.tu.link ≠ .off) (hd : w.tu.link ≠ .down)
    (he : h.etherType ≠ w.tu.settings.etherType) : w.takeDesk h x = w.bump .dropped := by
  rw [Work.takeDesk, if_neg (by rw [Link.hears_of hl hd]; exact Bool.noConfusion), if_pos]
  refine .inl ?_
  rw [Tu.passes, decide_eq_false he, Bool.and_false]

/-- Bytes with a wrong length, frame check or kind spell no frame of the desk (R150). -/
theorem deskFrameOf_bad {f : List Byte}
    (hf : f.length < 19 ∨ 1518 < f.length ∨ frameCheck f = false ∨ byteAt f 14 ∉ [0x02, 0x03, 0x06, 0x08, 0x0A, 0x0B]) :
    deskFrameOf f = none := by
  unfold deskFrameOf
  rcases hf with hf | hf | hf | hf
  · exact if_neg fun h => absurd h.1 (by omega)
  · exact if_neg fun h => absurd h.2.1 (by omega)
  · exact if_neg fun h => by rw [hf] at h; exact Bool.false_ne_true h.2.2
  · split
    · have hnone (g : List Byte) : deskMsgOf (byteAt f 14) g = none := by
        simp only [List.mem_cons, List.not_mem_nil, or_false, not_or, ← BitVec.toNat_inj] at hf
        unfold deskMsgOf
        split <;> first | rfl | (exfalso; simp_all)
      rw [hnone]
      rfl
    · rfl

theorem Work.rawDeskFrame_bad {f : List Byte} (hf : deskFrameOf f = none) (hl : w.tu.link ≠ .off) (hd : w.tu.link ≠ .down) :
    w.rawDeskFrame f = w.bump .dropped := by
  rw [Work.rawDeskFrame, hf]
  exact if_pos (Link.hears_of hl hd)

theorem Work.rawDeskFrame_deaf {f : List Byte} (hl : w.tu.link = .off ∨ w.tu.link = .down) : w.rawDeskFrame f = w := by
  unfold Work.rawDeskFrame
  split
  · exact Work.takeDesk_deaf hl
  · refine if_neg ?_
    rcases hl with hl | hl <;> rw [hl] <;> exact Bool.false_ne_true

theorem Work.judgeRemote_latched {k : Nat} (h1 : 1 ≤ k) (h2 : k ≤ 99) (hl : w.pwc.latched = true) :
    w.judgeRemote k = .error .state := by
  rw [Work.judgeRemote, if_neg (by omega), if_pos (.inr hl)]

theorem Work.takeDeskRemote_error {c : Result} (hr : w.tu.settings.remote = true) (hj : w.judgeRemote b.toNat = .error c) :
    w.takeDeskRemote b = w.nakRemote b c := by
  rw [Work.takeDeskRemote, if_pos hr, hj]

/-- The queue with the entry of a number and chain raised to priority 2. -/
def Tu.raisedQueue (t : Tu) (n : Nat) (e : Entry) : List Entry :=
  insertTail { e with prio := 2 } (t.queue.filter fun x => !decide (x.number = n ∧ x.chain = e.chain))

/-- A REQUEST that waits below priority 2 is raised to it (R167). -/
theorem Work.takeRequest_raises {e : Entry} {r : Row} (hst : w.tu.stopped = false) (h1 : 1 ≤ n) (h2 : n ≤ 16777215)
    (hr : w.bm.numbered? n = some r) (hd : r.discarding = false) (he : w.tu.entry? n e.chain = some e) (hrow : e.row = none)
    (hsend : e.sending = false) (hp : e.prio < 2) : w.takeRequest n e.chain.byte = { w with
      tu := { w.tu with queue := w.tu.raisedQueue n e }
      bus := w.bus ++ [.select] } := by
  have hnum : e.number = n := by
    have := List.find?_some he
    rw [Entry.is_eq] at this
    exact (of_decide_eq_true this).1
  unfold Work.takeRequest
  rw [hst, if_neg Bool.false_ne_true, Work.judgeSend_inUse (chainOf_byte _) (by decide) h1 h2 hr hd he]
  dsimp only
  rw [chainOf_byte, Option.bind_some, he]
  dsimp only
  rw [Work.raiseEntry, if_pos ⟨hsend, hp⟩]
  dsimp only
  rw [Work.mirror_none (e := { e with prio := 2 }) hrow, Tu.dropEntry]
  simp only [Tu.raisedQueue, Entry.is_eq, hnum]
  rfl

end

/-- Settles O60. -/
theorem deskRequestsAreServed : Obligations.DeskRequestsAreServed := by
  unfold Obligations.DeskRequestsAreServed
  intro h m n chain count s hs hm nak heard dropped
  have hraw (f : List Byte) : exec (.deskFrameDropped f) s = .next (run (Work.rawDeskFrame f) s) := rfl
  have hrequest : exec (.request h n chain) s = .next (run (Work.takeDesk h (.request n.toNat chain)) s) := rfl
  have hremote : exec (.remote h count) s = .next (run (Work.takeDesk h (.remote count)) s) := rfl
  refine ⟨fun hl f => ⟨?_, ?_, ?_⟩, fun hl hd hc => ⟨fun f hf => ?_, fun he => ⟨?_, ?_⟩⟩, fun hl he hdst hb =>
    ⟨?_, fun hlink hst h1 hq r hr hd => ⟨?_, ?_⟩, ?_, ?_, ?_⟩⟩
  · exact exec_same _ (hraw f) hs (Work.rawDeskFrame_deaf hl)
  · exact exec_same _ hrequest hs (Work.takeDesk_deaf hl)
  · exact exec_same _ hremote hs (Work.takeDesk_deaf hl)
  · exact exec_leaves _ (hraw f) hs rfl rfl ((Work.rawDeskFrame_bad (deskFrameOf_bad hf) hl hd).trans (Work.bump_dropped hc))
  · exact exec_leaves _ hrequest hs rfl rfl ((Work.takeDesk_foreign hl hd he).trans (Work.bump_dropped hc))
  · exact exec_leaves _ hremote hs rfl rfl ((Work.takeDesk_foreign hl hd he).trans (Work.bump_dropped hc))
  all_goals
    have hl1 : s.tu.link ≠ .off := by rcases hl with hl | hl | hl <;> rw [hl] <;> exact fun h => Link.noConfusion h
    have hl2 : s.tu.link ≠ .down := by rcases hl with hl | hl | hl <;> rw [hl] <;> exact fun h => Link.noConfusion h
    have htaken (x : DeskMsg) (hx : x.malformed = false) : Work.takeDesk h x { toState := s, bus := [] } =
        Work.takeBound x { toState := heard, bus := [] } := by
      rw [Work.takeDesk_passes (w := { toState := s, bus := [] }) hl1 hl2 hm ⟨he, .inl hdst⟩ hx,
        Work.takePassed_bound hl hb]
    have hnak (f : List Byte) : Work.sendDesk 0x0C f { toState := heard, bus := [] } =
        { toState := { heard with sent := nak f :: s.sent }, bus := [] } := by
      show (Work.emit _ _ : Work) = _
      rw [show heard.tu.bound = some h.src from hb, show heard.tu.settings.ownMac = some m from hm]
      rfl
    have hn : n.toNat ≤ 16777215 := by have := n.isLt; omega
  · intro hc
    refine exec_leaves _ hrequest hs rfl rfl ((htaken _ rfl).trans ?_)
    have hrefused : Work.takeRequest n.toNat chain { toState := heard, bus := [] } =
        Work.refuseRequest n.toNat chain (if s.tu.stopped then .state else .noSuchShot) { toState := heard, bus := [] } := by
      unfold Work.takeRequest
      cases hst : s.tu.stopped with
      | true => rfl
      | false =>
        rcases hc with hc | ⟨hchain, h1, hr⟩
        · exact absurd (hst.symm.trans hc) Bool.false_ne_true
        · obtain ⟨c, hc⟩ := chainOf_range hchain
          rw [if_neg Bool.false_ne_true, if_neg Bool.false_ne_true, Work.judgeSend_unknown (w := { toState := heard, bus := [] }) hc (by decide) h1 hn hr]
    refine hrefused.trans ?_
    rw [Work.refuseRequest, Work.nakRequest, hnak]
    cases s.tu.stopped <;> rfl
  · rintro rfl hlife hraw ht hentry e
    refine exec_comes _ hrequest (State.steady_congr (s := s) rfl rfl hs) ?_
    rw [htaken _ rfl]
    show Work.Comes (Work.takeRequest n.toNat 0 _) _ _
    rw [Work.takeRequest, if_neg (by rw [show heard.tu.stopped = false from hst]; exact Bool.false_ne_true),
      Work.judgeSend_raw (w := { toState := heard, bus := [] }) (by decide) h1 hn hr hd hentry hq hlife hraw ht]
    dsimp only
    rw [Work.joinSend_raw]
    exact .skip (Work.handle_select _ (by exact hlink)) (.done _)
  · rintro e rfl hentry hrow hsend hp
    refine exec_comes _ hrequest (State.steady_congr (s := s) rfl rfl hs) ?_
    rw [htaken _ rfl]
    show Work.Comes (Work.takeRequest n.toNat e.chain.byte _) _ _
    rw [Work.takeRequest_raises (w := { toState := heard, bus := [] }) hst h1 hn hr hd hentry hrow hsend hp]
    exact .skip (Work.handle_select _ (by exact hlink)) (.done _)
  · intro hc
    refine exec_leaves _ hremote hs rfl rfl ((htaken _ rfl).trans ?_)
    refine Eq.trans ?_ (hnak [0x0B, 0, 0, 0, 0, count, 8])
    show Work.takeDeskRemote count _ = _
    cases hr : s.tu.settings.remote with
    | false => exact if_neg (by rw [show heard.tu.settings.remote = false from hr]; exact Bool.false_ne_true)
    | true =>
      refine Work.takeDeskRemote_error (w := { toState := heard, bus := [] }) (c := .state) hr ?_
      rcases hc with hc | ⟨h1, h2, hc | ⟨-, hd, hd2⟩⟩
      · exact absurd (hr.symm.trans hc) (fun h => Bool.noConfusion h)
      · exact Work.judgeRemote_latched (w := { toState := heard, bus := [] }) h1 h2 hc
      · exact Work.judgeRemote_state (w := { toState := heard, bus := [] }) h1 h2 hd hd2
  · intro hr hc
    refine exec_leaves _ hremote hs rfl rfl ((htaken _ rfl).trans ?_)
    refine Eq.trans ?_ (hnak [0x0B, 0, 0, 0, 0, count, 3])
    exact Work.takeDeskRemote_error (w := { toState := heard, bus := [] }) (c := .badArg) hr (Work.judgeRemote_badArg hc)
  · intro hr hrun h1 h2 hd hpriority hmode hstate
    have hnone : s.fu.gate = none := by
      simp only [List.mem_cons, List.not_mem_nil, or_false] at hstate
      rcases hstate with h | h | h <;> simp only [Fu.gate, h, hmode]
    have hrelease : Work.takeDesk h (.remote count) { toState := s, bus := [] } = Work.takeRemote .remoteDesk
        (if s.rdu.active.mode = .single then 1 else count.toNat) { toState := heard, bus := [] } := by
      refine (htaken _ rfl).trans ?_
      show Work.takeDeskRemote count _ = _
      rw [Work.takeDeskRemote, if_pos (by exact hr), Work.judgeRemote_ok (w := { toState := heard, bus := [] }) h1 h2
        (by rw [show heard.pwc = s.pwc from rfl, hrun]) (by rw [show heard.pwc = s.pwc from rfl, hrun]) hd]
    have hw := Work.takeRemote_waits (w := { toState := heard, bus := [] }) (origin := .remoteDesk)
      (if s.rdu.active.mode = .single then 1 else count.toNat) rfl (by rw [show heard.pwc = s.pwc from rfl, hrun])
      hpriority hnone (Fu.gate_takesPress hnone (.inr (.inr (.inr ⟨hmode, hstate⟩))))
    refine ⟨_, exec_acts _ hremote hrelease, ?_⟩
    rw [hw.settle rfl]
    revert hw
    generalize Work.takeRemote .remoteDesk _ _ = v
    rintro ⟨gates, -, hv⟩
    rw [hv, Work.finishWarning_none (by show s.pwc.responses = none; rw [hrun])]
    exact ⟨rfl, rfl, rfl, rfl, rfl, rfl, rfl, rfl⟩

end Sys2Proof.Machine
end

section
/-! PROOF. Sends join the queue, and the one that is ready starts its transfer (R152 to R157, R165). -/

namespace Sys2Proof.Machine

/-! ### The queue (R152) -/

section
variable {e f : Entry} {q : List Entry} {p : Entry → Bool}

/-- Of a queue in which no other entry answers to a predicate the new one is found. -/
theorem find?_insertTail (he : p e = true) (hq : ∀ x ∈ q, p x = false) : (insertTail e q).find? p = some e := by
  induction q with
  | nil => exact List.find?_cons_of_pos he
  | cons x q ih =>
    have hx : ¬ p x = true := by rw [hq x (.head _)]; exact Bool.false_ne_true
    unfold insertTail
    split
    · rw [List.find?_cons_of_neg hx]
      exact ih fun y hy => hq y (.tail _ hy)
    · exact List.find?_cons_of_pos he

theorem map_insertTail (hp : f.prio = e.prio) (he : p e = true) (hq : ∀ x ∈ q, p x = false) :
    (insertTail e q).map (fun y => if p y then f else y) = insertTail f q := by
  have hrest (l : List Entry) (hl : ∀ x ∈ l, p x = false) : l.map (fun y => if p y then f else y) = l := by
    refine (List.map_congr_left fun y hy => ?_).trans (List.map_id _)
    exact if_neg (by rw [hl y hy]; exact Bool.false_ne_true)
  induction q with
  | nil => exact congrArg (fun y => [y]) (if_pos he)
  | cons x q ih =>
    have hx : ¬ p x = true := by rw [hq x (.head _)]; exact Bool.false_ne_true
    unfold insertTail
    rw [hp]
    split
    · rw [List.map_cons, if_neg hx, ih fun y hy => hq y (.tail _ hy)]
    · rw [List.map_cons, if_pos he, hrest _ hq]

theorem findIdx_insertTail (hp : f.prio = e.prio) (hf : p f = p e) : (insertTail f q).findIdx p = (insertTail e q).findIdx p := by
  induction q with
  | nil => simp only [insertTail, List.findIdx_cons, hf]
  | cons x q ih =>
    unfold insertTail
    rw [hp]
    split
    · simp only [List.findIdx_cons, ih]
    · simp only [List.findIdx_cons, hf]

end

theorem Tu.ahead_eq (t : Tu) (n : Nat) (c : Chain) :
    t.ahead n c = t.queue.findIdx fun x => decide (x.number = n ∧ x.chain = c) := by
  simp only [Tu.ahead, Entry.is_eq]

theorem Tu.entry?_none {t : Tu} {n : Nat} {c : Chain} (h : t.entry? n c = none) : ∀ x ∈ t.queue, x.is n c = false :=
  fun x hx => Bool.eq_false_iff.2 (List.find?_eq_none.1 h x hx)

/-! ### The payloads (R197) -/

section
variable {w : Work} {n prio : Nat} {b : Byte}

theorem slotOf_byte (i : SlotId) : slotOf (slotByte i) = some i := by cases i <;> rfl

/-- A SEND is refused, or joins the queue, as it is judged (R153). -/
theorem answerSend_judged (hn : n ≤ 16777215) (hp : prio ≤ 3) (early : Bool) :
    (∀ c, w.judgeSend n b prio = .error c →
      answerSend (leBytes 3 n ++ [b, BitVec.ofNat 8 prio, flagByte early]) w = .refused c) ∧
    (∀ plan, w.judgeSend n b prio = .ok plan →
      answerSend (leBytes 3 n ++ [b, BitVec.ofNat 8 prio, flagByte early]) w = .taken (w.joinSend plan n prio early)
        [plan.kind.byte, plan.source.byte, BitVec.ofNat 8 ((w.joinSend plan n prio early).tu.ahead n plan.chain)]) := by
  have hback (i : Nat) : byteAt (leBytes 3 n ++ [b, BitVec.ofNat 8 prio, flagByte early]) (3 + i) =
      byteAt [b, BitVec.ofNat 8 prio, flagByte early] i := byteAt_behind i (leBytes_length 3 n)
  have hnum : fieldAt (leBytes 3 n ++ [b, BitVec.ofNat 8 prio, flagByte early]) 0 3 = n := fieldAt_front _ (by omega)
  have hb : byteAt (leBytes 3 n ++ [b, BitVec.ofNat 8 prio, flagByte early]) 3 = b := hback 0
  have hprio : (byteAt (leBytes 3 n ++ [b, BitVec.ofNat 8 prio, flagByte early]) 4).toNat = prio :=
    (congrArg BitVec.toNat (hback 1)).trans (toNat_ofNat_byte (by omega))
  have hearly : byteAt (leBytes 3 n ++ [b, BitVec.ofNat 8 prio, flagByte early]) 5 = flagByte early := hback 2
  unfold answerSend
  dsimp only
  rw [hnum, hb, hprio, hearly, flagOf_flagByte]
  exact ⟨fun c h => by rw [h], fun plan h => by rw [h]⟩

theorem answerSendCancel_unknown {c : Chain} (hn : n ≤ 16777215) (he : w.tu.entry? n c = none) :
    answerSendCancel (leBytes 3 n ++ [c.byte]) w = .refused .noSuchShot := by
  unfold answerSendCancel
  rw [byteAt_behind_number, chainOf_byte, fieldAt_front [c.byte] (by omega)]
  dsimp only
  rw [he]

theorem answerSendCancel_known {c : Chain} {e : Entry} (hn : n ≤ 16777215) (he : w.tu.entry? n c = some e) :
    answerSendCancel (leBytes 3 n ++ [c.byte]) w = .taken (w.cancelEntry e) [flagByte e.sending] := by
  unfold answerSendCancel
  rw [byteAt_behind_number, chainOf_byte, fieldAt_front [c.byte] (by omega)]
  dsimp only
  rw [he]

/-- An entry without a duty is cancelled: it leaves the queue. -/
theorem Work.cancelEntry_waiting {e : Entry} (hs : e.sending = false) (hr : e.row = none) :
    w.cancelEntry e = { w with tu := w.tu.dropEntry e.number e.chain } := by
  refine (if_neg (by rw [hs]; exact Bool.false_ne_true)).trans ?_
  unfold Work.endEntry
  rw [hr]

/-- Pieces are read back from their bytes. -/
theorem piecesOf_bytes {l : List Piece} (h : ∀ x ∈ l, x.start < 2 ^ 32 ∧ x.count < 2 ^ 32) :
    piecesOf l.length (l.map Piece.bytes).flatten = l := by
  induction l with
  | nil => rfl
  | cons x l ih =>
    obtain ⟨hs, hc⟩ := h x (.head _)
    have h4 (k : Nat) : (leBytes 4 k).length = 4 := leBytes_length 4 k
    have hb : ((x :: l).map Piece.bytes).flatten = leBytes 4 x.start ++ (leBytes 4 x.count ++ (l.map Piece.bytes).flatten) := by
      rw [List.map_cons, List.flatten_cons, Piece.bytes, List.append_assoc]
    have hdrop : (leBytes 4 x.start ++ (leBytes 4 x.count ++ (l.map Piece.bytes).flatten)).drop 8 = (l.map Piece.bytes).flatten := by
      rw [← List.append_assoc]
      exact List.drop_left' (by rw [List.length_append, h4, h4])
    rw [hb, List.length_cons, piecesOf, hdrop, ih fun y hy => h y (.tail _ hy), fieldAt_front _ (by omega)]
    rw [(fieldAt_behind 0 4 (h4 _)).trans (fieldAt_front _ (by omega))]

theorem pieces_length (l : List Piece) : (l.map Piece.bytes).flatten.length = 8 * l.length := by
  induction l with
  | nil => rfl
  | cons x l ih =>
    rw [List.map_cons, List.flatten_cons, List.length_append, ih, Piece.bytes, List.length_append, leBytes_length,
      leBytes_length, List.length_cons]
    omega

/-- The entry of a stored copy. -/
def CardCopy.entry (x : CardCopy) (n prio : Nat) (c : Chain) : Entry :=
  { number := n, chain := c, kind := .stored, row := none, sending := false, source := .card, copy := some x, prio := prio,
    early := false }

/-- The payload of SEND_STORED (R154). -/
def CardCopy.payload (x : CardCopy) (n prio : Nat) (c : Chain) : List Byte :=
  slotByte x.slot :: (leBytes 4 x.length ++ leBytes 3 n ++ [c.byte, BitVec.ofNat 8 prio]) ++ (x.pieces.map Piece.bytes).flatten

theorem CardCopy.payload_length (x : CardCopy) (n prio : Nat) (c : Chain) :
    (x.payload n prio c).length = 10 + 8 * x.pieces.length := by
  rw [CardCopy.payload, List.length_append, List.length_cons, List.length_append, List.length_append, leBytes_length,
    leBytes_length, pieces_length]
  rfl

/-- A SEND_STORED in range joins the queue (R154). -/
theorem answerSendStored_joins {x : CardCopy} {c : Chain} (h1 : 1 ≤ n) (hn : n ≤ 16777215) (hp : prio ≤ 3)
    (hpieces : x.pieces ≠ []) (h8 : x.pieces.length ≤ 8)
    (hpiece : ∀ y ∈ x.pieces, 0 < y.count ∧ y.count < 2 ^ 32 ∧ y.start < 2 ^ 32) (hl1 : 1 ≤ x.length)
    (hl2 : x.length ≤ 42000064) (hsum : (x.length + 511) / 512 ≤ (x.pieces.map Piece.count).sum)
    (he : w.tu.entry? n c = none) (hq : w.tu.queue.length < 64) :
    answerSendStored (x.payload n prio c) w =
      .taken { w with tu := { w.tu with queue := insertTail (x.entry n prio c) w.tu.queue }, bus := w.bus ++ [.select] }
        [BitVec.ofNat 8 ((insertTail (x.entry n prio c) w.tu.queue).findIdx fun y => decide (y.number = n ∧ y.chain = c))] := by
  have hk : ((x.payload n prio c).length - 10) / 8 = x.pieces.length := by
    rw [CardCopy.payload_length]
    omega
  have hb : x.payload n prio c = [slotByte x.slot] ++ (leBytes 4 x.length ++ (leBytes 3 n ++
      ([c.byte, BitVec.ofNat 8 prio] ++ (x.pieces.map Piece.bytes).flatten))) := by
    rw [CardCopy.payload]
    simp only [List.append_assoc, List.cons_append, List.nil_append]
  have h4 : (leBytes 4 x.length).length = 4 := leBytes_length 4 _
  have h3 : (leBytes 3 n).length = 3 := leBytes_length 3 _
  have hlength : fieldAt (x.payload n prio c) 1 4 = x.length := by
    rw [hb]
    exact (fieldAt_behind (j := 1) 0 4 rfl).trans (fieldAt_front _ (by omega))
  have hnum : fieldAt (x.payload n prio c) 5 3 = n := by
    rw [hb]
    exact (fieldAt_behind (j := 1) 4 3 rfl).trans ((fieldAt_behind (j := 4) 0 3 h4).trans (fieldAt_front _ (by omega)))
  have hback (i : Nat) : byteAt (x.payload n prio c) (8 + i) =
      byteAt ([c.byte, BitVec.ofNat 8 prio] ++ (x.pieces.map Piece.bytes).flatten) i := by
    rw [hb, ← List.append_assoc, ← List.append_assoc]
    exact byteAt_behind i (by simp only [List.length_append, List.length_singleton, h4, h3])
  have hchain : byteAt (x.payload n prio c) 8 = c.byte := hback 0
  have hprio : (byteAt (x.payload n prio c) 9).toNat = prio :=
    (congrArg BitVec.toNat (hback 1)).trans (toNat_ofNat_byte (by omega))
  have hslot : byteAt (x.payload n prio c) 0 = slotByte x.slot := rfl
  have hdrop : piecesOf x.pieces.length ((x.payload n prio c).drop 10) = x.pieces := by
    rw [hb, ← List.append_assoc, ← List.append_assoc, ← List.append_assoc, List.drop_left'
      (by simp only [List.length_append, List.length_singleton, h4, h3, List.length_cons, List.length_nil])]
    exact piecesOf_bytes fun y hy => ⟨(hpiece y hy).2.2, (hpiece y hy).2.1⟩
  have hany : (x.pieces.any fun y => decide (y.count = 0)) = false := by
    refine List.any_eq_false.2 fun y hy => ?_
    have := (hpiece y hy).1
    rw [decide_eq_false (by omega)]
    exact Bool.false_ne_true
  have hpos : 0 < x.pieces.length := List.length_pos_iff.2 hpieces
  have hsec : ¬ (x.pieces.map Piece.count).sum < sectorsOf x.length := by
    unfold sectorsOf ceilDiv
    exact not_lt.2 hsum
  have hrange : ¬ (3 < prio ∨ x.pieces.length = 0 ∨ 8 < x.pieces.length ∨ false = true ∨ x.length = 0 ∨
      Config.rawLength < x.length ∨ n = 0 ∨ Config.maxShot < n ∨ (x.pieces.map Piece.count).sum < sectorsOf x.length) := by
    rw [show Config.rawLength = 42000064 from rfl, show Config.maxShot = 16777215 from rfl]
    rintro (h | h | h | h | h | h | h | h | h) <;> first | exact absurd h Bool.false_ne_true | exact hsec h | omega
  unfold answerSendStored
  dsimp only
  rw [hk, hlength, hnum, hprio, hslot, slotOf_byte, hchain, chainOf_byte, hdrop]
  dsimp only
  rw [hany, if_neg hrange, he, if_neg (by exact Bool.false_ne_true), if_neg (by exact not_le.2 hq), Tu.ahead_eq]
  rfl

end

/-- SEND_STORED, the one request of no fixed size, as its owner takes it. -/
theorem request_stored {tag : Byte} {p : List Byte} {s : State} {body : List Byte} (u : State → State) (h : s.answers)
    (hl : 10 ≤ p.length) (h8 : (p.length - 10) % 8 = 0) (hmax : p.length ≤ 512) (hs : ∀ cp sent, (u { s with cp := cp, sent := sent }).steady)
    (ho : ∀ cp sent, (answerSendStored p { toState := { s with cp := cp, sent := sent }, bus := [] }).Comes body
      (u { s with cp := cp, sent := sent })) :
    request .sendStored tag p s = .next ((u (s.heard (p.length + 7))).answered .sendStored tag (0 :: body)) := by
  obtain ⟨v, hv, hc⟩ := ho (s.heard (p.length + 7)).cp (s.heard (p.length + 7)).sent
  have hu := hs (s.heard (p.length + 7)).cp (s.heard (p.length + 7)).sent
  have heq : s.heard (p.length + 7) =
      { s with cp := (s.heard (p.length + 7)).cp, sent := (s.heard (p.length + 7)).sent } := by
    rw [State.heard, State.shiftOuts_frame]
  rw [← heq] at hv hc hu
  have hsettle : v.settle = { toState := u (s.heard (p.length + 7)), bus := [] } := hc
  have hallows : Request.sendStored.allows p.length = true := by
    show (decide _ && decide _) = true
    rw [decide_eq_true hl, decide_eq_true h8]
    rfl
  rw [request_taken .sendStored tag p s v body h hmax hallows (fun h => Request.noConfusion h) (fun h => Request.noConfusion h)
    hv (by rw [hsettle]) (by rw [hsettle]; exact hu), hsettle]

end Sys2Proof.Machine
end

section
/-! PROOF. A transfer of a card copy asks its reads as it starts (R140, R156, R157, R165). -/

namespace Sys2Proof.Machine

/-! ### The reads of a card transfer (R165) -/

/-- The read of the j-th 128 sectors of a copy of N sectors that lies in one piece. -/
def Piece.readAt (p : Piece) (N j : Nat) : ReadRequest :=
  { start := p.start + 128 * j, count := min 128 (N - 128 * j), buffer := j }

/-- The slot that has been asked reads while its channel carried nothing. -/
def Slot.asked (x : Slot) : List ReadRequest → Slot
  | [] => x
  | q :: qs => { x with op := .read q true, reads := qs }

/-- The buffers of the first j reads. -/
def askedBuffers (N j : Nat) : List Buffer := (List.range j).map fun k => .asked (128 * k) (min 128 (N - 128 * k)) false

/-- TU when it has asked the first j reads of a transfer. -/
def Tu.asked (t : Tu) (x : Transfer) (N j : Nat) : Tu := { t with
  buffers := askedBuffers N j ++ List.replicate (8 - j) .free
  transfer := some { x with nextSector := min N (128 * j) } }

/-- A step in which the first j reads have been asked. -/
def Work.asked (w : Work) (c : CardCopy) (p : Piece) (x : Transfer) (N j : Nat) : Work :=
  Work.mapSlot c.slot (fun y => y.asked ((List.range j).map (p.readAt N))) { w with tu := w.tu.asked x N j }

section
variable {w : Work} {c : CardCopy} {p : Piece} {x : Transfer} {N cap : Nat}

theorem Cw.slot_mapSlot (w : Work) (i : SlotId) (f : Slot → Slot) : (w.mapSlot i f).cw.slot i = f (w.cw.slot i) := by
  cases i <;> rfl

theorem Work.mapSlot_mapSlot (w : Work) (i : SlotId) (f g : Slot → Slot) :
    (w.mapSlot i f).mapSlot i g = w.mapSlot i fun y => g (f y) := by
  cases i <;> rfl

theorem Work.mapSlot_congr (i : SlotId) {f g : Slot → Slot} (h : f (w.cw.slot i) = g (w.cw.slot i)) :
    w.mapSlot i f = w.mapSlot i g := by
  cases i
  · exact congrArg (fun y => ({ w with cw := { w.cw with a := y } } : Work)) h
  · exact congrArg (fun y => ({ w with cw := { w.cw with b := y } } : Work)) h

/-- A read joins the reads of a READY slot, and starts when the channel carries nothing (R140). -/
theorem Work.askRead_ready {i : SlotId} {r : ReadRequest} {l : List ReadRequest} {y : Slot} (hy : y.op = .idle)
    (hreads : y.reads = []) (hs : w.cw.slot i = y.asked l) (hstate : y.state = .ready) (hstop : w.cw.stopped = false)
    (hcap : y.capacity = some cap) (hfit : r.start + r.count ≤ cap) :
    w.askRead i r = w.mapSlot i fun _ => y.asked (l ++ [r]) := by
  have hst : (w.cw.slot i).state = .ready := by
    rw [hs, ← hstate]
    cases l <;> rfl
  have hcp : (w.cw.slot i).capacity = some cap := by
    rw [hs, ← hcap]
    cases l <;> rfl
  have hjoin : w.askRead i r = (w.mapSlot i fun z => { z with reads := z.reads ++ [r] }).startRead i := by
    unfold Work.askRead
    dsimp only
    rw [hst, hcp]
    dsimp only
    refine if_neg fun h => ?_
    rw [hstop] at h
    exact h.elim Bool.false_ne_true fun h => of_decide_eq_false h hfit
  rw [hjoin, Work.mapSlot_congr (g := fun _ => { y.asked l with reads := (y.asked l).reads ++ [r] }) i (by rw [hs])]
  unfold Work.startRead
  rw [Cw.slot_mapSlot]
  cases l with
  | nil =>
    have hstopped : (w.mapSlot i fun _ => { y.asked [] with reads := (y.asked []).reads ++ [r] }).cw.stopped = false := by
      cases i <;> exact hstop
    have hop : ({ y.asked [] with reads := (y.asked []).reads ++ [r] } : Slot).op = .idle := hy
    have hrd : ({ y.asked [] with reads := (y.asked []).reads ++ [r] } : Slot).reads = [r] := by
      show y.reads ++ [r] = [r]
      rw [hreads]
      rfl
    rw [hop, hrd]
    dsimp only
    rw [hstopped, if_neg Bool.false_ne_true, Work.mapSlot_mapSlot]
    rfl
  | cons q qs => rfl

theorem askedBuffers_succ (N j : Nat) :
    askedBuffers N (j + 1) = askedBuffers N j ++ [.asked (128 * j) (min 128 (N - 128 * j)) false] := by
  rw [askedBuffers, List.range_succ, List.map_append]
  rfl

theorem askedBuffers_length (N j : Nat) : (askedBuffers N j).length = j := by
  rw [askedBuffers, List.length_map, List.length_range]

/-- The first free buffer is the one behind those asked. -/
theorem findIdx?_askedBuffers (N j : Nat) (l : List Buffer) :
    ((askedBuffers N j ++ .free :: l).findIdx? fun b => decide (b = .free)) = some j := by
  have hnone : ((askedBuffers N j).findIdx? fun b => decide (b = .free)) = none := by
    refine List.findIdx?_eq_none_iff.2 fun b hb => ?_
    obtain ⟨k, -, rfl⟩ := List.mem_map.1 hb
    rfl
  rw [List.findIdx?_append, hnone, askedBuffers_length, List.findIdx?_cons, if_pos (decide_eq_true rfl),
    Option.map_some, Nat.zero_add, Option.none_or]

/-- While a buffer is free and sectors remain, the next read is asked. -/
theorem Work.askOne_asked {e : Entry} {j : Nat} (hactive : w.tu.queue.find? (fun y => y.is x.number x.chain) = some e)
    (hcopy : e.copy = some c) (hp : c.pieces = [p]) (hN : N = (x.length + 511) / 512) (hcount : N ≤ p.count) (hj : j < 8)
    (hleft : 128 * j < N) (hstate : (w.cw.slot c.slot).state = .ready) (hop : (w.cw.slot c.slot).op = .idle)
    (hreads : (w.cw.slot c.slot).reads = []) (hstop : w.cw.stopped = false)
    (hcap : (w.cw.slot c.slot).capacity = some cap) (hfit : p.start + N ≤ cap) :
    (w.asked c p x N j).askOne = some (w.asked c p x N (j + 1)) := by
  have htr : (w.asked c p x N j).tu.transfer = some { x with nextSector := min N (128 * j) } := by
    unfold Work.asked
    cases c.slot <;> rfl
  have hbuf : (w.asked c p x N j).tu.buffers = askedBuffers N j ++ .free :: List.replicate (8 - (j + 1)) .free := by
    have hrep : List.replicate (8 - j) Buffer.free = .free :: List.replicate (8 - (j + 1)) .free := by
      rw [← List.replicate_succ]
      congr 1
      omega
    rw [← hrep]
    unfold Work.asked
    cases c.slot <;> rfl
  have hact : ((w.asked c p x N j).tu.active?.bind Entry.copy) = some c := by
    have : (w.asked c p x N j).tu.active? = some e := by
      unfold Tu.active?
      rw [htr]
      refine Eq.trans ?_ hactive
      unfold Work.asked
      cases c.slot <;> rfl
    rw [this]
    exact hcopy
  have hnext : min N (128 * j) = 128 * j := by omega
  have hplace : placeAt Config.readSectors c.pieces (min N (128 * j)) =
      some { start := p.start + 128 * j, count := min 128 (p.count - 128 * j) } := by
    rw [hp, hnext]
    exact if_pos (by omega)
  have hsec : sectorsOf x.length = N := by
    rw [hN]
    rfl
  unfold Work.askOne
  rw [htr, hact]
  dsimp only
  rw [hplace, hbuf, findIdx?_askedBuffers]
  dsimp only
  rw [hsec, hnext, if_neg (by omega)]
  have hmin : min (min 128 (p.count - 128 * j)) (N - 128 * j) = min 128 (N - 128 * j) := by omega
  have hset : (askedBuffers N j ++ Buffer.free :: List.replicate (8 - (j + 1)) .free).set j
      (.asked (128 * j) (min 128 (N - 128 * j)) false) = askedBuffers N (j + 1) ++ List.replicate (8 - (j + 1)) .free := by
    rw [List.set_append_right _ _ (askedBuffers_length N j).le, askedBuffers_length, Nat.sub_self, askedBuffers_succ,
      List.append_assoc]
    rfl
  have hsum : 128 * j + min 128 (N - 128 * j) = min N (128 * (j + 1)) := by omega
  rw [hmin, hset, hsum, Work.askRead_ready (y := w.cw.slot c.slot) (l := (List.range j).map (p.readAt N)) hop hreads ?_ hstate
    (by unfold Work.asked; cases c.slot <;> exact hstop) hcap (by dsimp only; omega)]
  · rw [show ((List.range j).map (p.readAt N) ++ [{ start := p.start + 128 * j, count := min 128 (N - 128 * j), buffer := j }]) =
      (List.range (j + 1)).map (p.readAt N) by rw [List.range_succ, List.map_append]; rfl]
    unfold Work.asked
    cases c.slot <;> rfl
  · unfold Work.asked
    cases c.slot <;> rfl

/-- No read is asked when every buffer is taken or every sector has been asked. -/
theorem Work.askOne_full {j : Nat} (hN : N = (x.length + 511) / 512) (h : j = 8 ∨ N ≤ 128 * j) :
    (w.asked c p x N j).askOne = none := by
  have htr : (w.asked c p x N j).tu.transfer = some { x with nextSector := min N (128 * j) } := by
    unfold Work.asked
    cases c.slot <;> rfl
  have hbuf : (w.asked c p x N j).tu.buffers = askedBuffers N j ++ List.replicate (8 - j) .free := by
    unfold Work.asked
    cases c.slot <;> rfl
  have hsec : sectorsOf x.length = N := by
    rw [hN]
    rfl
  unfold Work.askOne
  rw [htr]
  split
  · next h1 h2 =>
    cases h1
    split
    · next h3 h4 =>
      rcases h with rfl | h
      · rw [hbuf, Nat.sub_self, List.replicate_zero, List.append_nil] at h4
        have hnone : ((askedBuffers N 8).findIdx? fun b => Decidable.decide (b = .free)) = none := by
          refine List.findIdx?_eq_none_iff.2 fun b hb => ?_
          obtain ⟨k, -, rfl⟩ := List.mem_map.1 hb
          rfl
        exact absurd (hnone.symm.trans h4) (Option.some_ne_none _).symm
      · exact if_pos (by dsimp only; rw [hsec]; omega)
    · rfl
  · rfl

/-- The reads of a transfer that starts: as many as the buffers and the sectors give. -/
theorem Work.askReads_asked {e : Entry} (hactive : w.tu.queue.find? (fun y => y.is x.number x.chain) = some e)
    (hcopy : e.copy = some c) (hp : c.pieces = [p]) (hN : N = (x.length + 511) / 512) (hcount : N ≤ p.count)
    (hstate : (w.cw.slot c.slot).state = .ready) (hop : (w.cw.slot c.slot).op = .idle)
    (hreads : (w.cw.slot c.slot).reads = []) (hstop : w.cw.stopped = false)
    (hcap : (w.cw.slot c.slot).capacity = some cap) (hfit : p.start + N ≤ cap) (m j : Nat)
    (hj : j ≤ min 8 ((N + 127) / 128)) (hm : min 8 ((N + 127) / 128) ≤ j + m) :
    Work.askReads m (w.asked c p x N j) = w.asked c p x N (min 8 ((N + 127) / 128)) := by
  induction m generalizing j with
  | zero =>
    rw [Work.askReads, show min 8 ((N + 127) / 128) = j by omega]
  | succ m ih =>
    rw [Work.askReads]
    by_cases hk : j = min 8 ((N + 127) / 128)
    · rw [Work.askOne_full hN (by omega), ← hk]
    · rw [Work.askOne_asked hactive hcopy hp hN hcount (by omega) (by omega) hstate hop hreads hstop hcap hfit]
      exact ih (j + 1) (by omega) (by omega)

end

section
variable {w : Work} {e : Entry} {c : CardCopy} {p : Piece}

/-- A step in which no read has been asked. -/
theorem Work.asked_zero {x : Transfer} {N : Nat} (hb : w.tu.buffers = List.replicate 8 .free)
    (ht : w.tu.transfer = some x) (hx : x.nextSector = 0) : w.asked c p x N 0 = w := by
  have htu : w.tu.asked x N 0 = w.tu := by
    have hx0 : ({ x with nextSector := min N (128 * 0) } : Transfer) = x := by
      rw [Nat.mul_zero, Nat.min_zero, ← hx]
    rw [Tu.asked, hx0, ← ht]
    exact congrArg (fun b => ({ w.tu with buffers := b } : Tu)) hb.symm
  unfold Work.asked
  rw [htu]
  cases c.slot <;> rfl

/-- An entry for a card copy in one piece starts its transfer and asks its reads (R157, R165). -/
theorem Work.startTransfer_card {q : List Entry} {desk m : BitVec 48} {N cap : Nat}
    (hlink : w.tu.link ≠ .sending) (hb : w.tu.bound = some desk) (hm : w.tu.settings.ownMac = some m)
    (hq : (w.tu.queue.map fun y => if y.is e.number e.chain then { e with sending := true } else y) = q)
    (hfind : q.find? (fun y => y.is e.number e.chain) = some { e with sending := true })
    (hrow : e.row = none) (hs : e.source = .card) (hcopy : e.copy = some c) (hp : c.pieces = [p])
    (hN : N = (e.length + 511) / 512) (hcount : N ≤ p.count) (hbuf : w.tu.buffers = List.replicate 8 .free)
    (hstate : (w.cw.slot c.slot).state = .ready) (hop : (w.cw.slot c.slot).op = .idle)
    (hreads : (w.cw.slot c.slot).reads = []) (hstop : w.cw.stopped = false)
    (hcap : (w.cw.slot c.slot).capacity = some cap) (hfit : p.start + N ≤ cap) : w.startTransfer e =
      Work.mapSlot c.slot (fun y => y.asked ((List.range (min 8 ((N + 127) / 128))).map (p.readAt N))) { w with
        tu := { (w.tu.opens e q).asked (Transfer.start w.tu.nextId e w.tu.settings) N (min 8 ((N + 127) / 128)) with
          underTimer := false }
        sent := w.tu.offer desk m e :: w.sent
        cp := w.cp.raise .tetherChange [4] } := by
  have hstart := Work.startTransfer_eq (w := w) (e := e) (b := w.bm) hlink hb hm hq (Work.mirror_none hrow)
  obtain ⟨v, hv⟩ : ∃ v : Work, v = { w with
      bm := w.bm
      tu := w.tu.opens e q
      sent := w.tu.offer desk m e :: w.sent
      cp := w.cp.raise .tetherChange [4] } := ⟨_, rfl⟩
  have hvtu : v.tu = w.tu.opens e q := by rw [hv]
  have hvcw : v.cw = w.cw := by rw [hv]
  have hzero : v.asked c p (Transfer.start w.tu.nextId e w.tu.settings) N 0 = v :=
    Work.asked_zero (by rw [hvtu]; exact hbuf) (by rw [hvtu]; rfl) rfl
  have hqueue : v.tu.queue.find? (fun y => y.is e.number e.chain) = some { e with sending := true } := by
    rw [hvtu]
    exact hfind
  have hreadsAsked := Work.askReads_asked (w := v) (x := Transfer.start w.tu.nextId e w.tu.settings) hqueue hcopy hp hN hcount
    (by rw [hvcw]; exact hstate) (by rw [hvcw]; exact hop) (by rw [hvcw]; exact hreads) (by rw [hvcw]; exact hstop)
    (by rw [hvcw]; exact hcap) hfit 8 0 (Nat.zero_le _) (by omega)
  rw [hzero] at hreadsAsked
  rw [hstart]
  show Work.updateWait (Work.askReads 8 _) = _
  rw [← hv, hreadsAsked]
  have hasked (j : Nat) : (v.asked c p (Transfer.start w.tu.nextId e w.tu.settings) N j).tu =
      v.tu.asked (Transfer.start w.tu.nextId e w.tu.settings) N j := by
    unfold Work.asked
    cases c.slot <;> rfl
  rw [Work.updateWait_whole (e := { e with sending := true }) (by rw [hasked]; rfl)
    (by rw [hasked]; exact hqueue) (Work.sendLimit_card _ hs) (Nat.zero_le _), hasked, hv]
  unfold Work.asked
  cases c.slot <;> rfl

/-- An entry for a proof that awaits development is not ready (R156). -/
theorem Work.ready_awaits {b : Bm} (hs : e.source = .buffer) (hc : e.chain = .proof)
    (hd : ((e.row.bind b.row?).any fun r => Decidable.decide (r.develop = .pending)) = true) {i : Nat} {f : Row → Row}
    (hf : ∀ x, (f x).index = x.index) (hfd : ∀ x, (f x).develop = x.develop) (hw : w.bm = b.mapRow i f) :
    w.ready e = false := by
  obtain ⟨r, hr, hp⟩ := Option.any_eq_true _ _ |>.1 hd
  obtain ⟨j, hj, hrow⟩ := Option.bind_eq_some_iff.1 hr
  have hfind : e.row.bind w.bm.row? = some (if j = i then f r else r) := by
    rw [hj, Option.bind_some, hw, Bm.row?_mapRow _ _ _ hf, hrow]
    rfl
  have hdev : (if j = i then f r else r).develop = .pending := by
    split
    · exact (hfd r).trans (of_decide_eq_true hp)
    · exact of_decide_eq_true hp
  unfold Work.ready
  rw [hs, hc]
  dsimp only
  rw [hfind]
  dsimp only
  rw [hdev]
  rfl

end


end Sys2Proof.Machine
end

section
/-! PROOF. SEND, SEND_STORED and SEND_CANCEL as the host gives them (R153 to R157, R165). -/

namespace Sys2Proof.Machine

section
variable {tag : Byte} {n prio : Nat} {s : State}

theorem State.steady_reads {i : SlotId} {x : Slot} {t : State} (hx : s.cw.slot i = x) (f : Slot → Slot)
    (hf : (f x).writing = x.writing) (hp : t.pwc = s.pwc)
    (hc : t.cw = (Work.mapSlot i f { toState := s, bus := [] }).cw) (h : s.steady) : t.steady := by
  intro r hr
  obtain ⟨h1, h2⟩ := h r (hp ▸ hr)
  refine ⟨h1, ?_⟩
  rw [← h2, hc]
  subst hx
  cases i
  · show ((f s.cw.a).writing.isNone && s.cw.b.writing.isNone) = _
    rw [show (f s.cw.a).writing = s.cw.a.writing from hf]
    rfl
  · show (s.cw.a.writing.isNone && (f s.cw.b).writing.isNone) = _
    rw [show (f s.cw.b).writing = s.cw.b.writing from hf]
    rfl

theorem Slot.asked_writing (x : Slot) (l : List ReadRequest) : (x.asked l).writing = x.writing := by cases l <;> rfl

/-- A SEND of a RAW chain that is judged good. -/
theorem answerSend_raw {r : Row} {w : Work} (h1 : 1 ≤ n) (hn : n ≤ 16777215) (hp : prio ≤ 3) (early : Bool)
    (hr : w.bm.numbered? n = some r) (hd : r.discarding = false) (he : w.tu.entry? n .raw = none)
    (hq : w.tu.queue.length < 64) (hl : r.life = .held) (hraw : r.raw ≠ none) (ht : r.tethers = []) :
    answerSend (leBytes 3 n ++ [0, BitVec.ofNat 8 prio, flagByte early]) w = .taken { w with
        bm := w.bm.mapRow r.index fun x => { x with tethers := x.tethers ++ [rawDuty prio] }
        tu := { w.tu with queue := insertTail (r.rawEntry n prio) w.tu.queue }
        bus := w.bus ++ [.select] }
      [0, 0, BitVec.ofNat 8 ((insertTail (r.rawEntry n prio) w.tu.queue).findIdx fun x =>
        decide (x.number = n ∧ x.chain = .raw))] := by
  rw [(answerSend_judged hn hp early).2 _ (Work.judgeSend_raw hp h1 hn hr hd he hq hl hraw ht), Work.joinSend_raw, Tu.ahead_eq]
  rfl

/-- The RAW chain of a HELD shot starts its transfer in BOUND_IDLE (R156, R157). -/
theorem Work.handle_select_raw {w : Work} {t : Tu} {b : Bm} {r : Row} {desk m : BitVec 48} (hl : t.link = .boundIdle)
    (hst : t.stopped = false) (hbound : t.bound = some desk) (hm : t.settings.ownMac = some m)
    (hwait : ∀ e ∈ t.queue, e.source = .buffer ∧ e.chain = .proof ∧
      ((e.row.bind b.row?).any fun r => Decidable.decide (r.develop = .pending)) = true)
    (hnd : (b.rows.map Row.index).Nodup) (hr : b.numbered? n = some r) (hproof : r.proof = none) (ht : r.tethers = [])
    (he : t.entry? n .raw = none)
    (hbm : w.bm = b.mapRow r.index fun x => { x with tethers := x.tethers ++ [rawDuty prio] })
    (htu : w.tu = { t with queue := insertTail (r.rawEntry n prio) t.queue }) : w.handle .select = { w with
      bm := b.mapRow r.index fun x => { x with
        tethers := x.tethers ++ [{ rawDuty prio with state := .sending }] }
      tu := { t.opens (r.rawEntry n prio) (insertTail { r.rawEntry n prio with sending := true } t.queue) with
        underTimer := false }
      sent := t.offer desk m (r.rawEntry n prio) :: w.sent
      cp := w.cp.raise .tetherChange [4] } := by
  have hrow := Bm.row?_numbered hnd hr
  have hindex (g : List TetherDuty → List TetherDuty) : ∀ x : Row, ({ x with tethers := g x.tethers } : Row).index = x.index :=
    fun _ => rfl
  have hrow1 : w.bm.row? r.index = some { r with tethers := [rawDuty prio] } := by
    rw [hbm, Bm.row?_mapRow_same (f := fun x => { x with tethers := x.tethers ++ [rawDuty prio] }) hrow fun _ => rfl, ht]
    rfl
  have hready : w.tu.queue.find? (fun e => w.ready e) = some (r.rawEntry n prio) := by
    rw [htu]
    refine find?_insertTail rfl fun e h => ?_
    obtain ⟨hsrc, hch, hdev⟩ := hwait e h
    exact Work.ready_awaits hsrc hch hdev (f := fun x => { x with tethers := x.tethers ++ [rawDuty prio] }) (fun _ => rfl)
      (fun _ => rfl) hbm
  have hself : (r.rawEntry n prio).is (r.rawEntry n prio).number (r.rawEntry n prio).chain = true := by
    rw [Entry.is_eq]
    exact decide_eq_true ⟨rfl, rfl⟩
  have hne : ∀ x ∈ t.queue, x.is n .raw = false := Tu.entry?_none he
  have hlink : w.tu.link = .boundIdle := by rw [htu]; exact hl
  rw [Work.handle_select_starts hlink (by rw [htu]; exact hst) hready,
    Work.startTransfer_raw (q := insertTail { r.rawEntry n prio with sending := true } t.queue) (i := r.index)
      (r := { r with tethers := [rawDuty prio] }) (d := rawDuty prio) (desk := desk) (m := m)
      (by rw [hlink]; exact fun h => Link.noConfusion h) (by rw [htu]; exact hbound) (by rw [htu]; exact hm)
      (by rw [htu]; exact map_insertTail rfl hself hne) (find?_insertTail hself hne)
      (by rw [hbm]; exact (Bm.mapRow_index b r.index (f := fun x => { x with tethers := x.tethers ++ [rawDuty prio] }) fun _ => rfl).symm ▸ hnd) rfl rfl rfl rfl hrow1 rfl rfl rfl hproof, htu]
  have hmap : (w.bm.mapRow r.index fun x => { x with
        tethers := [Entry.report { r.rawEntry n prio with sending := true } (rawDuty prio)] }) =
      b.mapRow r.index fun x => { x with tethers := x.tethers ++ [{ rawDuty prio with state := .sending }] } := by
    rw [hbm, Bm.mapRow_mapRow (f := fun x => { x with tethers := x.tethers ++ [rawDuty prio] }) b r.index fun _ => rfl]
    refine Bm.mapRow_congr hnd hrow ?_
    rw [ht]
    rfl
  rw [hmap]
  rfl

/-- A card copy in one piece starts its transfer in BOUND_IDLE and asks its reads (R156, R157, R165). -/
theorem Work.handle_select_card {w : Work} {t : Tu} {b : Bm} {c : CardCopy} {p : Piece} {chain : Chain} {N cap : Nat}
    {desk m : BitVec 48} (hl : t.link = .boundIdle)
    (hst : t.stopped = false) (hbound : t.bound = some desk) (hm : t.settings.ownMac = some m)
    (hwait : ∀ e ∈ t.queue, e.source = .buffer ∧ e.chain = .proof ∧
      ((e.row.bind b.row?).any fun r => Decidable.decide (r.develop = .pending)) = true)
    (he : t.entry? n chain = none) (hp : c.pieces = [p]) (hN : N = (c.length + 511) / 512) (hcount : N ≤ p.count)
    (hbuf : t.buffers = List.replicate 8 .free) (hstate : (w.cw.slot c.slot).state = .ready)
    (hop : (w.cw.slot c.slot).op = .idle) (hreads : (w.cw.slot c.slot).reads = []) (hstop : w.cw.stopped = false)
    (hcap : (w.cw.slot c.slot).capacity = some cap) (hfit : p.start + N ≤ cap) (hbm : w.bm = b)
    (htu : w.tu = { t with queue := insertTail (c.entry n prio chain) t.queue }) : w.handle .select =
      Work.mapSlot c.slot (fun y => y.asked ((List.range (min 8 ((N + 127) / 128))).map (p.readAt N))) { w with
        tu := { (t.opens (c.entry n prio chain) (insertTail { c.entry n prio chain with sending := true } t.queue)).asked
          (Transfer.start t.nextId (c.entry n prio chain) t.settings) N (min 8 ((N + 127) / 128)) with underTimer := false }
        sent := t.offer desk m (c.entry n prio chain) :: w.sent
        cp := w.cp.raise .tetherChange [4] } := by
  have hready : w.tu.queue.find? (fun e => w.ready e) = some (c.entry n prio chain) := by
    rw [htu]
    refine find?_insertTail rfl fun e h => ?_
    obtain ⟨hsrc, hch, hdev⟩ := hwait e h
    refine Work.ready_awaits hsrc hch hdev (i := 0) (f := id) (fun _ => rfl) (fun _ => rfl) ?_
    rw [hbm, Bm.mapRow]
    simp only [id_eq, ite_self, List.map_id']
  have hself : (c.entry n prio chain).is (c.entry n prio chain).number (c.entry n prio chain).chain = true := by
    rw [Entry.is_eq]
    exact decide_eq_true ⟨rfl, rfl⟩
  have hne : ∀ x ∈ t.queue, x.is n chain = false := Tu.entry?_none he
  have hlink : w.tu.link = .boundIdle := by rw [htu]; exact hl
  rw [Work.handle_select_starts hlink (by rw [htu]; exact hst) hready,
    Work.startTransfer_card (q := insertTail { c.entry n prio chain with sending := true } t.queue) (c := c) (p := p) (N := N)
      (cap := cap) (desk := desk) (m := m) (by rw [hlink]; exact fun h => Link.noConfusion h) (by rw [htu]; exact hbound)
      (by rw [htu]; exact hm) (by rw [htu]; exact map_insertTail rfl hself hne) (find?_insertTail hself hne) rfl rfl rfl hp hN
      hcount (by rw [htu]; exact hbuf) hstate hop hreads hstop hcap hfit, htu]
  rfl

/-- The state in which the transfer of a card copy has started. -/
def State.sendsCard (s : State) (t : Tu) (desk m : BitVec 48) (c : CardCopy) (p : Piece) (e : Entry) (N : Nat) : State :=
  let u : State := { s with
    tu := { (t.opens e (insertTail { e with sending := true } t.queue)).asked (Transfer.start t.nextId e t.settings) N
      (min 8 ((N + 127) / 128)) with underTimer := false },
    sent := t.offer desk m e :: s.sent,
    cp := s.cp.raise .tetherChange [4] }
  u.setSlot c.slot ((u.cw.slot c.slot).asked ((List.range (min 8 ((N + 127) / 128))).map (p.readAt N)))

section
variable (t : Tu) (desk m : BitVec 48) (c : CardCopy) (p : Piece) (e : Entry) (N : Nat)

theorem State.sendsCard_pwc : (s.sendsCard t desk m c p e N).pwc = s.pwc := by
  unfold State.sendsCard
  cases c.slot <;> rfl

theorem State.sendsCard_cw : (s.sendsCard t desk m c p e N).cw = (Work.mapSlot c.slot
    (fun y => y.asked ((List.range (min 8 ((N + 127) / 128))).map (p.readAt N))) { toState := s, bus := [] }).cw := by
  unfold State.sendsCard
  cases c.slot <;> rfl

theorem State.sendsCard_eq (cp : Cp) (sent : List Output) (u : Tu) : Work.mapSlot c.slot
      (fun y => y.asked ((List.range (min 8 ((N + 127) / 128))).map (p.readAt N))) ⟨{ s with
        cp := cp.raise .tetherChange [4], sent := t.offer desk m e :: sent,
        tu := { (t.opens e (insertTail { e with sending := true } t.queue)).asked (Transfer.start t.nextId e t.settings) N
          (min 8 ((N + 127) / 128)) with underTimer := false } }, []⟩ =
    { toState := State.sendsCard { s with cp := cp, sent := sent, tu := u } t desk m c p e N, bus := [] } := by
  unfold State.sendsCard
  cases c.slot <;> rfl

/-- The transfer of a card copy in one piece, field by field. -/
theorem State.sendsCard_fields {i : SlotId} {x : Slot} {length : Nat} (chain : Chain)
    (hx : (s.cw.slot i).asked ((List.range (min 8 ((N + 127) / 128))).map (p.readAt N)) = x) :
    s.sendsCard t desk m { slot := i, pieces := [p], length := length } p
        (CardCopy.entry { slot := i, pieces := [p], length := length } n prio chain) N =
      State.raised { s.setSlot i x with
        tu := { t with
          link := .sending
          queue := insertTail { number := n, chain := chain, kind := .stored, row := none, sending := true, source := .card,
                                copy := some { slot := i, pieces := [p], length := length }, prio := prio, early := false } t.queue
          nextId := (t.nextId + 1) % 65536
          transfer := some
            { id := t.nextId, number := n, chain := chain, length := length, next := 0, high := 0, acked := 0, timeouts := 0,
              bad := 0, window := t.settings.window, ackTimeout := t.settings.ackTimeout, crc := crc32Init,
              nextSector := min N 1024 }
          underTimer := false
          buffers := askedBuffers N (min 8 ((N + 127) / 128)) ++ List.replicate (8 - min 8 ((N + 127) / 128)) .free }
        sent := .desk (wireFrame desk m t.settings.etherType 0x04
          (leBytes 2 t.nextId ++ leBytes 3 n ++ [chain.byte] ++ leBytes 4 length)) :: s.sent } .tetherChange [4] := by
  have hsectors : min N (128 * min 8 ((N + 127) / 128)) = min N 1024 := by omega
  unfold State.sendsCard Tu.asked
  dsimp only
  rw [hsectors, hx]
  cases i <;> rfl

end

end

/-- Settles O56. -/
theorem sendsJoinTheQueue : Obligations.SendsJoinTheQueue := by
  unfold Obligations.SendsJoinTheQueue
  intro tag n prio s hs h1 hn hp hq
  have hsteady : s.steady := hs.2.1
  have hsend (p : List Byte) : exec (.send tag p) s = request .send tag p s := rfl
  have hcancel (p : List Byte) : exec (.sendCancel tag p) s = request .sendCancel tag p s := rfl
  have hstored (p : List Byte) : exec (.sendStored tag p) s = request .sendStored tag p s := rfl
  have hsize (b : Byte) (early : Bool) : (leBytes 3 n ++ [b, BitVec.ofNat 8 prio, flagByte early]).length = 6 := by
    rw [List.length_append, leBytes_length]
    rfl
  have hsize4 (b : Byte) : (leBytes 3 n ++ [b]).length = 4 := by
    rw [List.length_append, leBytes_length]
    rfl
  refine ⟨fun hlink => ⟨?_, ?_, ?_, ?_, ?_, ?_⟩, fun desk m hl hst hbound hm hwait => ?_⟩
  · intro chain early hr
    exact request_turned .send .noSuchShot rfl hs (hsize _ _) fun cp sent =>
      (answerSend_judged hn hp early).1 _ (Work.judgeSend_unknown (chainOf_byte chain) hp h1 hn hr)
  · intro chain early e r hr hd he
    exact request_turned .send .inUse rfl hs (hsize _ _) fun cp sent =>
      (answerSend_judged hn hp early).1 _ (Work.judgeSend_inUse (chainOf_byte chain) hp h1 hn hr hd he)
  · intro r early hr hd hlife hraw ht he e
    refine request_done .send hs (hsize _ _) rfl rfl hsteady fun cp sent => ?_
    refine ⟨_, answerSend_raw h1 hn hp early hr hd he hq hlife hraw ht, ?_⟩
    exact .skip (Work.handle_select _ hlink) (.done _)
  · intro i chain length pieces hne h8 hpiece hl1 hl2 hsum he e
    obtain ⟨c, hc⟩ : ∃ c : CardCopy, c = { slot := i, pieces := pieces, length := length } := ⟨_, rfl⟩
    have hlen : (c.payload n prio chain).length = 10 + 8 * pieces.length := by rw [CardCopy.payload_length, hc]
    have hdone := request_stored (tag := tag) (p := c.payload n prio chain) (body := [BitVec.ofNat 8
        ((insertTail (c.entry n prio chain) s.tu.queue).findIdx fun y => decide (y.number = n ∧ y.chain = chain))]) (fun x => { x with
        tu := { s.tu with queue := insertTail (c.entry n prio chain) s.tu.queue } }) hs (by omega) (by omega) (by omega)
      (fun cp sent => State.steady_congr (s := s) rfl rfl hsteady) fun cp sent => by
        rw [answerSendStored_joins (w := { toState := { s with cp := cp, sent := sent }, bus := [] }) h1 hn hp
          (by rw [hc]; exact hne) (by rw [hc]; exact h8) (by rw [hc]; exact hpiece) (by rw [hc]; exact hl1)
          (by rw [hc]; exact hl2) (by rw [hc]; exact hsum) he hq]
        refine .taken ?_
        exact .skip (Work.handle_select _ hlink) (.done _)
    rw [hlen, show 10 + 8 * pieces.length + 7 = 17 + 8 * pieces.length by omega, hc] at hdone
    exact hdone
  · intro chain he
    exact request_turned .sendCancel .noSuchShot rfl hs (hsize4 _) fun cp sent => answerSendCancel_unknown hn he
  · intro chain e he hrow hsending
    have hfound := List.find?_some he
    rw [Entry.is_eq] at hfound
    obtain ⟨hnum, hch⟩ := of_decide_eq_true hfound
    refine request_done .sendCancel hs (hsize4 _) rfl rfl hsteady fun cp sent => ?_
    refine ⟨_, (answerSendCancel_known hn he).trans ?_, .done _⟩
    rw [Work.cancelEntry_waiting hsending hrow, hsending, hnum, hch, Tu.dropEntry]
    simp only [Entry.is_eq]
    rfl
  intro opened offer ahead
  refine ⟨?_, ?_⟩
  · intro r early hnd hr hd hlife hraw hproof ht he e h
    have hdone := request_comes .send (tag := tag) (p := leBytes 3 n ++ [0, BitVec.ofNat 8 prio, flagByte early])
      (body := [0, 0, BitVec.ofNat 8 ((insertTail (r.rawEntry n prio) s.tu.queue).findIdx fun y =>
        decide (y.number = n ∧ y.chain = .raw))]) (fun x => { x with
        bm := s.bm.mapRow r.index fun y => { y with tethers := y.tethers ++ [{ rawDuty prio with state := .sending }] },
        tu := { s.tu.opens (r.rawEntry n prio) (insertTail { r.rawEntry n prio with sending := true } s.tu.queue) with
          underTimer := false },
        sent := s.tu.offer desk m (r.rawEntry n prio) :: x.sent,
        cp := x.cp.raise .tetherChange [4] }) hs (hsize _ _) (fun cp sent => State.steady_congr (s := s) rfl rfl hsteady) fun cp sent => by
          show Answer.Comes (answerSend _ _) _ _
          rw [answerSend_raw (w := { toState := { s with cp := cp, sent := sent }, bus := [] }) h1 hn hp early hr hd he hq
            hlife hraw ht]
          refine .taken (.step (Work.handle_select_raw hl hst hbound hm hwait hnd hr hproof ht he rfl rfl) (.done _))
    have hahead : ((insertTail (r.rawEntry n prio) s.tu.queue).findIdx fun x => decide (x.number = n ∧ x.chain = .raw)) =
        (insertTail e s.tu.queue).findIdx fun x => decide (x.number = n ∧ x.chain = .raw) :=
      findIdx_insertTail rfl rfl
    rw [hahead] at hdone
    exact hdone
  · intro i x cap chain length N p hx hstate hop hreads hstop hcap hbuf hl1 hl2 hN hcount hps hpc hfit he e k h q qs hqs
    obtain ⟨c, hc⟩ : ∃ c : CardCopy, c = { slot := i, pieces := [p], length := length } := ⟨_, rfl⟩
    have hi : c.slot = i := by rw [hc]
    have hcp : c.pieces = [p] := by rw [hc]
    have hcl : c.length = length := by rw [hc]
    have hlen : (c.payload n prio chain).length = 18 := by rw [CardCopy.payload_length, hcp]; rfl
    have hslot : s.cw.slot c.slot = x := by rw [hi]; exact hx
    have hdone := request_stored (tag := tag) (p := c.payload n prio chain) (body := [BitVec.ofNat 8
        ((insertTail (c.entry n prio chain) s.tu.queue).findIdx fun y => decide (y.number = n ∧ y.chain = chain))])
      (fun y => y.sendsCard s.tu desk m c p (c.entry n prio chain) N) hs (by omega) (by omega) (by omega)
      (fun cp sent => State.steady_reads (i := c.slot) rfl
        (fun z => z.asked ((List.range (min 8 ((N + 127) / 128))).map (p.readAt N))) (Slot.asked_writing _ _)
        (State.sendsCard_pwc _ _ _ _ _ _ _) (State.sendsCard_cw _ _ _ _ _ _ _) hsteady) fun cp sent => by
        rw [answerSendStored_joins (w := { toState := { s with cp := cp, sent := sent }, bus := [] }) h1 hn hp
          (by rw [hcp]; exact List.cons_ne_nil _ _) (by rw [hcp]; exact Nat.le_add_left 1 7)
          (by rw [hcp]; exact fun y hy => List.mem_singleton.1 hy ▸ ⟨by omega, hpc, hps⟩) (by rw [hcl]; exact hl1)
          (by rw [hcl]; exact hl2) (by rw [hcp, hcl, ← hN]; exact hcount) he hq]
        refine .taken (.step (Work.handle_select_card hl hst hbound hm hwait he hcp (by rw [hcl]; exact hN) hcount hbuf
          (by rw [← hstate, ← hslot]) (by rw [← hop, ← hslot]) (by rw [← hreads, ← hslot]) hstop
          (by rw [← hcap, ← hslot]) hfit rfl rfl) ?_)
        exact (congrArg (fun w : Work => w.Comes 4095 _) (State.sendsCard_eq _ _ _ _ _ _ _ _ _ _)).mpr (.done _)
    have hahead : ((insertTail (c.entry n prio chain) s.tu.queue).findIdx fun x => decide (x.number = n ∧ x.chain = chain)) =
        (insertTail e s.tu.queue).findIdx fun x => decide (x.number = n ∧ x.chain = chain) :=
      findIdx_insertTail rfl rfl
    rw [hlen, hahead] at hdone
    have hpayload : c.payload n prio chain =
        slotByte i :: (leBytes 4 length ++ leBytes 3 n ++ [chain.byte, BitVec.ofNat 8 prio]) ++ p.bytes := by
      rw [CardCopy.payload, hi, hcl, hcp, List.map_singleton, List.flatten_singleton]
    have hheard : (s.heard 25).cw.slot i = x := by
      show (s.shiftOuts 25).cw.slot i = x
      rw [State.shiftOuts_cw, hx]
    have hasked : ((s.heard 25).cw.slot i).asked ((List.range (min 8 ((N + 127) / 128))).map (p.readAt N)) =
        { x with op := .read q true, reads := qs } := by
      rw [hheard]
      show x.asked ((List.range k).map _) = _
      exact (congrArg x.asked hqs).trans rfl
    rw [hc, State.sendsCard_fields _ _ _ _ _ _ hasked] at hdone
    rw [← hpayload, hc]
    exact hdone

end Sys2Proof.Machine
end

section
/-! PROOF. What the checks of BM and the reports of the back half leave, where the send queue is empty and no transfer is in
progress: every block but BM, DE and CP, and of TU all but its signals (R16, R17, R93, R166). -/

namespace Sys2Proof.Machine

/-- TU without the reclaim signal, the underrun timer and the segment buffers. -/
def Tu.sansSignals (t : Tu) : Tu := { t with reclaim := false, underTimer := false, buffers := [] }

/-- All of a state but CP, BM, memory, DE and TU's signals. -/
def State.rest (s : State) := (s.pwc, s.rdu, s.sru, s.fu, s.cw, s.tu.sansSignals, s.sent)

section
variable (w : Work) (i : Nat)

theorem Work.freePages_rest (pages : List Nat) : (w.freePages pages).toState.rest = w.toState.rest := rfl

theorem Work.releaseRaw_rest : (w.releaseRaw i).toState.rest = w.toState.rest := by
  unfold Work.releaseRaw
  split <;> rfl

theorem Work.releaseProof_rest : (w.releaseProof i).toState.rest = w.toState.rest := by
  unfold Work.releaseProof
  split <;> rfl

theorem Work.releaseCheck_rest : (w.releaseCheck i).toState.rest = w.toState.rest := by
  unfold Work.releaseCheck
  split
  · next r _ =>
    have hraw : (if r.rawRead then w else w.releaseRaw i).toState.rest = w.toState.rest := by
      split
      · rfl
      · exact w.releaseRaw_rest i
    dsimp only
    split
    · split
      · exact hraw
      · exact (Work.releaseProof_rest _ i).trans hraw
    · rfl
  · rfl

theorem Work.settleCheck_rest : (w.settleCheck i).toState.rest = w.toState.rest := by
  unfold Work.settleCheck
  split
  · split <;> rfl
  · rfl

theorem Work.check_rest : (w.check i).toState.rest = w.toState.rest :=
  (Work.settleCheck_rest _ i).trans (w.releaseCheck_rest i)

theorem Work.proofAlloc_rest {v : Work} (h : w.proofAlloc i = some v) : v.toState.rest = w.toState.rest := by
  unfold Work.proofAlloc at h
  split at h
  · cases h
    rfl
  · exact absurd h.symm (Option.some_ne_none _)

theorem Work.startJob_rest : (w.startJob i).toState.rest = w.toState.rest := by
  unfold Work.startJob
  split <;> rfl

theorem Work.lookHead_rest : w.lookHead.toState.rest = w.toState.rest := by
  unfold Work.lookHead
  split
  · split
    · split
      · next h => exact (Work.startJob_rest _ _).trans (w.proofAlloc_rest _ h)
      · rfl
    · rfl
  · split
    · split
      · next h => exact (Work.startJob_rest _ _).trans (w.proofAlloc_rest _ h)
      · rfl
    · rfl
  · rfl
  · rfl

end

/-- No transfer is in progress and no entry waits. -/
def State.sendsNothing (s : State) : Prop := s.tu.transfer = none ∧ s.tu.queue = []

section
variable {w : Work}

theorem State.sendsNothing_congr {s t : State} (h : t.rest = s.rest) (hs : s.sendsNothing) : t.sendsNothing :=
  ⟨(congrArg (fun x => x.2.2.2.2.2.1.transfer) h).trans hs.1, (congrArg (fun x => x.2.2.2.2.2.1.queue) h).trans hs.2⟩

/-- A report of the back half where TU has nothing to send. -/
theorem Work.handle_rest {r : Report} (hr : r.isBack = true) (hs : w.toState.sendsNothing) :
    (w.handle r).toState.rest = w.toState.rest := by
  obtain ⟨ht, hq⟩ := hs
  cases r with
  | deLook => exact w.lookHead_rest
  | reclaim up =>
    show (w.takeReclaim up).toState.rest = _
    have hnone : Work.demoteAll { w with tu := { w.tu with reclaim := up } } = { w with tu := { w.tu with reclaim := up } } := by
      show w.tu.queue.foldl _ _ = _
      rw [hq]
      rfl
    unfold Work.takeReclaim
    dsimp only
    rw [hnone, ite_self]
    rfl
  | readEnded b d =>
    show (w.takeRead b d).toState.rest = _
    have hend (x : Buffer) : Work.endTransfer .sourceLost { w with tu := { w.tu with buffers := w.tu.buffers.set b x } } =
        { w with tu := { w.tu with buffers := w.tu.buffers.set b x } } := Work.endTransfer_none (by exact ht) _
    have hask (x : Buffer) : Work.askReads 8 { w with tu := { w.tu with buffers := w.tu.buffers.set b x } } =
        { w with tu := { w.tu with buffers := w.tu.buffers.set b x } } := by
      refine Work.askReads_none 8 ?_
      show (w.tu.transfer.bind _).bind _ = _
      rw [ht]
      rfl
    unfold Work.takeRead
    dsimp only
    split
    · rfl
    · rw [hend]
      rfl
    · rw [hask]
      rfl
    · rfl
  | cardDone i c =>
    show (w.takeCardDone i c).toState.rest = _
    simp only [Work.takeCardDone, hq, List.foldl_nil, ite_self]
  | developChanged i =>
    show (w.takeDevelop i).toState.rest = _
    rw [Work.takeDevelop, hq]
    rfl
  | frontier i => rfl
  | proofLost i =>
    show (w.tetherProofLost i).toState.rest = _
    rw [Work.tetherProofLost, hq]
    rfl
  | select => rw [Work.handle_select_none (by rw [hq]; rfl)]
  | focus g => exact Bool.noConfusion hr
  | rowEnded i l n => exact Bool.noConfusion hr

theorem Work.drain_rest (k : Nat) : ∀ w : Work, w.calm = true → w.toState.sendsNothing →
    (Work.drain k w).toState.rest = w.toState.rest := by
  induction k with
  | zero => exact fun w _ _ => rfl
  | succ k ih =>
    intro w h hs
    unfold Work.drain
    split
    · rfl
    · next r rest hb =>
      have hall : r.isBack = true ∧ rest.all Report.isBack = true := by
        rw [← Bool.and_eq_true, ← List.all_cons, ← hb]
        exact h
      have hstep : (({ w with bus := rest } : Work).handle r).toState.rest = w.toState.rest :=
        Work.handle_rest (w := { w with bus := rest }) hall.1 hs
      exact (ih _ ((Work.handle_calm r { w with bus := rest } hall.1).trans hall.2) (State.sendsNothing_congr hstep hs)).trans hstep

/-- The step of a command that leaves TU nothing to send and reports to the back half alone. -/
theorem exec_settles {c : Instr} {s : State} {v : Work} (op : Work → Work) (hop : exec c s = .next (run op s)) (hs : s.steady)
    (h : op { toState := s, bus := [] } = v) (hcalm : v.calm = true) (hsends : v.toState.sendsNothing)
    (hp : v.pwc = s.pwc) (hc : v.cw = s.cw) :
    ∃ u, exec c s = .next u ∧ u.rest = v.toState.rest := by
  have hrest := Work.drain_rest 4096 v hcalm hsends
  have hsteady : v.settle.toState.steady :=
    State.steady_congr ((congrArg (fun x => x.1) hrest).trans hp) ((congrArg (fun x => x.2.2.2.2.1) hrest).trans hc) hs
  refine ⟨_, exec_acts op hop h, ?_⟩
  rw [Work.finishWarning_steady _ hsteady]
  exact hrest

end

end Sys2Proof.Machine
end

section
/-! PROOF. DATA frames as they are sent, and the transfer whose bytes are lost or late (R112, R158, R161 to R165). -/

namespace Sys2Proof.Machine

/-! ### The bytes of a frame (R158, R165) -/

theorem allBytes_map (l : List Byte) : allBytes (l.map some) = some l := by
  induction l with
  | nil => rfl
  | cons x l ih => rw [List.map_cons, allBytes, ih, Option.map_some]

theorem allBytes_none {l : List (Option Byte)} (h : none ∈ l) : allBytes l = none := by
  induction l with
  | nil => exact absurd h List.not_mem_nil
  | cons x l ih =>
    cases x with
    | none => rfl
    | some b => rw [allBytes, ih ((List.mem_cons.1 h).resolve_left (Option.some_ne_none b).symm), Option.map_none]

/-! ### Sending (R158, R161, R164) -/

/-- The transfer when its next frame has been sent. -/
def Transfer.sends (t : Transfer) (data : List Byte) : Transfer := { t with
  next := t.next + min 1408 (t.length - t.next)
  high := max t.high (t.next + min 1408 (t.length - t.next))
  crc := if t.high ≤ t.next then crc32Fold t.crc data else t.crc }

section
variable {w : Work} {t : Transfer} {e : Entry}

theorem Transfer.roomy_eq (t : Transfer) : t.roomy = decide ((t.next - t.acked) / 1408 < t.window ∧ t.next < t.length) := by
  rw [Bool.decide_and]
  rfl

theorem Work.maySend_far (h : w.tu.link ≠ .sending) : w.maySend t e = false := by
  rw [Work.maySend, decide_eq_false h]
  rfl

theorem Work.maySend_full (h : t.window ≤ (t.next - t.acked) / 1408 ∨ t.length ≤ t.next) : w.maySend t e = false := by
  have hfull : ¬ ((t.next - t.acked) / 1408 < t.window ∧ t.next < t.length) := by omega
  rw [Work.maySend, Transfer.roomy_eq, decide_eq_false hfull, Bool.and_false, Bool.false_and]

theorem Work.maySend_limited (h : w.sendLimit t e < t.next + min 1408 (t.length - t.next)) : w.maySend t e = false := by
  rw [Work.maySend, decide_eq_false (p := t.next + t.payload ≤ w.sendLimit t e) (not_le.2 h), Bool.and_false]

theorem Work.maySend_open (hl : w.tu.link = .sending) (hn : t.next < t.length) (hw : (t.next - t.acked) / 1408 < t.window)
    (h : t.next + min 1408 (t.length - t.next) ≤ w.sendLimit t e) : w.maySend t e = true := by
  rw [Work.maySend, Transfer.roomy_eq, decide_eq_true hl, decide_eq_true ⟨hw, hn⟩,
    decide_eq_true (p := t.next + t.payload ≤ w.sendLimit t e) h]
  rfl

/-- Where the next frame may not be sent, neither DATA_SEND nor a read error does anything. -/
theorem Work.sendData_held (h : ∀ t e, w.tu.transfer = some t → w.tu.active? = some e → w.maySend t e = false) : w.sendData = w ∧ w.sendLost = w := by
  constructor
  · unfold Work.sendData
    split
    · next t e ht ha => exact if_neg (by rw [h t e ht ha]; exact Bool.false_ne_true)
    · rfl
  · unfold Work.sendLost
    split
    · next t e ht ha =>
      refine if_neg ?_
      rw [h t e ht ha]
      exact fun hc => Bool.false_ne_true hc.2
    · rfl

theorem Work.sendData_unread (ht : w.tu.transfer = some t) (ha : w.tu.active? = some e) (hd : w.frameData t e = none) :
    w.sendData = w := by
  unfold Work.sendData
  rw [ht, ha]
  dsimp only
  rw [hd]
  exact ite_self w

/-- The next frame goes out; the underrun timer runs when the limit alone holds back the one after it. -/
theorem Work.sendData_sends {desk m : BitVec 48} {limit : Nat} {data : List Byte} (hl : w.tu.link = .sending)
    (ht : w.tu.transfer = some t) (ha : w.tu.queue.find? (fun y => y.is t.number t.chain) = some e)
    (hb : w.tu.bound = some desk) (hm : w.tu.settings.ownMac = some m)
    (hlim : ∀ (v : Work) (x : Transfer), v.bm = w.bm → x.length = t.length → v.sendLimit x e = limit)
    (hn : t.next < t.length) (hw : (t.next - t.acked) / 1408 < t.window)
    (hroom : t.next + min 1408 (t.length - t.next) ≤ limit) (hdata : w.frameData t e = some data) :
    w.sendData = { w with
      tu := { w.tu with
        transfer := some (t.sends data)
        ackTimer := true
        underTimer := Decidable.decide ((t.next + min 1408 (t.length - t.next) - t.acked) / 1408 < t.window ∧
          t.next + min 1408 (t.length - t.next) < t.length ∧
          limit < t.next + min 1408 (t.length - t.next) + min 1408 (t.length - (t.next + min 1408 (t.length - t.next)))) }
      sent := .desk (wireFrame desk m w.tu.settings.etherType 0x05
        (leBytes 2 t.id ++ leBytes 4 t.next ++ leBytes 2 (min 1408 (t.length - t.next)) ++ data)) :: w.sent } := by
  have hactive : w.tu.active? = some e := by rw [Tu.active?, ht]; exact ha
  have hdesk (f : List Byte) : w.sendDesk 0x05 f =
      { w with sent := .desk (wireFrame desk m w.tu.settings.etherType 0x05 f) :: w.sent } := by
    unfold Work.sendDesk Work.sendTo
    rw [hb, hm]
    rfl
  have hupdate : w.sendData = Work.updateWait { w with
      tu := { w.tu with transfer := some (t.sends data), ackTimer := true }
      sent := .desk (wireFrame desk m w.tu.settings.etherType 0x05
        (leBytes 2 t.id ++ leBytes 4 t.next ++ leBytes 2 (min 1408 (t.length - t.next)) ++ data)) :: w.sent } := by
    unfold Work.sendData
    rw [ht, hactive]
    dsimp only
    rw [if_pos (Work.maySend_open hl hn hw (by rw [hlim w t rfl rfl]; exact hroom)), hdata]
    dsimp only
    rw [hdesk]
    rfl
  obtain ⟨v, hv⟩ : ∃ v : Work, v = { w with
      tu := { w.tu with transfer := some (t.sends data), ackTimer := true }
      sent := .desk (wireFrame desk m w.tu.settings.etherType 0x05
        (leBytes 2 t.id ++ leBytes 4 t.next ++ leBytes 2 (min 1408 (t.length - t.next)) ++ data)) :: w.sent } := ⟨_, rfl⟩
  have hvl : v.tu.link = .sending := by rw [hv]; exact hl
  have hvt : v.tu.transfer = some (t.sends data) := by rw [hv]
  have hva : v.tu.active? = some e := by rw [Tu.active?, hvt, hv]; exact ha
  have hlimit : v.sendLimit (t.sends data) e = limit := hlim v _ (by rw [hv]) rfl
  have hwaits : v.atFrontier = ((t.sends data).roomy && Decidable.decide (limit < (t.sends data).next + (t.sends data).payload)) := by
    unfold Work.atFrontier
    rw [hvl, hvt, hva]
    dsimp only
    rw [hlimit]
  rw [hupdate, ← hv, Work.updateWait, hwaits, Transfer.roomy_eq, ← Bool.decide_and, hv]
  simp only [and_assoc]
  rfl

/-- A transfer whose limit is its length waits for no frontier. -/
theorem whole_waits (t : Transfer) (n : Nat) (h : n = t.next + min 1408 (t.length - t.next)) :
    decide ((n - t.acked) / 1408 < t.window ∧ n < t.length ∧ t.length < n + min 1408 (t.length - n)) = false :=
  decide_eq_false fun hc => by omega

end

/-! ### The read error (R112, R158, R162) -/

section
variable {w : Work} {t : Transfer} {e : Entry} {desk m : BitVec 48}

theorem Work.bump_rise (k : CounterKind) : ∃ c, w.bump k = { w with tu := { w.tu with counters := w.tu.counters.rise k }, cp := c } := by
  unfold Work.bump
  dsimp only
  split
  · exact ⟨_, rfl⟩
  · exact ⟨w.cp, rfl⟩

/-- The end of a transfer that fails by source loss, up to the reports (R162). -/
theorem Work.endTransfer_lost (ht : w.tu.transfer = some t) (hq : w.tu.queue = [e]) (hn : e.number = t.number)
    (hc : e.chain = t.chain) (hb : w.tu.bound = some desk) (hm : w.tu.settings.ownMac = some m)
    (hl : w.tu.link = .sending) :
    (w.endTransfer .sourceLost).toState.rest = ({ w.toState with
      tu := { w.tu with
        link := .boundIdle, transfer := none, ackTimer := false, queue := [],
        counters := { w.tu.counters with failed := min 255 (w.tu.counters.failed + 1) } },
      sent := .desk (wireFrame desk m w.tu.settings.etherType 0x09 (leBytes 2 t.id ++ [2])) :: w.sent } : State).rest := by
  have hself : e.is t.number t.chain = true := by
    rw [Entry.is_eq]
    exact decide_eq_true ⟨hn, hc⟩
  have hactive : w.tu.active? = some e := by
    rw [Tu.active?, ht]
    show w.tu.queue.find? _ = _
    rw [hq]
    exact List.find?_cons_of_pos hself
  obtain ⟨v, hv⟩ : ∃ v : Work, v = { w with
      tu := w.tu.close
      sent := .desk (wireFrame desk m w.tu.settings.etherType 0x09 (leBytes 2 t.id ++ [2])) :: w.sent } := ⟨_, rfl⟩
  obtain ⟨cp, hcp⟩ := Work.bump_rise (w := v) .failed
  have hend : w.endTransfer .sourceLost =
      (((v.bump .failed).endEntry e .failed (some .sourceLost)).enterLink .boundIdle).post .select := by
    have hdesk : w.sendDesk 0x09 (leBytes 2 t.id ++ [AbortCause.sourceLost.byte]) =
        { w with sent := .desk (wireFrame desk m w.tu.settings.etherType 0x09 (leBytes 2 t.id ++ [2])) :: w.sent } := by
      unfold Work.sendDesk Work.sendTo
      rw [hb, hm]
      rfl
    unfold Work.endTransfer
    rw [ht, hactive]
    dsimp only [TransferEnd.abort]
    rw [hdesk, hv]
    rfl
  have hdrop : (v.bump .failed).tu.dropEntry e.number e.chain = { (v.bump .failed).tu with queue := [] } := by
    have hqueue : (v.bump .failed).tu.queue = [e] := by rw [hcp, hv]; exact hq
    rw [Tu.dropEntry, hqueue, List.filter_cons_of_neg]
    · rfl
    · rw [Entry.is_eq, decide_eq_true ⟨rfl, rfl⟩]
      exact Bool.false_ne_true
  have hentry : ((v.bump .failed).endEntry e .failed (some .sourceLost)).toState.rest =
      ({ (v.bump .failed).toState with tu := { (v.bump .failed).tu with queue := [] } } : State).rest := by
    unfold Work.endEntry
    dsimp only
    rw [hdrop]
    cases e.row with
    | none => rfl
    | some i => exact Work.check_rest _ i
  have hlink (u : Work) (hu : u.tu.link = .sending) : ((u.enterLink .boundIdle).post .select).toState.rest =
      ({ u.toState with tu := { u.tu with link := .boundIdle } } : State).rest := by
    rw [Work.enterLink_ne (by rw [hu]; exact fun h => Link.noConfusion h)]
    rfl
  have hlinked : ((v.bump .failed).endEntry e .failed (some .sourceLost)).tu.link = .sending := by
    refine (congrArg (fun x => x.2.2.2.2.2.1.link) hentry).trans ?_
    rw [hcp, hv]
    exact hl
  have hset {a b : State} (h : a.rest = b.rest) : ({ a with tu := { a.tu with link := .boundIdle } } : State).rest =
      ({ b with tu := { b.tu with link := .boundIdle } } : State).rest :=
    congrArg (fun x => (x.1, x.2.1, x.2.2.1, x.2.2.2.1, x.2.2.2.2.1, { x.2.2.2.2.2.1 with link := .boundIdle }, x.2.2.2.2.2.2)) h
  rw [hend, hlink _ hlinked, hset hentry, hcp, hv]
  rfl

end

/-! ### The underrun (R162, R164) -/

section
variable {w : Work} {t : Transfer} {e : Entry} {desk m : BitVec 48} {i : Nat} {r : Row}

/-- A row whose develop duty runs keeps its chains and stays HELD. -/
theorem Work.check_running (hr : w.bm.row? i = some r) (hd : r.develop = .running) : w.check i = w := by
  have hraw : r.rawRead = true := by
    rw [Row.rawRead, hd]
    exact (Bool.or_assoc _ _ _).trans (Bool.or_true _)
  have hproof : r.proofRead = true := by rw [Row.proofRead, hd]
  have hopen : r.openDuties ≠ 0 := by
    rw [Row.openDuties, hd]
    show 1 + _ + _ ≠ 0
    omega
  rw [Work.check, Work.releaseCheck_same hr (.inl hraw) (.inl hproof), Work.settleCheck_same hr (Row.settles_of_open hopen)]

/-- An early transfer that runs out of rows goes back into the queue, no longer early. -/
theorem Work.endTransfer_underrun (ht : w.tu.transfer = some t) (hq : w.tu.queue = [e]) (hn : e.number = t.number)
    (hc : e.chain = t.chain) (hb : w.tu.bound = some desk) (hm : w.tu.settings.ownMac = some m)
    (hl : w.tu.link = .sending) (he : e.row = some i) (hr : w.bm.row? i = some r) (hd : r.develop = .running)
    (hrec : w.tu.reclaim = false) : ∃ (f : List TetherDuty → List TetherDuty) (cp : Cp), w.endTransfer .underrun = { w with
      tu := { w.tu with
        link := .boundIdle, transfer := none, ackTimer := false, underTimer := false,
        buffers := w.tu.buffers.map Buffer.giveBack, queue := [{ e with sending := false, early := false }],
        counters := { w.tu.counters with underruns := min 255 (w.tu.counters.underruns + 1) } }
      bm := w.bm.mapRow i fun x => { x with tethers := f x.tethers }
      sent := .desk (wireFrame desk m w.tu.settings.etherType 0x09 (leBytes 2 t.id ++ [1])) :: w.sent
      cp := cp
      bus := w.bus ++ [.select] } := by
  have hself : e.is t.number t.chain = true := by
    rw [Entry.is_eq]
    exact decide_eq_true ⟨hn, hc⟩
  have hactive : w.tu.active? = some e := by
    rw [Tu.active?, ht]
    show w.tu.queue.find? _ = _
    rw [hq]
    exact List.find?_cons_of_pos hself
  obtain ⟨v, hv⟩ : ∃ v : Work, v = { w with
      tu := w.tu.close
      sent := .desk (wireFrame desk m w.tu.settings.etherType 0x09 (leBytes 2 t.id ++ [1])) :: w.sent } := ⟨_, rfl⟩
  obtain ⟨cp, hcp⟩ := Work.bump_rise (w := v) .underruns
  have hend : w.endTransfer .underrun =
      (((v.bump .underruns).returnEntry e false false).enterLink .boundIdle).post .select := by
    have hdesk : w.sendDesk 0x09 (leBytes 2 t.id ++ [AbortCause.underrun.byte]) =
        { w with sent := .desk (wireFrame desk m w.tu.settings.etherType 0x09 (leBytes 2 t.id ++ [1])) :: w.sent } := by
      unfold Work.sendDesk Work.sendTo
      rw [hb, hm]
      rfl
    unfold Work.endTransfer
    rw [ht, hactive]
    dsimp only [TransferEnd.abort]
    rw [hdesk, hv]
    rfl
  obtain ⟨u, hu⟩ : ∃ u : Work, u = v.bump .underruns := ⟨_, rfl⟩
  have hubm : u.bm = w.bm := by rw [hu, hcp, hv]
  have huq : u.tu.queue = [e] := by rw [hu, hcp, hv]; exact hq
  have hurec : u.tu.reclaim = false := by rw [hu, hcp, hv]; exact hrec
  have hdrop : u.tu.dropEntry e.number e.chain = { u.tu with queue := [] } := by
    rw [Tu.dropEntry, huq, List.filter_cons_of_neg]
    · rfl
    · rw [Entry.is_eq, decide_eq_true ⟨rfl, rfl⟩]
      exact Bool.false_ne_true
  have hret : ∃ f : List TetherDuty → List TetherDuty, u.returnEntry e false false = { u with
      tu := { u.tu with queue := [{ e with sending := false, early := false }] }
      bm := w.bm.mapRow i fun x => { x with tethers := f x.tethers } } := by
    have hdem : u.tu.demotes = false := by
      rw [Tu.demotes, hurec]
      rfl
    refine ⟨List.map fun d => if d.chain = e.chain ∧ d.state.isFinal = false then
      Entry.report { e with sending := false, early := false } d else d, ?_⟩
    unfold Work.returnEntry
    rw [hdrop, hdem]
    dsimp only
    rw [if_neg Bool.false_ne_true, if_neg Bool.false_ne_true, Work.mirror, he, ← hubm]
    exact Work.check_running (Bm.row?_mapRow_same (by rw [hubm]; exact hr) fun _ => rfl) hd
  obtain ⟨f, hf⟩ := hret
  refine ⟨f, cp.raise .tetherChange [3], ?_⟩
  have hlink : ({ u with
      tu := { u.tu with queue := [{ e with sending := false, early := false }] }
      bm := w.bm.mapRow i fun x => { x with tethers := f x.tethers } } : Work).tu.link ≠ .boundIdle := by
    show u.tu.link ≠ _
    rw [hu, hcp, hv]
    show w.tu.link ≠ _
    rw [hl]
    exact fun h => Link.noConfusion h
  rw [hend, ← hu, hf, Work.enterLink_ne hlink, hu, hcp, hv]
  rfl

end


end Sys2Proof.Machine
end

section
/-! PROOF. DATA_SEND, the read error and the underrun timer as they come (R112, R158, R161 to R165). -/

namespace Sys2Proof.Machine

/-- Settles O58. -/
theorem dataFramesAreSent : Obligations.DataFramesAreSent := by
  unfold Obligations.DataFramesAreSent
  intro i r t e desk m s hs frame
  have hsend : exec .dataSend s = .next (run Work.sendData s) := rfl
  have hlost : exec .tuReadError s = .next (run Work.sendLost s) := rfl
  have hunder : exec .underrunTimerExpiry s = .next (run Work.underrunExpires s) := rfl
  have hheld (h : ∀ t e, s.tu.transfer = some t → s.tu.active? = some e → Work.maySend { toState := s, bus := [] } t e = false) :
      exec .dataSend s = .next s ∧ exec .tuReadError s = .next s :=
    ⟨exec_same _ hsend hs (Work.sendData_held (w := { toState := s, bus := [] }) h).1,
      exec_same _ hlost hs (Work.sendData_held (w := { toState := s, bus := [] }) h).2⟩
  have hactive (hq : s.tu.queue = [e]) (hn : e.number = t.number) (hc : e.chain = t.chain) :
      s.tu.queue.find? (fun y => y.is t.number t.chain) = some e := by
    rw [hq]
    refine List.find?_cons_of_pos ?_
    rw [Entry.is_eq]
    exact decide_eq_true ⟨hn, hc⟩
  refine ⟨fun hl => hheld fun _ _ _ _ => Work.maySend_far hl, fun hu => ?_, fun ht h => hheld fun x y hx _ => ?_,
    fun hl ht hq hn hc hb hm hlt hwin => ?_, fun hl ht hq hn hc hkind hrow hsending hsrc hcopy hr hb hm hst => ⟨?_, ?_⟩⟩
  · exact exec_same _ hunder hs (if_neg (by rw [hu]; exact Bool.false_ne_true))
  · obtain rfl : t = x := Option.some.inj (ht.symm.trans hx)
    exact Work.maySend_full h
  · intro n sends
    refine ⟨?_, ?_⟩
    rotate_left
    · intro hsrc byte?
      have hbyte (o : Nat) : bufferByte s.tu.buffers o = byte? o := rfl
      have hdata : Work.frameData { toState := s, bus := [] } t e = allBytes ((List.range n).map fun k => byte? (t.next + k)) := by
        unfold Work.frameData
        rw [hsrc]
        rfl
      refine ⟨fun k hk hnone => ?_, fun data hd => ?_⟩
      · refine exec_same _ hsend hs (Work.sendData_unread (w := { toState := s, bus := [] }) (e := e) ht ?_ ?_)
        · show s.tu.active? = _
          rw [Tu.active?, ht]
          exact hactive hq hn hc
        · rw [hdata]
          exact allBytes_none (List.mem_map.2 ⟨k, List.mem_range.2 hk, hnone⟩)
      · refine exec_leaves _ hsend hs rfl rfl ?_
        refine (Work.sendData_sends (w := { toState := s, bus := [] }) (data := data) hl ht (hactive hq hn hc) hb hm
          (limit := t.length) (fun v x _ hx => (Work.sendLimit_card x hsrc).trans hx) hlt hwin (by omega) ?_).trans ?_
        · rw [hdata, hd, allBytes_map]
        · rw [whole_waits t _ rfl]
          rfl
    intro c limit hsrc hch hrow hr hproof hlimit
    have hlim (v : Work) (x : Transfer) (hv : v.bm = s.bm) (hx : x.length = t.length) : v.sendLimit x e = limit := by
      unfold Work.sendLimit
      rw [hsrc, hch]
      dsimp only
      rw [hrow, hv, Option.bind_some, hr]
      dsimp only
      rw [hproof, hx, hlimit, Nat.mul_comm 6000]
      rfl
    refine ⟨fun hfar => hheld fun x y hx hy => ?_, fun hroom => ?_⟩
    · obtain rfl : t = x := Option.some.inj (ht.symm.trans hx)
      rw [Tu.active?, ht] at hy
      obtain rfl : e = y := Option.some.inj ((hactive hq hn hc).symm.trans hy)
      refine Work.maySend_limited ?_
      rw [hlim _ _ rfl rfl]
      exact hfar
    · refine exec_leaves _ hsend hs rfl rfl ?_
      refine Work.sendData_sends (w := { toState := s, bus := [] }) hl ht (hactive hq hn hc) hb hm hlim hlt hwin hroom ?_
      unfold Work.frameData
      rw [hsrc]
      dsimp only
      rw [hrow, Option.bind_some, hr, hch]
      dsimp only [Row.pagesOf]
      rw [hproof]
      rfl
  · intro c n data hch hraw hlt hwin hn2 hdata
    subst hn2
    have hlim (v : Work) (x : Transfer) (hv : v.bm = s.bm) (hx : x.length = t.length) : v.sendLimit x e = t.length :=
      (Work.sendLimit_raw x hsrc hch).trans hx
    refine ⟨?_, ?_⟩
    · refine exec_leaves _ hsend hs rfl rfl ?_
      refine (Work.sendData_sends (w := { toState := s, bus := [] }) (data := data) hl ht (hactive hq hn hc) hb hm
        hlim hlt hwin (by omega) ?_).trans ?_
      · unfold Work.frameData
        rw [hsrc]
        dsimp only
        rw [hrow, Option.bind_some, hr, hch]
        dsimp only [Row.pagesOf]
        rw [hraw, hdata]
        rfl
      · rw [whole_waits t _ rfl]
        rfl
    · have hend := Work.endTransfer_lost (w := { toState := s, bus := [] }) ht hq hn hc hb hm hl
      have hop : Work.sendLost { toState := s, bus := [] } = Work.endTransfer .sourceLost { toState := s, bus := [] } := by
        have ha : Tu.active? s.tu = some e := by
          rw [Tu.active?, ht]
          exact hactive hq hn hc
        unfold Work.sendLost
        rw [show ({ toState := s, bus := [] } : Work).tu.transfer = some t from ht, ha]
        dsimp only
        refine if_pos ⟨hsrc, Work.maySend_open hl hlt hwin ?_⟩
        rw [hlim _ t rfl rfl]
        omega
      obtain ⟨u, hu, hrest⟩ := exec_settles _ hlost hs hop (Work.endTransfer_calm _ _) (State.sendsNothing_congr hend ⟨rfl, rfl⟩)
        (congrArg (fun x => x.1) hend) (congrArg (fun x => x.2.2.2.2.1) hend)
      have hall := hrest.trans hend
      exact ⟨u, hu, congrArg (fun x => x.2.2.2.2.2.1.transfer) hall, congrArg (fun x => x.2.2.2.2.2.1.queue) hall,
        congrArg (fun x => x.2.2.2.2.2.1.link) hall, congrArg (fun x => x.2.2.2.2.2.1.counters.failed) hall,
        congrArg (fun x => x.2.2.2.2.2.2) hall, congrArg (fun x => x.2.1) hall, congrArg (fun x => x.2.2.1) hall,
        congrArg (fun x => x.2.2.2.1) hall⟩
  · intro hch hd hindex hlife hut hrec
    obtain ⟨f, cp, hend⟩ := Work.endTransfer_underrun (w := { toState := s, bus := [] }) ht hq hn hc hb hm hl hrow hr hd hrec
    refine ⟨(Work.endTransfer .underrun { toState := s, bus := [] }).toState, ?_⟩
    rw [hend]
    refine ⟨exec_comes _ hunder (State.steady_congr (s := s) rfl rfl hs) ?_, ?_⟩
    · rw [show Work.underrunExpires { toState := s, bus := [] } = Work.endTransfer .underrun { toState := s, bus := [] } from
        if_pos hut, hend]
      refine .skip (Work.handle_select_none ?_) (.done _)
      refine List.find?_eq_none.2 fun x hx => ?_
      obtain rfl := List.mem_singleton.1 hx
      have hrow2 : e.row.bind (s.bm.mapRow i fun x => { x with tethers := f x.tethers }).row? =
          some { r with tethers := f r.tethers } := by
        rw [hrow]
        exact Bm.row?_mapRow_same (f := fun x => { x with tethers := f x.tethers }) hr fun _ => rfl
      unfold Work.ready
      dsimp only
      rw [hsrc, hch]
      dsimp only
      rw [hrow2]
      dsimp only
      rw [hd]
      exact Bool.false_ne_true
    · exact ⟨rfl, rfl, rfl, rfl, rfl, rfl, rfl, rfl, rfl, rfl, rfl⟩

end Sys2Proof.Machine
end

section
/-! PROOF. ACK, FINACK and the ack timer (R149, R151, R157, R159 to R162). -/

namespace Sys2Proof.Machine

section
variable {w : Work} {t : Transfer} {e : Entry} {desk m : BitVec 48}

theorem Work.bump_below {k : CounterKind} (hc : w.tu.counters.get k < 254) :
    w.bump k = { w with tu := { w.tu with counters := w.tu.counters.rise k } } := if_neg (Nat.ne_of_lt hc)

theorem satSucc_below {n : Nat} (h : n < 254) : satSucc 255 n = n + 1 := by
  unfold satSucc
  omega

/-- The entry of the transfer is the one entry of the queue. -/
def Tu.alone (u : Tu) (t : Transfer) (e : Entry) : Prop :=
  u.transfer = some t ∧ u.queue = [e] ∧ e.number = t.number ∧ e.chain = t.chain

theorem Tu.alone.active {u : Tu} (h : u.alone t e) : u.active? = some e := by
  obtain ⟨ht, hq, hn, hc⟩ := h
  rw [Tu.active?, ht]
  show u.queue.find? _ = _
  rw [hq]
  refine List.find?_cons_of_pos ?_
  rw [Entry.is_eq]
  exact decide_eq_true ⟨hn, hc⟩

theorem Tu.alone.drop {u : Tu} (h : u.queue = [e]) : u.dropEntry e.number e.chain = { u with queue := [] } := by
  rw [Tu.dropEntry, h, List.filter_cons_of_neg]
  · rfl
  · rw [Entry.is_eq, decide_eq_true ⟨rfl, rfl⟩]
    exact Bool.false_ne_true

/-- A transfer whose limit is its length never waits at the frontier (R164). -/
theorem Work.updateWait_off (ht : w.tu.transfer = some t) (ha : w.tu.active? = some e)
    (hl : w.tu.link = .sending → w.sendLimit t e = t.length) :
    w.updateWait = { w with tu := { w.tu with underTimer := false } } := by
  have hwait : w.atFrontier = false := by
    unfold Work.atFrontier
    rw [ht, ha]
    split
    · next hs h1 h2 =>
      cases h1
      cases h2
      rw [hl hs, Transfer.roomy_eq, ← Bool.decide_and]
      refine decide_eq_false fun hc => ?_
      have hpay : t.payload = min 1408 (t.length - t.next) := rfl
      omega
    · rfl
  rw [Work.updateWait, hwait]

/-- Once every sector has been asked no more reads are. -/
theorem Work.askReads_all (k : Nat) (ht : w.tu.transfer = some t) (h : t.length ≤ 512 * t.nextSector) :
    Work.askReads k w = w := by
  have hleft : sectorsOf t.length - t.nextSector = 0 := by
    have : sectorsOf t.length = (t.length + 511) / 512 := rfl
    omega
  have hone : w.askOne = none := by
    unfold Work.askOne
    rw [ht]
    split
    · next h1 _ =>
      cases h1
      split
      · exact if_pos hleft
      · rfl
    · rfl
  cases k with
  | zero => rfl
  | succ k => rw [Work.askReads, hone]

theorem Work.sendDesk_eq (hb : w.tu.bound = some desk) (hm : w.tu.settings.ownMac = some m) (kind : Byte) (f : List Byte) :
    w.sendDesk kind f = { w with sent := .desk (wireFrame desk m w.tu.settings.etherType kind f) :: w.sent } := by
  unfold Work.sendDesk Work.sendTo
  rw [hb, hm]
  rfl

/-! ### ACK (R159, R161) -/

/-- An ACK inside the transfer moves the acked offset. -/
theorem Work.takeAck_moves {o : Nat} (hl : w.tu.link = .sending) (hx : w.tu.alone t e) (hs : e.source = .card)
    (hall : t.length ≤ 512 * t.nextSector) (ho : o % 1408 = 0 ∨ o = t.length) (ha : t.acked < o) (hh : o ≤ t.high)
    (hne : o ≠ t.length) : w.takeAck t.id o = { w with tu := { w.tu with
      ackTimer := Decidable.decide (o < t.high), underTimer := false,
      transfer := some { t with acked := o, next := max t.next o, timeouts := 0 },
      buffers := w.tu.buffers.map (Buffer.freeBelow o) } } := by
  have ht := hx.1
  have hstay : ¬ (o % Config.dataBytes ≠ 0 ∧ o ≠ t.length) := fun h => h.1 (ho.resolve_right h.2)
  unfold Work.takeAck
  rw [hl, ht]
  dsimp only
  rw [if_neg (fun h => h rfl), if_neg hstay, if_neg (by omega), if_neg (by omega), if_neg hne,
    Work.askReads_all (t := { t with acked := o, next := max t.next o, timeouts := 0 }) 8 rfl hall]
  exact Work.updateWait_off (t := { t with acked := o, next := max t.next o, timeouts := 0 }) rfl
    (Tu.alone.active ⟨rfl, hx.2⟩) fun _ => Work.sendLimit_card _ hs

/-- An ACK for the length brings FIN. -/
theorem Work.takeAck_ends (hl : w.tu.link = .sending) (hx : w.tu.alone t e) (hb : w.tu.bound = some desk)
    (hm : w.tu.settings.ownMac = some m) (hall : t.length ≤ 512 * t.nextSector) (ha : t.acked < t.length)
    (hh : t.length ≤ t.high) : w.takeAck t.id t.length = { w with
      tu := { w.tu with
        link := .finishing, ackTimer := true, underTimer := false,
        transfer := some { t with acked := t.length, next := max t.next t.length, timeouts := 0 },
        buffers := w.tu.buffers.map (Buffer.freeBelow t.length) }
      sent := .desk (wireFrame desk m w.tu.settings.etherType 0x07
        (leBytes 2 t.id ++ leBytes 4 t.length ++ leBytes 4 (~~~ t.crc).toNat)) :: w.sent
      cp := w.cp.raise .tetherChange [5] } := by
  have ht := hx.1
  unfold Work.takeAck
  rw [hl, ht]
  dsimp only
  rw [if_neg (fun h => h rfl), if_neg (fun h => h.2 rfl), if_neg (by omega), if_neg (by omega), if_pos rfl,
    Work.askReads_all (t := { t with acked := t.length, next := max t.next t.length, timeouts := 0 }) 8 rfl hall]
  unfold Work.sendFin
  rw [Work.sendDesk_eq (desk := desk) (m := m), Work.enterLink_ne]
  rotate_left
  · exact fun h => Link.noConfusion (hl.symm.trans h)
  · exact hb
  · exact hm
  exact Work.updateWait_off (t := { t with acked := t.length, next := max t.next t.length, timeouts := 0 }) (e := e) rfl
    (Tu.alone.active ⟨rfl, hx.2⟩) fun h => Link.noConfusion h

/-! ### FINACK (R161, R162) -/

/-- A first BAD starts the transfer over. -/
theorem Work.takeFinack_restarts (hl : w.tu.link = .finishing) (hx : w.tu.alone t e) (hb : w.tu.bound = some desk)
    (hm : w.tu.settings.ownMac = some m) (hbad : t.bad = 0) (hc : w.tu.counters.restarted < 254) (hs : e.source = .buffer)
    (hch : e.chain = .raw) (hcopy : e.copy = none) : w.takeFinack t.id false = { w with
      tu := { w.tu with
        link := .sending, underTimer := false, buffers := w.tu.buffers.map Buffer.giveBack,
        transfer := some { t with next := 0, high := 0, acked := 0, bad := 1, crc := crc32Init, nextSector := 0 },
        counters := { w.tu.counters with restarted := w.tu.counters.restarted + 1 } }
      sent := .desk (wireFrame desk m w.tu.settings.etherType 0x04
        (leBytes 2 t.id ++ leBytes 3 t.number ++ [t.chain.byte] ++ leBytes 4 t.length)) :: w.sent
      cp := w.cp.raise .tetherChange [4] } := by
  have ht := hx.1
  unfold Work.takeFinack
  rw [hl, ht]
  dsimp only
  rw [if_neg (fun h => h rfl), if_neg Bool.false_ne_true, if_pos hbad, Work.restartTransfer, Work.bump_below (k := .restarted) hc,
    Counters.rise, satSucc_below hc]
  unfold Work.sendOffer
  rw [Work.sendDesk_eq (desk := desk) (m := m), Work.enterLink_ne]
  rotate_left
  · exact fun h => Link.noConfusion (hl.symm.trans h)
  · exact hb
  · exact hm
  obtain ⟨v, hv⟩ : ∃ v : Work, v = { w with
      tu := { w.tu with
        link := .sending, buffers := w.tu.buffers.map Buffer.giveBack,
        transfer := some { t with next := 0, high := 0, acked := 0, bad := 1, crc := crc32Init, nextSector := 0 },
        counters := { w.tu.counters with restarted := w.tu.counters.restarted + 1 } }
      sent := .desk (wireFrame desk m w.tu.settings.etherType 0x04
        (leBytes 2 t.id ++ leBytes 3 t.number ++ [t.chain.byte] ++ leBytes 4 t.length)) :: w.sent
      cp := w.cp.raise .tetherChange [4] } := ⟨_, rfl⟩
  have hva : v.tu.active? = some e := by
    rw [hv]
    exact Tu.alone.active (t := { t with next := 0, high := 0, acked := 0, bad := 1, crc := crc32Init, nextSector := 0 })
      ⟨rfl, hx.2⟩
  have hvt : v.tu.transfer = some { t with next := 0, high := 0, acked := 0, bad := 1, crc := crc32Init, nextSector := 0 } := by
    rw [hv]
  refine Eq.trans (b := Work.updateWait (Work.askReads 8 v)) (by subst hv; rfl) ?_
  rw [Work.askReads_none 8 (by rw [hva]; exact hcopy), Work.updateWait_off hvt hva fun _ => Work.sendLimit_raw _ hs hch, hv]

/-- The end of a transfer of a copy, from the closing of its record to its last notice (R162). -/
theorem Work.endTransfer_good (hx : w.tu.alone t e) (hrow : e.row = none) (hl : w.tu.link ≠ .boundIdle) :
    w.endTransfer .good = { w with
      tu := { w.tu with
        link := .boundIdle, transfer := none, queue := [], ackTimer := false, underTimer := false,
        buffers := w.tu.buffers.map Buffer.giveBack }
      cp := (w.cp.raise .sendDone (leBytes 3 e.number ++ [e.chain.byte])).raise .tetherChange [3]
      bus := w.bus ++ [.select] } := by
  have ht := hx.1
  have hentry : Work.endEntry e .done none { w with tu := w.tu.close } = { w with
      tu := { w.tu.close with queue := [] }
      cp := w.cp.raise .sendDone (leBytes 3 e.number ++ [e.chain.byte]) } := by
    unfold Work.endEntry
    dsimp only
    rw [Tu.alone.drop (u := w.tu.close) hx.2.1, hrow]
    rfl
  have hend : w.endTransfer .good =
      ((Work.endEntry e .done none { w with tu := w.tu.close }).enterLink .boundIdle).post .select := by
    unfold Work.endTransfer
    rw [ht, hx.active]
    rfl
  rw [hend, hentry, Work.enterLink_ne (by exact hl)]
  rfl

theorem Work.endTransfer_rejected (hx : w.tu.alone t e) (hrow : e.row = none) (hl : w.tu.link ≠ .boundIdle)
    (hc : w.tu.counters.failed < 254) : w.endTransfer .rejected = { w with
      tu := { w.tu with
        link := .boundIdle, transfer := none, queue := [], ackTimer := false, underTimer := false,
        buffers := w.tu.buffers.map Buffer.giveBack
        counters := { w.tu.counters with failed := w.tu.counters.failed + 1 } }
      cp := (w.cp.raise .sendFailed (leBytes 3 e.number ++ [e.chain.byte, 0])).raise .tetherChange [3]
      bus := w.bus ++ [.select] } := by
  have ht := hx.1
  obtain ⟨u, hu⟩ : ∃ u : Tu, u = { w.tu.close with counters := { w.tu.counters with failed := w.tu.counters.failed + 1 } } :=
    ⟨_, rfl⟩
  have hbump : Work.bump .failed { w with tu := w.tu.close } = { w with tu := u } := by
    rw [Work.bump_below (k := .failed) (w := { w with tu := w.tu.close }) hc, Counters.rise, hu]
    show ({ w with tu := { w.tu.close with counters := { w.tu.counters with failed := satSucc 255 w.tu.counters.failed } } } :
      Work) = _
    rw [satSucc_below hc]
  have hentry : Work.endEntry e .failed (some .rejected) { w with tu := u } = { w with
      tu := { u with queue := [] }
      cp := w.cp.raise .sendFailed (leBytes 3 e.number ++ [e.chain.byte, 0]) } := by
    unfold Work.endEntry
    dsimp only
    rw [Tu.alone.drop (u := u) (by rw [hu]; exact hx.2.1), hrow]
    rfl
  have hend : w.endTransfer .rejected = ((Work.endEntry e .failed (some .rejected)
      (Work.bump .failed { w with tu := w.tu.close })).enterLink .boundIdle).post .select := by
    unfold Work.endTransfer
    rw [ht, hx.active]
    rfl
  rw [hend, hbump, hentry, Work.enterLink_ne (by show u.link ≠ _; rw [hu]; exact hl), hu]
  rfl

/-! ### The ack timer (R151, R160, R162) -/

/-- The ack timer goes back to the acked offset. -/
theorem Work.ackExpires_back (hl : w.tu.link = .sending) (hx : w.tu.alone t e) (hs : e.source = .card)
    (ha : w.tu.ackTimer = true) (hc : w.tu.counters.ackTimeouts < 254) (h4 : t.timeouts < 4) :
    w.ackExpires = { w with tu := { w.tu with
      ackTimer := false, underTimer := false,
      counters := { w.tu.counters with ackTimeouts := w.tu.counters.ackTimeouts + 1 },
      transfer := some { t with timeouts := t.timeouts + 1, next := t.acked } } } := by
  have ht := hx.1
  unfold Work.ackExpires
  rw [ht]
  dsimp only
  rw [if_pos ha, if_neg (by omega)]
  rw [Work.bump_below (k := .ackTimeouts)]
  rotate_left
  · exact hc
  rw [Counters.rise, satSucc_below (by exact hc)]
  split
  rotate_left
  · next h => exact Link.noConfusion (hl.symm.trans h)
  · next h => exact Link.noConfusion (hl.symm.trans h)
  · next h => exact Link.noConfusion (hl.symm.trans h)
  · next h => exact Link.noConfusion (hl.symm.trans h)
  · next h => exact Link.noConfusion (hl.symm.trans h)
  exact Work.updateWait_off (t := { t with timeouts := t.timeouts + 1, next := t.acked }) rfl
    (Tu.alone.active ⟨rfl, hx.2⟩) fun _ => Work.sendLimit_card _ hs

/-- At the fifth timeout in a row the desk is lost. -/
theorem Work.ackExpires_loses (hl : w.tu.link = .sending) (hx : w.tu.alone t e) (hrow : e.row = none)
    (hm : w.tu.settings.ownMac = some m) (hst : w.tu.stopped = false) (ha : w.tu.ackTimer = true)
    (hc : w.tu.counters.ackTimeouts < 254) (hf : w.tu.counters.failed < 254) (h4 : 4 ≤ t.timeouts) :
    w.ackExpires = { w with
      tu := { w.tu with
        link := .unbound, bound := none, transfer := none, queue := [{ e with sending := false }],
        ackTimer := false, underTimer := false, helloTimer := true, deskTimer := false,
        counters := { w.tu.counters with
          ackTimeouts := w.tu.counters.ackTimeouts + 1, failed := w.tu.counters.failed + 1 },
        buffers := w.tu.buffers.map Buffer.giveBack }
      sent := .desk (helloFrame w.tu.settings m) :: w.sent
      cp := w.cp.raise .tetherChange [2] } := by
  have ht := hx.1
  obtain ⟨t1, ht1⟩ : ∃ t1 : Transfer, t1 = { t with timeouts := t.timeouts + 1 } := ⟨_, rfl⟩
  obtain ⟨u, hu⟩ : ∃ u : Tu, u = { w.tu with
      transfer := some t1, counters := { w.tu.counters with ackTimeouts := w.tu.counters.ackTimeouts + 1 } } := ⟨_, rfl⟩
  obtain ⟨x, hxu⟩ : ∃ x : Tu, x = { u.close with counters := { u.counters with failed := u.counters.failed + 1 } } := ⟨_, rfl⟩
  have halone : u.alone t1 e := by
    rw [hu, ht1]
    exact ⟨rfl, hx.2⟩
  have htimeout : w.ackExpires = Work.endTransfer .timeout { w with tu := u } := by
    unfold Work.ackExpires
    rw [ht]
    dsimp only
    rw [if_pos ha, if_pos (by omega), ← ht1, Work.bump_below (k := .ackTimeouts), hu]
    rotate_left
    · exact hc
    show Work.endTransfer _ { w with tu := { w.tu with
      transfer := some t1, counters := { w.tu.counters with ackTimeouts := satSucc 255 w.tu.counters.ackTimeouts } } } = _
    rw [satSucc_below hc]
  have hfu : u.counters.failed < 254 := by rw [hu]; exact hf
  have hbump : Work.bump .failed { w with tu := u.close } = { w with tu := x } := by
    rw [Work.bump_below (k := .failed) (w := { w with tu := u.close }) hfu, hxu]
    show ({ w with tu := { u.close with counters := { u.counters with failed := satSucc 255 u.counters.failed } } } : Work) = _
    rw [satSucc_below hfu]
  have hret : Work.returnEntry e true e.early { w with tu := x } =
      { w with tu := { x with queue := [{ e with sending := false }] } } := by
    unfold Work.returnEntry
    dsimp only
    rw [Tu.alone.drop (u := x) (by rw [hxu, hu]; exact hx.2.1)]
    have hmir (v : Work) : v.mirror { e with sending := false, early := e.early } = v := Work.mirror_none hrow
    have hdem (v : Work) : v.demote { e with sending := false, early := e.early } = v := by
      unfold Work.demote
      dsimp only
      rw [hrow]
      rfl
    rw [hmir, hdem, ite_self]
    rfl
  have hend : Work.endTransfer .timeout { w with tu := u } =
      (Work.returnEntry e true e.early (Work.bump .failed { w with tu := u.close })).enterUnbound := by
    unfold Work.endTransfer
    dsimp only
    rw [halone.1, halone.active]
    rfl
  rw [htimeout, hend, hbump, hret, Work.enterUnbound_eq (m := m), hxu, hu]
  · rfl
  · show x.settings.ownMac = _
    rw [hxu, hu]
    exact hm
  · show x.link ≠ _
    rw [hxu, hu]
    show w.tu.link ≠ _
    rw [hl]
    exact fun h => Link.noConfusion h
  · show x.stopped = _
    rw [hxu, hu]
    exact hst

end

end Sys2Proof.Machine
end

section
/-! PROOF. ACK, FINACK and the ack timer as they come (R149 to R151, R157, R159 to R162). -/

namespace Sys2Proof.Machine

section
variable {w : Work} {h : DeskHead} {m : BitVec 48}

/-- A frame of the bound desk refreshes the desk-loss timer and acts. -/
theorem Work.takeDesk_bound {x : DeskMsg} (hl : w.tu.link = .boundIdle ∨ w.tu.link = .sending ∨ w.tu.link = .finishing)
    (hm : w.tu.settings.ownMac = some m) (hety : h.etherType = w.tu.settings.etherType) (hdst : h.dst = m)
    (hb : w.tu.bound = some h.src) (hx : x.malformed = false) :
    w.takeDesk h x = Work.takeBound x { w with tu := { w.tu with deskTimer := true } } := by
  have hoff : w.tu.link ≠ .off ∧ w.tu.link ≠ .down := by
    rcases hl with hl | hl | hl <;> rw [hl] <;> exact ⟨fun h => Link.noConfusion h, fun h => Link.noConfusion h⟩
  rw [Work.takeDesk_passes hoff.1 hoff.2 hm ⟨hety, .inl hdst⟩ hx, Work.takePassed_bound hl hb]

/-- While the tether is not stopped the bound desk's ACK and FINACK act (R173). -/
theorem Work.takeBound_ack {id o : Nat} (hst : w.tu.stopped = false) : w.takeBound (.ack id o) = w.takeAck id o :=
  if_neg (by rw [hst]; exact Bool.false_ne_true)

theorem Work.takeBound_finack {id : Nat} {r : Byte} (hst : w.tu.stopped = false) :
    w.takeBound (.finack id r) = w.takeFinack id (r == 0) :=
  if_neg (by rw [hst]; exact Bool.false_ne_true)

theorem Work.takeFinack_good {t : Transfer} (hl : w.tu.link = .finishing) (ht : w.tu.transfer = some t) :
    w.takeFinack t.id true = w.endTransfer .good := by
  unfold Work.takeFinack
  rw [hl, ht]
  dsimp only
  rw [if_neg (fun h => h rfl), if_pos rfl]

theorem Work.takeFinack_bad {t : Transfer} (hl : w.tu.link = .finishing) (ht : w.tu.transfer = some t) (hbad : t.bad ≠ 0) :
    w.takeFinack t.id false = w.endTransfer .rejected := by
  unfold Work.takeFinack
  rw [hl, ht]
  dsimp only
  rw [if_neg (fun h => h rfl), if_neg Bool.false_ne_true, if_neg hbad]

end

/-- Settles O59. -/
theorem transfersAreAcknowledged : Obligations.TransfersAreAcknowledged := by
  unfold Obligations.TransfersAreAcknowledged
  have htimer (s : State) : exec .ackTimerExpiry s = .next (run Work.ackExpires s) := rfl
  have hack (h : DeskHead) (id : BitVec 16) (o : BitVec 32) (s : State) :
      exec (.ack h id o) s = .next (run (Work.takeDesk h (.ack id.toNat o.toNat)) s) := rfl
  have hfinack (h : DeskHead) (id : BitVec 16) (r : Byte) (s : State) :
      exec (.finack h id r) s = .next (run (Work.takeDesk h (.finack id.toNat r)) s) := rfl
  refine ⟨fun s hs ha => ?_, fun h m id o r s hs hm ht hl hst hety hdst hb hr => ⟨?_, ?_⟩, ?_⟩
  · refine exec_same _ (htimer s) hs ?_
    unfold Work.ackExpires
    split
    · exact if_neg (by rw [show ({ toState := s, bus := [] } : Work).tu.ackTimer = false from ha]; exact Bool.false_ne_true)
    · rfl
  · refine exec_leaves _ (hack h id o s) hs rfl rfl ?_
    rw [Work.takeDesk_bound (w := { toState := s, bus := [] }) (.inl hl) hm hety hdst hb rfl, Work.takeBound_ack (by exact hst),
      Work.takeAck]
    dsimp only
    rw [hl]
  · refine exec_leaves _ (hfinack h id r s) hs rfl rfl ?_
    rw [Work.takeDesk_bound (w := { toState := s, bus := [] }) (.inl hl) hm hety hdst hb
      (by exact decide_eq_false (by omega)), Work.takeBound_finack (by exact hst), Work.takeFinack]
    dsimp only
    rw [hl]
  intro h m id o t e s hs hm ht hq hn hc hst hety hdst hb hid frame heard
  have halone : s.tu.alone t e := ⟨ht, hq, hn, hc⟩
  have hheard : heard.tu.alone t e := halone
  have hacked (hl : s.tu.link = .sending) : Work.takeDesk h (.ack id.toNat o.toNat) { toState := s, bus := [] } =
      Work.takeAck t.id o.toNat { toState := heard, bus := [] } := by
    rw [Work.takeDesk_bound (w := { toState := s, bus := [] }) (.inr (.inl hl)) hm hety hdst hb rfl,
      Work.takeBound_ack (by exact hst), hid]
  have hfin (r : Byte) (hr : r.toNat ≤ 1) (hl : s.tu.link = .finishing) :
      Work.takeDesk h (.finack id.toNat r) { toState := s, bus := [] } =
        Work.takeFinack t.id (r == 0) { toState := heard, bus := [] } := by
    rw [Work.takeDesk_bound (w := { toState := s, bus := [] }) (.inr (.inr hl)) hm hety hdst hb
      (by exact decide_eq_false (by omega)), Work.takeBound_finack (by exact hst), hid]
  refine ⟨fun hkind hsrc hch hcopy hl hbad hcount => ?_, fun hkind hrow hsrc hall => ⟨fun hl ho hacked2 hhigh => ?_, fun hl => ?_,
    fun ha hl hcount => ?_⟩⟩
  · refine exec_leaves _ (hfinack h id 1 s) hs rfl rfl ((hfin 1 (by decide) hl).trans ?_)
    exact Work.takeFinack_restarts (w := { toState := heard, bus := [] }) hl hheard hb hm hbad hcount hsrc hch hcopy
  · intro moved
    refine ⟨fun hne => ?_, fun heq => ?_⟩
    · refine exec_leaves _ (hack h id o s) hs rfl rfl ((hacked hl).trans ?_)
      exact Work.takeAck_moves (w := { toState := heard, bus := [] }) hl hheard hsrc hall ho hacked2 hhigh hne
    · refine exec_leaves _ (hack h id o s) hs rfl rfl ((hacked hl).trans ?_)
      show Work.takeAck t.id o.toNat _ = _
      dsimp only [moved]
      rw [heq]
      exact Work.takeAck_ends (w := { toState := heard, bus := [] }) hl hheard hb hm hall (heq ▸ hacked2) (heq ▸ hhigh)
  · intro closed
    have hlink : heard.tu.link ≠ .boundIdle := fun hc => Link.noConfusion (hl.symm.trans hc)
    refine ⟨?_, fun hbad hcount => ?_⟩
    · refine exec_comes _ (hfinack h id 0 s) (State.steady_congr (s := s) rfl rfl hs) ?_
      rw [hfin 0 (by decide) hl]
      show Work.Comes (Work.takeFinack t.id true _) _ _
      rw [Work.takeFinack_good (w := { toState := heard, bus := [] }) hl ht,
        Work.endTransfer_good (w := { toState := heard, bus := [] }) hheard hrow hlink]
      exact .skip (Work.handle_select_none rfl) (.done _)
    · refine exec_comes _ (hfinack h id 1 s) (State.steady_congr (s := s) rfl rfl hs) ?_
      rw [hfin 1 (by decide) hl]
      show Work.Comes (Work.takeFinack t.id false _) _ _
      rw [Work.takeFinack_bad (w := { toState := heard, bus := [] }) hl ht hbad,
        Work.endTransfer_rejected (w := { toState := heard, bus := [] }) hheard hrow hlink hcount]
      exact .skip (Work.handle_select_none rfl) (.done _)
  · intro counted
    refine ⟨fun h4 => ?_, fun h4 hfailed => ?_⟩
    · exact exec_leaves _ (htimer s) hs rfl rfl
        (Work.ackExpires_back (w := { toState := s, bus := [] }) hl halone hsrc ha hcount h4)
    · exact exec_leaves _ (htimer s) hs rfl rfl
        (Work.ackExpires_loses (w := { toState := s, bus := [] }) hl halone hrow hm hst ha hcount hfailed h4)

end Sys2Proof.Machine
end

section
/-! PROOF. The answers of a card to a read (R140, R162, R165). -/

namespace Sys2Proof.Machine

section
variable {w : Work} {t : Transfer} {e : Entry} {i : SlotId} {q : ReadRequest}

theorem Work.readEnd_idle (data : Option (List Byte)) (h : (w.cw.slot i).op = .idle) : w.readEnd i data = w := by
  rw [Work.readEnd, h]

theorem Work.readArrives_idle (data : List Byte) (h : (w.cw.slot i).op = .idle) : w.readArrives i data = w := by
  rw [Work.readArrives, h]

/-- With nothing to write and no read waiting a READY slot rests. -/
theorem Work.selectDuty_empty (h : (w.cw.slot i).writeQ = []) : w.selectDuty i = w := by
  unfold Work.selectDuty
  rw [h]
  exact ite_self w

theorem Work.startRead_none (h : (w.cw.slot i).reads = []) : w.startRead i = w := by
  unfold Work.startRead
  rw [h]
  split
  · next h1 => exact absurd h1 (List.cons_ne_nil _ _).symm
  · rfl

/-- A read of a READY slot ends, with nothing after it. -/
theorem Work.readEnd_ready (data : Option (List Byte)) (hop : (w.cw.slot i).op = .read q true)
    (hst : (w.cw.slot i).state = .ready) (hq : (w.cw.slot i).writeQ = []) (hr : (w.cw.slot i).reads = []) :
    w.readEnd i data = (w.mapSlot i fun x => { x with op := .idle }).post (.readEnded q.buffer data) := by
  obtain ⟨v, hv⟩ : ∃ v : Work, v = (w.mapSlot i fun x => { x with op := .idle }).post (.readEnded q.buffer data) := ⟨_, rfl⟩
  have hslot : v.cw.slot i = { w.cw.slot i with op := .idle } := by
    rw [hv]
    exact Cw.slot_mapSlot w i _
  unfold Work.readEnd
  rw [hop, hst]
  dsimp only
  rw [if_pos rfl, ← hv, Work.selectDuty_empty (by rw [hslot]; exact hq), Work.startRead_none (by rw [hslot]; exact hr)]

/-- A transfer of an entry without a duty ends by source loss (R162). -/
theorem Work.endTransfer_lost_rowless (hx : w.tu.alone t e) (hrow : e.row = none) (hl : w.tu.link = .sending) :
    ∃ cp sent, w.endTransfer .sourceLost = { w with
      tu := { w.tu with
        link := .boundIdle, transfer := none, queue := [], ackTimer := false, underTimer := false,
        buffers := w.tu.buffers.map Buffer.giveBack
        counters := { w.tu.counters with failed := min 255 (w.tu.counters.failed + 1) } }
      cp := cp
      sent := sent
      bus := w.bus ++ [.select] } := by
  obtain ⟨v, hv⟩ : ∃ v : Work, v = { w with
      tu := w.tu.close
      sent := .desk (wireFrame (w.tu.bound.getD 0) (w.tu.settings.ownMac.getD 0) w.tu.settings.etherType 0x09
        (leBytes 2 t.id ++ [2])) :: w.sent } := ⟨_, rfl⟩
  obtain ⟨cp, hcp⟩ := Work.bump_rise (w := v) .failed
  have hentry : (v.bump .failed).endEntry e .failed (some .sourceLost) = { v.bump .failed with
      tu := { (v.bump .failed).tu with queue := [] }
      cp := cp.raise .sendFailed (leBytes 3 e.number ++ [e.chain.byte, TetherCause.sourceLost.byte]) } := by
    unfold Work.endEntry
    dsimp only
    rw [Tu.alone.drop (u := (v.bump .failed).tu) (by rw [hcp, hv]; exact hx.2.1), hrow, hcp]
    rfl
  have hend : w.endTransfer .sourceLost =
      (((v.bump .failed).endEntry e .failed (some .sourceLost)).enterLink .boundIdle).post .select := by
    unfold Work.endTransfer
    rw [hx.1, hx.active, hv]
    rfl
  refine ⟨(cp.raise .sendFailed (leBytes 3 e.number ++ [e.chain.byte, TetherCause.sourceLost.byte])).raise .tetherChange [3],
    .desk (wireFrame (w.tu.bound.getD 0) (w.tu.settings.ownMac.getD 0) w.tu.settings.etherType 0x09
        (leBytes 2 t.id ++ [2])) :: w.sent, ?_⟩
  rw [hend, hentry, Work.enterLink_ne, hcp, hv]
  · rfl
  · rw [hcp, hv]
    exact fun h => Link.noConfusion (hl.symm.trans h)

/-! ### The report of the end (R165) -/

section
variable {b k n : Nat}

theorem Work.takeRead_full {data : List Byte} (h : w.tu.buffers[b]? = some (.asked k n false)) :
    w.takeRead b (some data) = { w with tu := { w.tu with buffers := w.tu.buffers.set b (.full k n data) } } := by
  unfold Work.takeRead
  rw [h]

/-- The answer to a read that has gone stale frees its buffer. -/
theorem Work.takeRead_stale (data : Option (List Byte)) (h : w.tu.buffers[b]? = some (.asked k n true))
    (ht : w.tu.transfer = none) :
    w.takeRead b data = { w with tu := { w.tu with buffers := w.tu.buffers.set b .free } } := by
  unfold Work.takeRead
  rw [h]
  refine Work.askReads_none 8 ?_
  show (w.tu.transfer.bind _).bind _ = _
  rw [ht]
  rfl

theorem Work.takeRead_lost (h : w.tu.buffers[b]? = some (.asked k n false)) : w.takeRead b none =
    Work.endTransfer .sourceLost { w with tu := { w.tu with buffers := w.tu.buffers.set b .free } } := by
  unfold Work.takeRead
  rw [h]

end

end

/-- Settles O52. -/
theorem readsFillSegmentBuffers : Obligations.ReadsFillSegmentBuffers := by
  unfold Obligations.ReadsFillSegmentBuffers
  intro i x data s hs hx
  have hok (l : Bool) : exec (.readOk ⟨i, l⟩ data) s =
      .next (run (Work.takeAnswer ⟨i, l⟩ fun slot => Work.readArrives slot data) s) := rfl
  have hfail (l : Bool) : exec (.readFail ⟨i, l⟩) s =
      .next (run (Work.takeAnswer ⟨i, l⟩ fun slot => Work.readEnd slot none) s) := rfl
  have htimer : exec (.readTimerExpiry i) s = .next (run (Work.readEnd i none) s) := rfl
  have hacts (acts : SlotId → Work → Work) : Work.takeAnswer ⟨i, false⟩ acts { toState := s, bus := [] } =
      acts i { toState := s, bus := [] } := rfl
  refine ⟨exec_same _ (hok true) hs (Work.takeAnswer_late i _ _), exec_same _ (hfail true) hs (Work.takeAnswer_late i _ _),
    fun hop => ?_, fun q k n hop hst hwq hr => ?_⟩
  · have hop1 : (s.cw.slot i).op = .idle := hx ▸ hop
    exact ⟨exec_same _ (hok false) hs ((hacts _).trans (Work.readArrives_idle data hop1)),
      exec_same _ (hfail false) hs ((hacts _).trans (Work.readEnd_idle none hop1)),
      exec_same _ htimer hs (Work.readEnd_idle none hop1)⟩
  · have hend (d : Option (List Byte)) : Work.readEnd i d { toState := s, bus := [] } =
        { toState := s.setSlot i { x with op := .idle }, bus := [.readEnded q.buffer d] } := by
      rw [Work.readEnd_ready (w := { toState := s, bus := [] }) (q := q) d (by rw [← hop, ← hx]) (by rw [← hst, ← hx])
        (by rw [← hwq, ← hx]) (by rw [← hr, ← hx]), ← hx]
      cases i <;> rfl
    have hsteady {t : State} (hp : t.pwc = s.pwc) (hc : t.cw = (s.setSlot i { x with op := .idle }).cw) : t.steady :=
      State.steady_reads hx (fun y => { y with op := .idle }) rfl hp
        (hc.trans (by rw [← hx]; cases i <;> rfl)) hs
    have htu : (s.setSlot i { x with op := .idle }).tu = s.tu := by cases i <;> rfl
    have hpwc : (s.setSlot i { x with op := .idle }).pwc = s.pwc := by cases i <;> rfl
    refine ⟨fun hbuf hlen => ?_, fun hbuf ht => ⟨?_, ?_⟩, fun t e hbuf ht hq hn hc hrow hl => ?_⟩
    · refine exec_comes _ (hok false) (hsteady hpwc rfl) ?_
      have harrives : Work.readArrives i data { toState := s, bus := [] } =
          Work.readEnd i (some data) { toState := s, bus := [] } := by
        unfold Work.readArrives
        rw [show (({ toState := s, bus := [] } : Work).cw.slot i).op = .read q true by rw [← hop, ← hx]]
        exact if_pos hlen
      rw [hacts, harrives, hend]
      refine .step (Work.takeRead_full (by exact htu.symm ▸ hbuf)) ?_
      rw [htu]
      exact .done _
    · refine exec_comes _ (hfail false) (hsteady hpwc rfl) ?_
      rw [hacts, hend]
      refine .step (Work.takeRead_stale none (by exact htu.symm ▸ hbuf) (by exact htu.symm ▸ ht)) ?_
      rw [htu]
      exact .done _
    · refine exec_comes _ htimer (hsteady hpwc rfl) ?_
      rw [hend]
      refine .step (Work.takeRead_stale none (by exact htu.symm ▸ hbuf) (by exact htu.symm ▸ ht)) ?_
      rw [htu]
      exact .done _
    · obtain ⟨v, hv⟩ : ∃ v : State, v = s.setSlot i { x with op := .idle } := ⟨_, rfl⟩
      have hvtu : v.tu = s.tu := by rw [hv]; exact htu
      obtain ⟨cp, sent, hlost⟩ := Work.endTransfer_lost_rowless (t := t) (e := e)
        (w := { toState := { v with tu := { v.tu with buffers := v.tu.buffers.set q.buffer .free } }, bus := [] })
        (by show Tu.alone { v.tu with buffers := _ } t e; rw [hvtu]; exact ⟨ht, hq, hn, hc⟩) hrow
        (by show v.tu.link = _; rw [hvtu]; exact hl)
      refine ⟨(Work.endTransfer .sourceLost { toState := { v with
        tu := { v.tu with buffers := v.tu.buffers.set q.buffer .free } }, bus := [] }).toState, ?_⟩
      rw [hlost]
      refine ⟨exec_comes _ (hfail false) (hsteady (by rw [hv]; exact hpwc) (by rw [hv])) ?_, ?_⟩
      · rw [hacts, hend, ← hv]
        refine .step ((Work.takeRead_lost (w := { toState := v, bus := [] }) (by exact hvtu.symm ▸ hbuf)).trans hlost) ?_
        exact .skip (Work.handle_select_none rfl) (.done _)
      · have hcounter : v.tu.counters.failed = s.tu.counters.failed := by rw [hvtu]
        refine ⟨rfl, rfl, rfl, congrArg (fun k => min 255 (k + 1)) hcounter, ?_⟩
        rw [hv]
        cases i <;> exact ⟨rfl, rfl, rfl, rfl, rfl, rfl, rfl⟩

end Sys2Proof.Machine
end

section
/-! PROOF. The status requests (R22 to R24, R47, R88, R89, R96, R115, R116, R144, R171, R185, R198). -/

namespace Sys2Proof.Machine

section
variable {tag : Byte} {p : List Byte} {s : State}

/-- A request that its owner answers from what it holds. -/
theorem request_posts (r : Request) {body : List Byte} (hs : s.answers) (hl : p.length = r.size)
    (ho : ∀ cp sent, r.owner p { toState := { s with cp := cp, sent := sent }, bus := [] } =
      .taken { toState := { s with cp := cp, sent := sent }, bus := [] } body) :
    request r tag p s = .next (s.replied r tag (0 :: body)) :=
  request_done r hs hl rfl rfl hs.2.1 fun cp sent => ⟨_, ho cp sent, .done _⟩

theorem listBytes_singletons {α : Type} (f : α → Byte) (l : List α) :
    listBytes (l.map fun x => [f x]) = BitVec.ofNat 8 l.length :: l.map f := by
  rw [listBytes, List.length_map, ← List.flatMap_def, ← List.map_eq_flatMap]

theorem listBytes_map {α : Type} (f : α → List Byte) (l : List α) :
    listBytes (l.map f) = BitVec.ofNat 8 l.length :: (l.map f).flatten := by
  rw [listBytes, List.length_map]

/-- The filter of SHOT_LIST as R23 tells it. -/
theorem lifeMatches_eq {flags : List Bool} (h : flags.length = 5) (l : Life) :
    lifeMatches flags l = decide (flags = List.replicate 5 false ∨ flags[l.byte.toNat]? = some true) := by
  have hall : (flags.all fun b => !b) = decide (flags = List.replicate 5 false) := by
    rw [Bool.eq_iff_iff, decide_eq_true_iff, List.eq_replicate_iff, List.all_eq_true]
    simp only [Bool.not_eq_true', h, true_and]
  have hget : flags.getD l.byte.toNat false = decide (flags[l.byte.toNat]? = some true) := by
    rw [List.getD_eq_getElem?_getD]
    cases flags[l.byte.toNat]? with
    | none => rfl
    | some b => cases b <;> rfl
  rw [lifeMatches, hall, hget, ← Bool.decide_or]

theorem Row.listEntry_eq (r : Row) : r.listEntry = BitVec.ofNat 8 r.index :: (leBytes 3 (r.number.getD 0) ++
    [r.life.byte, flagByte r.precapture, flagByte r.protect, flagByte r.discarding,
      optByte (r.outcome.map ShotOutcome.byte)]) := rfl

theorem slotOf_none {b : Byte} (h : 1 < b.toNat) : slotOf b = none := by
  unfold slotOf
  split <;> first | omega | rfl

theorem leBytes_zero : leBytes 3 0 = [0, 0, 0] := by decide

/-- The last histogram in DEVELOP_STATUS (R115). -/
theorem Histogram.statusBytes_eq (h : Option Histogram) :
    [flagByte h.isSome] ++ leBytes 3 ((h.map Histogram.shot).getD 0) = match h with
      | some x => 1 :: leBytes 3 x.shot
      | none => [0, 0, 0, 0] := by
  cases h with
  | none =>
    show _ :: leBytes 3 0 = _
    rw [leBytes_zero]
    rfl
  | some x => rfl

/-- The starved job of DEVELOP_STATUS (R115). -/
theorem De.headBytes_eq (d : De) (f : Nat → Nat) : leBytes 3 (if d.engine = .starved then (d.head?.map f).getD 0 else 0) =
    match d.engine, d.urgent ++ d.normal with
      | .starved, i :: _ => leBytes 3 (f i)
      | _, _ => [0, 0, 0] := by
  unfold De.head?
  cases hd : d.engine with
  | starved =>
    rw [if_pos rfl]
    cases d.urgent with
    | nil =>
      cases d.normal with
      | nil => exact leBytes_zero
      | cons i q => rfl
    | cons i q => rfl
  | idle | running | stopped => exact leBytes_zero

end

/-- Settles O15. -/
theorem statusRequestsOnlyReply : Obligations.StatusRequestsOnlyReply := by
  unfold Obligations.StatusRequestsOnlyReply
  intro tag s hs posts badArg number
  refine ⟨?_, ?_, ?_, ?_, ?_, ?_, ?_, ?_, ?_, ?_, ?_, ?_, ?_, ?_⟩
  · refine request_posts .driveStatus hs rfl fun cp sent => congrArg (Answer.taken _) ?_
    dsimp only
    rw [listBytes_singletons]
    cases s.rdu.pending <;> cases s.rdu.openRow <;> cases s.rdu.record <;> rfl
  · refine request_posts .focusStatus hs rfl fun cp sent => congrArg (Answer.taken _) ?_
    dsimp only
    cases s.fu.requested <;> cases s.fu.descriptor <;> cases s.fu.move <;> rfl
  · exact request_posts .poolStatus hs rfl fun cp sent => rfl
  · intro row
    split
    · next h => exact request_posts .zoneReport hs rfl fun cp sent => if_neg (not_lt.2 h)
    · next h => exact request_turned .zoneReport .badArg rfl hs rfl fun cp sent => if_pos (not_le.1 h)
  · intro n hn
    have hlen : (leBytes 3 n).length = Request.shotGet.size := leBytes_length 3 n
    have hfield : fieldAt (leBytes 3 n) 0 3 = n := fieldAt_number hn
    refine ⟨fun h0 => ?_, fun h0 hr => ?_, fun r h0 hr => ?_⟩
    · refine request_turned .shotGet .badArg rfl hs hlen fun cp sent => if_pos (.inl ?_)
      rw [hfield, h0]
    all_goals
      have hrange : ¬ (fieldAt (leBytes 3 n) 0 3 = 0 ∨ Config.maxShot < fieldAt (leBytes 3 n) 0 3) := by
        rw [hfield, show Config.maxShot = 16777215 from rfl]
        omega
    · refine request_turned .shotGet .noSuchShot rfl hs hlen fun cp sent => (if_neg hrange).trans ?_
      rw [hfield]
      dsimp only
      rw [hr]
    · refine request_posts .shotGet hs hlen fun cp sent => (if_neg hrange).trans ?_
      rw [hfield]
      dsimp only
      rw [hr]
  · intro skip flags rows hflags hrows
    have hlen : (skip :: flags.map flagByte).length = Request.shotList.size := by
      rw [List.length_cons, List.length_map, hflags]
      rfl
    have hof : flagsOf (((skip :: flags.map flagByte).drop 1).take 5) = some flags := by
      rw [List.drop_one, List.tail_cons, List.take_of_length_le (by rw [List.length_map, hflags]), flagsOf_map]
    have hfilter : s.bm.rows.filter (fun r => lifeMatches flags r.life) = rows := by
      rw [hrows]
      exact List.filter_congr fun r _ => lifeMatches_eq hflags r.life
    split
    · next h =>
      refine request_posts .shotList hs hlen fun cp sent => ?_
      show answerShotList _ _ = _
      unfold answerShotList
      dsimp only
      rw [hof]
      dsimp only
      rw [if_neg (by exact not_lt.2 h), hfilter, listBytes, List.length_map]
      refine congrArg (fun l => Answer.taken _ (_ :: _ :: List.flatten l)) (List.map_congr_left fun r _ => ?_)
      rw [Row.listEntry_eq]
      cases r.outcome <;> rfl
    · next h =>
      refine request_turned .shotList .badArg rfl hs hlen fun cp sent => ?_
      show answerShotList _ _ = _
      unfold answerShotList
      dsimp only
      rw [hof]
      exact if_pos (not_le.1 h)
  · intro slot l hl h7
    refine request_posts .lookGet hs rfl fun cp sent => (if_neg (not_lt.2 h7)).trans ?_
    show Answer.taken _ ((s.de.looks.getD slot.toNat Look.defaults).bytes ++ _) = _
    rw [List.getD_eq_getElem?_getD, hl]
    rfl
  · exact fun slot h7 => request_turned .lookGet .badArg rfl hs rfl fun cp sent => if_pos h7
  · intro skip job entries hjob hentries
    split
    · next h =>
      refine request_posts .developStatus hs rfl fun cp sent => (if_neg (not_lt.2 h)).trans (congrArg (Answer.taken _) ?_)
      rw [hentries]
      dsimp only
      rw [De.headBytes_eq, List.append_assoc _ [flagByte _], Histogram.statusBytes_eq]
      rcases hjob with ⟨hj, rfl⟩ | ⟨j, r, hj, hr, rfl⟩
      · rw [hj, leBytes_zero] <;> rfl
      · rw [hj]
        dsimp only [Work.shotOf]
        rw [hr] <;> rfl
    · next h => exact request_turned .developStatus .badArg rfl hs rfl fun cp sent => if_pos (not_le.1 h)
  · refine request_posts .histogramGet hs rfl fun cp sent => ?_
    show answerHistogramGet _ = _
    unfold answerHistogramGet
    dsimp only
    cases s.de.histogram <;> rfl
  · intro slot skip h
    refine request_turned .slotStatus .badArg rfl hs rfl fun cp sent => ?_
    show answerSlotStatus _ _ = _
    unfold answerSlotStatus
    rw [show byteAt [slot, skip] 0 = slot from rfl, slotOf_none h]
  · intro i x skip writing entries hx hwriting hlen hentries
    refine request_posts .slotStatus hs rfl fun cp sent => ?_
    show answerSlotStatus _ _ = _
    unfold answerSlotStatus
    rw [show byteAt [slotByte i, skip] 0 = slotByte i from rfl, slotOf_byte, show byteAt [slotByte i, skip] 1 = skip from rfl]
    refine congrArg (Answer.taken _) ?_
    dsimp only
    rw [hx, listBytes_singletons, listBytes_map Piece.bytes, List.append_assoc _ [optByte _] _]
    have hduties (f : DutyRef → List Byte) (hf : ∀ q r d, s.bm.row? q.row = some r → r.cards[q.place]? = some d →
        f q = leBytes 3 (r.number.getD 0) ++ [d.chain.byte, d.state.byte]) :
        ((x.writeQ.drop skip.toNat).take 16).map f = entries := by
      refine List.ext_getElem? fun k => ?_
      rw [List.getElem?_map]
      cases hk : ((x.writeQ.drop skip.toNat).take 16)[k]? with
      | none =>
        rw [Option.map_none, eq_comm, List.getElem?_eq_none_iff, hlen]
        exact List.getElem?_eq_none_iff.1 hk
      | some q =>
        obtain ⟨r, d, hr, hd, he⟩ := hentries k q hk
        rw [he, Option.map_some, hf q r d hr hd]
    rw [hduties _ fun q r d hr hd => by
      dsimp only [Work.duty?, Work.shotOf]
      rw [hr]
      dsimp only [Option.bind_some]
      rw [hd]]
    rcases hwriting with ⟨hw, rfl⟩ | ⟨wr, r, d, hw, hr, hd, rfl⟩
    · rw [hw, leBytes_zero]
      cases x.range <;> cases x.stops <;> cases x.op <;> cases x.lastFail <;> rfl
    · rw [hw]
      dsimp only [Work.duty?, Work.shotOf, Option.bind_some]
      rw [hr]
      dsimp only [Option.bind_some]
      rw [hd]
      dsimp only
      rw [hr]
      cases x.range <;> cases x.stops <;> cases x.op <;> cases x.lastFail <;> rfl
  · intro skip active entries hactive hentries
    split
    · next h =>
      refine request_posts .tetherStatus hs rfl fun cp sent => (if_neg (not_lt.2 h)).trans (congrArg (Answer.taken _) ?_)
      rw [hentries]
      dsimp only
      rw [listBytes_map]
      simp only [ne_eq, decide_not]
      rcases hactive with ⟨ht, rfl⟩ | ⟨t, e, ht, he, rfl⟩
      · rw [ht, leBytes_zero]
        cases s.tu.bound <;> rfl
      · have ha : s.tu.active? = some e := by
          rw [Tu.active?, ht]
          exact he
        rw [ht, ha]
        cases s.tu.bound <;> rfl
    · next h => exact request_turned .tetherStatus .badArg rfl hs rfl fun cp sent => if_pos (not_le.1 h)
  · intro h body hh hbody
    have hcause : h.cp.cause = s.cp.cause := by rw [hh]; exact s.shiftOuts_cp_cause _
    have hgarbled : h.cp.garbled = s.cp.garbled := by rw [hh]; exact s.shiftOuts_cp_garbled _
    have hoverrun : h.cp.overrun = s.cp.overrun := by rw [hh]; exact s.shiftOuts_cp_overrun _
    have henabled : h.cp.enabled = s.cp.enabled := by rw [hh]; exact s.shiftOuts_cp_enabled _
    have hpower : h.pwc = s.pwc := by rw [hh]; exact State.hears_pwc s _
    have hsteady : h.steady := State.steady_congr hpower (by rw [hh]; exact State.hears_cw s _) hs.2.1
    have hbody2 : [h.pwc.power.byte, h.cp.cause.byte] ++ leBytes 2 h.cp.garbled ++ leBytes 2 h.cp.overrun ++
        [BitVec.ofNat 8 (h.cp.queue.filter OutFrame.isReply).length] ++ h.cp.enabled.map flagByte ++
        (Notice.all.map h.cp.noticeStatus).flatten = body := by
      rw [hpower, hcause, hgarbled, hoverrun, henabled, hbody]
      rfl
    have howner (b : Byte) (clear : Bool) (hb : flagOf b = some clear) : Request.portStatus.owner [b]
        { toState := h, bus := [] } = .taken (if clear then
          { toState := { h with cp := { h.cp with garbled := 0, overrun := 0 } }, bus := [] }
          else { toState := h, bus := [] }) body := by
      show answerPortStatus [b] _ = _
      unfold answerPortStatus
      rw [show byteAt [b] 0 = b from rfl, hb, ← hbody2]
    have hreach : Request.portStatus ≠ .noticeMaskSet ∧ Request.portStatus ≠ .resetPart :=
      ⟨fun h => Request.noConfusion h, fun h => Request.noConfusion h⟩
    subst hh
    refine ⟨?_, ?_⟩
    · exact request_taken .portStatus tag [0] s { toState := s.hears .portStatus, bus := [] } body hs (by decide) rfl
        hreach.1 hreach.2 (howner 0 false rfl) rfl hsteady
    · exact request_taken .portStatus tag [1] s
        { toState := { s.hears .portStatus with
          cp := { (s.hears .portStatus).cp with garbled := 0, overrun := 0 } }, bus := [] } body hs (by decide) rfl
        hreach.1 hreach.2 (howner 1 true rfl) rfl (State.steady_congr rfl rfl hsteady)

end Sys2Proof.Machine
end

section
/-! PROOF. RESET_PART TETHER (R174): the statement lets two entries of the queue carry one shot number and chain, and the
model takes both from the queue when the transfer of the first ends (R152, R162). -/

namespace Sys2Proof.Machine

/-- A RAW entry of shot 5. -/
def twinEntry (row : Option Nat) (sending : Bool) : Entry :=
  { number := 5, chain := .raw, kind := .duty, row := row, sending := sending, source := .buffer, copy := none, prio := 2,
    early := false }

/-- The transfer of shot 5. -/
def twinTransfer : Transfer :=
  { id := 0, number := 5, chain := .raw, length := 42000064, next := 0, high := 0, acked := 0, timeouts := 0, bad := 0,
    window := 16, ackTimeout := 50, crc := crc32Init, nextSector := 0 }

/-- A part whose send queue holds two entries for the RAW chain of shot 5, of which the first is being sent and the second
carries the duty of row 0. -/
def twinSends : State := { State.reset with
  bm := { Bm.reset with rows := [{ Row.fresh 0 .remoteHost 1 false 0 [] with
    number := some 5, life := .held, raw := none, tethers := [rawDuty 2] }] }
  tu := { Tu.reset with
    link := .sending, bound := some 1, transfer := some twinTransfer,
    queue := [twinEntry none true, twinEntry (some 0) false] } }

/-- The duties of row 0 after a command. -/
def tethersOf (o : Host.Outcome State Fault Refusal) : Option (List TetherDuty) :=
  match o with
  | .next t => (t.bm.row? 0).map Row.tethers
  | _ => none

/-- The model leaves the duty of row 0 PENDING. -/
theorem twinSends_keeps : tethersOf (exec (.resetPartTether 0 [1]) twinSends) = some [rawDuty 2] := by rfl

/-- Refutes O24: the second of two entries with one shot number and chain has left the queue with the first, and its duty
has not become FAILED(RESET). -/
theorem not_resetTetherEmptiesTheQueue : ¬ Obligations.ResetTetherEmptiesTheQueue := by
  unfold Obligations.ResetTetherEmptiesTheQueue
  intro h
  have hanswers : twinSends.answers := ⟨⟨rfl, rfl, by decide⟩, State.steady_of_none rfl, .inl rfl⟩
  obtain ⟨-, hreset, -⟩ := h 0 twinSends hanswers
  obtain ⟨t, hexec, -, -, -, -, -, -, -, -, -, -, -, -, -, -, -, -, hduty, -⟩ :=
    hreset rfl rfl fun _ => Option.some_ne_none (twinEntry none true)
  obtain ⟨z, hz, hfailed⟩ := hduty (twinEntry (some 0) false) (.tail _ (.head _)) 0 _ rfl rfl
  have hkept := twinSends_keeps
  rw [hexec] at hkept
  have hz0 : z.tethers = [rawDuty 2] := Option.some.inj ((congrArg (Option.map Row.tethers) hz).symm.trans hkept)
  have hgone := hfailed 0 (rawDuty 2) rfl rfl rfl
  rw [hz0] at hgone
  exact absurd (congrArg TetherDuty.state (Option.some.inj hgone)) (by decide)

end Sys2Proof.Machine
end

section
/-! PROOF. SHOT_PROTECT (R18, R20): the flag of a row, and the send of its proof that AUTO_SEND PROTECTED asks for. -/

namespace Sys2Proof.Machine

/-- The entry of a shot's proof that protection sends (R18). -/
def Row.proofEntry (r : Row) (n : Nat) : Entry :=
  { number := n, chain := .proof, kind := .duty, row := some r.index, sending := false, source := .buffer, copy := none,
    prio := 2, early := true }

/-- The duty that BM creates for it. -/
def proofDuty : TetherDuty :=
  { chain := .proof, state := .pending, source := .buffer, prio := 2, early := true, cause := none }

/-- The duty that a full send queue fails. -/
def fullDuty : TetherDuty :=
  { chain := .proof, state := .failed, source := .buffer, prio := 2, early := true, cause := some .full }

section
variable {w : Work} {n : Nat} {r : Row}

/-- How SHOT_PROTECT is judged (R18). -/
theorem answerShotProtect_eq (on : Bool) (hn : n < 16777216) : answerShotProtect (leBytes 3 n ++ [flagByte on]) w =
    match w.bm.numbered? n with
    | none => .refused .noSuchShot
    | some r => if r.discarding then .refused .state else .taken (w.protectRow r on) [] := by
  unfold answerShotProtect
  rw [byteAt_behind_number, flagOf_flagByte, fieldAt_front _ hn] <;> cases w.bm.numbered? n <;> rfl

theorem answerShotProtect_taken (on : Bool) (hn : n < 16777216) (hr : w.bm.numbered? n = some r)
    (hd : r.discarding = false) : answerShotProtect (leBytes 3 n ++ [flagByte on]) w = .taken (w.protectRow r on) [] := by
  rw [answerShotProtect_eq on hn, hr]
  exact if_neg (by rw [hd]; exact Bool.false_ne_true)

/-- Where AUTO_SEND does not ask for the proof the flag alone is set. -/
theorem Work.protectRow_flag {on : Bool}
    (h : on = false ∨ r.protect = true ∨ r.life ≠ .held ∨ w.tu.auto ≠ .protectedProofs) :
    w.protectRow r on = w.mapRow r.index fun x => { x with protect := on } := by
  refine if_neg ?_
  rintro ⟨hon, hp, hl, ha⟩
  rcases h with h | h | h | h
  · exact Bool.false_ne_true (h.symm.trans hon)
  · exact Bool.false_ne_true (hp.symm.trans h)
  · exact h hl
  · exact h ha

theorem Row.proofRead_of_tether {d : TetherDuty} (ho : r.develop = .done) (hd : d ∈ r.tethers) (hc : d.chain = .proof)
    (hf : d.state.isFinal = false) (hs : d.source = .buffer) : r.proofRead = true := by
  have hany : r.tethers.any (fun d => decide (d.chain = .proof) && !d.state.isFinal && decide (d.source = .buffer)) = true :=
    List.any_eq_true.2 ⟨d, hd, by rw [hc, hf, hs]; rfl⟩
  rw [Row.proofRead, ho]
  dsimp only
  rw [hany, Bool.or_true]

/-- The proof of a row whose job is done joins an empty send queue (R18, R153). -/
theorem Work.giveProofSend_joins (hr : w.bm.row? r.index = some r) (ho : r.develop = .done) (hq : w.tu.queue = []) :
    w.giveProofSend r.index n 2 = { w with
      bm := w.bm.mapRow r.index fun x => { x with tethers := x.tethers ++ [proofDuty] }
      tu := { w.tu with queue := [r.proofEntry n] }
      bus := w.bus ++ [.select] } := by
  have hentry : w.tu.entry? n .proof = none := by rw [Tu.entry?, hq]; rfl
  have hadd : (w.bm.mapRow r.index fun x => { x with tethers := x.tethers ++ [proofDuty] }).row? r.index =
      some { r with tethers := r.tethers ++ [proofDuty] } :=
    Bm.row?_mapRow_same (f := fun x => { x with tethers := x.tethers ++ [proofDuty] }) hr fun _ => rfl
  have hpromote (v : Work) (hv : v.bm.row? r.index = some { r with tethers := r.tethers ++ [proofDuty] }) :
      v.promoteJob r.index = v := by
    unfold Work.promoteJob
    rw [hv]
    dsimp only
    rw [ho]
  unfold Work.giveProofSend
  rw [hr]
  dsimp only
  rw [hentry, if_neg (by exact Bool.false_ne_true), if_neg (by rw [hq]; decide)]
  unfold Work.joinSend
  dsimp only
  rw [if_pos rfl, if_pos ⟨rfl, rfl, rfl⟩, hq]
  exact congrArg (Work.post .select) (hpromote _ hadd)

/-- SHOT_PROTECT of a shot with a finished proof in the buffer (R18). -/
theorem Work.protectRow_sends {c : ProofChain} (hr : w.bm.row? r.index = some r) (hnum : r.number = some n)
    (hp : r.protect = false) (hl : r.life = .held) (ha : w.tu.auto = .protectedProofs) (ho : r.develop = .done)
    (hraw : r.raw = none) (hproof : r.proof = some c) (ht : r.tethers = []) (hq : w.tu.queue = []) :
    w.protectRow r true = { w with
      bm := w.bm.mapRow r.index fun x => { x with protect := true, tethers := x.tethers ++ [proofDuty] }
      tu := { w.tu with queue := [r.proofEntry n] }
      bus := w.bus ++ [.select] } := by
  obtain ⟨z, hz⟩ : ∃ z : Row, z = { r with protect := true, tethers := [proofDuty] } := ⟨_, rfl⟩
  obtain ⟨v, hv⟩ : ∃ v : Work, v = { w with
      bm := w.bm.mapRow r.index fun x => { x with protect := true, tethers := x.tethers ++ [proofDuty] }
      tu := { w.tu with queue := [r.proofEntry n] }
      bus := w.bus ++ [.select] } := ⟨_, rfl⟩
  have hflag : (w.bm.mapRow r.index fun x => { x with protect := true }).row? r.index = some { r with protect := true } :=
    Bm.row?_mapRow_same (f := fun x => { x with protect := true }) hr fun _ => rfl
  have hjoin := Work.giveProofSend_joins (w := w.mapRow r.index fun x => { x with protect := true }) (n := n)
    (r := { r with protect := true }) hflag ho hq
  have hsend : Work.protectSend r (r.number.getD 0) (w.mapRow r.index fun x => { x with protect := true }) = v := by
    unfold Work.protectSend
    rw [hnum, ht, if_neg (by
      rw [show (w.mapRow r.index fun x => { x with protect := true }).tu = w.tu from rfl, Tu.entry?, hq]
      exact fun h => h.elim Bool.false_ne_true Bool.false_ne_true)]
    dsimp only
    rw [ho, hproof]
    refine hjoin.trans ?_
    rw [hv]
    show ({ w with bm := (w.bm.mapRow r.index _).mapRow r.index _, tu := _, bus := _ } : Work) = _
    rw [Bm.mapRow_mapRow (f := fun x => { x with protect := true }) w.bm r.index fun _ => rfl]
    rfl
  have hvr : v.bm.row? r.index = some z := by
    rw [hv, hz]
    refine (Bm.row?_mapRow_same (f := fun x => { x with protect := true, tethers := x.tethers ++ [proofDuty] }) hr
      fun _ => rfl).trans ?_
    rw [ht]
    rfl
  have hmem : proofDuty ∈ z.tethers := by rw [hz]; exact .head _
  have hcheck : v.check r.index = v := by
    rw [Work.check, Work.releaseCheck_same hvr (.inr (by rw [hz]; exact hraw))
      (.inl (Row.proofRead_of_tether (by rw [hz]; exact ho) hmem rfl rfl rfl))]
    exact Work.settleCheck_same hvr (Row.settles_of_open (Row.openDuties_of_tether hmem rfl))
  unfold Work.protectRow
  dsimp only
  rw [if_pos ⟨rfl, hp, hl, ha⟩, hsend, hcheck, hv]

/-- A full send queue fails the send at its creation (R18, R169). -/
theorem Work.giveProofSend_full {i : Nat} (hr : w.bm.row? i = some r) (he : w.tu.entry? n .proof = none)
    (hq : 64 ≤ w.tu.queue.length) : w.giveProofSend i n 2 = w.failFull i n 2 .buffer := by
  unfold Work.giveProofSend
  rw [hr]
  dsimp only
  rw [he, if_neg (by exact Bool.false_ne_true), if_pos (by exact hq)]

/-- SHOT_PROTECT of a shot without a develop duty under a full send queue: the send fails, and the duty is made all the
same (R18, log entry 17). -/
theorem Work.protectRow_full {c : RawChain} {d : CardDuty} (hnd : (w.bm.rows.map Row.index).Nodup)
    (hr : w.bm.row? r.index = some r) (hnum : r.number = some n) (hp : r.protect = false) (hl : r.life = .held)
    (ha : w.tu.auto = .protectedProofs) (ho : r.develop = .absent) (hraw : r.raw = some c) (hproof : r.proof = none)
    (ht : r.tethers = []) (hq : 64 ≤ w.tu.queue.length) (he : w.tu.entry? n .proof = none) (hd : d ∈ r.cards)
    (hc : d.chain = .raw) (hf : d.state.isFinal = false) : w.protectRow r true = { w with
      bm := w.bm.mapRow r.index fun x => { x with
        protect := true, develop := .pending, cls := .urgent, tethers := x.tethers ++ [fullDuty] }
      de := { w.de with urgent := w.de.urgent ++ [r.index] }
      cp := w.cp.raise .sendFailed (leBytes 3 n ++ [Chain.proof.byte, TetherCause.full.byte])
      bus := w.bus ++ [.developChanged r.index] ++ [.deLook] } := by
  obtain ⟨z, hz⟩ : ∃ z : Row, z = { r with
      protect := true, develop := .pending, cls := .urgent, tethers := [fullDuty] } := ⟨_, rfl⟩
  obtain ⟨v, hv⟩ : ∃ v : Work, v = { w with
      bm := w.bm.mapRow r.index fun x => { x with
        protect := true, develop := .pending, cls := .urgent, tethers := x.tethers ++ [fullDuty] }
      de := { w.de with urgent := w.de.urgent ++ [r.index] }
      cp := w.cp.raise .sendFailed (leBytes 3 n ++ [Chain.proof.byte, TetherCause.full.byte])
      bus := w.bus ++ [.developChanged r.index] ++ [.deLook] } := ⟨_, rfl⟩
  have hi : ∀ x : Row, ({ x with protect := true } : Row).index = x.index := fun _ => rfl
  have hflag : (w.bm.mapRow r.index fun x => { x with protect := true }).row? r.index = some { r with protect := true } :=
    Bm.row?_mapRow_same (f := fun x => { x with protect := true }) hr hi
  have hbm : ((w.bm.mapRow r.index fun x => { x with protect := true }).mapRow r.index fun x =>
      { x with cls := .urgent, develop := .pending }) = w.bm.mapRow r.index fun x =>
      { x with protect := true, cls := .urgent, develop := .pending } := Bm.mapRow_mapRow w.bm r.index hi
  obtain ⟨u, hu⟩ : ∃ u : Work, u = { w with
      bm := w.bm.mapRow r.index fun x => { x with protect := true, cls := .urgent, develop := .pending }
      de := { w.de with urgent := w.de.urgent ++ [r.index] }
      bus := w.bus ++ [.developChanged r.index] ++ [.deLook] } := ⟨_, rfl⟩
  have hcreate : (w.mapRow r.index fun x => { x with protect := true }).createDevelop r.index .urgent = u := by
    rw [Work.createDevelop_eq (w := w.mapRow r.index fun x => { x with protect := true }) (i := r.index)
      (r := { r with protect := true }) ((Bm.mapRow_index w.bm r.index hi).symm ▸ hnd) hflag ho .urgent]
    show ({ w with bm := (w.bm.mapRow r.index _).mapRow r.index _, de := _, bus := _ } : Work) = _
    rw [hbm, hu]
    rfl
  have hur : u.bm.row? r.index = some { r with protect := true, cls := .urgent, develop := .pending } := by
    rw [hu]
    exact Bm.row?_mapRow_same (f := fun x => { x with protect := true, cls := .urgent, develop := .pending }) hr fun _ => rfl
  have hfull : u.failFull r.index n 2 .buffer = v := by
    rw [hu, hv]
    unfold Work.failFull
    show ({ w with bm := (w.bm.mapRow r.index _).mapRow r.index _, de := _, cp := _, bus := _ } : Work) = _
    rw [Bm.mapRow_mapRow (f := fun x => { x with protect := true, cls := .urgent, develop := .pending }) w.bm r.index
      fun _ => rfl]
    rfl
  have hsend : Work.protectSend r (r.number.getD 0) (w.mapRow r.index fun x => { x with protect := true }) = v := by
    unfold Work.protectSend
    rw [hnum, ht, if_neg (by
      show ¬ (_ ∨ (w.tu.entry? n .proof).isSome = true)
      rw [he]
      exact fun h => h.elim Bool.false_ne_true Bool.false_ne_true)]
    dsimp only
    rw [ho, hraw, hcreate]
    exact (Work.giveProofSend_full hur (by rw [hu]; exact he) (by rw [hu]; exact hq)).trans hfull
  have hvr : v.bm.row? r.index = some z := by
    rw [hv, hz]
    refine (Bm.row?_mapRow_same (f := fun x => { x with
      protect := true, develop := .pending, cls := .urgent, tethers := x.tethers ++ [fullDuty] }) hr fun _ => rfl).trans ?_
    rw [ht]
    rfl
  have hmem : d ∈ z.cards := by rw [hz]; exact hd
  have hcheck : v.check r.index = v := by
    rw [Work.check, Work.releaseCheck_same hvr (.inl (Row.rawRead_of_card hmem hc hf)) (.inr (by rw [hz]; exact hproof))]
    exact Work.settleCheck_same hvr (Row.settles_of_open (Row.openDuties_of_card hmem hf))
  unfold Work.protectRow
  dsimp only
  rw [if_pos ⟨rfl, hp, hl, ha⟩, hsend, hcheck, hv]

end

/-- Settles O33: protection sets the flag, and sends the proof where AUTO_SEND PROTECTED asks for it. -/
theorem shotProtectSetsTheFlag : Obligations.ShotProtectSetsTheFlag := by
  unfold Obligations.ShotProtectSetsTheFlag
  intro tag n on s hs hn
  have hlen (b : Byte) : (leBytes 3 n ++ [b]).length = Request.shotProtect.size := by
    rw [List.length_append, leBytes_length]
    rfl
  have howner (p : List Byte) (w : Work) : Request.shotProtect.owner p w = answerShotProtect p w := rfl
  refine ⟨fun hr => ?_, fun r hr hd => ?_, fun r hr hd hno => ?_, fun r c hr hrow hd hp hl ha ho hraw hproof ht hq hlink => ?_,
    fun r c hr hrow hd hp hl ha ho hraw hproof ht hq he hother hrun hnd hopen => ?_⟩
  · exact request_turned .shotProtect .noSuchShot rfl hs (hlen _) fun cp sent => by
      rw [howner, answerShotProtect_eq on hn]
      dsimp only
      rw [hr]
  · exact request_turned .shotProtect .state rfl hs (hlen _) fun cp sent => by
      rw [howner, answerShotProtect_eq on hn]
      dsimp only
      rw [hr]
      exact if_pos hd
  · refine request_done .shotProtect (body := []) (t := { s with
        bm := s.bm.mapRow r.index fun x => { x with protect := on } }) hs (hlen _) rfl rfl
      (State.steady_congr rfl rfl hs.2.1) fun cp sent => ⟨_, answerShotProtect_taken on hn hr hd, ?_⟩
    rw [Work.protectRow_flag hno]
    exact .done _
  · have hnum := (Bm.numbered?_some hr).2
    refine ⟨_, request_comes .shotProtect (body := []) (fun x => { s with
        bm := s.bm.mapRow r.index fun x => { x with protect := true, tethers := x.tethers ++ [proofDuty] }
        tu := { s.tu with queue := [r.proofEntry n] }
        cp := x.cp
        sent := x.sent }) hs (hlen _) (fun cp sent => State.steady_congr (s := s) rfl rfl hs.2.1)
      fun cp sent => ⟨_, answerShotProtect_taken true hn hr hd, ?_⟩, rfl, rfl, rfl, rfl, rfl, rfl, rfl, rfl, rfl⟩
    rw [Work.protectRow_sends hrow hnum hp hl ha ho hraw hproof ht hq]
    exact .skip (Work.handle_select _ (by exact hlink)) (.done _)
  · obtain ⟨d, hcard, hc, hf⟩ := hopen
    have hnum := (Bm.numbered?_some hr).2
    refine ⟨_, request_comes .shotProtect (body := []) (fun x => { s with
        bm := s.bm.mapRow r.index fun x => { x with
          protect := true, develop := .pending, cls := .urgent, tethers := x.tethers ++ [fullDuty] }
        de := { s.de with urgent := s.de.urgent ++ [r.index] }
        cp := x.cp.raise .sendFailed (leBytes 3 n ++ [Chain.proof.byte, TetherCause.full.byte])
        sent := x.sent }) hs (hlen _) (fun cp sent => State.steady_congr (s := s) rfl rfl hs.2.1)
      fun cp sent => ⟨_, answerShotProtect_taken true hn hr hd, ?_⟩, rfl, rfl, rfl, rfl, rfl, rfl⟩
    rw [Work.protectRow_full hnd hrow hnum hp hl ha ho hraw hproof ht hq he hcard hc hf]
    exact .skip (Work.handle_developChanged _ _ hother) (.skip (Work.handle_deLook _ (.inl hrun)) (.done _))

end Sys2Proof.Machine
end

section
/-! PROOF. The card duties of a row one by one (R9, R16, R134, R142): how a duty becomes FAILED, what the checks that follow
leave of its row, and what a walk over the open duties of a row comes to. -/

namespace Sys2Proof.Machine

/-! ### What the checks of BM leave of a row (R16, R17) -/

/-- A row but for its chains and for what settling changes. -/
def Row.sansChains (r : Row) : Row := { r with raw := none, proof := none, life := .held, outcome := none }

section
variable {b : Bm} {w : Work} {i j : Nat} {r z : Row}

theorem Bm.row?_sansChains {f : Row → Row} (hf : ∀ x, (f x).sansChains = x.sansChains) :
    ((b.mapRow i f).row? j).map Row.sansChains = (b.row? j).map Row.sansChains := by
  have hi : ∀ x, (f x).index = x.index := fun x => show (f x).sansChains.index = x.sansChains.index by rw [hf]
  rw [Bm.row?_mapRow b i j hi, Option.map_map]
  refine Option.map_congr fun x _ => ?_
  rw [Function.comp_apply]
  split
  · exact hf x
  · rfl

theorem Work.releaseRaw_sansChains :
    ((w.releaseRaw i).bm.row? j).map Row.sansChains = (w.bm.row? j).map Row.sansChains := by
  unfold Work.releaseRaw
  split
  · exact Bm.row?_sansChains (b := w.bm) (f := fun r => { r with raw := none }) fun _ => rfl
  · rfl

theorem Work.releaseProof_sansChains :
    ((w.releaseProof i).bm.row? j).map Row.sansChains = (w.bm.row? j).map Row.sansChains := by
  unfold Work.releaseProof
  split
  · exact Bm.row?_sansChains (b := w.bm) (f := fun r => { r with proof := none }) fun _ => rfl
  · rfl

theorem Work.releaseCheck_sansChains :
    ((w.releaseCheck i).bm.row? j).map Row.sansChains = (w.bm.row? j).map Row.sansChains := by
  unfold Work.releaseCheck
  split
  · next r _ =>
    have hraw : ((if r.rawRead then w else w.releaseRaw i).bm.row? j).map Row.sansChains =
        (w.bm.row? j).map Row.sansChains := by
      split
      · rfl
      · exact Work.releaseRaw_sansChains
    dsimp only
    split
    · split
      · exact hraw
      · exact Work.releaseProof_sansChains.trans hraw
    · rfl
  · rfl

theorem Work.check_sansChains : ((w.check i).bm.row? j).map Row.sansChains = (w.bm.row? j).map Row.sansChains := by
  unfold Work.check
  generalize hv : w.releaseCheck i = v
  refine Eq.trans ?_ (hv ▸ Work.releaseCheck_sansChains)
  unfold Work.settleCheck
  split
  · next r _ =>
    split
    · exact Bm.row?_sansChains (b := v.bm) (f := fun x => { x with life := .settled, outcome := some r.settledOutcome })
        fun _ => rfl
    · rfl
  · rfl

/-- The row after a check, with all that the check does not change. -/
theorem Work.check_row (hr : w.bm.row? i = some r) : ∃ z, (w.check i).bm.row? i = some z ∧ z.sansChains = r.sansChains := by
  have h : ((w.check i).bm.row? i).map Row.sansChains = some r.sansChains := by
    rw [Work.check_sansChains, hr]
    rfl
  exact Option.map_eq_some_iff.1 h

/-- A row whose develop duty waits, and that has no proof, stands. -/
theorem Work.check_pending (hr : w.bm.row? i = some r) (hd : r.develop = .pending) (hp : r.proof = none) :
    w.check i = w := by
  have hraw : r.rawRead = true := by
    rw [Row.rawRead, hd]
    exact (Bool.or_assoc _ _ _).trans (Bool.or_true _)
  have hopen : r.openDuties ≠ 0 := by
    rw [Row.openDuties, hd]
    show 1 + _ + _ ≠ 0
    omega
  rw [Work.check, Work.releaseCheck_same hr (.inl hraw) (.inr hp), Work.settleCheck_same hr (Row.settles_of_open hopen)]

/-- A HELD row with an open duty whose proof nothing wants loses the proof (R16). -/
theorem Work.check_frees_proof {c : ProofChain} (hr : w.bm.row? i = some r) (hl : r.life = .held)
    (hraw : r.rawRead = true) (hread : r.proofRead = false) (hp : r.proof = some c) (ho : r.openDuties ≠ 0) :
    w.check i = { w with
      bm := { w.bm.mapRow i fun x => { x with proof := none } with free := c.pages.foldr insertPage w.bm.free }
      bus := w.bus ++ [.deLook] ++
        [.reclaim (Decidable.decide ((c.pages.foldr insertPage w.bm.free).length < w.bm.threshold))] } := by
  have hrel : w.releaseProof i = (w.mapRow i fun r => { r with proof := none }).freePages c.pages := by
    rw [Work.releaseProof, hr, Option.bind_some, hp]
  have hcheck : w.releaseCheck i = (w.mapRow i fun r => { r with proof := none }).freePages c.pages := by
    unfold Work.releaseCheck
    rw [hr]
    dsimp only
    rw [if_pos hl, hraw, if_pos rfl, hread, if_neg Bool.false_ne_true, hrel]
  have hrow : ((w.mapRow i fun r => { r with proof := none }).freePages c.pages).bm.row? i = some { r with proof := none } :=
    Bm.row?_mapRow_same (f := fun r => { r with proof := none }) hr fun _ => rfl
  rw [Work.check, hcheck, Work.settleCheck_same hrow (Row.settles_of_open (r := { r with proof := none }) ho)]
  rfl

end

/-! ### A duty becomes FAILED (R134, R142) -/

/-- A card duty that has failed. -/
def CardDuty.lost (cause : CardCause) (spoiled : Bool) (x : CardDuty) : CardDuty :=
  { x with state := .failed, cause := some cause, spoiled := spoiled }

section
variable {w : Work} {d : DutyRef} {r : Row} {x : CardDuty} {cause : CardCause} {spoiled : Bool}

theorem Work.duty?_row (hr : w.bm.row? d.row = some r) : w.duty? d = r.cards[d.place]? := by
  rw [Work.duty?, hr, Option.bind_some]

/-- A change of a duty that is not final. -/
theorem Work.mapDuty_eq (hnd : (w.bm.rows.map Row.index).Nodup) (hr : w.bm.row? d.row = some r)
    (hx : r.cards[d.place]? = some x) (hf : x.state.isFinal = false) (f : CardDuty → CardDuty) :
    w.mapDuty d f = w.mapRow d.row fun z => { z with cards := z.cards.modify d.place f } := by
  have hcards : r.cards.modify d.place (fun x => if x.state.isFinal then x else f x) = r.cards.modify d.place f := by
    refine List.ext_getElem? fun k => ?_
    rw [List.getElem?_modify, List.getElem?_modify]
    by_cases hk : d.place = k
    · rw [← hk, hx]
      simp only [Option.map_eq_map, Option.map_some, if_true, hf, Bool.false_eq_true, if_false]
    · simp only [hk, if_false]
  exact congrArg (fun b => ({ w with bm := b } : Work)) (Bm.mapRow_congr hnd hr (congrArg (fun l => { r with cards := l }) hcards))

/-- A duty fails where failover does not take it. -/
theorem Work.failDuty_eq (hr : w.bm.row? d.row = some r) (hx : r.cards[d.place]? = some x)
    (hf : x.state.isFinal = false) (hre : w.reassigns r x cause = false) : w.failDuty d cause spoiled =
      ((w.mapDuty d (CardDuty.lost cause spoiled)).raise .storeFailed
        (leBytes 3 (r.number.getD 0) ++ [slotByte x.slot, cause.byte])).check d.row := by
  have hduty : w.duty? d = some x := (Work.duty?_row hr).trans hx
  unfold Work.failDuty Work.storeFail
  rw [hr, hduty]
  dsimp only
  rw [hf, if_neg Bool.false_ne_true, hre, if_neg (fun h => Bool.false_ne_true h.1)]
  rfl

/-- No failover for a cause that is not one of the card's (R142). -/
theorem Work.reassigns_of_cause (hc : cause.reassigns = false) : w.reassigns r x cause = false := by
  rw [Work.reassigns, hc]
  simp only [Bool.and_false, Bool.false_and]

end

/-! ### The walk over the open duties of a row -/

section
variable {α : Type} {f : α → α}

theorem List.foldl_modify (ks : List Nat) (hks : ks.Nodup) (l : List α) (j : Nat) :
    (ks.foldl (fun l k => l.modify k f) l)[j]? = if j ∈ ks then l[j]?.map f else l[j]? := by
  induction ks generalizing l with
  | nil => rfl
  | cons k ks ih =>
    obtain ⟨hk, hks⟩ := List.nodup_cons.1 hks
    rw [List.foldl_cons, ih hks, List.getElem?_modify]
    by_cases hj : k = j
    · subst hj
      rw [if_neg hk, if_pos List.mem_cons_self]
      simp only [if_true, Option.map_eq_map]
    · simp only [hj, if_false, List.mem_cons, Ne.symm hj, false_or, Option.map_eq_map, Option.map_id']

end

/-- A change of every open duty, one after the other, of a row's duties. -/
theorem Row.openCards_foldl {r : Row} {f : CardDuty → CardDuty} (hf : ∀ d ∈ r.cards, d.state.isFinal = true → f d = d) :
    (r.openCards.map DutyRef.place).foldl (fun l k => l.modify k f) r.cards = r.cards.map f := by
  have hplaces : r.openCards.map DutyRef.place =
      (List.range r.cards.length).filter fun k => r.cards[k]?.any fun d => !d.state.isFinal := by
    rw [Row.openCards, List.map_map]
    exact List.map_id _
  have hnd : (r.openCards.map DutyRef.place).Nodup := by
    rw [hplaces]
    exact List.nodup_range.filter _
  refine List.ext_getElem? fun j => ?_
  rw [List.foldl_modify _ hnd, List.getElem?_map]
  split
  · rfl
  · next hj =>
    cases hd : r.cards[j]? with
    | none => rfl
    | some d =>
      have hfinal : d.state.isFinal = true := by
        by_contra h
        refine hj ?_
        rw [hplaces, List.mem_filter, List.mem_range, hd]
        exact ⟨(List.getElem?_eq_some_iff.1 hd).1, by simpa using h⟩
      rw [Option.map_some, hf d (List.mem_of_getElem? hd) hfinal]

end Sys2Proof.Machine
end

section
/-! PROOF. The rows of a proof and the ends of a development job (R102, R108 to R113, R143). -/

namespace Sys2Proof.Machine

/-! ### Reports that find DE and TU with nothing to do -/

/-- No transfer is in progress, no entry waits, and DE is IDLE with no job waiting. -/
def State.idles (s : State) : Prop :=
  s.sendsNothing ∧ s.de.engine = .idle ∧ s.de.urgent = [] ∧ s.de.normal = []

section
variable {w : Work}

theorem Work.handle_idles {r : Report} (hr : r.isBack = true) (h : w.toState.idles) :
    (w.handle r).bm = w.bm ∧ (w.handle r).de = w.de := by
  obtain ⟨⟨ht, hq⟩, hde⟩ := h
  cases r with
  | deLook => rw [w.handle_deLook (.inr (.inr hde))]; exact ⟨rfl, rfl⟩
  | reclaim up => rw [w.handle_reclaim_empty up hq]; exact ⟨rfl, rfl⟩
  | readEnded b d =>
    have hend (x : Buffer) : Work.endTransfer .sourceLost { w with tu := { w.tu with buffers := w.tu.buffers.set b x } } =
        { w with tu := { w.tu with buffers := w.tu.buffers.set b x } } := Work.endTransfer_none (by exact ht) _
    have hask (x : Buffer) : Work.askReads 8 { w with tu := { w.tu with buffers := w.tu.buffers.set b x } } =
        { w with tu := { w.tu with buffers := w.tu.buffers.set b x } } := by
      refine Work.askReads_none 8 ?_
      show (w.tu.transfer.bind _).bind _ = _
      rw [ht]
      rfl
    show (w.takeRead b d).bm = _ ∧ (w.takeRead b d).de = _
    unfold Work.takeRead
    dsimp only
    split
    · exact ⟨rfl, rfl⟩
    · rw [hend]
      exact ⟨rfl, rfl⟩
    · rw [hask]
      exact ⟨rfl, rfl⟩
    · exact ⟨rfl, rfl⟩
  | cardDone i c =>
    show (w.takeCardDone i c).bm = _ ∧ (w.takeCardDone i c).de = _
    rw [Work.takeCardDone, hq]
    simp only [List.foldl_nil, ite_self, and_self]
  | developChanged i => rw [w.handle_developChanged_nil i hq]; exact ⟨rfl, rfl⟩
  | frontier i => exact ⟨rfl, rfl⟩
  | proofLost i => rw [w.handle_proofLost i hq]; exact ⟨rfl, rfl⟩
  | select => rw [Work.handle_select_none (by rw [hq]; rfl)]; exact ⟨rfl, rfl⟩
  | focus g => exact Bool.noConfusion hr
  | rowEnded i l n => exact Bool.noConfusion hr

theorem Work.drain_idles (k : Nat) : ∀ w : Work, w.calm = true → w.toState.idles →
    (Work.drain k w).bm = w.bm ∧ (Work.drain k w).de = w.de := by
  induction k with
  | zero => exact fun w _ _ => ⟨rfl, rfl⟩
  | succ k ih =>
    intro w h hs
    unfold Work.drain
    split
    · exact ⟨rfl, rfl⟩
    · next r rest hb =>
      have hall : r.isBack = true ∧ rest.all Report.isBack = true := by
        rw [← Bool.and_eq_true, ← List.all_cons, ← hb]
        exact h
      have hrest := Work.handle_rest (w := { w with bus := rest }) hall.1 hs.1
      obtain ⟨hbm, hde⟩ := Work.handle_idles (w := { w with bus := rest }) hall.1 hs
      have hidles : (({ w with bus := rest } : Work).handle r).toState.idles :=
        ⟨State.sendsNothing_congr hrest hs.1, by rw [hde]; exact hs.2⟩
      obtain ⟨h1, h2⟩ := ih _ ((Work.handle_calm r { w with bus := rest } hall.1).trans hall.2) hidles
      exact ⟨h1.trans hbm, h2.trans hde⟩

/-- The step of a command that leaves DE and TU nothing to do and reports to the back half alone. -/
theorem exec_idles {c : Instr} {s : State} {v : Work} (op : Work → Work) (hop : exec c s = .next (run op s)) (hs : s.steady)
    (h : op { toState := s, bus := [] } = v) (hcalm : v.calm = true) (hidles : v.toState.idles)
    (hp : v.pwc = s.pwc) (hc : v.cw.quiet = s.cw.quiet) :
    ∃ u, exec c s = .next u ∧ u.bm = v.bm ∧ u.de = v.de := by
  have hrest := Work.drain_rest 4096 v hcalm hidles.1
  obtain ⟨hbm, hde⟩ := Work.drain_idles 4096 v hcalm hidles
  have hpwc : v.settle.pwc = s.pwc := (congrArg (fun x => x.1) hrest).trans hp
  have hcw : v.settle.cw.quiet = s.cw.quiet := (congrArg (fun x => x.2.2.2.2.1.quiet) hrest).trans hc
  have hsteady : v.settle.toState.steady := fun r hr => by
    rw [hpwc] at hr
    rw [hcw]
    exact hs r hr
  refine ⟨_, exec_acts op hop h, ?_⟩
  rw [Work.finishWarning_steady _ hsteady]
  exact ⟨hbm, hde⟩

/-- A transfer that does not wait at the frontier is not moved by it. -/
theorem Work.handle_frontier (i : Nat) (ht : w.tu.transfer = none) (hu : w.tu.underTimer = false) :
    w.handle (.frontier i) = w := by
  have hwait : w.atFrontier = false := by
    unfold Work.atFrontier
    rw [ht]
    split
    · next h _ => exact absurd h.symm (Option.some_ne_none _)
    · rfl
  show w.updateWait = w
  rw [Work.updateWait, hwait, ← hu]

end

/-! ### A row of the proof is written (R102, R108) -/

section
variable {w : Work} {i : Nat} {j : Job} {r : Row} {c : ProofChain}

/-- The row whose proof has a row more. -/
def Row.risen (n : Nat) (x : Row) : Row := { x with proof := x.proof.map fun y => { y with frontier := n } }

theorem Work.putRow_eq (hp : r.proof = some c) (px : List Pixel) : w.putRow j r px = { w with
    de := { w.de with job := some (j.count px) }
    mem := chainWrite w.mem c.pages (64 + 6000 * c.frontier) (packPixels px)
    bm := w.bm.mapRow j.row (Row.risen (c.frontier + 1))
    bus := w.bus ++ [.frontier j.row] } := by
  have hn : r.nextProofRow = c.frontier := by rw [Row.nextProofRow, hp]; rfl
  have hpages : r.pagesOf .proof = c.pages := by rw [Row.pagesOf, hp]; rfl
  unfold Work.putRow
  rw [hn, hpages]
  rfl

theorem Work.writeRow_eq (hj : w.de.job = some j) (hr : w.bm.row? j.row = some r) (hp : r.proof = some c) {px : List Pixel}
    (hpx : px = rowPixels w.mem (r.pagesOf .raw) j.look c.frontier) :
    w.writeRow = (w.putRow j r px).afterRow (j.count px) (c.frontier + 1) := by
  have hn : r.nextProofRow = c.frontier := by rw [Row.nextProofRow, hp]; rfl
  unfold Work.writeRow
  rw [hj]
  dsimp only
  rw [hr]
  dsimp only
  rw [hn, ← hpx]

/-! ### The duty becomes final (R109 to R113) -/

/-- Nothing holds the proof of a row without an open PROOF duty once its develop duty is final (R16). -/
theorem Row.proofRead_final (hf : r.develop.isFinal = true) (hall : ∀ d ∈ r.cards, d.chain = .raw) (ht : r.tethers = []) :
    r.proofRead = false := by
  have hcards : r.cards.any (fun d => decide (d.chain = .proof) && !d.state.isFinal) = false := by
    refine List.any_eq_false.2 fun d hd => ?_
    rw [hall d hd]
    exact Bool.false_ne_true
  unfold Row.proofRead
  split
  · next h => rw [h] at hf; exact absurd hf Bool.false_ne_true
  · rw [hcards, ht]
    rfl
  all_goals
    rw [ht]
    rfl

/-- The develop duty of a row that CW still writes becomes final, and BM releases the proof (R9, R16). -/
theorem Work.setDevelop_frees {st : DevelopState} {d : CardDuty} (hnd : (w.bm.rows.map Row.index).Nodup)
    (hr : w.bm.row? i = some r) (hl : r.life = .held) (hrun : r.develop = .running) (hd : d ∈ r.cards)
    (hf : d.state.isFinal = false) (hall : ∀ d ∈ r.cards, d.chain = .raw) (ht : r.tethers = []) (hp : r.proof = some c)
    (hst : st.isFinal = true) : (w.setDevelop i st).check i = { w with
      bm := { w.bm.mapRow i fun x => { x with develop := st, proof := none } with
        free := c.pages.foldr insertPage w.bm.free }
      bus := w.bus ++ [.developChanged i] ++ [.deLook] ++
        [.reclaim (Decidable.decide ((c.pages.foldr insertPage w.bm.free).length < w.bm.threshold))] } := by
  have hi : ∀ x : Row, ({ x with develop := st } : Row).index = x.index := fun _ => rfl
  obtain ⟨v, hv⟩ : ∃ v : Work, v = { w with
      bm := w.bm.mapRow i fun x => { x with develop := st }, bus := w.bus ++ [.developChanged i] } := ⟨_, rfl⟩
  have hset : w.setDevelop i st = v := (Work.setDevelop_eq hnd hr (.inr (by rw [hrun]; rfl)) st).trans hv.symm
  have hvr : v.bm.row? i = some { r with develop := st } := by
    rw [hv]
    exact Bm.row?_mapRow_same hr hi
  have hcheck := Work.check_frees_proof hvr hl
    (Row.rawRead_of_card (r := { r with develop := st }) hd (hall d hd) hf)
    (Row.proofRead_final (r := { r with develop := st }) hst hall ht) hp
    (Row.openDuties_of_card (r := { r with develop := st }) hd hf)
  rw [hset, hcheck, hv]
  show Work.mk { w.toState with bm := { (w.bm.mapRow i _).mapRow i _ with free := _ } } _ = _
  rw [Bm.mapRow_mapRow w.bm i hi]
  rfl

/-- With RAW duties alone no card duty waits for a proof (R143). -/
theorem Work.proofExists_raw (hr : w.bm.row? i = some r) (hc : ∀ d ∈ r.cards, d.chain = .raw) : w.proofExists i = w := by
  have hduty (d : DutyRef) (hd : d ∈ r.openCards) (x : CardDuty) (hx : w.duty? d = some x) : x.chain = .raw := by
    simp only [Row.openCards, List.mem_map] at hd
    obtain ⟨k, -, rfl⟩ := hd
    rw [Work.duty?, (Bm.row?_some hr).2, hr, Option.bind_some] at hx
    exact hc x (List.mem_of_getElem? hx)
  have hfold (l : List DutyRef) (hl : ∀ d ∈ l, d ∈ r.openCards) : l.foldl (fun v d =>
      match v.duty? d with
      | some x => if x.chain = .proof ∧ x.state = .waitingSource then (v.firstState d).check i else v
      | none => v) w = w := by
    induction l with
    | nil => rfl
    | cons d l ih =>
      have hstep : (match w.duty? d with
          | some x => if x.chain = .proof ∧ x.state = .waitingSource then (w.firstState d).check i else w
          | none => w) = w := by
        split
        · next x hx =>
          exact if_neg fun h => Chain.noConfusion ((hduty d (hl d List.mem_cons_self) x hx).symm.trans h.1)
        · rfl
      rw [List.foldl_cons, hstep]
      exact ih fun d hd => hl d (List.mem_cons_of_mem _ hd)
  unfold Work.proofExists
  rw [hr]
  exact hfold r.openCards fun d h => h

/-- DE has no job waiting when its job is over. -/
theorem Work.nextJob_idle (hu : w.de.urgent = []) (hn : w.de.normal = []) :
    w.nextJob = { w with de := { w.de with job := none, engine := .idle } } :=
  Work.lookHead_idle { w with de := { w.de with job := none, engine := .idle } } (.inr (.inr ⟨rfl, hu, hn⟩))

end

end Sys2Proof.Machine
end

section
/-! PROOF. The development job writes, completes, stops and fails (R102, R109 to R113, R143). -/

namespace Sys2Proof.Machine

/-! ### The ends of a job whose row CW still writes -/

/-- A job runs alone: no other waits, no transfer is in progress or waits, and its row is HELD with open RAW duties of the
cards alone. -/
structure Work.RunsAlone (w : Work) (i : Nat) (r : Row) (c : ProofChain) : Prop where
  nodup : (w.bm.rows.map Row.index).Nodup
  row : w.bm.row? i = some r
  held : r.life = .held
  running : r.develop = .running
  card : ∃ d ∈ r.cards, d.state.isFinal = false
  raw : ∀ d ∈ r.cards, d.chain = .raw
  tethers : r.tethers = []
  proof : r.proof = some c
  urgent : w.de.urgent = []
  normal : w.de.normal = []

section
variable {w : Work} {i : Nat} {j : Job} {r : Row} {c : ProofChain}

/-- The table when the develop duty of a row is final and its proof is gone. -/
def Bm.undone (b : Bm) (i : Nat) (st : DevelopState) (c : ProofChain) : Bm :=
  { b.mapRow i fun x => { x with develop := st, proof := none } with free := c.pages.foldr insertPage b.free }

/-- The reports of a develop duty that becomes final and of the proof that goes with it. -/
def Bm.undoneReports (b : Bm) (i : Nat) (c : ProofChain) : List Report :=
  [.developChanged i, .deLook,
    .reclaim (decide ((c.pages.foldr insertPage b.free).length < b.threshold))]

theorem Work.RunsAlone.ends (h : w.RunsAlone i r c) {st : DevelopState} (hst : st.isFinal = true) :
    (w.setDevelop i st).check i =
      { w with bm := w.bm.undone i st c, bus := w.bus ++ w.bm.undoneReports i c } := by
  obtain ⟨d, hd, hf⟩ := h.card
  rw [Work.setDevelop_frees h.nodup h.row h.held h.running hd hf h.raw h.tethers h.proof hst, List.append_assoc,
    List.append_assoc]
  rfl

theorem Bm.undone_row {b : Bm} (hr : b.row? i = some r) (st : DevelopState) :
    (b.undone i st c).row? i = some { r with develop := st, proof := none } :=
  Bm.row?_mapRow_same (f := fun x => { x with develop := st, proof := none }) hr fun _ => rfl

/-- The last row makes the duty DONE and publishes the histogram (R109). -/
theorem Work.RunsAlone.completes (h : w.RunsAlone j.row r c) : w.completeJob j = { w with
    bm := w.bm.undone j.row .done c
    de := { w.de with
      job := none, engine := .idle,
      histogram := some { shot := r.number.getD 0, bins := j.bins, clip := j.clip } }
    cp := w.cp.raise .developDone (leBytes 3 (r.number.getD 0))
    bus := w.bus ++ w.bm.undoneReports j.row c } := by
  have hshot : w.shotOf j.row = r.number.getD 0 := by
    rw [Work.shotOf, h.row]
    rfl
  obtain ⟨v, hv⟩ : ∃ v : Work, v = { w with
      de := { w.de with histogram := some { shot := r.number.getD 0, bins := j.bins, clip := j.clip } } } := ⟨_, rfl⟩
  have hvalone : v.RunsAlone j.row r c := by
    rw [hv]
    exact ⟨h.nodup, h.row, h.held, h.running, h.card, h.raw, h.tethers, h.proof, h.urgent, h.normal⟩
  have hend := hvalone.ends (st := .done) rfl
  have hexists : (Work.mk { v.toState with bm := v.bm.undone j.row .done c } (v.bus ++ v.bm.undoneReports j.row c)).proofExists
      j.row = { v with bm := v.bm.undone j.row .done c, bus := v.bus ++ v.bm.undoneReports j.row c } :=
    Work.proofExists_raw (Bm.undone_row hvalone.row .done) h.raw
  unfold Work.completeJob
  dsimp only
  rw [hshot, ← hv, hend, hexists, hv]
  exact Work.nextJob_idle h.urgent h.normal

/-- The loss of the proof of a row with RAW duties alone is a report (R112, R143). -/
theorem Work.RunsAlone.loses (h : w.RunsAlone i r c) (st : DevelopState) (de : De) (bus : List Report) :
    Work.loseProof i { w with bm := w.bm.undone i st c, de := de, bus := bus } =
      { w with bm := w.bm.undone i st c, de := de, bus := bus ++ [.proofLost i] } := by
  have hlost : Work.cardProofLost i { w with bm := w.bm.undone i st c, de := de, bus := bus } =
      { w with bm := w.bm.undone i st c, de := de, bus := bus } :=
    Work.cardProofLost_raw (Bm.undone_row h.row st) h.raw
  rw [Work.loseProof, hlost]
  rfl

/-- A job asked to stop stops, and after a cancel its proof is lost (R110, R113). -/
theorem Work.RunsAlone.stops (h : w.RunsAlone j.row r c) : w.stopJob j = { w with
    bm := w.bm.undone j.row .cancelled c
    de := { w.de with job := none, engine := .idle }
    bus := w.bus ++ w.bm.undoneReports j.row c ++ (if j.cancel then [.proofLost j.row] else []) } := by
  unfold Work.stopJob
  dsimp only
  rw [h.ends (st := .cancelled) rfl]
  cases j.cancel with
  | true =>
    rw [if_pos rfl, if_pos rfl, show (Work.mk { w.toState with bm := w.bm.undone j.row .cancelled c } _) = { w with
      bm := w.bm.undone j.row .cancelled c, de := w.de, bus := w.bus ++ w.bm.undoneReports j.row c } from rfl, h.loses]
    exact Work.nextJob_idle h.urgent h.normal
  | false =>
    rw [if_neg Bool.false_ne_true, if_neg Bool.false_ne_true, List.append_nil]
    exact Work.nextJob_idle h.urgent h.normal

/-- A read error ends the job as FAILED (R111). -/
theorem Work.RunsAlone.fails (h : w.RunsAlone j.row r c) (hj : w.de.job = some j) : w.failJob = { w with
    bm := w.bm.undone j.row .failed c
    de := { w.de with
      job := none, engine := .idle, failedJobs := min 65535 (w.de.failedJobs + 1),
      lastFailed := some (r.number.getD 0) }
    bus := w.bus ++ w.bm.undoneReports j.row c ++ [.proofLost j.row] } := by
  have hset := Work.setDevelop_eq h.nodup h.row (.inr (by rw [h.running]; rfl)) .failed
  have hshot : (w.setDevelop j.row .failed).shotOf j.row = r.number.getD 0 := by
    have hrow : (w.setDevelop j.row .failed).bm.row? j.row = some { r with develop := .failed } := by
      rw [hset]
      exact Bm.row?_mapRow_same (f := fun x => { x with develop := .failed }) h.row fun _ => rfl
    rw [Work.shotOf, hrow]
    rfl
  have hde : (w.setDevelop j.row .failed).de = w.de := rfl
  obtain ⟨v, hv⟩ : ∃ v : Work, v = { w with de := { w.de with
      failedJobs := satSucc 65535 w.de.failedJobs, lastFailed := some (r.number.getD 0) } } := ⟨_, rfl⟩
  have hvalone : v.RunsAlone j.row r c := by
    rw [hv]
    exact ⟨h.nodup, h.row, h.held, h.running, h.card, h.raw, h.tethers, h.proof, h.urgent, h.normal⟩
  have hlost := hvalone.loses .failed v.de (v.bus ++ v.bm.undoneReports j.row c)
  unfold Work.failJob
  rw [hj]
  dsimp only
  rw [hshot, hde]
  have hsetv : ({ w.setDevelop j.row .failed with de := { w.de with
      failedJobs := satSucc 65535 w.de.failedJobs, lastFailed := some (r.number.getD 0) } } : Work) =
      v.setDevelop j.row .failed := by
    rw [hv]
    rfl
  refine (congrArg (fun u : Work => ((u.check j.row).loseProof j.row).nextJob) hsetv).trans ?_
  rw [hvalone.ends (st := .failed) rfl]
  refine (congrArg Work.nextJob hlost).trans ?_
  rw [hv]
  exact Work.nextJob_idle h.urgent h.normal

end

end Sys2Proof.Machine
end

section
/-! PROOF. A develop job that stops for a cancel fails the card PROOF duties that wait (R110, R112, R143), and the statement
about the rows of a proof. -/

namespace Sys2Proof.Machine

section
variable {w : Work} {d : DutyRef} {i : Nat} {r y : Row} {x : CardDuty} {cause : CardCause}

/-! ### One duty -/

/-- A duty becomes FAILED unless it is final (R9). -/
def CardDuty.fail (cause : CardCause) (x : CardDuty) : CardDuty := if x.state.isFinal then x else x.lost cause false

/-- What neither the failure of duties nor the checks touch: all but CP, BM, memory, DE's reports, the lists of the slots and
TU's signals. -/
def State.unmoved (s : State) := (s.pwc, s.tu.sansSignals, s.de, s.cw.quiet)

theorem Work.unlist_bm : (w.unlist d).bm = w.bm := by
  unfold Work.unlist
  split
  · exact Work.mapSlot_bm _ _ _
  · rfl

theorem Work.unlist_unmoved : (w.unlist d).toState.unmoved = w.toState.unmoved := by
  unfold Work.unlist
  split
  · next x _ => cases x.slot <;> rfl
  · rfl

theorem Work.check_unmoved : (w.check i).toState.unmoved = w.toState.unmoved := by
  have hrest := w.check_rest i
  have hde := ((Work.Served.refl w).check i).de
  exact Prod.ext (congrArg (fun x => x.1) hrest) (Prod.ext (congrArg (fun x => x.2.2.2.2.2.1) hrest)
    (Prod.ext hde (congrArg (fun x => x.2.2.2.2.1.quiet) hrest)))

/-- A duty that leaves its slot's lists and fails for a cause that failover does not take. -/
theorem Work.failDuty_unmoved (hc : cause.reassigns = false) (spoiled : Bool) :
    (w.failDuty d cause spoiled).toState.unmoved = w.toState.unmoved := by
  unfold Work.failDuty
  split
  · next r x hr hx =>
    have hre : w.reassigns r x cause = false := Work.reassigns_of_cause hc
    have hstore : (w.storeFail d cause spoiled).toState.unmoved = w.toState.unmoved := by
      unfold Work.storeFail
      rw [hr, hx]
      dsimp only
      rw [hre, if_neg Bool.false_ne_true]
      split <;> rfl
    dsimp only
    rw [hre, if_neg (fun h => Bool.false_ne_true h.1)]
    exact Work.check_unmoved.trans hstore
  · rfl

theorem Work.failDuty_row (hr : w.bm.row? d.row = some y) (hx : y.cards[d.place]? = some x)
    (hc : cause.reassigns = false) : ∃ z, (w.failDuty d cause false).bm.row? d.row = some z ∧
      z.sansChains = ({ y with cards := y.cards.modify d.place (CardDuty.fail cause) } : Row).sansChains := by
  cases hf : x.state.isFinal with
  | true =>
    have hcards : y.cards.modify d.place (CardDuty.fail cause) = y.cards := by
      refine List.ext_getElem? fun k => ?_
      rw [List.getElem?_modify]
      by_cases hk : d.place = k
      · rw [← hk, hx]
        simp only [if_true, Option.map_eq_map, Option.map_some, CardDuty.fail, hf]
      · simp only [hk, if_false, Option.map_eq_map, Option.map_id']
    have hsame : w.failDuty d cause false = w.check d.row := by
      unfold Work.failDuty Work.storeFail
      rw [hr, (Work.duty?_row hr).trans hx]
      dsimp only
      rw [hf, if_pos rfl, if_neg fun h => Bool.false_ne_true h.2.symm]
    rw [hsame, hcards]
    exact Work.check_row hr
  | false =>
    rw [Work.failDuty_eq hr hx hf (Work.reassigns_of_cause hc)]
    exact Work.check_row (w := (w.mapDuty d (CardDuty.lost cause false)).raise .storeFailed _)
      (Bm.row?_mapRow_same (f := fun z => { z with
        cards := z.cards.modify d.place fun x => if x.state.isFinal then x else x.lost cause false }) hr fun _ => rfl)

/-! ### The duties of a lost proof (R143) -/

/-- A card PROOF duty that waits fails when the proof is lost. -/
def CardDuty.losesProof (x : CardDuty) : CardDuty :=
  if x.chain = .proof ∧ x.state ≠ .writing then x.fail .sourceLost else x

/-- BM and CW lose the proof of one duty. -/
def Work.loseProofOf (d : DutyRef) (w : Work) : Work :=
  match w.duty? d with
  | some x => if x.chain = .proof ∧ x.state ≠ .writing then (w.unlist d).failDuty d .sourceLost false else w
  | none => w

theorem Work.loseProofOf_unmoved : (w.loseProofOf d).toState.unmoved = w.toState.unmoved := by
  unfold Work.loseProofOf
  split
  · split
    · exact (Work.failDuty_unmoved rfl false).trans Work.unlist_unmoved
    · rfl
  · rfl

theorem List.modify_congr {α : Type} {l : List α} {k : Nat} {a : α} {f g : α → α} (hl : l[k]? = some a) (h : f a = g a) :
    l.modify k f = l.modify k g := by
  refine List.ext_getElem? fun j => ?_
  rw [List.getElem?_modify, List.getElem?_modify]
  by_cases hk : k = j
  · subst hk
    rw [hl]
    simp only [if_true, Option.map_eq_map, Option.map_some, h]
  · simp only [hk, if_false]

theorem Work.loseProofOf_row (hr : w.bm.row? d.row = some y) : ∃ z, (w.loseProofOf d).bm.row? d.row = some z ∧
    z.sansChains = ({ y with cards := y.cards.modify d.place CardDuty.losesProof } : Row).sansChains := by
  have hduty := Work.duty?_row hr
  unfold Work.loseProofOf
  cases hx : y.cards[d.place]? with
  | none =>
    have hcards : y.cards.modify d.place CardDuty.losesProof = y.cards :=
      List.modify_eq_self (List.getElem?_eq_none_iff.1 hx)
    rw [hduty, hx, hcards]
    exact ⟨y, hr, rfl⟩
  | some x =>
    rw [hduty, hx]
    dsimp only
    split
    · next hp =>
      rw [List.modify_congr (f := CardDuty.losesProof) (g := CardDuty.fail .sourceLost) hx (if_pos hp)]
      exact Work.failDuty_row (by rw [Work.unlist_bm]; exact hr) hx rfl
    · next hp =>
      rw [List.modify_congr (f := CardDuty.losesProof) (g := id) hx (if_neg hp), List.modify_id]
      exact ⟨y, hr, rfl⟩

/-- The loss of the proof, duty by duty. -/
theorem Work.loseProofOf_foldl (l : List DutyRef) (hl : ∀ d ∈ l, d.row = i) : ∀ {w : Work} {y : Row}, w.bm.row? i = some y →
    ∃ z, (l.foldl (fun v d => v.loseProofOf d) w).bm.row? i = some z ∧
      z.sansChains = ({ y with
        cards := (l.map DutyRef.place).foldl (fun l k => l.modify k CardDuty.losesProof) y.cards } : Row).sansChains ∧
      (l.foldl (fun v d => v.loseProofOf d) w).toState.unmoved = w.toState.unmoved := by
  induction l with
  | nil => exact fun hr => ⟨_, hr, rfl, rfl⟩
  | cons d l ih =>
    intro w y hr
    have hd := hl d List.mem_cons_self
    obtain ⟨u, hu, hsans⟩ := Work.loseProofOf_row (d := d) (hd.symm ▸ hr)
    obtain ⟨z, hz, hzs, hmoved⟩ := ih (fun e he => hl e (List.mem_cons_of_mem _ he)) (hd ▸ hu)
    refine ⟨z, hz, hzs.trans ?_, hmoved.trans Work.loseProofOf_unmoved⟩
    rw [List.map_cons, List.foldl_cons]
    have hcards : u.cards = y.cards.modify d.place CardDuty.losesProof := congrArg (fun x => x.cards) hsans
    rw [← hcards]
    exact congrArg (fun x : Row => { x with
      cards := (l.map DutyRef.place).foldl (fun l k => l.modify k CardDuty.losesProof) u.cards }) hsans

/-- A row whose proof is lost: each card PROOF duty that waits has failed. -/
theorem Work.loseProof_row (hr : w.bm.row? i = some y) : ∃ z, (w.loseProof i).bm.row? i = some z ∧
    z.sansChains = ({ y with cards := y.cards.map CardDuty.losesProof } : Row).sansChains ∧
    (w.loseProof i).toState.unmoved = w.toState.unmoved := by
  have hrefs : ∀ d ∈ y.openCards, d.row = i := by
    intro d hd
    simp only [Row.openCards, List.mem_map] at hd
    obtain ⟨k, -, rfl⟩ := hd
    exact (Bm.row?_some hr).2
  obtain ⟨z, hz, hzs, hmoved⟩ := Work.loseProofOf_foldl y.openCards hrefs hr
  rw [Row.openCards_foldl fun d _ hf => by rw [CardDuty.losesProof, CardDuty.fail, if_pos hf, ite_self]] at hzs
  refine ⟨z, ?_, hzs, ?_⟩
  · show (w.cardProofLost i).bm.row? i = _
    unfold Work.cardProofLost
    rw [hr]
    exact hz
  · show (w.cardProofLost i).toState.unmoved = _
    unfold Work.cardProofLost
    rw [hr]
    exact hmoved

end

end Sys2Proof.Machine
end

section
/-! PROOF. The statement about the rows of a proof (R102, R107 to R113). -/

namespace Sys2Proof.Machine

section
variable {w : Work} {i : Nat} {j : Job} {r : Row} {c : ProofChain}

/-- BM releases a proof that nothing holds (R16). -/
theorem Work.check_loses_proof (hr : w.bm.row? i = some r) (hl : r.life = .held) (hp : r.proofRead = false) :
    ∃ z, (w.check i).bm.row? i = some z ∧ z.sansChains = r.sansChains ∧ z.proof = none := by
  have hraw : ∃ y, (if r.rawRead then w else w.releaseRaw i).bm.row? i = some y := by
    split
    · exact ⟨r, hr⟩
    · have h := Work.releaseRaw_sansChains (w := w) (i := i) (j := i)
      rw [hr] at h
      obtain ⟨y, hy, -⟩ := Option.map_eq_some_iff.1 h
      exact ⟨y, hy⟩
  obtain ⟨y, hy⟩ := hraw
  have hrelease : ∃ u, (w.releaseCheck i).bm.row? i = some u ∧ u.proof = none := by
    unfold Work.releaseCheck
    rw [hr]
    dsimp only
    rw [if_pos hl, hp, if_neg Bool.false_ne_true]
    generalize hv : (if r.rawRead then w else w.releaseRaw i) = v
    rw [hv] at hy
    unfold Work.releaseProof
    rw [hy, Option.bind_some]
    cases hc : y.proof with
    | some c =>
      exact ⟨{ y with proof := none }, Bm.row?_mapRow_same (f := fun r => { r with proof := none }) hy fun _ => rfl, rfl⟩
    | none => exact ⟨y, hy, hc⟩
  obtain ⟨u, hu, hup⟩ := hrelease
  obtain ⟨z, hz, hsans⟩ := Work.check_row hr
  have hserved := ((Work.Served.refl (w.releaseCheck i)).settleCheck i).rows i
  rw [hu, show ((w.releaseCheck i).settleCheck i).bm.row? i = some z from hz] at hserved
  obtain ⟨hserved⟩ := hserved
  exact ⟨z, hz, hsans, hserved.proof hup⟩

theorem Row.cards_of_sansChains {x y : Row} (h : x.sansChains = y.sansChains) : x.cards = y.cards := by
  have hc := congrArg Row.cards h
  exact hc

theorem Row.develop_of_sansChains {x y : Row} (h : x.sansChains = y.sansChains) : x.develop = y.develop := by
  have hd := congrArg Row.develop h
  exact hd

/-- A job that stops for a cancel (R110, R112). -/
theorem Work.stopJob_cancel (hnd : (w.bm.rows.map Row.index).Nodup) (hr : w.bm.row? j.row = some r) (hl : r.life = .held)
    (hrun : r.develop = .running) (ht : r.tethers = []) (hj : j.cancel = true) (hu : w.de.urgent = [])
    (hn : w.de.normal = []) : ∃ z, (w.stopJob j).bm.row? j.row = some z ∧
      z.develop = .cancelled ∧ z.proof = none ∧ z.cards = r.cards.map CardDuty.losesProof ∧
      (w.stopJob j).de = { w.de with job := none, engine := .idle } ∧ (w.stopJob j).pwc = w.pwc ∧
      (w.stopJob j).tu.sansSignals = w.tu.sansSignals ∧ (w.stopJob j).cw.quiet = w.cw.quiet := by
  have hset := Work.setDevelop_eq hnd hr (.inr (by rw [hrun]; rfl)) .cancelled
  have hrow : (w.setDevelop j.row .cancelled).bm.row? j.row = some { r with develop := .cancelled } := by
    rw [hset]
    exact Bm.row?_mapRow_same (f := fun x => { x with develop := .cancelled }) hr fun _ => rfl
  have hunread : Row.proofRead { r with develop := .cancelled } = false := by
    unfold Row.proofRead
    dsimp only
    rw [ht]
    rfl
  obtain ⟨y, hy, hys, hyp⟩ := Work.check_loses_proof hrow hl hunread
  obtain ⟨z, hz, hzs, hmoved⟩ := Work.loseProof_row hy
  have hserved := ((Work.Served.refl ((w.setDevelop j.row .cancelled).check j.row)).loseProof j.row).rows j.row
  rw [hy, hz] at hserved
  obtain ⟨hserved⟩ := hserved
  have hmoved2 : (((w.setDevelop j.row .cancelled).check j.row).loseProof j.row).toState.unmoved =
      w.toState.unmoved := by
    rw [hmoved, Work.check_unmoved, hset]
    rfl
  have hde : (((w.setDevelop j.row .cancelled).check j.row).loseProof j.row).de = w.de :=
    congrArg (fun x => x.2.2.1) hmoved2
  unfold Work.stopJob
  dsimp only
  rw [hj, if_pos rfl, Work.nextJob_idle (by rw [hde]; exact hu) (by rw [hde]; exact hn), hde]
  refine ⟨z, hz, ?_, hserved.proof hyp, ?_, rfl, congrArg (fun x => x.1) hmoved2, congrArg (fun x => x.2.1) hmoved2,
    congrArg (fun x => x.2.2.2) hmoved2⟩
  · exact (Row.develop_of_sansChains hzs).trans (Row.develop_of_sansChains hys)
  · exact (Row.cards_of_sansChains hzs).trans (congrArg (List.map CardDuty.losesProof) (Row.cards_of_sansChains (y := { r with develop := .cancelled }) hys))

end

/-- Settles O47: a row is written, and the job completes, stops or fails. -/
theorem proofRowsAreWritten : Obligations.ProofRowsAreWritten := by
  unfold Obligations.ProofRowsAreWritten
  intro s hs
  have hwrite : exec .proofRowWritten s = .next (run Work.writeRow s) := rfl
  have hfail : exec .deReadError s = .next (run Work.failJob s) := rfl
  refine ⟨fun hj => ⟨exec_same _ hwrite hs ?_, exec_same _ hfail hs ?_⟩, fun j r c px hj hr hp hpx => ?_⟩
  · unfold Work.writeRow
    dsimp only
    rw [hj]
  · unfold Work.failJob
    dsimp only
    rw [hj]
  intro counted mem
  obtain ⟨v, hv⟩ : ∃ v : Work, v = { toState := { s with
      de := { s.de with job := some (j.count px) }
      mem := mem
      bm := s.bm.mapRow j.row (Row.risen (c.frontier + 1)) }, bus := [.frontier j.row] } := ⟨_, rfl⟩
  have hput : Work.writeRow { toState := s, bus := [] } = v.afterRow (j.count px) (c.frontier + 1) := by
    rw [Work.writeRow_eq (w := { toState := s, bus := [] }) hj hr hp hpx,
      Work.putRow_eq (w := { toState := s, bus := [] }) hp px, hv]
    rfl
  have hrise : ∀ x : Row, (x.risen (c.frontier + 1)).index = x.index := fun _ => rfl
  have hvrow : v.bm.row? j.row = some (r.risen (c.frontier + 1)) := by
    rw [hv]
    exact Bm.row?_mapRow_same hr hrise
  have hproof : (r.risen (c.frontier + 1)).proof = some { c with frontier := c.frontier + 1 } := by
    rw [Row.risen, hp]
    rfl
  have hvnd (hnd : (s.bm.rows.map Row.index).Nodup) : (v.bm.rows.map Row.index).Nodup := by
    rw [hv]
    exact (Bm.mapRow_index s.bm j.row hrise).symm ▸ hnd
  refine ⟨fun hlt hcancel hdiscard ht hunder => ?_, fun hnd hl hrun hopen hall htethers hu hn hq hunder ht => ?_,
    fun hnd hl hrun htethers hq ht hu hn hlt hcancel hwaits => ?_⟩
  · -- the job goes on
    refine exec_comes _ hwrite (State.steady_congr (s := s) rfl rfl hs) ?_
    have hgo : v.afterRow (j.count px) (c.frontier + 1) = v := by
      unfold Work.afterRow
      rw [if_neg (by rw [show Config.proofRows = 2000 from rfl]; omega)]
      show (if (j.cancel || j.discard) = true then _ else v) = v
      rw [hcancel, hdiscard]
      rfl
    rw [hput, hgo, hv]
    refine .skip (Work.handle_frontier _ ht hunder) ?_
    have hbm : s.bm.mapRow j.row (Row.risen (c.frontier + 1)) = s.bm.mapRow j.row fun x => { x with
        proof := x.proof.map fun y => { y with frontier := c.frontier + 1 } } := rfl
    rw [hbm]
    exact .done _
  · -- the job ends while CW still writes the row
    have halone : v.RunsAlone j.row (r.risen (c.frontier + 1)) { c with frontier := c.frontier + 1 } :=
      ⟨hvnd hnd, hvrow, hl, hrun, hopen, hall, htethers, hproof, by rw [hv]; exact hu, by rw [hv]; exact hn⟩
    have hundone (st : DevelopState) : (s.bm.mapRow j.row (Row.risen (c.frontier + 1))).undone j.row st
        { c with frontier := c.frontier + 1 } =
        { s.bm.mapRow j.row fun x => { x with develop := st, proof := none } with
          free := c.pages.foldr insertPage s.bm.free } := by
      unfold Bm.undone
      rw [Bm.mapRow_mapRow s.bm j.row hrise]
      rfl
    refine ⟨fun hlast => ?_, fun hlt hstop => ?_, ?_⟩
    · refine exec_comes _ hwrite (State.steady_congr (s := s) rfl rfl hs) ?_
      have hdone : v.afterRow (j.count px) (c.frontier + 1) = v.completeJob (j.count px) :=
        if_pos (by rw [hlast]; rfl)
      rw [hput, hdone, Work.RunsAlone.completes (j := j.count px) halone, hv]
      dsimp only
      rw [show (j.count px).row = j.row from rfl, hundone]
      exact .skip (Work.handle_frontier _ ht hunder) (.skip (Work.handle_developChanged_nil _ hq)
        (.freed ⟨hq, .inr (.inr ⟨rfl, hu, hn⟩)⟩ (.done _)))
    · refine exec_comes _ hwrite (State.steady_congr (s := s) rfl rfl hs) ?_
      have hends : v.afterRow (j.count px) (c.frontier + 1) = v.stopJob (j.count px) := by
        unfold Work.afterRow
        rw [if_neg (by rw [show Config.proofRows = 2000 from rfl]; omega)]
        refine if_pos ?_
        show (j.cancel || j.discard) = true
        rcases hstop with h | h <;> rw [h]
        · rfl
        · exact Bool.or_true _
      rw [hput, hends, Work.RunsAlone.stops (j := j.count px) halone, hv]
      dsimp only
      rw [show (j.count px).row = j.row from rfl, hundone]
      refine .skip (Work.handle_frontier _ ht hunder) (.skip (Work.handle_developChanged_nil _ hq)
        (.freed ⟨hq, .inr (.inr ⟨rfl, hu, hn⟩)⟩ ?_))
      cases (j.count px).cancel with
      | true => exact .skip (Work.handle_proofLost _ hq) (.done _)
      | false => exact .done _
    · refine exec_comes _ hfail (State.steady_congr (s := s) rfl rfl hs) ?_
      have halone0 : Work.RunsAlone { toState := s, bus := [] } j.row r c :=
        ⟨hnd, hr, hl, hrun, hopen, hall, htethers, hp, hu, hn⟩
      rw [halone0.fails hj]
      exact .skip (Work.handle_developChanged_nil _ hq) (.freed ⟨hq, .inr (.inr ⟨rfl, hu, hn⟩)⟩
        (.skip (Work.handle_proofLost _ hq) (.done _)))
  · -- a cancel fails the card PROOF duties that wait
    obtain ⟨z, hz, hdev, hnone, hcards, hde, hpwc, htu, hquiet⟩ := Work.stopJob_cancel (w := v) (j := j.count px) (hvnd hnd)
      hvrow hl hrun htethers hcancel (by rw [hv]; exact hu) (by rw [hv]; exact hn)
    have hends : v.afterRow (j.count px) (c.frontier + 1) = v.stopJob (j.count px) := by
      unfold Work.afterRow
      rw [if_neg (by rw [show Config.proofRows = 2000 from rfl]; omega)]
      refine if_pos ?_
      show (j.cancel || j.discard) = true
      rw [hcancel]
      rfl
    have hcalm : (v.stopJob (j.count px)).calm = true := by
      rw [Work.stopJob_calm, hv]
      rfl
    have hsends : (v.stopJob (j.count px)).toState.sendsNothing := by
      refine ⟨(congrArg Tu.transfer htu).trans ?_, (congrArg Tu.queue htu).trans ?_⟩
      · rw [hv]; exact ht
      · rw [hv]; exact hq
    have hidles : (v.stopJob (j.count px)).toState.idles :=
      ⟨hsends, by rw [hde], by rw [hde, hv]; exact hu, by rw [hde, hv]; exact hn⟩
    obtain ⟨t, hexec, htbm, htde⟩ := exec_idles Work.writeRow hwrite hs (hput.trans hends) hcalm hidles
      (by rw [hpwc, hv]) (by rw [hquiet, hv])
    refine ⟨t, z, hexec, by rw [htde, hde], by rw [htde, hde, hv], by rw [htbm]; exact hz, hdev, hnone, ?_⟩
    rw [hcards]
    refine List.map_congr_left fun d hd => ?_
    unfold CardDuty.losesProof CardDuty.fail
    by_cases hproofs : d.chain = .proof
    · rw [if_pos ⟨hproofs, hwaits d hd hproofs⟩]
      cases hf : d.state.isFinal with
      | true => rw [if_pos rfl, if_neg fun h => Bool.false_ne_true h.2.symm]
      | false => rw [if_neg Bool.false_ne_true, if_pos ⟨hproofs, rfl⟩]; rfl
    · rw [if_neg fun h => hproofs h.1, if_neg fun h => hproofs h.1]

end Sys2Proof.Machine
end

section
/-! PROOF. The write queue of a slot (R125, R126, R132, R133): the walk of a selection, the pieces a chain takes from the
extent queue, and the start of its first run. -/

namespace Sys2Proof.Machine

/-! ### The record of a slot -/

section
variable {w : Work} {i : SlotId}

/-- A change of a slot's record, as the statements write it. -/
theorem Work.mapSlot_setSlot (w : Work) (i : SlotId) (f : Slot → Slot) :
    w.mapSlot i f = { w with toState := w.toState.setSlot i (f (w.cw.slot i)) } := by
  cases i <;> rfl

theorem State.setSlot_setSlot (s : State) (i : SlotId) (x y : Slot) : (s.setSlot i x).setSlot i y = s.setSlot i y := by
  cases i <;> rfl

theorem State.setSlot_slot (s : State) (i : SlotId) (x : Slot) : (s.setSlot i x).cw.slot i = x := by cases i <;> rfl

/-- The extent queue that does not fall below 164,064 sectors raises nothing (R126). -/
theorem Work.setExtents_quiet {q : List Piece}
    (h : (w.cw.slot i).queued < 164064 ∨ 164064 ≤ (q.map Piece.count).sum) :
    w.setExtents i q = w.mapSlot i fun x => { x with extents := q } := by
  have hnew : ((w.mapSlot i fun x => { x with extents := q }).cw.slot i).queued = (q.map Piece.count).sum := by
    rw [Cw.slot_mapSlot]
    rfl
  unfold Work.setExtents
  dsimp only
  rw [hnew, show Config.extentsLow = 164064 from rfl]
  exact if_neg fun ⟨h1, h2⟩ => h.elim (fun h => absurd h1 (not_le.2 h)) fun h => absurd h2 (not_lt.2 h)

theorem Work.setExtents_low {q : List Piece} (h1 : 164064 ≤ (w.cw.slot i).queued) (h2 : (q.map Piece.count).sum < 164064) :
    w.setExtents i q = (w.mapSlot i fun x => { x with extents := q }).raise .extentsLow
      (leBytes 4 (w.mapSlot i fun x => { x with extents := q }).cw.a.queued ++
        leBytes 4 (w.mapSlot i fun x => { x with extents := q }).cw.b.queued) := by
  have hnew : ((w.mapSlot i fun x => { x with extents := q }).cw.slot i).queued = (q.map Piece.count).sum := by
    rw [Cw.slot_mapSlot]
    rfl
  unfold Work.setExtents
  dsimp only
  rw [hnew]
  exact if_pos ⟨h1, h2⟩

end

/-! ### Changes of duties one by one -/

/-- A change of the duty that a reference names, in its row. -/
def DutyRef.change (q : DutyRef) (f : CardDuty → CardDuty) (z : Row) : Row := { z with cards := z.cards.modify q.place f }

/-- A change of the duties that a list of references names. -/
def Bm.changes (b : Bm) (f : CardDuty → CardDuty) (l : List DutyRef) : Bm :=
  l.foldl (fun b q => b.mapRow q.row (q.change f)) b

/-- A row but for its card duties. -/
def Row.sansCards (r : Row) : Row := { r with cards := [] }

section
variable {b : Bm} {q p : DutyRef} {f : CardDuty → CardDuty} {r : Row} {x : CardDuty} {l : List DutyRef}

theorem Bm.change_row (hr : b.row? p.row = some r) :
    (b.mapRow q.row (q.change f)).row? p.row = some (if p.row = q.row then q.change f r else r) := by
  rw [Bm.row?_mapRow (f := q.change f) b q.row p.row fun _ => rfl, hr]
  rfl

/-- Another duty stands, and all of its row but the duty changed. -/
theorem Bm.change_other (hr : b.row? p.row = some r) (hp : p ≠ q) : ∃ z, (b.mapRow q.row (q.change f)).row? p.row = some z ∧
    z.sansCards = r.sansCards ∧ z.cards[p.place]? = r.cards[p.place]? := by
  refine ⟨_, Bm.change_row hr, ?_, ?_⟩
  · split <;> rfl
  · split
    · next hrow =>
      have hplace : q.place ≠ p.place := fun h => hp (by cases p; cases q; cases hrow; cases h; rfl)
      show (r.cards.modify q.place f)[p.place]? = _
      rw [List.getElem?_modify]
      simp only [hplace, if_false, Option.map_eq_map, Option.map_id']
    · rfl

theorem Bm.changes_other (hr : b.row? p.row = some r) (hp : p ∉ l) : ∃ z, (b.changes f l).row? p.row = some z ∧
    z.sansCards = r.sansCards ∧ z.cards[p.place]? = r.cards[p.place]? := by
  induction l generalizing b r with
  | nil => exact ⟨r, hr, rfl, rfl⟩
  | cons q l ih =>
    obtain ⟨y, hy, hys, hyc⟩ := Bm.change_other (f := f) hr (fun h => hp (h ▸ List.mem_cons_self))
    obtain ⟨z, hz, hzs, hzc⟩ := ih hy fun h => hp (List.mem_cons_of_mem _ h)
    exact ⟨z, hz, hzs.trans hys, hzc.trans hyc⟩

theorem Bm.change_index : (b.mapRow q.row (q.change f)).rows.map Row.index = b.rows.map Row.index :=
  Bm.mapRow_index b q.row fun _ => rfl

theorem Bm.changes_index : (b.changes f l).rows.map Row.index = b.rows.map Row.index := by
  induction l generalizing b with
  | nil => rfl
  | cons q l ih => exact ih.trans Bm.change_index

end

/-! ### The walk of a selection (R132) -/

/-- A duty that waits for extents if it was PENDING. -/
def CardDuty.waits (x : CardDuty) : CardDuty := if x.state = .pending then { x with state := .waitingExtents } else x

theorem CardDuty.waits_chain (x : CardDuty) : x.waits.chain = x.chain := by
  unfold CardDuty.waits
  split <;> rfl

section
variable {w : Work} {i : SlotId} {r : Row} {x : CardDuty} {q : DutyRef}

/-- The extents of a slot cannot cover the chain of the duty a reference names. -/
def Work.tooLong (w : Work) (extents : List Piece) (q : DutyRef) : Prop :=
  ∃ x, w.duty? q = some x ∧ coverable extents (sectorNeed x.chain) = false

theorem Work.duty?_change (hr : w.bm.row? q.row = some r) (p : DutyRef) {f : CardDuty → CardDuty}
    (hf : ∀ x, (f x).chain = x.chain) :
    (Work.duty? { w with bm := w.bm.mapRow q.row (q.change f) } p).map CardDuty.chain = (w.duty? p).map CardDuty.chain := by
  unfold Work.duty?
  cases hp : w.bm.row? p.row with
  | none =>
    show (((w.bm.mapRow q.row (q.change f)).row? p.row).bind _).map _ = _
    rw [Bm.row?_mapRow (f := q.change f) w.bm q.row p.row fun _ => rfl, hp]
    rfl
  | some z =>
    show (((w.bm.mapRow q.row (q.change f)).row? p.row).bind _).map _ = _
    rw [Bm.change_row hp, Option.bind_some, Option.bind_some]
    split
    · show ((z.cards.modify q.place f)[p.place]?).map _ = _
      rw [List.getElem?_modify]
      cases z.cards[p.place]? with
      | none => rfl
      | some y =>
        simp only [Option.map_eq_map, Option.map_some]
        split
        · rw [hf]
        · rfl
    · rfl

/-- A duty that the first eight extents cannot cover is passed over, and waits for extents. -/
theorem Work.walk_passes (hnd : (w.bm.rows.map Row.index).Nodup) (hq : w.tooLong (w.cw.slot i).extents q)
    (l : List DutyRef) : Work.walk i (q :: l) w =
      Work.walk i l { w with bm := w.bm.mapRow q.row (q.change CardDuty.waits) } := by
  obtain ⟨x, hx, hcover⟩ := hq
  obtain ⟨r, hr, hcard⟩ := Option.bind_eq_some_iff.1 hx
  have hstep : (if x.state = .pending then w.mapDuty q fun y => { y with state := .waitingExtents } else w) =
      { w with bm := w.bm.mapRow q.row (q.change CardDuty.waits) } := by
    split
    · next hp =>
      rw [Work.mapDuty_eq hnd hr hcard (by rw [hp]; rfl)]
      refine congrArg (fun b => ({ w with bm := b } : Work)) (Bm.mapRow_congr hnd hr ?_)
      exact congrArg (fun l => { r with cards := l })
        (List.modify_congr hcard (show _ = x.waits by rw [CardDuty.waits, if_pos hp]))
    · next hp =>
      have hsame : q.change CardDuty.waits r = r := by
        unfold DutyRef.change
        rw [List.modify_congr (g := id) hcard (by rw [CardDuty.waits, if_neg hp]; rfl), List.modify_id]
      rw [Bm.mapRow_same hnd hr hsame]
  rw [Work.walk, hx]
  dsimp only
  rw [hcover, if_neg Bool.false_ne_true, hstep]

theorem Work.walk_passes_all (rest : List DutyRef) : ∀ (l : List DutyRef) {w : Work}, (w.bm.rows.map Row.index).Nodup →
    (∀ q ∈ l, w.tooLong (w.cw.slot i).extents q) →
    Work.walk i (l ++ rest) w = Work.walk i rest { w with bm := w.bm.changes CardDuty.waits l } := by
  intro l
  induction l with
  | nil => exact fun _ _ => rfl
  | cons q l ih =>
    intro w hnd hl
    obtain ⟨x, hx, -⟩ := hl q List.mem_cons_self
    obtain ⟨r, hr, -⟩ := Option.bind_eq_some_iff.1 hx
    rw [List.cons_append, Work.walk_passes hnd (hl q List.mem_cons_self)]
    refine ih (w := { w with bm := w.bm.mapRow q.row (q.change CardDuty.waits) }) (Bm.change_index.symm ▸ hnd) fun p hp => ?_
    obtain ⟨y, hy, hcover⟩ := hl p (List.mem_cons_of_mem _ hp)
    have hchain := Work.duty?_change hr p CardDuty.waits_chain
    rw [hy] at hchain
    obtain ⟨z, hz, hzc⟩ := Option.map_eq_some_iff.1 hchain
    exact ⟨z, hz, by rw [hzc]; exact hcover⟩

theorem Work.walk_finds (hx : w.duty? q = some x) (hc : coverable (w.cw.slot i).extents (sectorNeed x.chain) = true)
    (l : List DutyRef) : Work.walk i (q :: l) w = (some q, w) := by
  rw [Work.walk, hx]
  exact if_pos hc

/-- Every duty of the write queue waits for extents. -/
theorem Work.selectDuty_waits (hnd : (w.bm.rows.map Row.index).Nodup) (hs : (w.cw.slot i).state = .ready)
    (hop : (w.cw.slot i).op = .idle) (hstop : w.cw.stopped = false)
    (hq : ∀ q ∈ (w.cw.slot i).writeQ, w.tooLong (w.cw.slot i).extents q) :
    w.selectDuty i = { w with bm := w.bm.changes CardDuty.waits (w.cw.slot i).writeQ } := by
  cases hl : (w.cw.slot i).writeQ with
  | nil => exact Work.selectDuty_empty hl
  | cons q l =>
    have hmay : w.maySelect i = true := by
      rw [Work.maySelect, hop, hstop, hl]
      rfl
    have hwalk := Work.walk_passes_all (i := i) [] (w.cw.slot i).writeQ hnd hq
    rw [List.append_nil, hl] at hwalk
    unfold Work.selectDuty
    rw [if_pos ⟨hs, hmay⟩, hl, hwalk]
    rfl

/-! ### The pieces of a chain (R132) -/

theorem takePieces_cut {n : Nat} {cut : Piece} {back : List Piece} (h0 : 0 < n) (hn : n ≤ cut.count) (front : List Piece) :
    takePieces ((front.map Piece.count).sum + n) (front ++ cut :: back) =
      (front ++ [{ start := cut.start, count := n }],
        if n = cut.count then back else { start := cut.start + n, count := cut.count - n } :: back) := by
  induction front with
  | nil =>
    rw [List.map_nil, List.sum_nil, Nat.zero_add, List.nil_append, takePieces, if_neg (by omega)]
    by_cases h : n = cut.count
    · subst h
      have hnone : takePieces 0 back = ([], back) := by
        cases back <;> rfl
      rw [if_pos (le_refl _), if_pos rfl, Nat.sub_self, hnone]
      rfl
    · rw [if_neg (by omega), if_neg h]
      rfl
  | cons p front ih =>
    rw [List.map_cons, List.sum_cons, List.cons_append, takePieces, if_neg (by omega), if_pos (by omega),
      show p.count + (front.map Piece.count).sum + n - p.count = (front.map Piece.count).sum + n by omega, ih]
    rfl

end

end Sys2Proof.Machine
end

section
/-! PROOF. A chain begins on a slot (R132, R133), and how EXTENT_ADD and EXTENT_FLUSH are judged (R125, R126). -/

namespace Sys2Proof.Machine

section
variable {w : Work} {i : SlotId} {r : Row} {x : CardDuty} {q : DutyRef}

/-- The next run of the writing duty (R133). -/
theorem Work.startRun_eq {wr : Writing} {p : Piece} (hw : (w.cw.slot i).writing = some wr)
    (hr : w.bm.row? wr.duty.row = some r) (hx : r.cards[wr.duty.place]? = some x)
    (hp : placeAt 256 x.pieces wr.written = some p) : w.startRun i = w.mapSlot i fun y => { y with
      op := .run p.start p.count (sectorData w.mem (r.pagesOf x.chain) (chainLength x.chain) wr.written p.count) } := by
  have hduty : w.duty? wr.duty = some x := (Work.duty?_row hr).trans hx
  unfold Work.startRun
  rw [hw]
  dsimp only
  rw [hduty, hr]
  dsimp only
  rw [show Config.runSectors = 256 from rfl, hp]

theorem Work.setExtents_eq (l : List Piece) : w.setExtents i l = { w.mapSlot i fun y => { y with extents := l } with
    cp := if 164064 ≤ (w.cw.slot i).queued ∧ (l.map Piece.count).sum < 164064 then
        w.cp.raise .extentsLow (leBytes 4 (w.mapSlot i fun y => { y with extents := l }).cw.a.queued ++
          leBytes 4 (w.mapSlot i fun y => { y with extents := l }).cw.b.queued)
      else w.cp } := by
  have hcp : (w.mapSlot i fun y => { y with extents := l }).cp = w.cp := by cases i <;> rfl
  by_cases h : 164064 ≤ (w.cw.slot i).queued ∧ (l.map Piece.count).sum < 164064
  · rw [if_pos h, Work.setExtents_low h.1 h.2, Work.raise, hcp]
  · rw [if_neg h, Work.setExtents_quiet (by omega), ← hcp]

/-- The record of a slot that has begun a chain of which the first piece is `f`. -/
def Slot.begun (y : Slot) (q : DutyRef) (left : List Piece) (f : Piece) (data : List Byte) : Slot := { y with
  extents := left, writeQ := y.writeQ.filter fun e => !decide (e = q), writing := some { duty := q, written := 0 },
  runsSince := 1, state := .writing, op := .run f.start (min 256 f.count) data }

/-- The chosen duty takes its pieces, becomes the writing duty, and its first run starts (R132, R133). -/
theorem Work.beginChain_eq {f : Piece} {more left : List Piece} (hnd : (w.bm.rows.map Row.index).Nodup)
    (hr : w.bm.row? q.row = some r) (hx : r.cards[q.place]? = some x) (hf : x.state.isFinal = false)
    (ht : takePieces (sectorNeed x.chain) (w.cw.slot i).extents = (f :: more, left)) (h0 : 0 < f.count) :
    w.beginChain i q = { w.mapSlot i fun y => y.begun q left f
        (sectorData w.mem (r.pagesOf x.chain) (chainLength x.chain) 0 (min 256 f.count)) with
      bm := w.bm.mapRow q.row (q.change fun y => { y with state := .writing, pieces := f :: more })
      cp := (w.setExtents i left).cp } := by
  have hduty : w.duty? q = some x := (Work.duty?_row hr).trans hx
  obtain ⟨v, hv⟩ : ∃ v : Work, v = { w.mapSlot i fun y => { y with
        extents := left, writeQ := y.writeQ.filter fun e => !Decidable.decide (e = q),
        writing := some { duty := q, written := 0 }, runsSince := 1, state := .writing } with
      bm := w.bm.mapRow q.row (q.change fun y => { y with state := .writing, pieces := f :: more })
      cp := (w.setExtents i left).cp } := ⟨_, rfl⟩
  have hbm : v.bm = w.bm.mapRow q.row (q.change fun y => { y with state := .writing, pieces := f :: more }) := by rw [hv]
  have hslot : v.cw.slot i = { w.cw.slot i with
      extents := left, writeQ := (w.cw.slot i).writeQ.filter fun e => !Decidable.decide (e = q),
      writing := some { duty := q, written := 0 }, runsSince := 1, state := .writing } := by
    rw [hv]
    exact Cw.slot_mapSlot w i _
  have hrow : v.bm.row? q.row = some (q.change (fun y => { y with state := .writing, pieces := f :: more }) r) := by
    rw [hbm, Bm.change_row hr, if_pos rfl]
  have hcard : (q.change (fun y => { y with state := .writing, pieces := f :: more }) r).cards[q.place]? =
      some { x with state := .writing, pieces := f :: more } := by
    show (r.cards.modify q.place _)[q.place]? = _
    rw [List.getElem?_modify, hx]
    simp only [if_true, Option.map_eq_map, Option.map_some]
  have hplace : placeAt 256 (f :: more) 0 = some { start := f.start, count := min 256 f.count } := by
    rw [placeAt, if_pos h0]
    rfl
  have hrun := Work.startRun_eq (w := v) (i := i) (wr := { duty := q, written := 0 }) (by rw [hslot]) hrow hcard hplace
  have hbegin : w.beginChain i q = v.startRun i := by
    unfold Work.beginChain
    rw [hduty]
    dsimp only
    rw [ht, Work.mapDuty_eq hnd hr hx hf]
    dsimp only
    rw [hv, Work.setExtents_eq, Work.setExtents_eq]
    cases i <;> rfl
  rw [hbegin, hrun, hv]
  cases i <;> rfl

end

end Sys2Proof.Machine
end

section
/-! PROOF. EXTENT_ADD and EXTENT_FLUSH (R125, R126, R132, R133). -/

namespace Sys2Proof.Machine

/-! ### The selection that an extent brings -/

section
variable {w : Work} {i : SlotId} {r : Row} {x : CardDuty} {q : DutyRef}

/-- The first duty of the write queue that the extents cover begins its chain (R132). -/
theorem Work.selectDuty_begins {pre post : List DutyRef} {extents : List Piece} (hnd : (w.bm.rows.map Row.index).Nodup)
    (hs : (w.cw.slot i).state = .ready) (hop : (w.cw.slot i).op = .idle) (hstop : w.cw.stopped = false)
    (he : (w.cw.slot i).extents = extents) (hq : (w.cw.slot i).writeQ = pre ++ q :: post)
    (hpre : ∀ y ∈ pre, w.tooLong extents y) (hnot : q ∉ pre) (hr : w.bm.row? q.row = some r)
    (hx : r.cards[q.place]? = some x) (hc : coverable extents (sectorNeed x.chain) = true) :
    w.selectDuty i = (Work.beginChain i q { w with bm := w.bm.changes CardDuty.waits pre }).slotChanged := by
  have hmay : w.maySelect i = true := by
    rw [Work.maySelect, hop, hstop, hq]
    cases pre <;> rfl
  obtain ⟨z, hz, hzs, hzc⟩ := Bm.changes_other (f := CardDuty.waits) hr hnot
  have hduty : Work.duty? { w with bm := w.bm.changes CardDuty.waits pre } q = some x := by
    rw [Work.duty?_row hz, hzc, hx]
  have hwalk := Work.walk_passes_all (i := i) (q :: post) pre hnd (by rw [he]; exact hpre)
  rw [Work.walk_finds hduty (by rw [← he] at hc; exact hc)] at hwalk
  unfold Work.selectDuty
  rw [if_pos ⟨hs, hmay⟩, hq, hwalk]

end

/-! ### The judgment of EXTENT_ADD (R125) -/

section
variable {w : Work} {i : SlotId} {e : Piece}

/-- The payload of EXTENT_ADD (R197). -/
def Piece.payload (e : Piece) (i : SlotId) : List Byte := slotByte i :: (leBytes 4 e.start ++ leBytes 4 e.count)

theorem answerExtentAdd_eq (hs : e.start < 2 ^ 32) (hc : e.count < 2 ^ 32) : answerExtentAdd (e.payload i) w =
    if (w.cw.slot i).state = .absent ∨ (w.cw.slot i).state = .present ∨ (w.cw.slot i).state = .fault then .refused .state
    else if e.count = 0 ∨ (w.cw.slot i).capacity.getD 0 < e.start + e.count then .refused .badArg
    else if ((w.taboo i).any fun x => x.overlaps e) = true then .refused .conflict
    else if 32 ≤ (w.cw.slot i).extents.length then .refused .full
    else .taken ((w.setExtents i ((w.cw.slot i).extents ++ [e])).selectDuty i)
      (BitVec.ofNat 8 ((w.cw.slot i).extents ++ [e]).length ::
        leBytes 4 (((w.cw.slot i).extents ++ [e]).map Piece.count).sum) := by
  have h4 : (leBytes 4 e.start).length = 4 := leBytes_length 4 _
  have hb : e.payload i = [slotByte i] ++ (leBytes 4 e.start ++ (leBytes 4 e.count ++ [])) := by
    rw [List.append_nil]
    rfl
  have hstart : fieldAt (e.payload i) 1 4 = e.start := by
    rw [hb]
    exact (fieldAt_behind (j := 1) 0 4 rfl).trans (fieldAt_front _ (by omega))
  have hcount : fieldAt (e.payload i) 5 4 = e.count := by
    rw [hb]
    exact (fieldAt_behind (j := 1) 4 4 rfl).trans ((fieldAt_behind (j := 4) 0 4 h4).trans (fieldAt_front _ (by omega)))
  have hslot : slotOf (byteAt (e.payload i) 0) = some i := slotOf_byte i
  have hset : (w.setExtents i ((w.cw.slot i).extents ++ [e])).cw.slot i =
      { w.cw.slot i with extents := (w.cw.slot i).extents ++ [e] } := by
    rw [Work.setExtents_eq]
    exact Cw.slot_mapSlot w i _
  unfold answerExtentAdd
  rw [hslot]
  dsimp only
  rw [hstart, hcount, hset]
  rfl

/-- The runs that an added extent may not overlap, while the slot writes nothing or with the writing duty known. -/
theorem Work.taboo_idle (h : (w.cw.slot i).writing = none) :
    w.taboo i = (w.cw.slot i).range.toList ++ (w.cw.slot i).extents := by
  rw [Work.taboo, h]
  exact List.append_nil _

theorem Work.taboo_writing {wr : Writing} {x : CardDuty} (h : (w.cw.slot i).writing = some wr)
    (hx : w.duty? wr.duty = some x) :
    w.taboo i = (w.cw.slot i).range.toList ++ (w.cw.slot i).extents ++ x.pieces := by
  rw [Work.taboo, h, Option.bind_some, hx]
  rfl

theorem Piece.overlaps_any {l : List Piece} :
    (l.any fun x => x.overlaps e) = true ↔ ∃ o ∈ l, o.start < e.start + e.count ∧ e.start < o.start + o.count := by
  rw [List.any_eq_true]
  simp only [Piece.overlaps, Bool.and_eq_true, decide_eq_true_eq]

theorem Piece.overlaps_none {l : List Piece}
    (h : ∀ o ∈ l, e.start + e.count ≤ o.start ∨ o.start + o.count ≤ e.start) :
    ¬ (l.any fun x => x.overlaps e) = true := by
  rw [Piece.overlaps_any]
  rintro ⟨o, ho, h1, h2⟩
  have := h o ho
  omega

end

section
variable {w : Work} {i : SlotId} {e : Piece} {cap : Nat} {l : List Piece} (hs : e.start < 2 ^ 32) (hc : e.count < 2 ^ 32)
include hs hc

theorem answerExtentAdd_state
    (h : (w.cw.slot i).state = .absent ∨ (w.cw.slot i).state = .present ∨ (w.cw.slot i).state = .fault) :
    answerExtentAdd (e.payload i) w = .refused .state := by
  rw [answerExtentAdd_eq hs hc, if_pos h]

variable (hst : (w.cw.slot i).state ≠ .absent ∧ (w.cw.slot i).state ≠ .present ∧ (w.cw.slot i).state ≠ .fault)
  (hcap : (w.cw.slot i).capacity = some cap)
include hst hcap

theorem answerExtentAdd_badArg (h : e.count = 0 ∨ cap < e.start + e.count) :
    answerExtentAdd (e.payload i) w = .refused .badArg := by
  obtain ⟨h1, h2, h3⟩ := hst
  rw [answerExtentAdd_eq hs hc, if_neg (by rintro (h | h | h) <;> contradiction), hcap]
  exact if_pos h

variable (h0 : 0 < e.count) (hfit : e.start + e.count ≤ cap) (hl : w.taboo i = l)
include h0 hfit hl

theorem answerExtentAdd_fits : answerExtentAdd (e.payload i) w =
    if (l.any fun x => x.overlaps e) = true then .refused .conflict
    else if 32 ≤ (w.cw.slot i).extents.length then .refused .full
    else .taken ((w.setExtents i ((w.cw.slot i).extents ++ [e])).selectDuty i)
      (BitVec.ofNat 8 ((w.cw.slot i).extents ++ [e]).length ::
        leBytes 4 (((w.cw.slot i).extents ++ [e]).map Piece.count).sum) := by
  obtain ⟨h1, h2, h3⟩ := hst
  rw [answerExtentAdd_eq hs hc, if_neg (by rintro (h | h | h) <;> contradiction), hcap,
    if_neg (show ¬ (e.count = 0 ∨ (some cap).getD 0 < e.start + e.count) by
      rw [Option.getD_some]
      omega), hl]

theorem answerExtentAdd_conflict (h : ∃ o ∈ l, o.start < e.start + e.count ∧ e.start < o.start + o.count) :
    answerExtentAdd (e.payload i) w = .refused .conflict := by
  rw [answerExtentAdd_fits hs hc hst hcap h0 hfit hl, if_pos (Piece.overlaps_any.2 h)]

variable (hfree : ∀ o ∈ l, e.start + e.count ≤ o.start ∨ o.start + o.count ≤ e.start)
include hfree

theorem answerExtentAdd_full (h : 32 ≤ (w.cw.slot i).extents.length) :
    answerExtentAdd (e.payload i) w = .refused .full := by
  rw [answerExtentAdd_fits hs hc hst hcap h0 hfit hl, if_neg (Piece.overlaps_none hfree), if_pos h]

/-- The extent joins the queue, and a selection follows. -/
theorem answerExtentAdd_joins (h : (w.cw.slot i).extents.length < 32) : answerExtentAdd (e.payload i) w =
    .taken (Work.selectDuty i (w.mapSlot i fun y => { y with extents := y.extents ++ [e] }))
      (BitVec.ofNat 8 ((w.cw.slot i).extents ++ [e]).length ::
        leBytes 4 (((w.cw.slot i).extents ++ [e]).map Piece.count).sum) := by
  have hquiet : w.setExtents i ((w.cw.slot i).extents ++ [e]) = w.mapSlot i fun y => { y with extents := y.extents ++ [e] } := by
    rw [Work.setExtents_quiet ?_]
    · exact Work.mapSlot_congr i rfl
    · rw [List.map_append, List.sum_append]
      show (((w.cw.slot i).extents.map Piece.count).sum < _ ∨ _)
      omega
  rw [answerExtentAdd_fits hs hc hst hcap h0 hfit hl, if_neg (Piece.overlaps_none hfree), if_neg (by omega), hquiet]

end

theorem answerExtentFlush_busy {w : Work} {i : SlotId}
    (h : (w.cw.slot i).state = .writing ∨ (w.cw.slot i).state = .suspended) :
    answerExtentFlush [slotByte i] w = .refused .busy := by
  unfold answerExtentFlush
  rw [show byteAt [slotByte i] 0 = slotByte i from rfl, slotOf_byte]
  dsimp only
  rcases h with h | h <;> rw [h]

theorem answerExtentFlush_taken {w : Work} {i : SlotId}
    (h : (w.cw.slot i).state = .ready ∨ (w.cw.slot i).state = .locked ∨ (w.cw.slot i).state = .fault) :
    answerExtentFlush [slotByte i] w = .taken (w.setExtents i []) [BitVec.ofNat 8 (w.cw.slot i).extents.length] := by
  unfold answerExtentFlush
  rw [show byteAt [slotByte i] 0 = slotByte i from rfl, slotOf_byte]
  dsimp only
  rcases h with h | h | h <;> rw [h]

end Sys2Proof.Machine
end

section
/-! PROOF. The statement about extents (R125, R126, R132, R133). -/

namespace Sys2Proof.Machine

section
variable {s t : State} {i : SlotId} {x y : Slot}

theorem State.setSlot_port (s : State) (i : SlotId) (x : Slot) (cp : Cp) (sent : List Output) :
    ({ s with cp := cp, sent := sent } : State).setSlot i x = { s.setSlot i x with cp := cp, sent := sent } := by
  cases i <;> rfl

/-- The warning sequence stands where the writing of a slot does. -/
theorem State.steady_setSlot (h : s.steady) (hx : s.cw.slot i = x) (hw : y.writing = x.writing) : (s.setSlot i y).steady :=
  State.steady_reads (t := s.setSlot i y) hx (fun _ => y) hw (by cases i <;> rfl) (by cases i <;> rfl) h

/-- The warning sequence stands where a slot writes. -/
theorem State.steady_writing {wr : Writing} (h : s.steady) (hp : t.pwc = s.pwc) (hw : (t.cw.slot i).writing = some wr) :
    t.steady := by
  intro r hr
  refine ⟨(h r (hp ▸ hr)).1, ?_⟩
  cases i with
  | a =>
    show (t.cw.a.writing.isNone && _) = _
    rw [show t.cw.a.writing = some wr from hw]
    rfl
  | b =>
    show (_ && t.cw.b.writing.isNone) = _
    rw [show t.cw.b.writing = some wr from hw]
    exact Bool.and_false _

end

/-- The state in which a slot has begun a chain, with the notice of its extents (R126). -/
def State.begun (s : State) (i : SlotId) (y : Slot) (b : Bm) (before after : Nat) : State :=
  let t : State := { s.setSlot i y with bm := b }
  if 164064 ≤ before ∧ after < 164064 then t.raised .extentsLow (leBytes 4 t.cw.a.queued ++ leBytes 4 t.cw.b.queued)
  else t

theorem State.begun_kept (s : State) (i : SlotId) (y : Slot) (b : Bm) (m n : Nat) :
    ((s.begun i y b m n).pwc, (s.begun i y b m n).cw.slot i) = (s.pwc, y) := by
  unfold State.begun
  dsimp only
  split <;> cases i <;> rfl

theorem State.begun_setSlot (s : State) (i : SlotId) (x y : Slot) (b : Bm) (m n : Nat) :
    (s.setSlot i x).begun i y b m n = s.begun i y b m n := by
  cases i <;> rfl

/-- The work in which a chain has begun is that state. -/
theorem Work.begun_slotChanged {v : Work} {i : SlotId} {y : Slot} {g : Slot → Slot} {l : List Piece} {b b0 : Bm}
    (hy : y.extents = l) (hg : g (v.cw.slot i) = y) :
    Work.slotChanged { Work.mapSlot i g { v with bm := b0 } with
      bm := b, cp := (Work.setExtents i l { v with bm := b0 }).cp } =
    { v with toState := (v.toState.begun i y b (v.cw.slot i).queued (l.map Piece.count).sum).slotChange } := by
  subst hy
  have hmap := Work.mapSlot_congr (w := { v with bm := b0 }) (g := fun _ => y) i hg
  rw [hmap, Work.setExtents_eq]
  unfold State.begun
  dsimp only
  split <;> cases i <;> rfl

section
variable {tag : Byte} {i : SlotId} {x : Slot} {e : Piece} {s : State}

/-- A run that joins the extent queue with no selection to follow. -/
theorem extentAdd_joins {cap : Nat} {l : List Piece} (hs : s.answers) (hx : s.cw.slot i = x) (h1 : e.start < 2 ^ 32)
    (h2 : e.count < 2 ^ 32) (hst : x.state ≠ .absent ∧ x.state ≠ .present ∧ x.state ≠ .fault) (hcap : x.capacity = some cap)
    (h0 : 0 < e.count) (hfit : e.start + e.count ≤ cap)
    (hl : ∀ cp sent, Work.taboo { toState := { s with cp := cp, sent := sent }, bus := [] } i = l)
    (hfree : ∀ o ∈ l, e.start + e.count ≤ o.start ∨ o.start + o.count ≤ e.start) (hlen : x.extents.length < 32)
    (hrest : x.writeQ = [] ∨ x.state ≠ .ready) :
    exec (.extentAdd tag (e.payload i)) s = .next ((s.setSlot i { x with extents := x.extents ++ [e] }).replied .extentAdd
      tag (0 :: BitVec.ofNat 8 (x.extents.length + 1) :: leBytes 4 (x.queued + e.count))) := by
  subst hx
  have hsize : (e.payload i).length = Request.extentAdd.size := by
    rw [Piece.payload, List.length_cons, List.length_append, leBytes_length, leBytes_length]
    rfl
  have hbody : (BitVec.ofNat 8 ((s.cw.slot i).extents ++ [e]).length ::
      leBytes 4 (((s.cw.slot i).extents ++ [e]).map Piece.count).sum : List Byte) =
      BitVec.ofNat 8 ((s.cw.slot i).extents.length + 1) :: leBytes 4 ((s.cw.slot i).queued + e.count) := by
    rw [List.length_append, List.map_append, List.sum_append]
    rfl
  refine request_done .extentAdd (t := s.setSlot i { s.cw.slot i with extents := (s.cw.slot i).extents ++ [e] }) hs hsize
    (by cases i <;> rfl) (by cases i <;> rfl) (State.steady_setSlot hs.2.1 rfl rfl) fun cp sent => ?_
  have hjoin := answerExtentAdd_joins (w := { toState := { s with cp := cp, sent := sent }, bus := [] }) h1 h2 hst hcap h0 hfit
    (hl cp sent) hfree hlen
  have hrests : Work.selectDuty i (Work.mapSlot i (fun y => { y with extents := y.extents ++ [e] })
      { toState := { s with cp := cp, sent := sent }, bus := [] }) =
      Work.mapSlot i (fun y => { y with extents := y.extents ++ [e] }) { toState := { s with cp := cp, sent := sent }, bus := [] } := by
    rcases hrest with hq | hn
    · exact Work.selectDuty_empty (by rw [Cw.slot_mapSlot]; exact hq)
    · unfold Work.selectDuty
      exact if_neg fun h => hn (by rw [Cw.slot_mapSlot] at h; exact h.1)
  rw [hrests, Work.mapSlot_setSlot] at hjoin
  refine ⟨_, hjoin.trans (congrArg (Answer.taken _) hbody), ?_⟩
  show Work.Comes { toState := State.setSlot _ i _, bus := [] } _ _
  rw [State.setSlot_port]
  exact .done _

end

/-- Settles O50: EXTENT_ADD and EXTENT_FLUSH, with the selection that an added extent brings. -/
theorem extentsAreQueuedAndFlushed : Obligations.ExtentsAreQueuedAndFlushed := by
  unfold Obligations.ExtentsAreQueuedAndFlushed
  intro tag i x e s hs hx h1 h2 p
  subst hx
  have hsize : (e.payload i).length = Request.extentAdd.size := by
    rw [Piece.payload, List.length_cons, List.length_append, leBytes_length, leBytes_length]
    rfl
  have howner (p : List Byte) (w : Work) : Request.extentAdd.owner p w = answerExtentAdd p w := rfl
  refine ⟨fun hst => ?_, fun hst cap hcap => ?_, fun cap wr r d hst hcap hwr hr hd => ?_, fun hst => ?_, fun hst => ?_⟩
  · exact request_turned .extentAdd .state rfl hs hsize fun cp sent => answerExtentAdd_state h1 h2 hst
  · have hne : (s.cw.slot i).state ≠ .absent ∧ (s.cw.slot i).state ≠ .present ∧ (s.cw.slot i).state ≠ .fault := by
      rcases hst with h | h <;> rw [h] <;> decide
    refine ⟨fun hbad => ?_, fun h0 hfit hw => ?_⟩
    · exact request_turned .extentAdd .badArg rfl hs hsize fun cp sent => answerExtentAdd_badArg h1 h2 hne hcap hbad
    have htaboo (cp : Cp) (sent : List Output) : Work.taboo { toState := { s with cp := cp, sent := sent }, bus := [] } i =
        (s.cw.slot i).range.toList ++ (s.cw.slot i).extents := Work.taboo_idle hw
    refine ⟨fun hover => ?_, fun hfree => ⟨fun hfull => ?_, fun hlen hq => ?_, fun hlen hready hop hstop hnd => ?_⟩⟩
    · exact request_turned .extentAdd .conflict rfl hs hsize fun cp sent =>
        answerExtentAdd_conflict h1 h2 hne hcap h0 hfit (htaboo cp sent) hover
    · exact request_turned .extentAdd .full rfl hs hsize fun cp sent =>
        answerExtentAdd_full h1 h2 hne hcap h0 hfit (htaboo cp sent) hfree hfull
    · exact extentAdd_joins hs rfl h1 h2 hne hcap h0 hfit htaboo hfree hlen (.inl hq)
    intro all body fits tooLong wait
    have htoo (w : Work) (hw : w.bm = s.bm) {q : DutyRef} (h : tooLong q = true) : w.tooLong all q := by
      obtain ⟨d, hd, hfit⟩ := (Option.any_eq_true _ _).1 h
      refine ⟨d, by rw [Work.duty?, hw]; exact hd, ?_⟩
      simpa only [fits, Bool.not_eq_true', coverable] using hfit
    refine ⟨fun hall => ?_, fun pre q post r d front cut n back f more hq hpre hpost htl hr hd hstate hfits hcut hn0 hncut hsum hfm hf0 => ?_⟩
    · refine request_done .extentAdd (body := body.tail) (t := { s.setSlot i { s.cw.slot i with extents := all } with
          bm := wait (s.cw.slot i).writeQ }) hs hsize (by cases i <;> rfl) (by cases i <;> rfl)
        (State.steady_congr (s := s.setSlot i { s.cw.slot i with extents := all }) rfl rfl (State.steady_setSlot hs.2.1 rfl rfl))
        fun cp sent => ?_
      have hjoin := answerExtentAdd_joins (w := { toState := { s with cp := cp, sent := sent }, bus := [] }) h1 h2 hne hcap h0
        hfit (htaboo cp sent) hfree hlen
      refine ⟨_, hjoin, ?_⟩
      obtain ⟨v, hv⟩ : ∃ v : Work, v = Work.mapSlot i (fun y => { y with extents := y.extents ++ [e] })
        { toState := { s with cp := cp, sent := sent }, bus := [] } := ⟨_, rfl⟩
      have hslot : v.cw.slot i = { s.cw.slot i with extents := all } := by rw [hv, Cw.slot_mapSlot]
      have hbm : v.bm = s.bm := by rw [hv, Work.mapSlot_bm]
      have hstopped : v.cw.stopped = false := by rw [hv]; cases i <;> exact hstop
      rw [← hv, Work.selectDuty_waits (by rw [hbm]; exact hnd) (by rw [hslot]; exact hready) (by rw [hslot]; exact hop)
        hstopped (by rw [hslot]; exact fun y hy => htoo v hbm (hall y hy)), hslot, hbm, hv, Work.mapSlot_setSlot,
        State.setSlot_port]
      exact .done _
    · intro left t
      obtain ⟨y, hy⟩ : ∃ y : Slot, y = { s.cw.slot i with
          extents := left, writeQ := pre ++ post, writing := some { duty := q, written := 0 }, runsSince := 1,
          state := .writing,
          op := .run f.start (min 256 f.count)
            (sectorData s.mem (r.pagesOf d.chain) (chainLength d.chain) 0 (min 256 f.count)) } := ⟨_, rfl⟩
      refine Eq.trans (request_comes .extentAdd (body := body.tail) (fun z => (z.begun i y
          ((wait pre).mapRow q.row (q.change fun d => { d with state := .writing, pieces := f :: more })) (all.map Piece.count).sum
          (left.map Piece.count).sum).slotChange) hs hsize (fun cp sent => ?_) fun cp sent => ?_) (by rw [hy]; rfl)
      · refine State.steady_writing (s := s) (i := i) (wr := { duty := q, written := 0 }) hs.2.1 ?_ ?_
        · exact congrArg Prod.fst (State.begun_kept _ i y _ _ _)
        · refine (congrArg (fun z : Pwc × Slot => z.2.writing) (State.begun_kept _ i y _ _ _)).trans ?_
          rw [hy]
      have hjoin := answerExtentAdd_joins (w := { toState := { s with cp := cp, sent := sent }, bus := [] }) h1 h2 hne hcap h0
        hfit (htaboo cp sent) hfree hlen
      refine ⟨_, hjoin, ?_⟩
      obtain ⟨v, hv⟩ : ∃ v : Work, v = Work.mapSlot i (fun y => { y with extents := y.extents ++ [e] })
        { toState := { s with cp := cp, sent := sent }, bus := [] } := ⟨_, rfl⟩
      have hslot : v.cw.slot i = { s.cw.slot i with extents := all } := by rw [hv, Cw.slot_mapSlot]
      have hbm : v.bm = s.bm := by rw [hv, Work.mapSlot_bm]
      have hmem : v.mem = s.mem := by rw [hv, Work.mapSlot_mem]
      have hstopped : v.cw.stopped = false := by rw [hv]; cases i <;> exact hstop
      have hfinal : d.state.isFinal = false := by rcases hstate with h | h <;> rw [h] <;> rfl
      have hselect := Work.selectDuty_begins (w := v) (i := i) (by rw [hbm]; exact hnd) (by rw [hslot]; exact hready)
        (by rw [hslot]; exact hop) hstopped (by rw [hslot]) (by rw [hslot]; exact hq) (fun z hz => htoo v hbm (htl z hz)) hpre
        (by rw [hbm]; exact hr) hd hfits
      obtain ⟨z, hz, hzs, hzc⟩ := Bm.changes_other (b := v.bm) (f := CardDuty.waits) (by rw [hbm]; exact hr) hpre
      have htake : takePieces (sectorNeed d.chain) all = (f :: more, left) := by
        rw [← hsum, hcut, takePieces_cut hn0 hncut, hfm]
      have hpages : z.pagesOf d.chain = r.pagesOf d.chain := by
        have hraw := congrArg (fun x : Row => x.pagesOf d.chain) hzs
        cases hch : d.chain <;> rw [hch] at hraw <;> exact hraw
      have hfilter : (s.cw.slot i).writeQ.filter (fun e => !decide (e = q)) = pre ++ post := by
        have hkeep (l : List DutyRef) (hl : q ∉ l) : l.filter (fun e => !decide (e = q)) = l := by
          refine List.filter_eq_self.2 fun e he => ?_
          rw [decide_eq_false fun h : e = q => hl (h ▸ he)]
          rfl
        rw [hq, List.filter_append, List.filter_cons, decide_eq_true rfl, hkeep pre hpre, hkeep post hpost]
        rfl
      have hbegin := Work.beginChain_eq (w := { v with bm := v.bm.changes CardDuty.waits pre }) (i := i) (f := f)
        (more := more) (left := left) (by show ((v.bm.changes _ pre).rows.map _).Nodup; rw [Bm.changes_index, hbm]; exact hnd) hz (hzc.trans hd)
        hfinal (by show takePieces _ (v.cw.slot i).extents = _; rw [hslot]; exact htake) hf0
      have hbegun : (v.cw.slot i).begun q left f
          (sectorData v.mem (z.pagesOf d.chain) (chainLength d.chain) 0 (min 256 f.count)) = y := by
        rw [hslot, hmem, hpages, hy, Slot.begun, hfilter]
      have hqueued : (v.cw.slot i).queued = (all.map Piece.count).sum := by rw [hslot]; rfl
      rw [← hv, hselect, hbegin, Work.begun_slotChanged (y := y) (by rw [hy]) hbegun, hqueued, hbm, hv, Work.mapSlot_setSlot,
        State.begun_setSlot]
      exact .done _
  · have hne : (s.cw.slot i).state ≠ .absent ∧ (s.cw.slot i).state ≠ .present ∧ (s.cw.slot i).state ≠ .fault := by
      rcases hst with h | h <;> rw [h] <;> decide
    have htaboo (cp : Cp) (sent : List Output) : Work.taboo { toState := { s with cp := cp, sent := sent }, bus := [] } i =
        (s.cw.slot i).range.toList ++ (s.cw.slot i).extents ++ d.pieces :=
      Work.taboo_writing hwr ((Work.duty?_row hr).trans hd)
    refine ⟨fun hbad => ?_, fun h0 hfit => ⟨fun hover => ?_, fun hfree => ⟨fun hfull => ?_, fun hlen => ?_⟩⟩⟩
    · exact request_turned .extentAdd .badArg rfl hs hsize fun cp sent => answerExtentAdd_badArg h1 h2 hne hcap hbad
    · exact request_turned .extentAdd .conflict rfl hs hsize fun cp sent =>
        answerExtentAdd_conflict h1 h2 hne hcap h0 hfit (htaboo cp sent) hover
    · exact request_turned .extentAdd .full rfl hs hsize fun cp sent =>
        answerExtentAdd_full h1 h2 hne hcap h0 hfit (htaboo cp sent) hfree hfull
    · refine extentAdd_joins hs rfl h1 h2 hne hcap h0 hfit htaboo hfree hlen (.inr ?_)
      rcases hst with h | h <;> rw [h] <;> decide
  · intro t
    refine Eq.trans (request_comes .extentFlush (body := [BitVec.ofNat 8 (s.cw.slot i).extents.length]) (fun z =>
      if 164064 ≤ (s.cw.slot i).queued then (z.setSlot i { s.cw.slot i with extents := [] }).raised .extentsLow
        (leBytes 4 (z.setSlot i { s.cw.slot i with extents := [] }).cw.a.queued ++
          leBytes 4 (z.setSlot i { s.cw.slot i with extents := [] }).cw.b.queued)
      else z.setSlot i { s.cw.slot i with extents := [] }) hs rfl (fun cp sent => ?_) fun cp sent => ?_) rfl
    · have hflush : ((({ s with cp := cp, sent := sent } : State).setSlot i { s.cw.slot i with extents := [] })).steady :=
        State.steady_setSlot (s := { s with cp := cp, sent := sent }) hs.2.1 rfl rfl
      dsimp only
      split
      · exact State.steady_congr (s := ({ s with cp := cp, sent := sent } : State).setSlot i _) rfl rfl hflush
      · exact hflush
    · refine ⟨_, answerExtentFlush_taken hst, ?_⟩
      rw [Work.setExtents_eq]
      dsimp only
      have hlow : (164064 ≤ (s.cw.slot i).queued ∧ (([] : List Piece).map Piece.count).sum < 164064) ↔
          164064 ≤ (s.cw.slot i).queued := and_iff_left (by decide)
      by_cases h : 164064 ≤ (s.cw.slot i).queued
      · rw [if_pos (hlow.2 h), if_pos h]
        cases i <;> exact .done _
      · rw [if_neg (fun g => h (hlow.1 g)), if_neg h]
        cases i <;> exact .done _
  · exact request_turned .extentFlush .busy rfl hs rfl fun cp sent => answerExtentFlush_busy hst

end Sys2Proof.Machine
end

section
/-! PROOF. The duties of a slot as it fails, gives up or takes its queue (R122, R123, R134, R136, R137, R142): rules for one
duty and for the queue in its order. -/

namespace Sys2Proof.Machine

/-! ### The record of a slot -/

section
variable {w : Work} {i : SlotId}

theorem Work.mapSlot_same {f : Slot → Slot} (h : f (w.cw.slot i) = w.cw.slot i) : w.mapSlot i f = w := by
  rw [Work.mapSlot_congr (g := id) i h]
  cases i <;> rfl

theorem Work.enterSlot_ne {st : SlotState} (h : (w.cw.slot i).state ≠ st) :
    w.enterSlot i st = (w.mapSlot i fun x => { x with state := st }).slotChanged := if_neg h

/-- No read waits or is in flight. -/
theorem Work.failReads_none (hop : (w.cw.slot i).op = .idle) (hr : (w.cw.slot i).reads = []) : w.failReads i = w := by
  unfold Work.failReads
  dsimp only
  rw [hop, hr]
  exact Work.mapSlot_same (by rw [← hr])

theorem Work.failQueue_empty {cause : CardCause} (h : (w.cw.slot i).writeQ = []) : w.failQueue i cause = w := by
  unfold Work.failQueue
  rw [h]
  dsimp only [List.foldl_nil]
  rw [Work.mapSlot_same (by rw [← h]), ite_self]

theorem Work.giveUp_empty {cause : CardCause} (h : (w.cw.slot i).writeQ = []) : w.giveUp i cause = w := by
  unfold Work.giveUp
  rw [h]
  dsimp only [List.foldl_nil]
  rw [Work.mapSlot_same (by rw [← h]), ite_self]

end

/-! ### One duty fails (R134, R142) -/

section
variable {w : Work} {d : DutyRef} {r : Row} {x : CardDuty} {cause : CardCause} {spoiled : Bool}

/-- The notice of a duty that fails (R134). -/
def Row.storeFailed (r : Row) (x : CardDuty) (cause : CardCause) : List Byte :=
  leBytes 3 (r.number.getD 0) ++ [slotByte x.slot, cause.byte]

/-- The duty that failover makes on B (R142). -/
def CardDuty.again : CardDuty :=
  { slot := .b, chain := .raw, state := .pending, pieces := [], spoiled := false, cause := none, reassigned := true }

/-- A duty fails where it is, in a row that stands. -/
theorem Work.failDuty_stays (hnd : (w.bm.rows.map Row.index).Nodup) (hr : w.bm.row? d.row = some r)
    (hx : r.cards[d.place]? = some x) (hf : x.state.isFinal = false) (hd : r.develop = .pending) (hp : r.proof = none)
    (hre : w.reassigns r x cause = false) : w.failDuty d cause spoiled = { w with
      bm := w.bm.mapRow d.row (d.change fun _ => x.lost cause spoiled)
      cp := w.cp.raise .storeFailed (r.storeFailed x cause) } := by
  have hmap : w.mapDuty d (CardDuty.lost cause spoiled) =
      w.mapRow d.row (d.change fun _ => x.lost cause spoiled) := by
    rw [Work.mapDuty_eq hnd hr hx hf]
    refine congrArg (fun b => ({ w with bm := b } : Work)) (Bm.mapRow_congr hnd hr ?_)
    exact congrArg (fun l => { r with cards := l })
      (List.modify_congr (f := CardDuty.lost cause spoiled) (g := fun _ => x.lost cause spoiled) hx rfl)
  have hrow : (w.mapRow d.row (d.change fun _ => x.lost cause spoiled)).bm.row? d.row =
      some (d.change (fun _ => x.lost cause spoiled) r) := by
    show (w.bm.mapRow d.row _).row? d.row = _
    rw [Bm.change_row hr, if_pos rfl]
  rw [Work.failDuty_eq hr hx hf hre, hmap, Work.check_pending (w := (w.mapRow d.row _).raise .storeFailed _) hrow hd hp]
  rfl

/-- A duty of A fails and goes to B, which writes (R142). -/
theorem Work.failDuty_moves (hnd : (w.bm.rows.map Row.index).Nodup) (hr : w.bm.row? d.row = some r)
    (hx : r.cards[d.place]? = some x) (hf : x.state.isFinal = false) (hd : r.develop = .pending) (hp : r.proof = none)
    (hre : w.reassigns r x cause = true) (hb : w.cw.b.state = .writing ∨ w.cw.b.state = .suspended) :
    w.failDuty d cause spoiled = { w with
      bm := w.bm.mapRow d.row fun z => { z with
        cards := r.cards.set d.place (x.lost cause spoiled) ++ [CardDuty.again] }
      cw := { w.cw with b := { w.cw.b with
        writeQ := w.cw.b.writeQ ++ [{ row := d.row, place := r.cards.length }] } }
      cp := w.cp.raise .storeFailed (r.storeFailed x cause) } := by
  have hduty : w.duty? d = some x := (Work.duty?_row hr).trans hx
  have hi : ∀ z, (d.change (CardDuty.lost cause spoiled) z).index = z.index := fun _ => rfl
  have hcards : r.cards.modify d.place (CardDuty.lost cause spoiled) = r.cards.set d.place (x.lost cause spoiled) := by
    rw [List.set_eq_modify]
    exact List.modify_congr hx rfl
  obtain ⟨v, hv⟩ : ∃ v : Work, v = { w with
      bm := w.bm.mapRow d.row fun z => { z with
        cards := r.cards.set d.place (x.lost cause spoiled) ++ [CardDuty.again] }
      cw := { w.cw with b := { w.cw.b with
        writeQ := w.cw.b.writeQ ++ [{ row := d.row, place := r.cards.length }] } }
      cp := w.cp.raise .storeFailed (r.storeFailed x cause) } := ⟨_, rfl⟩
  have hstore : w.storeFail d cause spoiled = v := by
    unfold Work.storeFail
    rw [hr, hduty]
    dsimp only
    rw [hf, if_neg Bool.false_ne_true, hre, if_pos rfl,
      show (fun y : CardDuty => ({ y with state := .failed, cause := some cause, spoiled := spoiled } : CardDuty)) =
        CardDuty.lost cause spoiled from rfl, Work.mapDuty_eq hnd hr hx hf, hv]
    show ({ w with bm := (w.bm.mapRow d.row (d.change _)).mapRow d.row _, cp := _, cw := _ } : Work) = _
    rw [Bm.mapRow_mapRow w.bm d.row hi]
    refine congrArg (fun b => ({ w with bm := b, cp := _, cw := _ } : Work)) (Bm.mapRow_congr hnd hr ?_)
    exact congrArg (fun l => { r with cards := l ++ [CardDuty.again] }) hcards
  have hrow : v.bm.row? d.row = some { r with cards := r.cards.set d.place (x.lost cause spoiled) ++ [CardDuty.again] } := by
    rw [hv]
    exact Bm.row?_mapRow_same (f := fun z => { z with
      cards := r.cards.set d.place (x.lost cause spoiled) ++ [CardDuty.again] }) hr fun _ => rfl
  have hrest : v.selectDuty .b = v := by
    have hstate : (v.cw.slot .b).state = w.cw.b.state := by rw [hv]; rfl
    unfold Work.selectDuty
    refine if_neg fun h => ?_
    rw [hstate] at h
    rcases hb with hb | hb <;> rw [hb] at h <;> exact SlotState.noConfusion h.1
  unfold Work.failDuty
  rw [hr, hduty]
  dsimp only
  rw [hre, hf, if_pos ⟨rfl, rfl⟩, hstore, Work.check_pending hrow hd hp, hrest, hv]

/-- Whether failover takes a duty depends on CW, and of the row on its policy and its discard alone. -/
theorem Work.reassigns_congr {v : Work} {z : Row} (hcw : v.cw = w.cw) (hz : z.sansCards = r.sansCards) :
    v.reassigns z x cause = w.reassigns r x cause := by
  have hp : z.policy = r.policy := show z.sansCards.policy = r.sansCards.policy by rw [hz]
  have hd : z.discarding = r.discarding := show z.sansCards.discarding = r.sansCards.discarding by rw [hz]
  rw [Work.reassigns, Work.reassigns, hcw, hp, hd]

end

/-! ### A queue fails in its order (R136, R137) -/

/-- The duty that a reference names fails in its row and stays there. -/
structure Work.Fails (w : Work) (cause : CardCause) (q : DutyRef) (r : Row) (x : CardDuty) : Prop where
  row : w.bm.row? q.row = some r
  card : r.cards[q.place]? = some x
  open_ : x.state.isFinal = false
  develop : r.develop = .pending
  proof : r.proof = none
  stays : w.reassigns r x cause = false

section
variable {w : Work} {cause : CardCause}

/-- Every duty of a list fails, in its order. -/
theorem Work.failDuty_foldl {g : State → DutyRef → State} {s : State}
    (hg : ∀ t q r x, s.bm.row? q.row = some r → r.cards[q.place]? = some x → g t q = ({ t with
      bm := t.bm.mapRow q.row (q.change fun _ => x.lost cause false) } : State).raised .storeFailed (r.storeFailed x cause)) :
    ∀ (l : List DutyRef), l.Nodup → ∀ {w : Work}, (w.bm.rows.map Row.index).Nodup →
      (∀ q ∈ l, ∃ r x, s.bm.row? q.row = some r ∧ r.cards[q.place]? = some x ∧ ∃ z, z.sansCards = r.sansCards ∧
        w.Fails cause q z x) →
      l.foldl (fun v d => v.failDuty d cause false) w = { w with toState := l.foldl g w.toState } ∧
        (l.foldl g w.toState).cw = w.cw ∧ (l.foldl g w.toState).pwc = w.pwc := by
  intro l
  induction l with
  | nil => exact fun _ _ _ _ => ⟨rfl, rfl, rfl⟩
  | cons q l ih =>
    intro hl w hnd hw
    obtain ⟨hq, hl⟩ := List.nodup_cons.1 hl
    obtain ⟨r, x, hr, hx, z, hz, hfails⟩ := hw q List.mem_cons_self
    have hnumber : z.number = r.number := show z.sansCards.number = r.sansCards.number by rw [hz]
    have hstep : w.failDuty q cause false = { w with toState := g w.toState q } := by
      rw [Work.failDuty_stays hnd hfails.row hfails.card hfails.open_ hfails.develop hfails.proof hfails.stays, hg _ q r x hr hx,
        Row.storeFailed, hnumber]
      rfl
    have hcw : (g w.toState q).cw = w.cw ∧ (g w.toState q).pwc = w.pwc := by
      rw [hg _ q r x hr hx]
      exact ⟨rfl, rfl⟩
    rw [List.foldl_cons, List.foldl_cons, hstep]
    suffices h : _ from (ih hl (w := { w with toState := g w.toState q }) (hg _ q r x hr hx ▸ Bm.change_index.symm ▸ hnd) h).imp_right
      fun h => ⟨h.1.trans hcw.1, h.2.trans hcw.2⟩
    intro p hp
    obtain ⟨r2, x2, hr2, hx2, z2, hz2, hfails2⟩ := hw p (List.mem_cons_of_mem _ hp)
    obtain ⟨z3, hz3, hz3s, hz3c⟩ := Bm.change_other (q := q) (f := fun _ => x.lost cause false) hfails2.row
      (fun h => hq (h ▸ hp))
    refine ⟨r2, x2, hr2, hx2, z3, hz3s.trans hz2, ?_, hz3c.trans hfails2.card, hfails2.open_, ?_, ?_, ?_⟩
    · rw [hg _ q r x hr hx]
      exact hz3
    · exact (show z3.sansCards.develop = z2.sansCards.develop by rw [hz3s]).trans hfails2.develop
    · exact (show z3.sansCards.proof = z2.sansCards.proof by rw [hz3s]).trans hfails2.proof
    · rw [hg _ q r x hr hx]
      exact (Work.reassigns_congr (w := w) rfl hz3s).trans hfails2.stays

end

/-! ### Changes one after the other -/

section
variable {b : Bm} {q p : DutyRef} {f g : CardDuty → CardDuty} {l : List DutyRef}

theorem DutyRef.change_comm (h : q ≠ p) (hrow : q.row = p.row) (z : Row) :
    p.change g (q.change f z) = q.change f (p.change g z) := by
  have hplace : q.place ≠ p.place := fun hp => h (by cases p; cases q; cases hrow; cases hp; rfl)
  refine congrArg (fun l => { z with cards := l }) (List.ext_getElem? fun k => ?_)
  simp only [DutyRef.change, List.getElem?_modify, Option.map_eq_map, Option.map_map]
  refine Option.map_congr fun x _ => ?_
  simp only [Function.comp_apply]
  by_cases hq : q.place = k
  · have hp : ¬ p.place = k := fun hp => hplace (hq.trans hp.symm)
    simp only [hp, if_false]
  · simp only [hq, if_false]

theorem Bm.change_comm (h : q ≠ p) :
    (b.mapRow q.row (q.change f)).mapRow p.row (p.change g) = (b.mapRow p.row (p.change g)).mapRow q.row (q.change f) := by
  simp only [Bm.mapRow, List.map_map]
  congr 1
  refine List.map_congr_left fun z _ => ?_
  have hq : (q.change f z).index = z.index := rfl
  have hp : (p.change g z).index = z.index := rfl
  simp only [Function.comp_apply]
  by_cases h1 : z.index = q.row <;> by_cases h2 : z.index = p.row
  · rw [if_pos h1, if_pos h2, if_pos (hq.trans h2), if_pos (hp.trans h1)]
    exact DutyRef.change_comm h (h1.symm.trans h2) z
  · rw [if_pos h1, if_neg h2, if_pos h1, if_neg (by rw [hq]; exact h2)]
  · rw [if_neg h1, if_pos h2, if_neg (by rw [hp]; exact h1)]
  · rw [if_neg h1, if_neg h2, if_neg h1]

theorem Bm.changes_comm (h : p ∉ l) :
    (b.mapRow p.row (p.change g)).changes f l = (b.changes f l).mapRow p.row (p.change g) := by
  induction l generalizing b with
  | nil => rfl
  | cons q l ih =>
    have hq : p ≠ q := fun hpq => h (hpq ▸ List.mem_cons_self)
    show ((b.mapRow p.row _).mapRow q.row _).changes f l = _
    rw [Bm.change_comm hq]
    exact ih fun hp => h (List.mem_cons_of_mem _ hp)

/-- Two changes of every duty of a list are one. -/
theorem Bm.changes_changes (hl : l.Nodup) : (b.changes f l).changes g l = b.changes (fun x => g (f x)) l := by
  induction l generalizing b with
  | nil => rfl
  | cons q l ih =>
    obtain ⟨hq, hl⟩ := List.nodup_cons.1 hl
    have hstep : (b.mapRow q.row (q.change f)).mapRow q.row (q.change g) = b.mapRow q.row (q.change fun x => g (f x)) := by
      rw [Bm.mapRow_mapRow (f := q.change f) b q.row fun _ => rfl]
      refine congrArg (b.mapRow q.row) (funext fun z => ?_)
      exact congrArg (fun l => ({ z with cards := l } : Row)) (List.modify_modify_eq f g q.place z.cards)
    show ((((b.mapRow q.row (q.change f)).changes f l).mapRow q.row (q.change g)).changes g l) = _
    rw [← Bm.changes_comm hq, hstep, ih hl]
    rfl

end

end Sys2Proof.Machine
end

section
/-! PROOF. A slot that is attached, locked, or loses its card (R122 to R124, R136, R138). -/

namespace Sys2Proof.Machine

/-! ### The queue is passed on, duty by duty -/

section
variable {w : Work} {i : SlotId} {f : CardDuty → CardDuty} {F : Work → DutyRef → Work} {G : DutyRef → Slot → Slot}
  {P : Row → CardDuty → Prop}

theorem Work.foldl_changes
    (hF : ∀ v q r x, (v.bm.rows.map Row.index).Nodup → v.bm.row? q.row = some r → r.cards[q.place]? = some x →
      x.state.isFinal = false → P r x →
      F v q = { v.mapSlot i (G q) with bm := v.bm.mapRow q.row (q.change f) })
    (hP : ∀ r z x, z.sansCards = r.sansCards → P r x → P z x) : ∀ (l : List DutyRef), l.Nodup → ∀ {w : Work},
      (w.bm.rows.map Row.index).Nodup →
      (∀ q ∈ l, ∃ r x, w.bm.row? q.row = some r ∧ r.cards[q.place]? = some x ∧ x.state.isFinal = false ∧ P r x) →
      l.foldl F w = { w.mapSlot i (fun y => l.foldl (fun y q => G q y) y) with bm := w.bm.changes f l } := by
  intro l
  induction l with
  | nil =>
    intro _ w _ _
    rw [Work.mapSlot_same rfl]
    rfl
  | cons q l ih =>
    intro hl w hnd hw
    obtain ⟨hq, hl⟩ := List.nodup_cons.1 hl
    obtain ⟨r, x, hr, hx, hf, hp⟩ := hw q List.mem_cons_self
    rw [List.foldl_cons, hF w q r x hnd hr hx hf hp]
    refine (ih hl (w := { w.mapSlot i (G q) with bm := w.bm.mapRow q.row (q.change f) }) (Bm.change_index.symm ▸ hnd)
      fun p hp => ?_).trans ?_
    · obtain ⟨r2, x2, hr2, hx2, hf2, hp2⟩ := hw p (List.mem_cons_of_mem _ hp)
      obtain ⟨z, hz, hzs, hzc⟩ := Bm.change_other (q := q) (f := f) hr2 fun h => hq (h ▸ hp)
      exact ⟨z, x2, hz, hzc.trans hx2, hf2, hP _ _ _ hzs hp2⟩
    · cases i <;> rfl

theorem Slot.foldl_waitQ (l : List DutyRef) (y : Slot) :
    l.foldl (fun y q => { y with waitQ := y.waitQ ++ [q] }) y = { y with waitQ := y.waitQ ++ l } := by
  induction l generalizing y with
  | nil => rw [List.append_nil]; rfl
  | cons q l ih => rw [List.foldl_cons, ih, List.append_assoc]; rfl

theorem Slot.foldl_writeQ (l : List DutyRef) (y : Slot) :
    l.foldl (fun y q => { y with writeQ := y.writeQ ++ [q] }) y = { y with writeQ := y.writeQ ++ l } := by
  induction l generalizing y with
  | nil => rw [List.append_nil]; rfl
  | cons q l ih => rw [List.foldl_cons, ih, List.append_assoc]; rfl

end

section
variable {w : Work} {i : SlotId} {cause : CardCause} {l : List DutyRef} {r : Row} {x : CardDuty} {q : DutyRef}

/-- A duty that waits for the next card of its slot (R123). -/
def CardDuty.awaits (d : CardDuty) : CardDuty := { d with state := .waitingSlot }

/-- The duties of a slot that loses its card wait for the next one (R123). -/
theorem Work.giveUp_waits (hstop : w.cw.stopped = false) (hnd : (w.bm.rows.map Row.index).Nodup)
    (hq : (w.cw.slot i).writeQ = l) (hl : l.Nodup)
    (hw : ∀ q ∈ l, ∃ r x, w.bm.row? q.row = some r ∧ r.cards[q.place]? = some x ∧ x.state.isFinal = false ∧
      ¬ (x.chain = .raw ∧ i = .a ∧ r.policy = some .overflow)) :
    w.giveUp i cause = { w.mapSlot i (fun y => { y with writeQ := [], waitQ := y.waitQ ++ l }) with
      bm := w.bm.changes CardDuty.awaits l } := by
  have hbm : (w.mapSlot i fun x => { x with writeQ := [] }).bm = w.bm := Work.mapSlot_bm _ _ _
  unfold Work.giveUp
  rw [hstop, if_neg Bool.false_ne_true, hq]
  refine (Work.foldl_changes (i := i) (f := CardDuty.awaits) (G := fun q y => { y with waitQ := y.waitQ ++ [q] })
    (P := fun r x => ¬ (x.chain = .raw ∧ i = .a ∧ r.policy = some .overflow)) ?_ ?_ l hl (by rw [hbm]; exact hnd)
    (by rw [hbm]; exact hw)).trans ?_
  · intro v q r x hnd hr hx hf hp
    have hduty : v.duty? q = some x := (Work.duty?_row hr).trans hx
    rw [hr, hduty]
    dsimp only
    rw [if_neg hp, Work.mapDuty_eq hnd hr hx hf]
    cases i <;> rfl
  · intro r z x hz hp
    rwa [show z.policy = r.policy from show z.sansCards.policy = r.sansCards.policy by rw [hz]]
  · simp only [Slot.foldl_waitQ, Work.mapSlot_mapSlot]
    cases i <;> rfl

/-- A RAW duty of A under OVERFLOW fails when A loses its card, and may go to B (R123, R142). -/
theorem Work.giveUp_fails (hstop : w.cw.stopped = false) (hq : w.cw.a.writeQ = [q]) (hr : w.bm.row? q.row = some r)
    (hx : r.cards[q.place]? = some x) (hc : x.chain = .raw) (hp : r.policy = some .overflow) :
    w.giveUp .a cause = Work.failDuty q cause false { w with cw := { w.cw with a := { w.cw.a with writeQ := [] } } } := by
  have hduty : Work.duty? { w with cw := { w.cw with a := { w.cw.a with writeQ := [] } } } q = some x :=
    (Work.duty?_row (w := { w with cw := { w.cw with a := { w.cw.a with writeQ := [] } } }) hr).trans hx
  unfold Work.giveUp
  rw [hstop, if_neg Bool.false_ne_true, show (w.cw.slot .a).writeQ = [q] from hq, List.foldl_cons, List.foldl_nil]
  show (match w.bm.row? q.row, Work.duty? { w with cw := { w.cw with a := { w.cw.a with writeQ := [] } } } q with
    | some r, some x => _
    | _, _ => _) = _
  rw [hr, hduty]
  exact if_pos ⟨hc, rfl, hp⟩

/-! ### The card is gone (R124, R138) -/

/-- The notice of extents that are gone with their card (R126). -/
def State.lowAfter (t : State) (n : Nat) : State :=
  if 164064 ≤ n then t.raised .extentsLow (leBytes 4 t.cw.a.queued ++ leBytes 4 t.cw.b.queued) else t

/-- The slot loses its extents and enters its state without a card. -/
theorem Work.loses_extents {g : Slot → Slot} {st : SlotState} {n : Nat} (hn : (w.cw.slot i).queued = n)
    (hg : ∀ y, (g y).state = y.state ∧ (g y).extents = y.extents) (hst : (w.cw.slot i).state ≠ st) :
    ((w.setExtents i []).mapSlot i g).enterSlot i st = { w with
      toState := ((w.toState.setSlot i { g { w.cw.slot i with extents := [] } with state := st }).lowAfter n).slotChange } := by
  have hslot : ((w.setExtents i []).mapSlot i g).cw.slot i = g { w.cw.slot i with extents := [] } := by
    rw [Cw.slot_mapSlot, Work.setExtents_eq]
    exact congrArg g (Cw.slot_mapSlot w i _)
  have hempty : ({ g { w.cw.slot i with extents := [] } with state := st } : Slot).queued = 0 := by
    show (((g _).extents).map Piece.count).sum = 0
    rw [(hg _).2]
    rfl
  have hlow : (164064 ≤ (w.cw.slot i).queued ∧ (([] : List Piece).map Piece.count).sum < 164064) ↔ 164064 ≤ n := by
    rw [hn]
    exact and_iff_left (by decide)
  rw [Work.enterSlot_ne (by rw [hslot, (hg _).1]; exact hst), Work.setExtents_eq]
  unfold State.lowAfter
  by_cases h : 164064 ≤ n
  · rw [if_pos (hlow.2 h), if_pos h]
    cases i with
    | a =>
      have hq : (State.setSlot w.toState .a { g { w.cw.a with extents := [] } with state := st }).cw.a.queued = 0 := hempty
      have hq2 : (Work.mapSlot .a (fun y => { y with extents := [] }) w).cw.a.queued = 0 := rfl
      show Work.mk _ _ = Work.mk ((State.raised _ _ (leBytes 4 (State.setSlot w.toState .a _).cw.a.queued ++ _)).slotChange) _
      rw [show (w.cw.slot .a) = w.cw.a from rfl, hq, hq2]
      rfl
    | b =>
      have hq : (State.setSlot w.toState .b { g { w.cw.b with extents := [] } with state := st }).cw.b.queued = 0 := hempty
      have hq2 : (Work.mapSlot .b (fun y => { y with extents := [] }) w).cw.b.queued = 0 := rfl
      show Work.mk _ _ = Work.mk ((State.raised _ _ (_ ++ leBytes 4 (State.setSlot w.toState .b _).cw.b.queued)).slotChange) _
      rw [show (w.cw.slot .b) = w.cw.b from rfl, hq, hq2]
      rfl
  · rw [if_neg (fun g => h (hlow.1 g)), if_neg h]
    cases i <;> rfl

end

end Sys2Proof.Machine
end

section
/-! PROOF. SLOT_ATTACH, SLOT_DETACH, the lock line and the card line as they act on a slot (R121 to R124, R136, R138). -/

namespace Sys2Proof.Machine

section
variable {s t : State} {w : Work} {i : SlotId} {x : Slot} {cap st n : Nat}

/-- The warning sequence stands where no writing of CW changes. -/
theorem State.steady_quiet (h : s.steady) (hp : t.pwc = s.pwc) (hq : t.cw.quiet = s.cw.quiet) : t.steady := fun r hr => by
  rw [hq]
  exact h r (hp ▸ hr)

theorem State.setSlot_quiet {y : Slot} (hx : s.cw.slot i = x) (hw : y.writing = x.writing) :
    (s.setSlot i y).cw.quiet = s.cw.quiet := by
  subst hx
  cases i with
  | a =>
    show (y.writing.isNone && _) = _
    rw [hw]
    rfl
  | b =>
    show (_ && y.writing.isNone) = _
    rw [hw]
    rfl

/-! ### SLOT_ATTACH (R122) -/

/-- The payload of SLOT_ATTACH (R197). -/
def attachPayload (i : SlotId) (cap st n : Nat) : List Byte := slotByte i :: (leBytes 4 cap ++ leBytes 4 st ++ leBytes 4 n)

theorem attachPayload_size : (attachPayload i cap st n).length = Request.slotAttach.size := by
  rw [attachPayload, List.length_cons, List.length_append, List.length_append, leBytes_length, leBytes_length, leBytes_length]
  rfl

/-- The record of a slot as a card is attached. -/
def Slot.withCard (x : Slot) (cap st n : Nat) (state : SlotState) : Slot := { x with
  capacity := some cap, range := if n = 0 then none else some { start := st, count := n }, failRun := 0, lastFail := none,
  reads := [], state := state }

/-- The state in which an attached card leaves its slot. -/
def Slot.lockState (x : Slot) : SlotState := if x.lockOn then .locked else .ready

theorem Slot.lockState_ne (x : Slot) : SlotState.present ≠ x.lockState := by
  unfold Slot.lockState
  split <;> exact fun h => SlotState.noConfusion h

theorem answerSlotAttach_eq (h1 : cap < 2 ^ 32) (h2 : st < 2 ^ 32) (h3 : n < 2 ^ 32) :
    answerSlotAttach (attachPayload i cap st n) w =
      if (w.cw.slot i).state ≠ .present then .refused .state
      else if cap = 0 then .refused .badArg
      else if n ≠ 0 ∧ cap < st + n then .refused .badArg
      else .taken ((Work.enterSlot i (w.cw.slot i).lockState (w.mapSlot i fun x => { x with
            capacity := some cap, range := if n = 0 then none else some { start := st, count := n }, failRun := 0,
            lastFail := none, reads := [] })).serveWaiting i)
          [(((Work.enterSlot i (w.cw.slot i).lockState (w.mapSlot i fun x => { x with
            capacity := some cap, range := if n = 0 then none else some { start := st, count := n }, failRun := 0,
            lastFail := none, reads := [] })).serveWaiting i).cw.slot i).state.byte] := by
  have h4 (k : Nat) : (leBytes 4 k).length = 4 := leBytes_length 4 k
  have hb : attachPayload i cap st n = [slotByte i] ++ (leBytes 4 cap ++ (leBytes 4 st ++ (leBytes 4 n ++ []))) := by
    rw [List.append_nil, ← List.append_assoc (leBytes 4 cap)]
    rfl
  have hcap : fieldAt (attachPayload i cap st n) 1 4 = cap := by
    rw [hb]
    exact (fieldAt_behind (j := 1) 0 4 rfl).trans (fieldAt_front _ (by omega))
  have hst : fieldAt (attachPayload i cap st n) 5 4 = st := by
    rw [hb]
    exact (fieldAt_behind (j := 1) 4 4 rfl).trans ((fieldAt_behind (j := 4) 0 4 (h4 _)).trans (fieldAt_front _ (by omega)))
  have hn : fieldAt (attachPayload i cap st n) 9 4 = n := by
    rw [hb]
    exact (fieldAt_behind (j := 1) 8 4 rfl).trans ((fieldAt_behind (j := 4) 4 4 (h4 _)).trans
      ((fieldAt_behind (j := 4) 0 4 (h4 _)).trans (fieldAt_front _ (by omega))))
  unfold answerSlotAttach
  rw [show byteAt (attachPayload i cap st n) 0 = slotByte i from rfl, slotOf_byte]
  dsimp only
  rw [hcap, hst, hn]
  rfl

/-- The slot with its card, before it deals with the duties that waited. -/
def State.attached (s : State) (i : SlotId) (cap st n : Nat) : State :=
  (s.setSlot i ((s.cw.slot i).withCard cap st n (s.cw.slot i).lockState)).slotChange

theorem answerSlotAttach_taken {v : Work} (h1 : cap < 2 ^ 32) (h2 : st < 2 ^ 32) (h3 : n < 2 ^ 32)
    (hp : (w.cw.slot i).state = .present) (h0 : 0 < cap) (hfit : n = 0 ∨ st + n ≤ cap)
    (hv : Work.serveWaiting i { w with toState := w.toState.attached i cap st n } = v) :
    answerSlotAttach (attachPayload i cap st n) w = .taken v [(v.cw.slot i).state.byte] := by
  have henter : Work.enterSlot i (w.cw.slot i).lockState (w.mapSlot i fun x => { x with
      capacity := some cap, range := if n = 0 then none else some { start := st, count := n }, failRun := 0,
      lastFail := none, reads := [] }) = { w with toState := w.toState.attached i cap st n } := by
    rw [Work.enterSlot_ne (by rw [Cw.slot_mapSlot]; exact hp.symm ▸ (w.cw.slot i).lockState_ne)]
    cases i <;> rfl
  rw [answerSlotAttach_eq h1 h2 h3, if_neg (by rw [hp]; exact fun h => h rfl), if_neg (by omega), if_neg (by omega), henter, hv]

/-- No duty waits for the card. -/
theorem Work.serveWaiting_none (hw : (w.cw.slot i).waitQ = []) (hq : (w.cw.slot i).writeQ = []) : w.serveWaiting i = w := by
  have hsame : w.mapSlot i (fun x => { x with waitQ := [] }) = w := Work.mapSlot_same (by rw [← hw])
  unfold Work.serveWaiting
  rw [hw]
  dsimp only [List.foldl_nil]
  rw [hsame, Work.selectDuty_empty hq, ite_self, ite_self]

/-- A duty that waits for extents. -/
def CardDuty.needs (d : CardDuty) : CardDuty := { d with state := .waitingExtents }

/-- The duties that waited for the card join the write queue and, as no extent is there, wait for extents (R122, R132). -/
theorem Work.serveWaiting_ready {l : List DutyRef} (hstop : w.cw.stopped = false) (hnd : (w.bm.rows.map Row.index).Nodup)
    (hs : (w.cw.slot i).state = .ready) (hop : (w.cw.slot i).op = .idle) (he : (w.cw.slot i).extents = [])
    (hq : (w.cw.slot i).writeQ = []) (hw : (w.cw.slot i).waitQ = l) (hl : l.Nodup)
    (hd : ∀ q ∈ l, ∃ r x, w.bm.row? q.row = some r ∧ r.cards[q.place]? = some x ∧ x.state = .waitingSlot) :
    w.serveWaiting i = { w.mapSlot i fun y => { y with waitQ := [], writeQ := l } with
      bm := w.bm.changes CardDuty.needs l } := by
  obtain ⟨v, hv⟩ : ∃ v : Work, v = { w.mapSlot i fun y => { y with waitQ := [], writeQ := l } with
      bm := w.bm.changes (fun d => { d with state := .pending }) l } := ⟨_, rfl⟩
  have hbm : (w.mapSlot i fun x => { x with waitQ := [] }).bm = w.bm := Work.mapSlot_bm _ _ _
  have hfold : l.foldl (fun v d => (v.mapDuty d fun y => { y with state := .pending }).mapSlot i fun y =>
      { y with writeQ := y.writeQ ++ [d] }) (w.mapSlot i fun x => { x with waitQ := [] }) = v := by
    refine (Work.foldl_changes (i := i) (f := fun d => { d with state := .pending })
      (G := fun q y => { y with writeQ := y.writeQ ++ [q] }) (P := fun _ _ => True) ?_ (fun _ _ _ _ h => h) l hl
      (by rw [hbm]; exact hnd) ?_).trans ?_
    · intro v q r x hnd hr hx hf _
      rw [Work.mapDuty_eq hnd hr hx hf]
      cases i <;> rfl
    · intro q hq
      obtain ⟨r, x, hr, hx, hst⟩ := hd q hq
      exact ⟨r, x, by rw [hbm]; exact hr, hx, by rw [hst]; rfl, trivial⟩
    · have hslot : (w.mapSlot i fun x => { x with waitQ := [] }).mapSlot i (fun y => { y with writeQ := y.writeQ ++ l }) =
          w.mapSlot i fun y => { y with waitQ := [], writeQ := l } := by
        rw [Work.mapSlot_mapSlot]
        exact Work.mapSlot_congr i (by rw [hq, List.nil_append])
      simp only [Slot.foldl_writeQ, hslot, hbm, hv]
  have hslot : v.cw.slot i = { w.cw.slot i with waitQ := [], writeQ := l } := by
    rw [hv]
    exact Cw.slot_mapSlot w i _
  have hvstop : v.cw.stopped = false := by
    rw [hv]
    cases i <;> exact hstop
  have hlong : ∀ q ∈ (v.cw.slot i).writeQ, v.tooLong (v.cw.slot i).extents q := by
    rw [hslot]
    intro q hq
    obtain ⟨r, x, hr, hx, -⟩ := hd q hq
    have hall : ∀ (l : List DutyRef) (b : Bm) (r : Row), b.row? q.row = some r → (∃ y, r.cards[q.place]? = some y) →
        ∃ z, (b.changes (fun d => { d with state := .pending }) l).row? q.row = some z ∧ ∃ y, z.cards[q.place]? = some y := by
      intro l
      induction l with
      | nil => exact fun b r hr hx => ⟨r, hr, hx⟩
      | cons p l ih =>
        intro b r hr ⟨y, hy⟩
        refine ih _ _ (Bm.change_row hr) ?_
        split
        · show ∃ y, (r.cards.modify p.place _)[q.place]? = some y
          rw [List.getElem?_modify, hy]
          exact ⟨_, rfl⟩
        · exact ⟨y, hy⟩
    obtain ⟨z, hz, y, hy⟩ := hall l w.bm r hr ⟨x, hx⟩
    refine ⟨y, ?_, ?_⟩
    · rw [Work.duty?_row (r := z) (by rw [hv]; exact hz), hy]
    · show coverable (w.cw.slot i).extents _ = false
      rw [he]
      cases y.chain <;> rfl
  unfold Work.serveWaiting
  rw [hstop, if_neg Bool.false_ne_true, hs, if_pos rfl, hw]
  refine (congrArg (Work.selectDuty i) hfold).trans ?_
  rw [Work.selectDuty_waits (by rw [hv]; exact Bm.changes_index.symm ▸ hnd) (by rw [hslot]; exact hs) (by rw [hslot]; exact hop)
    hvstop hlong, hslot, hv]
  dsimp only
  rw [Bm.changes_changes hl]
  rfl

/-- The duties that waited for a card that is locked fail (R122). -/
theorem Work.serveWaiting_locked {l : List DutyRef} (hstop : w.cw.stopped = false) (hs : (w.cw.slot i).state = .locked)
    (hw : (w.cw.slot i).waitQ = l) : w.serveWaiting i =
      l.foldl (fun v d => v.failDuty d .locked false) (w.mapSlot i fun x => { x with waitQ := [] }) := by
  unfold Work.serveWaiting
  rw [hstop, if_neg Bool.false_ne_true, hs, if_neg (by decide), hw]

/-! ### The lock line (R121, R136) -/

/-- A READY slot is locked, and its queue fails. -/
theorem Work.lockLine_ready (hc : (w.cw.slot i).cardIn = true) (hl : (w.cw.slot i).lockOn = false)
    (hs : (w.cw.slot i).state = .ready) : w.lockLine i true = ((Work.failQueue i .locked { w with
      toState := (w.toState.setSlot i { w.cw.slot i with lockOn := true, state := .locked }).slotChange }).startRead i) := by
  unfold Work.lockLine
  dsimp only
  rw [if_neg (by rw [hc, hl]; exact fun h => h.elim Bool.noConfusion Bool.noConfusion), hs]
  dsimp only
  rw [if_pos rfl, Work.enterLocked, Work.enterSlot_ne (by rw [Cw.slot_mapSlot]; exact hs.symm ▸ (by decide))]
  cases i <;> rfl

theorem Work.lockLine_same {on : Bool} (h : (w.cw.slot i).cardIn = false ∨ (w.cw.slot i).lockOn = on) : w.lockLine i on = w :=
  if_pos h

/-- A LOCKED slot with nothing waiting is READY again. -/
theorem Work.lockLine_unlocks (hc : (w.cw.slot i).cardIn = true) (hl : (w.cw.slot i).lockOn = true)
    (hs : (w.cw.slot i).state = .locked) (hq : (w.cw.slot i).writeQ = []) (hr : (w.cw.slot i).reads = []) :
    w.lockLine i false = { w with
      toState := (w.toState.setSlot i { w.cw.slot i with lockOn := false, state := .ready }).slotChange } := by
  obtain ⟨v, hv⟩ : ∃ v : Work, v = { w with
      toState := (w.toState.setSlot i { w.cw.slot i with lockOn := false, state := .ready }).slotChange } := ⟨_, rfl⟩
  have hslot : v.cw.slot i = { w.cw.slot i with lockOn := false, state := .ready } := by
    rw [hv]
    exact State.setSlot_slot _ i _
  have henter : Work.enterSlot i .ready (w.mapSlot i fun x => { x with lockOn := false }) = v := by
    rw [Work.enterSlot_ne (by rw [Cw.slot_mapSlot]; exact hs.symm ▸ (by decide)), hv]
    cases i <;> rfl
  unfold Work.lockLine
  dsimp only
  rw [if_neg (by rw [hc, hl]; exact fun h => h.elim Bool.noConfusion Bool.noConfusion), hs]
  dsimp only
  rw [if_neg Bool.false_ne_true, henter, Work.selectDuty_empty (by rw [hslot]; exact hq), Work.startRead_none (by rw [hslot]; exact hr),
    hv]

end

end Sys2Proof.Machine
end

section
/-! PROOF. A slot that loses its card (R123, R124, R138): what becomes of its record, and of its duties by the cause. -/

namespace Sys2Proof.Machine

section
variable {w v : Work} {i : SlotId} {n : Nat}

/-- A slot that writes nothing loses its card (R138). -/
theorem Work.cardLine_removes (hc : (w.cw.slot i).cardIn = true) (hop : (w.cw.slot i).op = .idle)
    (hr : (w.cw.slot i).reads = []) (hw : (w.cw.slot i).writing = none)
    (hv : Work.giveUp i .removed (w.mapSlot i fun x => { x with cardIn := false }) = v) (hn : (v.cw.slot i).queued = n)
    (hst : (v.cw.slot i).state ≠ .absent) : w.cardLine i false = { v with
      toState := ((v.toState.setSlot i { v.cw.slot i with
        extents := [], capacity := none, range := none, stops := [], lockOn := false, failRun := 0, lastFail := none,
        state := .absent }).lowAfter n).slotChange } := by
  obtain ⟨u, hu⟩ : ∃ u : Work, u = w.mapSlot i fun x => { x with cardIn := false } := ⟨_, rfl⟩
  have hslot : u.cw.slot i = { w.cw.slot i with cardIn := false } := by rw [hu, Cw.slot_mapSlot]
  unfold Work.cardLine
  rw [if_neg (by rw [hc]; exact fun h => Bool.noConfusion h)]
  dsimp only
  rw [if_neg Bool.false_ne_true]
  have hcard : w.mapSlot i (fun x => { x with cardIn := false, lockOn := if false = true then false else x.lockOn }) = u := by
    rw [hu]
    exact Work.mapSlot_congr i rfl
  rw [hcard]
  have hgive : Work.giveUp i .removed u = v := by rw [hu, hv]
  unfold Work.removeCard
  rw [hslot]
  dsimp only
  rw [hop, hw]
  dsimp only
  rw [Work.failReads_none (by rw [hslot]; exact hop) (by rw [hslot]; exact hr), hgive,
    Work.loses_extents (g := fun x => { x with
      capacity := none, range := none, stops := [], lockOn := false, failRun := 0, lastFail := none }) hn
      (fun _ => ⟨rfl, rfl⟩) hst]

/-- A slot that writes nothing is detached (R124). -/
theorem Work.detachActs_eq (hop : (w.cw.slot i).op = .idle) (hr : (w.cw.slot i).reads = [])
    (hv : w.giveUp i .detached = v) (hn : (v.cw.slot i).queued = n) (hst : (v.cw.slot i).state ≠ .present) :
    w.detachActs i = { v with
      toState := ((v.toState.setSlot i { v.cw.slot i with
        extents := [], capacity := none, range := none, failRun := 0, lastFail := none, state := .present }).lowAfter n).slotChange } := by
  unfold Work.detachActs
  dsimp only
  rw [Work.failReads_none hop hr, hv, Work.loses_extents (g := fun x => { x with
      capacity := none, range := none, failRun := 0, lastFail := none }) hn (fun _ => ⟨rfl, rfl⟩) hst]

end

/-! ### SLOT_DETACH and the card line -/

theorem answerSlotDetach_eq {w : Work} {i : SlotId} {force : Bool} :
    answerSlotDetach [slotByte i, flagByte force] w = match (w.cw.slot i).state with
      | .absent | .present => .refused .state
      | .ready | .locked | .fault => .taken (w.detachActs i) [0]
      | .writing | .suspended =>
        if (w.cw.slot i).stops.contains .detached then .taken w [1]
        else if force then .taken (w.askStop i .detached) [if ((w.askStop i .detached).cw.slot i).state = .present then 0 else 1]
        else .refused .busy := by
  unfold answerSlotDetach
  rw [show byteAt [slotByte i, flagByte force] 0 = slotByte i from rfl, slotOf_byte,
    show byteAt [slotByte i, flagByte force] 1 = flagByte force from rfl, flagOf_flagByte] <;> rfl

/-- What a loss of its card makes of a slot: `duties` gives the state in which its queue is given up and the rest of its
record is the one given. -/
structure State.GivesUp (s : State) (i : SlotId) (x : Slot) (duties : State → Slot → CardCause → State) : Prop where
  /-- Every state that differs in the record of the slot and in the control port alone gives its queue up alike. -/
  gives : ∀ t cause, cause.reassigns = true → t.bm = s.bm → (∀ z, (t.setSlot i z).cw = (s.setSlot i z).cw) → (t.cw.slot i).writeQ = x.writeQ →
    (t.cw.slot i).waitQ = x.waitQ → ∃ v waits, Work.giveUp i cause { toState := t, bus := [] } = { toState := v, bus := [] } ∧
      v.cw.slot i = { t.cw.slot i with writeQ := [], waitQ := waits } ∧
      ∀ y, y.writeQ = [] → y.waitQ = x.waitQ → v.setSlot i { y with waitQ := waits } = duties t y cause
  /-- The record of the slot before is of no account. -/
  replaces : ∀ t z y cause, duties (t.setSlot i z) y cause = duties t y cause
  power : ∀ t y cause, (duties t y cause).pwc = t.pwc
  quiet : ∀ t y cause, (∀ z, (t.setSlot i z).cw = (s.setSlot i z).cw) → (duties t y cause).cw.quiet = (t.setSlot i y).cw.quiet

section
variable {s t : State} {i : SlotId} {x : Slot} {duties : State → Slot → CardCause → State}

theorem State.lowAfter_kept (t : State) (n : Nat) : (t.lowAfter n).slotChange.pwc = t.pwc ∧ (t.lowAfter n).slotChange.cw = t.cw := by
  unfold State.lowAfter
  split <;> exact ⟨rfl, rfl⟩

theorem State.GivesUp.steady (h : s.GivesUp i x duties) {y : Slot} {cause : CardCause} {n : Nat} (ht : t.steady)
    (hcw : t.cw = s.cw) (hx : s.cw.slot i = x) (hw : y.writing = x.writing) : ((duties t y cause).lowAfter n).slotChange.steady := by
  obtain ⟨hp, hc⟩ := State.lowAfter_kept (duties t y cause) n
  refine State.steady_quiet ht (hp.trans (h.power t y cause)) ?_
  rw [hc, h.quiet t y cause fun z => by cases i <;> simp only [State.setSlot, hcw]]
  exact State.setSlot_quiet (by rw [hcw]; exact hx) hw

/-- The card is removed from a slot that writes nothing (R138). -/
theorem State.GivesUp.removes (h : s.GivesUp i x duties) (hs : s.answers) (hx : s.cw.slot i = x) (hc : x.cardIn = true)
    (hop : x.op = .idle) (hr : x.reads = []) (hw : x.writing = none) (hst : x.state ≠ .absent) :
    exec (.cardLineLevel i false) s = .next ((duties s { x with
      cardIn := false, capacity := none, range := none, extents := [], stops := [], lockOn := false, failRun := 0,
      lastFail := none, writeQ := [], state := .absent } .removed).lowAfter x.queued).slotChange := by
  subst hx
  obtain ⟨v, waits, hgive, hslot, hduties⟩ := h.gives (s.setSlot i { s.cw.slot i with cardIn := false }) .removed rfl
    (by cases i <;> rfl) (fun z => by rw [State.setSlot_setSlot]) (by rw [State.setSlot_slot]) (by rw [State.setSlot_slot])
  rw [State.setSlot_slot] at hslot
  have hline : Work.cardEvent i false { toState := s, bus := [] } = Work.cardLine i false { toState := s, bus := [] } := by
    refine if_neg fun hp => ?_
    rcases hs.2.2 with hrun | hq
    · exact Power.noConfusion (hrun.symm.trans hp.1)
    · exact Power.noConfusion (hq.symm.trans hp.1)
  have hd := hduties { s.cw.slot i with
    cardIn := false, capacity := none, range := none, extents := [], stops := [], lockOn := false, failRun := 0,
    lastFail := none, writeQ := [], state := .absent } rfl rfl
  rw [h.replaces] at hd
  refine exec_comes (Work.cardEvent i false) rfl (h.steady hs.2.1 rfl rfl rfl) ?_
  rw [hline, Work.cardLine_removes (v := { toState := v, bus := [] }) (n := (s.cw.slot i).queued) hc hop hr hw
    (by rw [← hgive, Work.mapSlot_setSlot]) (by rw [hslot]; rfl) (by rw [hslot]; exact hst), hslot, ← hd]
  exact .done _

/-- A slot that writes nothing is detached (R124). -/
theorem State.GivesUp.detaches (h : s.GivesUp i x duties) {tag : Byte} {force : Bool} (hs : s.answers)
    (hx : s.cw.slot i = x) (hop : x.op = .idle) (hr : x.reads = [])
    (hst : x.state = .ready ∨ x.state = .locked ∨ x.state = .fault) :
    exec (.slotDetach tag [slotByte i, flagByte force]) s = .next (((duties (s.hears .slotDetach) { x with
      capacity := none, range := none, extents := [], failRun := 0, lastFail := none, writeQ := [],
      state := .present } .detached).lowAfter x.queued).slotChange.answered .slotDetach tag [0, 0]) := by
  subst hx
  refine request_comes .slotDetach (body := [0]) (fun z => ((duties z { s.cw.slot i with
      capacity := none, range := none, extents := [], failRun := 0, lastFail := none, writeQ := [],
      state := .present } .detached).lowAfter (s.cw.slot i).queued).slotChange) hs rfl
    (fun cp sent => h.steady (State.steady_congr (s := s) rfl rfl hs.2.1) rfl rfl rfl) fun cp sent => ?_
  obtain ⟨v, waits, hgive, hslot, hduties⟩ := h.gives { s with cp := cp, sent := sent } .detached rfl rfl
    (fun z => by cases i <;> rfl) rfl rfl
  have hne : (s.cw.slot i).state ≠ .present := by rcases hst with h | h | h <;> rw [h] <;> decide
  have hacts := Work.detachActs_eq (w := { toState := { s with cp := cp, sent := sent }, bus := [] })
    (n := (s.cw.slot i).queued) hop hr hgive (by rw [hslot]; rfl) (by rw [hslot]; exact hne)
  refine ⟨Work.detachActs i { toState := { s with cp := cp, sent := sent }, bus := [] }, ?_, ?_⟩
  · exact ((answerSlotDetach_eq (w := { toState := { s with cp := cp, sent := sent }, bus := [] })).trans
      (by rcases hst with h | h | h <;> rw [show (Cw.slot _ i).state = _ from h])).trans rfl
  · have hd := hduties { s.cw.slot i with
      capacity := none, range := none, extents := [], failRun := 0, lastFail := none, writeQ := [],
      state := .present } rfl rfl
    rw [hacts, hslot, ← hd]
    exact .done _

end

end Sys2Proof.Machine
end

section
/-! PROOF. The three ways in which the queue of a slot that loses its card is given up (R123, R142), and the queue of a slot
that is locked (R122, R136). -/

namespace Sys2Proof.Machine

section
variable {s : State} {i : SlotId} {x : Slot}

/-- The queue is empty. -/
theorem State.givesUp_empty (hq : x.writeQ = []) : s.GivesUp i x fun t y _ => t.setSlot i y where
  gives t cause _ _ _ ht hw := by
    refine ⟨t, x.waitQ, Work.giveUp_empty (ht.trans hq), by rw [← hw, ← hq, ← ht], fun y hy hyw => ?_⟩
    rw [← hyw]
  replaces t z y _ := State.setSlot_setSlot t i z y
  power t y _ := by cases i <;> rfl
  quiet t y _ _ := rfl

/-- The duties wait for the next card (R123). -/
theorem State.givesUp_waits (hstop : s.cw.stopped = false) (hnd : (s.bm.rows.map Row.index).Nodup) (hl : x.writeQ.Nodup)
    (hw : ∀ q ∈ x.writeQ, ∃ r d, s.bm.row? q.row = some r ∧ r.cards[q.place]? = some d ∧ d.state.isFinal = false ∧
      ¬ (d.chain = .raw ∧ i = .a ∧ r.policy = some .overflow)) :
    s.GivesUp i x fun t y _ => { t.setSlot i { y with waitQ := x.waitQ ++ x.writeQ } with
      bm := s.bm.changes CardDuty.awaits x.writeQ } where
  gives t cause _ hbm hcw hq hwait := by
    have hts : t.cw.stopped = false := by
      have h := congrArg Cw.stopped (hcw (t.cw.slot i))
      cases i <;> exact h.trans hstop
    refine ⟨{ t.setSlot i { t.cw.slot i with writeQ := [], waitQ := x.waitQ ++ x.writeQ } with
      bm := s.bm.changes CardDuty.awaits x.writeQ }, x.waitQ ++ x.writeQ, ?_, ?_, fun y _ _ => ?_⟩
    · refine (Work.giveUp_waits (w := { toState := t, bus := [] }) hts (by show (t.bm.rows.map _).Nodup; rw [hbm]; exact hnd)
        hq hl (fun q hq => by obtain ⟨r, d, h⟩ := hw q hq; exact ⟨r, d, by rw [hbm]; exact h⟩)).trans ?_
      rw [Work.mapSlot_setSlot, ← hwait, ← hbm]
    · cases i <;> rfl
    · cases i <;> rfl
  replaces t z y _ := by cases i <;> rfl
  power t y _ := by cases i <;> rfl
  quiet t y _ _ := by cases i <;> rfl

section
variable {q : DutyRef} {r : Row} {d : CardDuty}

/-- The state in which a RAW duty of A has failed, B's record and the duties that the row then has more. -/
def State.failsOver (s t : State) (q : DutyRef) (r : Row) (d : CardDuty) (y b : Slot) (cause : CardCause)
    (more : List CardDuty) : State :=
  ({ (t.setSlot .a y).setSlot .b b with
    bm := s.bm.mapRow q.row fun z => { z with
      cards := r.cards.set q.place { d with state := .failed, cause := some cause, spoiled := false } ++ more } } :
    State).raised .storeFailed (leBytes 3 (r.number.getD 0) ++ [slotByte .a, cause.byte])

variable (hstop : s.cw.stopped = false) (hnd : (s.bm.rows.map Row.index).Nodup) (hq : x.writeQ = [q])
  (hr : s.bm.row? q.row = some r) (hx : r.cards[q.place]? = some d) (hslot : d.slot = .a) (hchain : d.chain = .raw)
  (hf : d.state.isFinal = false) (hp : r.policy = some .overflow) (hd : r.develop = .pending) (hproof : r.proof = none)
include hstop hnd hq hr hx hslot hchain hf hp hd hproof

/-- The duty fails and stays where it is (R142). -/
theorem State.givesUp_fails (hno : s.cw.b.writable = false ∨ r.discarding = true) :
    s.GivesUp .a x fun t y cause => s.failsOver t q r d y s.cw.b cause [] where
  gives t cause _ hbm hcw hwq hwait := by
    have hts : t.cw.stopped = false := (congrArg Cw.stopped (hcw t.cw.a)).trans hstop
    have htb : t.cw.b = s.cw.b := by
      have h := congrArg Cw.b (hcw t.cw.a)
      exact h
    have htr : t.bm.row? q.row = some r := by rw [hbm]; exact hr
    refine ⟨_, x.waitQ, (Work.giveUp_fails (w := { toState := t, bus := [] }) hts (hwq.trans hq) htr hx hchain hp).trans
      (Work.failDuty_stays (w := { toState := { t with cw := { t.cw with a := { t.cw.a with writeQ := [] } } }, bus := [] })
        (by show (t.bm.rows.map _).Nodup; rw [hbm]; exact hnd) htr hx hf hd hproof ?_), ?_, fun y _ hy => ?_⟩
    · show (_ && t.cw.b.writable && _ && _) = false
      rw [htb]
      rcases hno with h | h <;> rw [h]
      · rw [Bool.and_false, Bool.false_and, Bool.false_and]
      · exact Bool.and_false _
    · show ({ t.cw.a with writeQ := [] } : Slot) = _
      rw [← hwait]
      rfl
    · have hcards : s.bm.mapRow q.row (q.change fun _ => d.lost cause false) = s.bm.mapRow q.row fun z => { z with
          cards := r.cards.set q.place { d with state := .failed, cause := some cause, spoiled := false } ++ [] } := by
        refine Bm.mapRow_congr hnd hr (congrArg (fun l => { r with cards := l }) ?_)
        rw [List.append_nil, List.set_eq_modify]
        exact List.modify_congr hx rfl
      have hnotice : r.storeFailed d cause = leBytes 3 (r.number.getD 0) ++ [slotByte .a, cause.byte] := by
        rw [Row.storeFailed, hslot]
      rw [State.failsOver, ← hnotice, ← hcards, ← hbm, ← hy, ← htb]
      rfl
  replaces t z y _ := rfl
  power t y _ := rfl
  quiet t y _ h := by
    have htb : t.cw.b = s.cw.b := by
      have hb := congrArg Cw.b (h y)
      exact hb
    show (_ && s.cw.b.writing.isNone) = (_ && t.cw.b.writing.isNone)
    rw [htb]
    rfl

/-- The duty fails and goes to B, which writes (R142). -/
theorem State.givesUp_moves (hb : s.cw.b.state = .writing ∨ s.cw.b.state = .suspended) (hdisc : r.discarding = false) :
    s.GivesUp .a x fun t y cause => s.failsOver t q r d y { s.cw.b with
      writeQ := s.cw.b.writeQ ++ [{ row := q.row, place := r.cards.length }] } cause [CardDuty.again] where
  gives t cause hcause hbm hcw hwq hwait := by
    have hts : t.cw.stopped = false := (congrArg Cw.stopped (hcw t.cw.a)).trans hstop
    have htb : t.cw.b = s.cw.b := by
      have h := congrArg Cw.b (hcw t.cw.a)
      exact h
    have htr : t.bm.row? q.row = some r := by rw [hbm]; exact hr
    refine ⟨_, x.waitQ, (Work.giveUp_fails (w := { toState := t, bus := [] }) hts (hwq.trans hq) htr hx hchain hp).trans
      (Work.failDuty_moves (w := { toState := { t with cw := { t.cw with a := { t.cw.a with writeQ := [] } } }, bus := [] })
        (by show (t.bm.rows.map _).Nodup; rw [hbm]; exact hnd) htr hx hf hd hproof ?_ (by rw [← htb] at hb; exact hb)), ?_,
      fun y _ hy => ?_⟩
    · have hwritable : s.cw.b.writable = true := by rcases hb with h | h <;> rw [Slot.writable, h]
      show (_ && _ && _ && _ && t.cw.b.writable && !t.cw.stopped && _) = true
      rw [htb, hts, hwritable, hcause, hdisc, hchain, hslot, hp]
      rfl
    · show ({ t.cw.a with writeQ := [] } : Slot) = _
      rw [← hwait]
      rfl
    · have hnotice : r.storeFailed d cause = leBytes 3 (r.number.getD 0) ++ [slotByte .a, cause.byte] := by
        rw [Row.storeFailed, hslot]
      rw [State.failsOver, ← hnotice, ← hbm, ← hy, ← htb]
      rfl
  replaces t z y _ := rfl
  power t y _ := rfl
  quiet t y _ h := by
    have htb : t.cw.b = s.cw.b := by
      have hb := congrArg Cw.b (h y)
      exact hb
    show (_ && s.cw.b.writing.isNone) = (_ && t.cw.b.writing.isNone)
    rw [htb]
    rfl

end

end

end Sys2Proof.Machine
end

section
/-! PROOF. The queue of a slot that is locked fails (R122, R136). -/

namespace Sys2Proof.Machine

section
variable {s t : State} {i : SlotId} {l : List DutyRef} {cause : CardCause}

/-- The duty that a reference names in the shot table of `s` fails in `t`. -/
def State.failsAt (s : State) (cause : CardCause) (t : State) (q : DutyRef) : State :=
  ((s.bm.row? q.row).bind fun r => r.cards[q.place]?.map fun x => ({ t with
    bm := t.bm.mapRow q.row (q.change fun _ => x.lost cause false) } : State).raised .storeFailed (r.storeFailed x cause)).getD t

theorem State.failsAt_eq {q : DutyRef} {r : Row} {x : CardDuty} (hr : s.bm.row? q.row = some r)
    (hx : r.cards[q.place]? = some x) : s.failsAt cause t q = ({ t with
      bm := t.bm.mapRow q.row (q.change fun _ => x.lost cause false) } : State).raised .storeFailed (r.storeFailed x cause) := by
  rw [State.failsAt, hr, Option.bind_some, hx]
  rfl

/-- A duty of slot `i` fails where it is, and no failover takes it (R142). -/
structure State.FailsIn (s : State) (i : SlotId) (q : DutyRef) (r : Row) (x : CardDuty) : Prop where
  row : s.bm.row? q.row = some r
  card : r.cards[q.place]? = some x
  slot : x.slot = i
  open_ : x.state.isFinal = false
  develop : r.develop = .pending
  proof : r.proof = none
  stays : i = .b ∨ x.chain = .proof ∨ r.policy ≠ some .overflow ∨ s.cw.b.writable = false ∨ r.discarding = true

theorem State.FailsIn.reassigns {w : Work} {q : DutyRef} {r : Row} {x : CardDuty} (h : s.FailsIn i q r x)
    (hw : i = .a → w.cw.b = s.cw.b) : w.reassigns r x cause = false := by
  refine Bool.eq_false_iff.2 fun hre => ?_
  simp only [Work.reassigns, Bool.and_eq_true, decide_eq_true_eq, Bool.not_eq_true'] at hre
  obtain ⟨⟨⟨⟨⟨⟨hchain, ha⟩, hpolicy⟩, -⟩, hb⟩, -⟩, hdisc⟩ := hre
  have hi : i = .a := h.slot.symm.trans ha
  rcases h.stays with h1 | h1 | h1 | h1 | h1
  · exact SlotId.noConfusion (hi.symm.trans h1)
  · exact Chain.noConfusion (hchain.symm.trans h1)
  · exact h1 hpolicy
  · rw [hw hi, h1] at hb
    exact Bool.noConfusion hb
  · rw [hdisc] at h1
    exact Bool.noConfusion h1

/-- Every duty of a list fails, in its order. -/
theorem Work.failDuty_all {lost : State → DutyRef → State} (hnd : (s.bm.rows.map Row.index).Nodup)
    (hlost : ∀ t q r x, s.bm.row? q.row = some r → r.cards[q.place]? = some x → x.slot = i → lost t q = ({ t with
      bm := t.bm.mapRow q.row (q.change fun _ => x.lost cause false) } : State).raised .storeFailed
        (leBytes 3 (r.number.getD 0) ++ [slotByte i, cause.byte]))
    (hl : l.Nodup) (hbm : t.bm = s.bm) (hb : i = .a → t.cw.b = s.cw.b) (h : ∀ q ∈ l, ∃ r x, s.FailsIn i q r x) :
    l.foldl (fun v d => Work.failDuty d cause false v) ({ toState := t, bus := [] } : Work) =
      { toState := l.foldl lost t, bus := [] } ∧ (l.foldl lost t).cw = t.cw ∧ (l.foldl lost t).pwc = t.pwc := by
  have hsame : l.foldl lost t = l.foldl (s.failsAt cause) t := by
    refine List.foldl_ext _ _ _ fun t q hq => ?_
    obtain ⟨r, x, hf⟩ := h q hq
    rw [hlost t q r x hf.row hf.card hf.slot, State.failsAt_eq hf.row hf.card, Row.storeFailed, hf.slot]
  rw [hsame]
  refine Work.failDuty_foldl (w := { toState := t, bus := [] }) (fun t q r x hr hx => State.failsAt_eq hr hx) l hl
    (by show (t.bm.rows.map _).Nodup; rw [hbm]; exact hnd) fun q hq => ?_
  obtain ⟨r, x, hf⟩ := h q hq
  refine ⟨r, x, hf.row, hf.card, r, rfl, ?_, hf.card, hf.open_, hf.develop, hf.proof, hf.reassigns hb⟩
  show t.bm.row? q.row = _
  rw [hbm]
  exact hf.row

/-- The state in which a duty of A has failed with LOCKED and gone to B (R142). -/
def State.lockedToB (s t : State) (q : DutyRef) (r : Row) (d : CardDuty) : State :=
  ({ t.setSlot .b { s.cw.b with writeQ := s.cw.b.writeQ ++ [{ row := q.row, place := r.cards.length }] } with
    bm := s.bm.mapRow q.row fun z => { z with
      cards := z.cards.set q.place (d.lost .locked false) ++ [CardDuty.again] } } : State).raised .storeFailed (leBytes 3 (r.number.getD 0) ++ [slotByte .a, 1])

theorem Work.failDuty_toB {q : DutyRef} {r : Row} {d : CardDuty} (hstop : s.cw.stopped = false)
    (hnd : (s.bm.rows.map Row.index).Nodup) (hr : s.bm.row? q.row = some r) (hx : r.cards[q.place]? = some d)
    (hslot : d.slot = .a) (hchain : d.chain = .raw) (hf : d.state.isFinal = false) (hp : r.policy = some .overflow)
    (hd : r.develop = .pending) (hproof : r.proof = none) (hdisc : r.discarding = false)
    (hb : s.cw.b.state = .writing ∨ s.cw.b.state = .suspended) (hbm : t.bm = s.bm) (htb : t.cw.b = s.cw.b)
    (hts : t.cw.stopped = s.cw.stopped) :
    Work.failDuty q .locked false { toState := t, bus := [] } = { toState := s.lockedToB t q r d, bus := [] } := by
  have hnotice : r.storeFailed d .locked = leBytes 3 (r.number.getD 0) ++ [slotByte .a, 1] := by
    rw [Row.storeFailed, hslot]
    rfl
  have hcards : t.bm.mapRow q.row (fun z => { z with cards := r.cards.set q.place (d.lost .locked false) ++ [CardDuty.again] }) =
      s.bm.mapRow q.row (fun z => { z with cards := z.cards.set q.place (d.lost .locked false) ++ [CardDuty.again] }) := by
    rw [hbm]
    exact Bm.mapRow_congr hnd hr rfl
  refine (Work.failDuty_moves (w := { toState := t, bus := [] }) (by show (t.bm.rows.map _).Nodup; rw [hbm]; exact hnd)
    (by show t.bm.row? _ = _; rw [hbm]; exact hr) hx hf hd hproof ?_ (by rw [← htb] at hb; exact hb)).trans ?_
  · have hwritable : s.cw.b.writable = true := by rcases hb with h | h <;> rw [Slot.writable, h]
    show (_ && _ && _ && _ && t.cw.b.writable && !t.cw.stopped && _) = true
    rw [htb, hts, hstop, hwritable, hdisc, hchain, hslot, hp]
    rfl
  · rw [State.lockedToB, ← hnotice, ← htb, ← hcards]
    rfl

/-- A queue that is failed leaves the slot without it (R136). -/
theorem Work.failQueue_eq {w : Work} (hstop : w.cw.stopped = false) (hq : (w.cw.slot i).writeQ = l) :
    w.failQueue i cause = l.foldl (fun v d => v.failDuty d cause false) (w.mapSlot i fun x => { x with writeQ := [] }) := by
  unfold Work.failQueue
  rw [hstop, if_neg Bool.false_ne_true, hq]

end

end Sys2Proof.Machine
end

section
/-! PROOF. The statement about the slots (R121 to R124, R136, R138). -/

namespace Sys2Proof.Machine

section
variable {s : State} {tag : Byte} {i : SlotId} {x : Slot} {cap st n : Nat}

/-- SLOT_ATTACH of a card that fits, with what becomes of the duties that waited for it (R122). -/
theorem attach_comes {u : State → State} {b : Byte} (hs : s.answers) (hx : s.cw.slot i = x) (h1 : cap < 2 ^ 32)
    (h2 : st < 2 ^ 32) (h3 : n < 2 ^ 32) (hp : x.state = .present) (h0 : 0 < cap) (hfit : n = 0 ∨ st + n ≤ cap)
    (hu : ∀ t, t.bm = s.bm → t.cw = s.cw → Work.serveWaiting i { toState := t.attached i cap st n, bus := [] } =
      { toState := u t, bus := [] } ∧ (u t).pwc = t.pwc ∧ (u t).cw.quiet = s.cw.quiet ∧ ((u t).cw.slot i).state.byte = b) :
    exec (.slotAttach tag (attachPayload i cap st n)) s = .next ((u (s.hears .slotAttach)).answered .slotAttach tag [0, b]) := by
  subst hx
  refine request_comes .slotAttach (body := [b]) u hs attachPayload_size (fun cp sent => ?_) fun cp sent => ?_
  · obtain ⟨-, hpwc, hq, -⟩ := hu { s with cp := cp, sent := sent } rfl rfl
    exact State.steady_quiet hs.2.1 hpwc hq
  · obtain ⟨hserve, -, -, hb⟩ := hu { s with cp := cp, sent := sent } rfl rfl
    refine ⟨{ toState := u { s with cp := cp, sent := sent }, bus := [] }, ?_, .done _⟩
    rw [← hb]
    exact answerSlotAttach_taken (w := { toState := { s with cp := cp, sent := sent }, bus := [] }) h1 h2 h3 hp h0 hfit hserve

/-- The lock line takes the level of the lock on a READY slot (R136). -/
theorem locks_comes {t : State} (hs : s.answers) (hx : s.cw.slot i = x) (hc : x.cardIn = true) (hl : x.lockOn = false)
    (hst : x.state = .ready) (hr : x.reads = [])
    (ht : Work.failQueue i .locked
        { toState := (s.setSlot i { x with lockOn := true, state := .locked }).slotChange, bus := [] } =
      { toState := t, bus := [] }) (hpwc : t.pwc = s.pwc) (hq : t.cw.quiet = s.cw.quiet) (hreads : (t.cw.slot i).reads = []) :
    exec (.lockLineLevel i true) s = .next t := by
  subst hx
  refine exec_comes (Work.lockLine i true) rfl (State.steady_quiet hs.2.1 hpwc hq) ?_
  rw [Work.lockLine_ready hc hl hst, ht, Work.startRead_none hreads]
  exact .done _

end

/-- Settles O49: the attach, the lock, the detach and the removal, each with what becomes of the duties of its slot. -/
theorem slotsFollowRequestsAndLines : Obligations.SlotsFollowRequestsAndLines := by
  unfold Obligations.SlotsFollowRequestsAndLines
  intro tag i x s hs hx
  subst hx
  refine ⟨fun cap st n h1 h2 h3 => ?_, fun hstop hnd => ?_, fun force hst => ?_, fun hst hop hr => ?_,
    fun hst hstops => ?_, ?_, fun hc hst => ?_, fun hc hst hop hr hq hw he => ?_, fun hc on => ?_,
    fun hc hl hst hq hr => ?_, fun hc hl hst hq hr => ?_⟩
  · intro p
    refine ⟨fun hst => ?_, fun hst hbad => ?_, fun hst h0 hfit hw hq => ?_⟩
    · refine request_turned .slotAttach .state rfl hs attachPayload_size fun cp sent => ?_
      exact (answerSlotAttach_eq h1 h2 h3).trans (if_pos hst)
    · refine request_turned .slotAttach .badArg rfl hs attachPayload_size fun cp sent => ?_
      refine (answerSlotAttach_eq h1 h2 h3).trans ((if_neg fun h => h hst).trans ?_)
      by_cases h : cap = 0
      · exact if_pos h
      · exact (if_neg h).trans (if_pos (hbad.resolve_left h))
    · refine attach_comes (b := if (s.cw.slot i).lockOn then 5 else 2)
        (u := fun t => (t.setSlot i ((s.cw.slot i).withCard cap st n (s.cw.slot i).lockState)).slotChange) hs rfl h1 h2 h3 hst h0
        hfit fun t hbm hcw => ?_
      have hslot : (t.attached i cap st n).cw.slot i = (s.cw.slot i).withCard cap st n (s.cw.slot i).lockState := by
        rw [← hcw]
        exact State.setSlot_slot t i _
      refine ⟨?_, by cases i <;> rfl, ?_, ?_⟩
      · rw [Work.serveWaiting_none (by rw [hslot]; exact hw) (by rw [hslot]; exact hq), State.attached, hcw]
      · rw [← hcw]
        exact State.setSlot_quiet (s := t) rfl rfl
      · show ((t.setSlot i _).cw.slot i).state.byte = _
        rw [State.setSlot_slot]
        show (s.cw.slot i).lockState.byte = _
        unfold Slot.lockState
        split <;> rfl
  · intro duty? attached attach set lost fails goesToB moved
    have hlost (t : State) (q : DutyRef) (r : Row) (d : CardDuty) (hr : s.bm.row? q.row = some r)
        (hd : r.cards[q.place]? = some d) (_ : d.slot = i) : lost t q = ({ t with
          bm := t.bm.mapRow q.row (q.change fun _ => d.lost .locked false) } : State).raised .storeFailed
            (leBytes 3 (r.number.getD 0) ++ [slotByte i, CardCause.locked.byte]) := by
      have hduty : duty? q = some d := by
        show (s.bm.row? q.row).bind _ = _
        rw [hr]
        exact hd
      simp only [lost, hr, hduty]
      rfl
    have hfails (q : DutyRef) (h : fails q = true) : ∃ r d, s.FailsIn i q r d := by
      simp only [fails, duty?] at h
      cases hr : s.bm.row? q.row with
      | none =>
        rw [hr] at h
        exact Bool.noConfusion h
      | some r =>
        cases hd : r.cards[q.place]? with
        | none =>
          rw [hr, Option.bind_some, hd] at h
          exact Bool.noConfusion h
        | some d =>
          rw [hr, Option.bind_some, hd] at h
          simp only [Bool.and_eq_true, decide_eq_true_eq] at h
          obtain ⟨⟨hslot, hf, hdev, hp⟩, hstays⟩ := h
          exact ⟨r, d, hr, hd, hslot, hf, hdev, hp, hstays⟩
    refine ⟨fun cap h0 h1 hst hwq he hop => ?_, fun hc hl hst hr => ?_⟩
    · intro h
      have hfits : (0 : Nat) = 0 ∨ 0 + 0 ≤ cap := .inl rfl
      have hlist (t : State) (hcw : t.cw = s.cw) : (t.attached i cap 0 0).cw.slot i =
          (s.cw.slot i).withCard cap 0 0 (s.cw.slot i).lockState := by
        rw [← hcw]
        exact State.setSlot_slot t i _
      have hgone (t : State) (hcw : t.cw = s.cw) (hl : (s.cw.slot i).lockOn = true) :
          Work.mapSlot i (fun y => { y with waitQ := [] }) { toState := t.attached i cap 0 0, bus := [] } =
            { toState := (t.setSlot i (attached cap .locked)).slotChange, bus := [] } := by
        have hstate : (s.cw.slot i).lockState = .locked := by rw [Slot.lockState, hl]; rfl
        rw [State.attached, hcw, hstate]
        cases i <;> rfl
      have hbmt (t : State) (hbm : t.bm = s.bm) : (t.attached i cap 0 0).bm = s.bm := by
        rw [← hbm]
        cases i <;> rfl
      have hstops (t : State) (hcw : t.cw = s.cw) : (t.attached i cap 0 0).cw.stopped = false := by
        rw [← hcw] at hstop
        cases i <;> exact hstop
      refine ⟨fun hl hn hall => ?_, fun hl => ⟨fun hn hall => ?_, fun q r d hq hto => ?_⟩⟩
      · have hstate : (s.cw.slot i).lockState = .ready := by rw [Slot.lockState, hl]; rfl
        refine attach_comes (n := 0) (b := 2) (u := fun t => ({ t.setSlot i { attached cap .ready with writeQ := (s.cw.slot i).waitQ } with
          bm := s.bm.changes CardDuty.needs (s.cw.slot i).waitQ } : State).slotChange) hs rfl h1 (by decide) (by decide) hst h0 hfits
          fun t hbm hcw => ?_
        refine ⟨?_, by cases i <;> rfl, ?_, ?_⟩
        · rw [Work.serveWaiting_ready (l := (s.cw.slot i).waitQ) (hstops t hcw)
            (by show ((t.attached i cap 0 0).bm.rows.map _).Nodup; rw [hbmt t hbm]; exact hnd)
            (by rw [hlist t hcw, ← hstate]; rfl) (by rw [hlist t hcw]; exact hop) (by rw [hlist t hcw]; exact he)
            (by rw [hlist t hcw]; exact hwq) (by rw [hlist t hcw]; rfl) hn (fun q hq => ?_)]
          · show ({ Work.mapSlot i _ { toState := t.attached i cap 0 0, bus := [] } with
              bm := (t.attached i cap 0 0).bm.changes _ _ } : Work) = _
            rw [hbmt t hbm, State.attached, hcw, hstate]
            cases i <;> rfl
          · obtain ⟨d, hd, hwait⟩ := (Option.any_eq_true _ _).1 (hall q hq)
            obtain ⟨r, hrow, hx⟩ := Option.bind_eq_some_iff.1 hd
            exact ⟨r, d, by show (t.attached i cap 0 0).bm.row? _ = _; rw [hbmt t hbm]; exact hrow, hx, of_decide_eq_true hwait⟩
        · have hquiet := State.setSlot_quiet (s := t) (i := i) (x := t.cw.slot i)
            (y := { attached cap .ready with writeQ := (s.cw.slot i).waitQ }) rfl (by rw [hcw])
          exact Eq.trans (by cases i <;> rfl) (hquiet.trans (congrArg Cw.quiet hcw))
        · cases i <;> rfl
      · refine attach_comes (n := 0) (b := 5) (u := fun t => (s.cw.slot i).waitQ.foldl lost (t.setSlot i (attached cap .locked)).slotChange)
          hs rfl h1 (by decide) (by decide) hst h0 hfits fun t hbm hcw => ?_
        have hstate : (s.cw.slot i).lockState = .locked := by rw [Slot.lockState, hl]; rfl
        obtain ⟨hfold, hcwf, hpwc⟩ := Work.failDuty_all (t := (t.setSlot i (attached cap .locked)).slotChange) hnd hlost hn
          (by cases i <;> exact hbm) (fun hi => by subst hi; rw [← hcw]; rfl) fun q hq => hfails q (hall q hq)
        refine ⟨?_, hpwc.trans (by cases i <;> rfl), ?_, ?_⟩
        · rw [Work.serveWaiting_locked (l := (s.cw.slot i).waitQ) (hstops t hcw) (by rw [hlist t hcw, ← hstate]; rfl)
            (by rw [hlist t hcw]; rfl), hgone t hcw hl]
          exact hfold
        · rw [hcwf, ← hcw]
          exact State.setSlot_quiet (s := t) rfl (by rw [hcw])
        · rw [hcwf]
          show ((t.setSlot i _).cw.slot i).state.byte = 5
          rw [State.setSlot_slot]
          rfl
      · obtain ⟨hi, hrow, hx, hda, hchain, hf, hp, hdev, hproof, hdisc, hb⟩ := hto
        subst hi
        refine attach_comes (n := 0) (b := 5) (u := fun t => moved q r d (t.setSlot .a (attached cap .locked)).slotChange)
          hs rfl h1 (by decide) (by decide) hst h0 hfits fun t hbm hcw => ?_
        have hstate : s.cw.a.lockState = .locked := by rw [Slot.lockState, show s.cw.a.lockOn = true from hl]; rfl
        have hmove := Work.failDuty_toB (t := (t.setSlot .a (attached cap .locked)).slotChange) hstop hnd hrow hx hda hchain hf hp
          hdev hproof hdisc hb hbm (by rw [← hcw]; rfl) (by rw [← hcw]; rfl)
        refine ⟨?_, rfl, ?_, rfl⟩
        · rw [Work.serveWaiting_locked (l := [q]) (hstops t hcw) (by rw [hlist t hcw, ← hstate]; rfl)
            (by rw [hlist t hcw]; exact hq), hgone t hcw hl]
          exact hmove
        · rfl
    · intro locked
      have hslot : Cw.slot (s.setSlot i { s.cw.slot i with lockOn := true, state := .locked }).slotChange.cw i =
          { s.cw.slot i with lockOn := true, state := .locked } := State.setSlot_slot s i _
      have hqueue {l : List DutyRef} (hq : (s.cw.slot i).writeQ = l) : Work.failQueue i .locked
          { toState := (s.setSlot i { s.cw.slot i with lockOn := true, state := .locked }).slotChange, bus := [] } =
          l.foldl (fun v d => Work.failDuty d .locked false v) { toState := locked, bus := [] } := by
        refine (Work.failQueue_eq (l := l) (by cases i <;> exact hstop) (by rw [hslot]; exact hq)).trans ?_
        refine congrArg (fun w => l.foldl (fun v d => Work.failDuty d .locked false v) w) ?_
        rw [Work.mapSlot_setSlot, hslot]
        cases i <;> rfl
      refine ⟨fun hn hall => ?_, fun q r d hq hto => ?_⟩
      · obtain ⟨hfold, hcw, hpwc⟩ := Work.failDuty_all (t := locked) hnd hlost hn (by cases i <;> rfl)
          (fun hi => by subst hi; rfl) fun q hq => hfails q (hall q hq)
        refine locks_comes hs rfl hc hl hst hr ((hqueue rfl).trans hfold) (hpwc.trans (by cases i <;> rfl)) ?_ ?_
        · rw [hcw]
          exact State.setSlot_quiet rfl rfl
        · rw [hcw, show Cw.slot locked.cw i = _ from State.setSlot_slot s i _]
          exact hr
      · obtain ⟨hi, hrow, hx, hda, hchain, hf, hp, hdev, hproof, hdisc, hb⟩ := hto
        subst hi
        have hmove := Work.failDuty_toB (t := locked) hstop hnd hrow hx hda hchain hf hp hdev hproof hdisc hb rfl rfl rfl
        exact locks_comes hs rfl hc hl hst hr ((hqueue hq).trans hmove) rfl rfl hr
  · refine request_turned .slotDetach .state rfl hs rfl fun cp sent => ?_
    refine (answerSlotDetach_eq (w := { toState := { s with cp := cp, sent := sent }, bus := [] })).trans ?_
    rcases hst with h | h <;> rw [show (Cw.slot _ i).state = _ from h]
  · intro low leaves duty? stays
    have hne : (s.cw.slot i).state ≠ .absent := by rcases hst with h | h | h <;> rw [h] <;> decide
    have hleaves (duties : State → Slot → CardCause → State) (h : s.GivesUp i (s.cw.slot i) duties) : leaves duties :=
      ⟨fun hc hw => h.removes hs rfl hc hop hr hw hne, fun force => h.detaches hs rfl hop hr hst⟩
    refine ⟨fun hq => hleaves _ (State.givesUp_empty hq), fun hstop hnd => ⟨fun hl hall => ?_, ?_⟩⟩
    · suffices h : _ from hleaves _ (State.givesUp_waits hstop hnd hl h)
      intro q hq
      obtain ⟨hopen, hstays⟩ := hall q hq
      obtain ⟨d, hd, hf⟩ := (Option.any_eq_true _ _).1 hopen
      obtain ⟨r, hrow, hx⟩ := Option.bind_eq_some_iff.1 hd
      refine ⟨r, d, hrow, hx, by simpa only [Bool.not_eq_true'] using hf, fun ⟨hchain, hi, hp⟩ => ?_⟩
      simp only [stays, hd, hrow, Option.any_some, hchain, hi, hp] at hstays
      simp at hstays
    · intro q r d hi hq hrow hx hslot hchain hstate hp _ hdev hproof
      subst hi
      have hf : d.state.isFinal = false := by rcases hstate with h | h <;> rw [h] <;> rfl
      intro fails
      refine ⟨fun hno => ?_, fun hb hdisc => ?_⟩
      · exact hleaves (fun t y cause => fails t y s.cw.b cause [])
          (State.givesUp_fails hstop hnd hq hrow hx hslot hchain hf hp hdev hproof hno)
      · exact hleaves (fun t y cause => fails t y { s.cw.b with
            writeQ := s.cw.b.writeQ ++ [{ row := q.row, place := r.cards.length }] } cause [CardDuty.again])
          (State.givesUp_moves hstop hnd hq hrow hx hslot hchain hf hp hdev hproof hb hdisc)
  · have howner (force : Bool) (cp : Cp) (sent : List Output) :
        answerSlotDetach [slotByte i, flagByte force] { toState := { s with cp := cp, sent := sent }, bus := [] } =
          if force then .taken (Work.askStop i .detached { toState := { s with cp := cp, sent := sent }, bus := [] })
            [if ((Work.askStop i .detached { toState := { s with cp := cp, sent := sent }, bus := [] }).cw.slot i).state = .present
              then 0 else 1]
          else .refused .busy := by
      refine (answerSlotDetach_eq (w := { toState := { s with cp := cp, sent := sent }, bus := [] })).trans ?_
      rw [show (Cw.slot _ i).state = _ from hst]
      dsimp only
      rw [show (Cw.slot _ i).stops = _ from hstops]
      rfl
    refine ⟨request_turned .slotDetach .busy rfl hs rfl fun cp sent => howner false cp sent, ?_⟩
    refine request_done .slotDetach (body := [1]) (t := s.setSlot i { s.cw.slot i with stops := [.detached] }) hs rfl
      (by cases i <;> rfl) (by cases i <;> rfl) (State.steady_setSlot hs.2.1 rfl rfl) fun cp sent => ?_
    have hask : Work.askStop i .detached { toState := { s with cp := cp, sent := sent }, bus := [] } =
        { toState := { s with cp := cp, sent := sent }.setSlot i { s.cw.slot i with stops := [.detached] }, bus := [] } := by
      unfold Work.askStop
      dsimp only
      rw [if_neg (by rw [show (Cw.slot _ i).state = _ from hst]; exact fun h => SlotState.noConfusion h),
        Work.mapSlot_setSlot, show (Cw.slot _ i).stops = _ from hstops]
      rfl
    have hstate : ((Work.askStop i .detached { toState := { s with cp := cp, sent := sent }, bus := [] }).cw.slot i).state ≠
        .present := by
      rw [hask]
      show ((State.setSlot _ i _).cw.slot i).state ≠ _
      rw [State.setSlot_slot, hst]
      exact fun h => SlotState.noConfusion h
    refine ⟨Work.askStop i .detached { toState := { s with cp := cp, sent := sent }, bus := [] },
      (howner true cp sent).trans ((if_pos rfl).trans (by rw [if_neg hstate])), ?_⟩
    rw [hask, State.setSlot_port]
    exact .done _
  · refine exec_same (Work.cardEvent i (s.cw.slot i).cardIn) rfl hs.2.1 ?_
    unfold Work.cardEvent
    rw [if_neg fun h => h.2 rfl]
    exact if_pos rfl
  · have hline : Work.cardEvent i true { toState := s, bus := [] } =
        { toState := (s.setSlot i { s.cw.slot i with cardIn := true, lockOn := false, state := .present }).slotChange, bus := [] } := by
      unfold Work.cardEvent
      rw [if_neg (fun h => by
        rcases hs.2.2 with hrun | hq
        · exact Power.noConfusion (hrun.symm.trans h.1)
        · exact Power.noConfusion (hq.symm.trans h.1))]
      unfold Work.cardLine
      rw [if_neg (by rw [show (Cw.slot _ i).cardIn = _ from hc]; exact fun h => Bool.noConfusion h)]
      dsimp only
      rw [if_pos rfl, if_pos hst, Work.enterSlot_ne (by
        rw [Cw.slot_mapSlot, show (Cw.slot _ i).state = _ from hst]; exact fun h => SlotState.noConfusion h)]
      cases i <;> rfl
    exact exec_comes (Work.cardEvent i true) rfl (State.steady_congr (s := s.setSlot i _) rfl rfl
      (State.steady_setSlot hs.2.1 rfl rfl)) (by rw [hline]; exact .done _)
  · have hq0 : (s.cw.slot i).queued = 0 := by rw [Slot.queued, he]; rfl
    refine ((State.givesUp_empty hq).removes hs rfl hc hop hr hw (by rw [hst]; decide)).trans ?_
    rw [hq0, ← hq, ← he]
    rfl
  · exact exec_same (Work.lockLine i on) rfl hs.2.1 (Work.lockLine_same (.inl hc))
  · refine locks_comes (t := (s.setSlot i { s.cw.slot i with lockOn := true, state := .locked }).slotChange) hs rfl hc hl hst hr
      (Work.failQueue_empty ?_) (by cases i <;> rfl) (State.setSlot_quiet rfl rfl) ?_
    · show ((State.setSlot s i _).cw.slot i).writeQ = []
      rw [State.setSlot_slot]
      exact hq
    · show ((State.setSlot s i _).cw.slot i).reads = []
      rw [State.setSlot_slot]
      exact hr
  · refine exec_comes (Work.lockLine i false) rfl ?_ (by rw [Work.lockLine_unlocks hc hl hst hq hr]; exact .done _)
    exact State.steady_congr (s := s.setSlot i _) rfl rfl (State.steady_setSlot hs.2.1 rfl rfl)

end Sys2Proof.Machine
end

section
/-! PROOF. The end of a run, in its parts (R134): the duty's fate, its report, and the slot's next state. -/

namespace Sys2Proof.Machine

/-! ### A work told by the record of one slot -/

/-- The work on a state with the record of one slot replaced. -/
def State.with_ (s : State) (i : SlotId) (y : Slot) (b : List Report) : Work := { toState := s.setSlot i y, bus := b }

/-- The state with the card duties of a row replaced. -/
def State.withCards (s : State) (j : Nat) (fs : List CardDuty) : State :=
  { s with bm := s.bm.mapRow j fun z => { z with cards := fs } }

section
variable {s : State} {i : SlotId} {y : Slot} {b : List Report}

theorem State.with_self {x : Slot} (hx : s.cw.slot i = x) : ({ toState := s, bus := b } : Work) = s.with_ i x b := by
  subst hx
  cases i <;> rfl

@[simp] theorem State.with_mapSlot (f : Slot → Slot) : (s.with_ i y b).mapSlot i f = s.with_ i (f y) b := by
  cases i <;> rfl

@[simp] theorem State.with_slot : (s.with_ i y b).cw.slot i = y := State.setSlot_slot s i y

@[simp] theorem State.with_bm : (s.with_ i y b).bm = s.bm := by
  cases i <;> rfl

@[simp] theorem State.with_stopped : (s.with_ i y b).cw.stopped = s.cw.stopped := by
  cases i <;> rfl

theorem State.with_post (r : Report) : (s.with_ i y b).post r = s.with_ i y (b ++ [r]) := rfl

theorem State.with_raise (k : Notice) (l : List Byte) : (s.with_ i y b).raise k l = (s.raised k l).with_ i y b := by
  cases i <;> rfl

/-- The slot enters another state. -/
theorem State.with_enterSlot {st : SlotState} (h : y.state ≠ st) : Work.enterSlot i st (s.with_ i y b) =
    { toState := (s.setSlot i { y with state := st }).slotChange, bus := b } := by
  rw [Work.enterSlot_ne (by rw [State.with_slot]; exact h), State.with_mapSlot]
  rfl

theorem Work.startRead_busy {w : Work} (h : (w.cw.slot i).op ≠ .idle) : w.startRead i = w := by
  unfold Work.startRead
  split
  · next hop _ => exact absurd hop h
  · rfl

/-- The oldest read that waits starts (R140). -/
theorem Work.startRead_takes {w : Work} {q : ReadRequest} {qs : List ReadRequest} (hop : (w.cw.slot i).op = .idle)
    (hr : (w.cw.slot i).reads = q :: qs) (hstop : w.cw.stopped = false) :
    w.startRead i = w.mapSlot i fun x => { x with op := .read q true, reads := qs } := by
  unfold Work.startRead
  rw [hop, hr]
  dsimp only
  rw [hstop, if_neg Bool.false_ne_true]

/-! ### The slot's next state (R134 step 4) -/

section
variable (hstops : y.stops.contains .detached = false) (hfail : y.failRun ≠ 3)
include hstops hfail

/-- Nothing else is left to do: the slot is READY. -/
theorem State.nextSlot_ready (hlock : y.stops.contains .locked = false) (hstop : s.cw.stopped = false)
    (hw : y.writing = none) (hq : y.writeQ = []) (hr : y.reads = []) (hst : y.state ≠ .ready) :
    Work.nextSlot i (s.with_ i y b) =
      { toState := (s.setSlot i { y with stops := [], state := .ready }).slotChange, bus := b } := by
  have hselect : Work.maySelect (s.with_ i { y with stops := [] } b) i = false := by
    rw [Work.maySelect, State.with_slot, hq]
    exact Bool.and_false _
  unfold Work.nextSlot
  dsimp only
  rw [State.with_slot, hstops, if_neg Bool.false_ne_true, if_neg hfail, hlock, if_neg Bool.false_ne_true, State.with_stopped,
    hstop, if_neg Bool.false_ne_true, show y.writing.isSome = false by rw [hw]; rfl, if_neg Bool.false_ne_true,
    State.with_mapSlot]
  unfold Work.afterChain
  rw [hselect, if_neg Bool.false_ne_true, State.with_enterSlot (y := { y with stops := [] }) hst, Work.startRead_none]
  show ((s.setSlot i _).cw.slot i).reads = []
  rw [State.setSlot_slot]
  exact hr

/-- Under the stopped flag the slot is READY and does no more (R146). -/
theorem State.nextSlot_stopped (hlock : y.stops.contains .locked = false) (hstop : s.cw.stopped = true)
    (hst : y.state ≠ .ready) : Work.nextSlot i (s.with_ i y b) =
      { toState := (s.setSlot i { y with stops := [], state := .ready }).slotChange, bus := b } := by
  unfold Work.nextSlot
  dsimp only
  rw [State.with_slot, hstops, if_neg Bool.false_ne_true, if_neg hfail, hlock, if_neg Bool.false_ne_true, State.with_stopped,
    hstop, if_pos rfl, State.with_mapSlot, State.with_enterSlot (y := { y with stops := [] }) hst]

/-- A stop for the lock: the slot is LOCKED (R136). -/
theorem State.nextSlot_locked (hlock : y.stops.contains .locked = true) (hq : y.writeQ = [])
    (hr : y.reads = [] ∨ y.op ≠ .idle)
    (hst : y.state ≠ .locked) : Work.nextSlot i (s.with_ i y b) =
      { toState := (s.setSlot i { y with stops := [], state := .locked }).slotChange, bus := b } := by
  have hslot : Cw.slot (s.setSlot i { y with stops := [], state := .locked }).slotChange.cw i =
      { y with stops := [], state := .locked } := State.setSlot_slot s i _
  unfold Work.nextSlot
  dsimp only
  rw [State.with_slot, hstops, if_neg Bool.false_ne_true, if_neg hfail, hlock, if_pos rfl, State.with_mapSlot, Work.enterLocked,
    State.with_enterSlot (y := { y with stops := [] }) hst, Work.failQueue_empty (by rw [hslot]; exact hq)]
  rcases hr with hr | hop
  · exact Work.startRead_none (by rw [hslot]; exact hr)
  · exact Work.startRead_busy (by rw [hslot]; exact hop)

/-- The chain goes on: the next run starts. -/
theorem State.nextSlot_runs {wr : Writing} {r : Row} {d : CardDuty} {p : Piece} (hlock : y.stops = [])
    (hstop : s.cw.stopped = false) (hw : y.writing = some wr) (hreads : y.reads = [])
    (hr : s.bm.row? wr.duty.row = some r) (hx : r.cards[wr.duty.place]? = some d)
    (hp : placeAt 256 d.pieces wr.written = some p) : Work.nextSlot i (s.with_ i y b) = s.with_ i { y with
      op := .run p.start p.count (sectorData s.mem (r.pagesOf d.chain) (chainLength d.chain) wr.written p.count) } b := by
  have hrun := Work.startRun_eq (w := s.with_ i { y with stops := [] } b) (i := i) (wr := wr) (r := r) (x := d) (p := p)
    (by rw [State.with_slot]; exact hw) (by rw [State.with_bm]; exact hr) hx hp
  have hmem : (s.with_ i { y with stops := [] } b).mem = s.mem := by cases i <;> rfl
  unfold Work.nextSlot
  dsimp only
  rw [State.with_slot, hstops, if_neg Bool.false_ne_true, if_neg hfail, show y.stops.contains .locked = false by rw [hlock]; rfl,
    if_neg Bool.false_ne_true, State.with_stopped, hstop, if_neg Bool.false_ne_true, show y.writing.isSome = true by rw [hw]; rfl,
    if_pos rfl, show (!y.reads.isEmpty && decide (y.runsSince = 1)) = false by rw [hreads]; rfl, if_neg Bool.false_ne_true,
    State.with_mapSlot, hrun, State.with_mapSlot, hmem, ← hlock]

/-- The chain goes on, and the reads that wait come first (R141). -/
theorem State.nextSlot_suspends {q : ReadRequest} {qs : List ReadRequest} (hlock : y.stops = [])
    (hstop : s.cw.stopped = false) (hw : y.writing.isSome = true) (hreads : y.reads = q :: qs) (hsince : y.runsSince = 1)
    (hop : y.op = .idle) (hst : y.state ≠ .suspended) : Work.nextSlot i (s.with_ i y b) =
      { toState := (s.setSlot i { y with op := .read q true, reads := qs, served := 1, state := .suspended }).slotChange,
        bus := b } := by
  unfold Work.nextSlot
  dsimp only
  rw [State.with_slot, hstops, if_neg Bool.false_ne_true, if_neg hfail, show y.stops.contains .locked = false by rw [hlock]; rfl,
    if_neg Bool.false_ne_true, State.with_stopped, hstop, if_neg Bool.false_ne_true, hw, if_pos rfl,
    show (!y.reads.isEmpty && decide (y.runsSince = 1)) = true by rw [hreads, hsince]; rfl, if_pos rfl,
    State.with_mapSlot, Work.suspend, State.with_mapSlot, State.with_enterSlot (y := { y with stops := [], served := 1 }) hst]
  have hslot : Cw.slot (s.setSlot i { y with stops := [], served := 1, state := .suspended }).slotChange.cw i =
      { y with stops := [], served := 1, state := .suspended } := State.setSlot_slot s i _
  rw [Work.startRead_takes (q := q) (qs := qs) (by rw [hslot]; exact hop) (by rw [hslot]; exact hreads)
    (by cases i <;> exact hstop), ← hlock]
  cases i <;> rfl

end

/-- A stop for a detach: the card is detached (R124). -/
theorem State.nextSlot_detached (hstops : y.stops.contains .detached = true) (hq : y.writeQ = []) (hr : y.reads = [])
    (hop : y.op = .idle) (hst : y.state ≠ .present) (hlow : y.queued < 164064) : Work.nextSlot i (s.with_ i y b) =
      { toState := (s.setSlot i { y with
          stops := [], extents := [], capacity := none, range := none, failRun := 0, lastFail := none,
          state := .present }).slotChange, bus := b } := by
  have hgive : Work.giveUp i .detached (s.with_ i { y with stops := [] } b) = s.with_ i { y with stops := [] } b :=
    Work.giveUp_empty (by rw [State.with_slot]; exact hq)
  unfold Work.nextSlot
  dsimp only
  rw [State.with_slot, hstops, if_pos rfl, State.with_mapSlot, Work.detachActs_eq (by rw [State.with_slot]; exact hop)
    (by rw [State.with_slot]; exact hr) hgive rfl (by rw [State.with_slot]; exact hst), State.with_slot]
  rw [State.lowAfter, if_neg (by show ¬ 164064 ≤ y.queued; omega)]
  cases i <;> rfl

/-- The third failure: the slot is in FAULT (R137). -/
theorem State.nextSlot_fault (hstops : y.stops.contains .detached = false) (hfail : y.failRun = 3) :
    Work.nextSlot i (s.with_ i y b) = Work.enterFault i (s.with_ i { y with stops := [] } b) := by
  unfold Work.nextSlot
  dsimp only
  rw [State.with_slot, hstops, if_neg Bool.false_ne_true, if_pos hfail, State.with_mapSlot]

theorem State.enterFault_none (hq : y.writeQ = []) (hr : y.reads = []) (hop : y.op = .idle) (hst : y.state ≠ .fault) :
    Work.enterFault i (s.with_ i y b) = { toState := (s.setSlot i { y with state := .fault }).slotChange, bus := b } := by
  have hslot : Cw.slot (s.setSlot i { y with state := .fault }).slotChange.cw i = { y with state := .fault } :=
    State.setSlot_slot s i _
  rw [Work.enterFault, State.with_enterSlot hst, Work.failQueue_empty (by rw [hslot]; exact hq),
    Work.failReads_none (by rw [hslot]; exact hop) (by rw [hslot]; exact hr)]

end

end Sys2Proof.Machine
end

section
/-! PROOF. The fate of the writing duty at the end of a run (R134): it goes on, is DONE, or fails. -/

namespace Sys2Proof.Machine

/-- The state in which a duty has failed where it is, with its pieces spoiled (R134). -/
def State.dutyFailed (s : State) (i : SlotId) (q : DutyRef) (r : Row) (d : CardDuty) (cause : CardCause) : State :=
  (s.withCards q.row (r.cards.set q.place (d.lost cause true))).raised .storeFailed
    (leBytes 3 (r.number.getD 0) ++ [slotByte i, cause.byte])

section
variable {s : State} {i : SlotId} {y : Slot} {b : List Report} {wr : Writing} {r : Row} {d : CardDuty}

/-! ### The run itself -/

theorem Work.runEnd_idle {w : Work} {k : Option FailKind} (h : (w.cw.slot i).op = .idle) : w.runEnd i k = w := by
  unfold Work.runEnd
  rw [h]

theorem State.with_duty (hr : s.bm.row? wr.duty.row = some r) (hx : r.cards[wr.duty.place]? = some d) :
    (s.with_ i y b).duty? wr.duty = some d := (Work.duty?_row (by rw [State.with_bm]; exact hr)).trans hx

section
variable {st n : Nat} {data : List Byte} (hop : y.op = .run st n data) (hw : y.writing = some wr)

include hop hw

/-- A run that ends well has written its sectors. -/
theorem State.runEnd_ok (hr : s.bm.row? wr.duty.row = some r) (hx : r.cards[wr.duty.place]? = some d) : Work.runEnd i none (s.with_ i y b) = Work.decideRun i (decide (sectorNeed d.chain ≤ wr.written + n)) false
    (s.with_ i { y with op := .idle, runsSince := 1, writing := some { wr with written := wr.written + n } } b) := by
  unfold Work.runEnd
  rw [State.with_slot, hop, hw]
  dsimp only
  rw [State.with_duty hr hx, State.with_mapSlot, State.with_mapSlot]
  rfl

/-- A run that fails is counted. -/
theorem State.runEnd_fails (k : FailKind) : Work.runEnd i (some k) (s.with_ i y b) = Work.decideRun i false true
    (s.with_ i { y with op := .idle, runsSince := 1, failRun := min 3 (y.failRun + 1), lastFail := some k } b) := by
  unfold Work.runEnd
  rw [State.with_slot, hop, hw]
  dsimp only
  rw [State.with_mapSlot, State.with_mapSlot, ← hw]

end

/-! ### The duty -/

section
variable (hw : y.writing = some wr)
include hw

/-- The chain has more to write. -/
theorem State.decideRun_on (hstops : y.stops = []) : Work.decideRun i false false (s.with_ i y b) =
    Work.nextSlot i (s.with_ i y b) := by
  unfold Work.decideRun
  dsimp only
  rw [State.with_slot, hw]
  dsimp only
  rw [if_neg Bool.false_ne_true, hstops]
  dsimp only
  rw [if_neg Bool.false_ne_true]

/-- A stop was asked: the duty fails with the cause of the first. -/
theorem State.decideRun_stops {st : Stop} {l : List Stop} {failed : Bool} (hstops : y.stops = st :: l) :
    Work.decideRun i false failed (s.with_ i y b) =
      Work.nextSlot i (Work.failDuty wr.duty st.cause true (s.with_ i { y with writing := none } b)) := by
  unfold Work.decideRun
  dsimp only
  rw [State.with_slot, hw]
  dsimp only
  rw [if_neg Bool.false_ne_true, hstops]
  dsimp only
  rw [State.with_mapSlot, ← hstops]

/-- The run failed: the duty fails with WRITE. -/
theorem State.decideRun_fails (hstops : y.stops = []) : Work.decideRun i false true (s.with_ i y b) =
    Work.nextSlot i (Work.failDuty wr.duty .write true (s.with_ i { y with writing := none } b)) := by
  unfold Work.decideRun
  dsimp only
  rw [State.with_slot, hw]
  dsimp only
  rw [if_neg Bool.false_ne_true, hstops]
  dsimp only
  rw [if_pos rfl, State.with_mapSlot, ← hstops]

/-- CW's read of frame memory fails: the duty fails with SOURCE_LOST (R139). -/
theorem State.runSourceLost_fails {st n : Nat} {data : List Byte} (hop : y.op = .run st n data) :
    Work.runSourceLost i (s.with_ i y b) =
      Work.nextSlot i (Work.failDuty wr.duty .sourceLost true (s.with_ i { y with op := .idle, writing := none } b)) := by
  unfold Work.runSourceLost
  rw [State.with_slot, hop, hw]
  dsimp only
  rw [State.with_mapSlot]

end

section
variable (hnd : (s.bm.rows.map Row.index).Nodup) (hr : s.bm.row? wr.duty.row = some r)
  (hx : r.cards[wr.duty.place]? = some d) (hf : d.state = .writing)
include hnd hr hx hf

omit hnd hx hf in
/-- The duties of the row of the writing duty, as that duty changes. -/
theorem State.withCards_row (x : CardDuty) : (s.withCards wr.duty.row (r.cards.set wr.duty.place x)).bm.row? wr.duty.row =
    some { r with cards := r.cards.set wr.duty.place x } :=
  Bm.row?_mapRow_same (f := fun z => { z with cards := r.cards.set wr.duty.place x }) hr fun _ => rfl

theorem State.mapDuty_with (g : CardDuty → CardDuty) : Work.mapDuty wr.duty g (s.with_ i y b) =
    (s.withCards wr.duty.row (r.cards.set wr.duty.place (g d))).with_ i y b := by
  have hbm : (s.with_ i y b).bm = s.bm := State.with_bm
  have hcards : s.bm.mapRow wr.duty.row (wr.duty.change g) =
      (s.withCards wr.duty.row (r.cards.set wr.duty.place (g d))).bm := by
    refine Bm.mapRow_congr hnd hr (congrArg (fun l => { r with cards := l }) ?_)
    rw [List.set_eq_modify]
    exact List.modify_congr hx rfl
  rw [Work.mapDuty_eq (by rw [hbm]; exact hnd) (by rw [hbm]; exact hr) hx (by rw [hf]; rfl)]
  rw [← hbm] at hcards
  refine (congrArg (fun b' => ({ s.with_ i y b with bm := b' } : Work)) hcards).trans ?_
  cases i <;> rfl

/-- The chain is written: the duty is DONE, and BM makes its checks. -/
theorem State.decideRun_done {failed : Bool} (hw : y.writing = some wr) : Work.decideRun i true failed (s.with_ i y b) =
    Work.nextSlot i ((Work.check wr.duty.row ((s.withCards wr.duty.row
      (r.cards.set wr.duty.place { d with state := .done })).with_ i { y with failRun := 0, writing := none } b)).post
        (.cardDone wr.duty.row d.chain)) := by
  unfold Work.decideRun
  dsimp only
  rw [State.with_slot, hw]
  dsimp only
  rw [if_pos rfl, State.with_duty hr hx, State.with_mapSlot, State.mapDuty_with hnd hr hx hf]
  rfl

/-- The duty fails where it is, and BM makes its checks. -/
theorem State.failDuty_with {cause : CardCause} (hslot : d.slot = i) (hre : ∀ w : Work, w.reassigns r d cause = false) :
    Work.failDuty wr.duty cause true (s.with_ i y b) =
      Work.check wr.duty.row ((s.dutyFailed i wr.duty r d cause).with_ i y b) := by
  rw [Work.failDuty_eq (by rw [State.with_bm]; exact hr) hx (by rw [hf]; rfl) (hre _), State.mapDuty_with hnd hr hx hf,
    State.with_raise, hslot]
  rfl

section
variable (hdev : r.develop = .pending) (hproof : r.proof = none)
include hdev hproof

/-- The row of a duty that ends stands, while its develop duty waits. -/
theorem State.decideRun_done_stays {failed : Bool} (hw : y.writing = some wr) : Work.decideRun i true failed (s.with_ i y b) =
    Work.nextSlot i ((s.withCards wr.duty.row (r.cards.set wr.duty.place { d with state := .done })).with_ i
      { y with failRun := 0, writing := none } (b ++ [.cardDone wr.duty.row d.chain])) := by
  rw [State.decideRun_done hnd hr hx hf hw, Work.check_pending (r := { r with
    cards := r.cards.set wr.duty.place { d with state := .done } }) (by
      rw [State.with_bm]; exact State.withCards_row hr _) hdev hproof]
  rfl

theorem State.failDuty_stays {cause : CardCause} (hslot : d.slot = i) (hre : ∀ w : Work, w.reassigns r d cause = false) :
    Work.failDuty wr.duty cause true (s.with_ i y b) = (s.dutyFailed i wr.duty r d cause).with_ i y b := by
  rw [State.failDuty_with hnd hr hx hf hslot hre, Work.check_pending (r := { r with
    cards := r.cards.set wr.duty.place (d.lost cause true) }) (by
      rw [State.with_bm]; exact State.withCards_row hr _) hdev hproof]

end

end

end

end Sys2Proof.Machine
end

section
/-! PROOF. The ends of a run that reach beyond the slot (R16, R17, R138, R141, R142): a row that settles, a duty that goes
to B, a slot that resumes, and a card that is removed from a writing slot. -/

namespace Sys2Proof.Machine

/-! ### A row without open duties settles (R16, R17) -/

section
variable {w : Work} {i : Nat} {r : Row}

theorem Row.openDuties_closed (hd : r.develop.isFinal = true) (hc : ∀ d ∈ r.cards, d.state.isFinal = true)
    (ht : ∀ d ∈ r.tethers, d.state.isFinal = true) : r.openDuties = 0 := by
  rw [Row.openDuties, hd, if_pos rfl, List.filter_eq_nil_iff.2 fun d h => by rw [hc d h]; exact Bool.false_ne_true,
    List.filter_eq_nil_iff.2 fun d h => by rw [ht d h]; exact Bool.false_ne_true]
  rfl

theorem Row.rawRead_closed (hd : r.develop.isFinal = true) (hc : ∀ d ∈ r.cards, d.state.isFinal = true)
    (ht : ∀ d ∈ r.tethers, d.state.isFinal = true) : r.rawRead = false := by
  have h1 : r.cards.any (fun d => decide (d.chain = .raw) && !d.state.isFinal) = false :=
    List.any_eq_false.2 fun d h => by rw [hc d h, Bool.not_true, Bool.and_false]; exact Bool.false_ne_true
  have h2 : r.tethers.any (fun d => decide (d.chain = .raw) && !d.state.isFinal && decide (d.source = .buffer)) = false :=
    List.any_eq_false.2 fun d h => by
      rw [ht d h, Bool.not_true, Bool.and_false, Bool.false_and]
      exact Bool.false_ne_true
  rw [Row.rawRead, h1, h2, hd]
  rfl

/-- The state in which a row has settled and its raw chain is free; the reclaim signal is not yet told. -/
def State.rowSettled (s : State) (i : Nat) (r : Row) (c : RawChain) (o : ShotOutcome) : State :=
  ({ s with bm := { s.bm.mapRow i fun x => { x with raw := none, life := .settled, outcome := some o } with
    free := c.pages.foldr insertPage s.bm.free } } : State).raised .shotSettled (leBytes 3 (r.number.getD 0))

/-- A HELD row whose duties are all final, and that has no proof, gives its raw chain back and settles. -/
theorem Work.check_settles {c : RawChain} {o : ShotOutcome} (hr : w.bm.row? i = some r) (hl : r.life = .held)
    (hc : r.raw = some c) (hp : r.proof = none) (hd : r.develop.isFinal = true)
    (hcards : ∀ d ∈ r.cards, d.state.isFinal = true) (ht : ∀ d ∈ r.tethers, d.state.isFinal = true)
    (ho : r.settledOutcome = o) : w.check i = { w with
      toState := w.toState.rowSettled i r c o
      bus := w.bus ++ [.deLook, .reclaim (Decidable.decide ((c.pages.foldr insertPage w.bm.free).length < w.bm.threshold))] } := by
  obtain ⟨v, hv⟩ : ∃ v : Work, v = (w.mapRow i fun x => { x with raw := none }).freePages c.pages := ⟨_, rfl⟩
  have hrow : v.bm.row? i = some { r with raw := none } := by
    rw [hv]
    exact Bm.row?_mapRow_same (f := fun x => { x with raw := none }) hr fun _ => rfl
  have hrel : w.releaseCheck i = v := by
    have hraw : w.releaseRaw i = v := by rw [Work.releaseRaw, hr, Option.bind_some, hc, hv]
    have hproof : v.releaseProof i = v := by rw [Work.releaseProof, hrow, Option.bind_some, hp]
    unfold Work.releaseCheck
    rw [hr]
    dsimp only
    rw [if_pos hl, Row.rawRead_closed hd hcards ht, if_neg Bool.false_ne_true, hraw, hproof, ite_self]
  have hsettles : Row.settles { r with raw := none } = true := by
    show (Decidable.decide (r.life = .held) && Decidable.decide (r.openDuties = 0) && _ && r.proof.isNone) = true
    rw [hl, Row.openDuties_closed hd hcards ht, hp]
    rfl
  have hout : Row.settledOutcome { r with raw := none } = o := ho
  rw [Work.check, hrel]
  unfold Work.settleCheck
  rw [hrow]
  dsimp only
  rw [hsettles, if_pos rfl, hout, hv]
  have hbm : ((w.bm.mapRow i fun x => { x with raw := none }).mapRow i fun x => { x with
      life := .settled, outcome := some o }) = w.bm.mapRow i fun x => { x with
        raw := none, life := .settled, outcome := some o } :=
    Bm.mapRow_mapRow (f := fun x => { x with raw := none }) w.bm i fun _ => rfl
  refine (congrArg (fun b : Bm => ({ w with
    bm := { b with free := c.pages.foldr insertPage w.bm.free }
    cp := w.cp.raise .shotSettled (leBytes 3 (r.number.getD 0))
    bus := w.bus ++ [.deLook] ++
      [.reclaim (Decidable.decide ((c.pages.foldr insertPage w.bm.free).length < w.bm.threshold))] } : Work)) hbm).trans ?_
  rw [List.append_assoc]
  rfl

end

section
variable {s : State} {i : SlotId} {y : Slot} {b : List Report} {wr : Writing} {r : Row} {d : CardDuty} {c : RawChain}

/-- The reports of pages that return to the pool (R4, R5). -/
def State.freesPages (s : State) (pages : List Nat) : List Report :=
  [.deLook, .reclaim (decide ((pages.foldr insertPage s.bm.free).length < s.bm.threshold))]

theorem State.check_settles_with {j : Nat} {o : ShotOutcome} (hr : s.bm.row? j = some r) (hl : r.life = .held)
    (hc : r.raw = some c) (hp : r.proof = none) (hd : r.develop.isFinal = true)
    (hcards : ∀ d ∈ r.cards, d.state.isFinal = true) (ht : ∀ d ∈ r.tethers, d.state.isFinal = true)
    (ho : r.settledOutcome = o) :
    Work.check j (s.with_ i y b) = (s.rowSettled j r c o).with_ i y (b ++ s.freesPages c.pages) := by
  have hbm : (s.with_ i y b).bm = s.bm := State.with_bm
  rw [Work.check_settles (by rw [hbm]; exact hr) hl hc hp hd hcards ht ho, hbm]
  cases i <;> rfl

/-- The pages are taken up, with nothing else to do: the state has them free. -/
theorem Work.Comes.freesPages {t u : State} {rest : List Report} {n : Nat} (h : t.backIdle)
    (hc : Work.Comes { toState := { t with tu := { t.tu with
      reclaim := Decidable.decide ((c.pages.foldr insertPage s.bm.free).length < s.bm.threshold) } }, bus := rest } n u) :
    Work.Comes { toState := t, bus := s.freesPages c.pages ++ rest } (n + 2) u := .freed h hc

/-- The cards of a row with the writing duty ended, when every other is final. -/
theorem Row.cards_closed {k : Nat} {x : CardDuty} (hall : ∀ y ∈ r.cards.eraseIdx k, y.state.isFinal = true)
    (hx : x.state.isFinal = true) : ∀ y ∈ r.cards.set k x, y.state.isFinal = true := by
  intro y hy
  obtain ⟨j, hj⟩ := List.mem_iff_getElem?.1 hy
  rw [List.getElem?_set] at hj
  split at hj
  · split at hj
    · cases hj
      exact hx
    · exact absurd hj.symm (Option.some_ne_none y)
  · next hne => exact hall y (List.mem_eraseIdx_iff_getElem?.2 ⟨j, fun h => hne h.symm, hj⟩)

section
variable (hnd : (s.bm.rows.map Row.index).Nodup) (hr : s.bm.row? wr.duty.row = some r)
  (hx : r.cards[wr.duty.place]? = some d) (hf : d.state = .writing)
include hnd hr hx hf

/-- A duty of A fails and goes to B, which writes (R142). -/
theorem State.failDuty_toB_with {cause : CardCause} (hdev : r.develop = .pending) (hproof : r.proof = none)
    (hslot : d.slot = .a) (hchain : d.chain = .raw) (hp : r.policy = some .overflow) (hdisc : r.discarding = false)
    (hcause : cause.reassigns = true) (hstop : s.cw.stopped = false)
    (hb : s.cw.b.state = .writing ∨ s.cw.b.state = .suspended) :
    Work.failDuty wr.duty cause true (s.with_ .a y b) =
      ((({ s with bm := s.bm.mapRow wr.duty.row fun z => { z with
          cards := r.cards.set wr.duty.place (d.lost cause true) ++ [CardDuty.again] } } : State).raised .storeFailed
        (leBytes 3 (r.number.getD 0) ++ [slotByte .a, cause.byte])).setSlot .b { s.cw.b with
          writeQ := s.cw.b.writeQ ++ [{ row := wr.duty.row, place := r.cards.length }] }).with_ .a y b := by
  have hwritable : s.cw.b.writable = true := by rcases hb with h | h <;> rw [Slot.writable, h]
  refine (Work.failDuty_moves (w := s.with_ .a y b) hnd hr hx (by rw [hf]; rfl) hdev hproof ?_ hb).trans ?_
  · show (_ && _ && _ && _ && s.cw.b.writable && !s.cw.stopped && _) = true
    rw [hstop, hwritable, hdisc, hchain, hslot, hp, hcause]
    rfl
  · rw [Row.storeFailed, hslot]
    rfl

end

/-! ### A suspended slot (R141) -/

section
variable {q : ReadRequest} (hop : y.op = .read q true) (hst : y.state = .suspended)
include hop hst

/-- The next read that waits is served. -/
theorem State.readEnd_serves {q2 : ReadRequest} {qs : List ReadRequest} {data : Option (List Byte)} (hserved : y.served < 4)
    (hreads : y.reads = q2 :: qs) (hstop : s.cw.stopped = false) : Work.readEnd i data (s.with_ i y b) =
      s.with_ i { y with op := .read q2 true, reads := qs, served := y.served + 1 } (b ++ [.readEnded q.buffer data]) := by
  unfold Work.readEnd
  rw [State.with_slot, hop, hst]
  dsimp only
  rw [if_pos rfl, if_neg (by rw [hreads]; exact fun h => h.elim (by omega) (List.cons_ne_nil q2 qs)), State.with_mapSlot,
    State.with_post, State.with_mapSlot, Work.startRead_takes (q := q2) (qs := qs) (by rw [State.with_slot])
      (by rw [State.with_slot]; exact hreads) (by rw [State.with_stopped]; exact hstop), State.with_mapSlot, ← hst]

/-- The slot goes back to its chain. -/
theorem State.readEnd_resumes {p : Piece} {data : Option (List Byte)} (hserved : 4 ≤ y.served ∨ y.reads = [])
    (hw : y.writing = some wr) (hr : s.bm.row? wr.duty.row = some r) (hx : r.cards[wr.duty.place]? = some d)
    (hp : placeAt 256 d.pieces wr.written = some p) : Work.readEnd i data (s.with_ i y b) =
      { toState := (s.setSlot i { y with
          state := .writing, runsSince := 0,
          op := .run p.start p.count (sectorData s.mem (r.pagesOf d.chain) (chainLength d.chain) wr.written p.count) }).slotChange,
        bus := b ++ [.readEnded q.buffer data] } := by
  obtain ⟨v, hv⟩ : ∃ v : Work, v = { toState := (s.setSlot i { y with
    op := .idle, runsSince := 0, state := .writing }).slotChange, bus := b ++ [.readEnded q.buffer data] } := ⟨_, rfl⟩
  have hslot : v.cw.slot i = { y with op := .idle, runsSince := 0, state := .writing } := by
    rw [hv]
    exact State.setSlot_slot s i _
  have hbm : v.bm = s.bm ∧ v.mem = s.mem := by
    rw [hv]
    cases i <;> exact ⟨rfl, rfl⟩
  have hrun := Work.startRun_eq (w := v) (i := i) (wr := wr) (r := r) (x := d) (p := p) (by rw [hslot]; exact hw)
    (by rw [hbm.1]; exact hr) hx hp
  unfold Work.readEnd
  rw [State.with_slot, hop, hst]
  dsimp only
  rw [if_pos rfl, if_pos hserved, State.with_mapSlot, State.with_post, Work.resume, State.with_mapSlot,
    State.with_enterSlot (y := { y with op := .idle, runsSince := 0 }) (by rw [hst]; exact fun h => SlotState.noConfusion h),
    ← hv, hrun, hbm.2, hv]
  cases i <;> rfl

end

/-! ### The card is removed from a slot that writes (R138) -/

theorem State.cardLine_writing {st n : Nat} {data : List Byte} {cause : CardCause} {t : State} (hc : y.cardIn = true)
    (hop : y.op = .run st n data) (hw : y.writing = some wr) (hr : y.reads = []) (hq : y.writeQ = [])
    (hst : y.state ≠ .absent) (hcause : (y.stops.head?.map Stop.cause).getD .removed = cause)
    (hfail : Work.failDuty wr.duty cause true (s.with_ i { y with cardIn := false, op := .idle, writing := none } b) =
      t.with_ i { y with cardIn := false, op := .idle, writing := none } b) :
    Work.cardLine i false (s.with_ i y b) = { toState := ((t.setSlot i { y with
      op := .idle, writing := none, cardIn := false, capacity := none, range := none, extents := [], stops := [],
      lockOn := false, failRun := 0, lastFail := none, state := .absent }).lowAfter y.queued).slotChange, bus := b } := by
  obtain ⟨u, hu⟩ : ∃ u : Slot, u = { y with cardIn := false, op := .idle, writing := none } := ⟨_, rfl⟩
  have hslot : (t.with_ i u b).cw.slot i = u := State.with_slot
  unfold Work.cardLine
  rw [State.with_slot, if_neg (by rw [hc]; exact fun h => Bool.noConfusion h)]
  dsimp only
  rw [if_neg Bool.false_ne_true, State.with_mapSlot]
  unfold Work.removeCard
  rw [State.with_slot]
  dsimp only
  rw [hop, hw]
  dsimp only
  rw [State.with_mapSlot, State.with_mapSlot, hcause]
  refine (congrArg (fun w => Work.enterSlot i .absent (Work.mapSlot i (fun x => { x with
    capacity := none, range := none, stops := [], lockOn := false, failRun := 0, lastFail := none })
      (Work.setExtents i [] (Work.giveUp i .removed (Work.failReads i w))))) hfail).trans ?_
  rw [← hu, Work.failReads_none (by rw [hslot, hu]) (by rw [hslot, hu]; exact hr), Work.giveUp_empty (by rw [hslot, hu]; exact hq),
    Work.loses_extents (n := y.queued) (g := fun x => { x with
      capacity := none, range := none, stops := [], lockOn := false, failRun := 0, lastFail := none })
      (by rw [hslot, hu]; rfl) (fun _ => ⟨rfl, rfl⟩) (by rw [hslot, hu]; exact hst), hslot, hu]
  cases i <;> rfl

end

end Sys2Proof.Machine
end

section
/-! PROOF. What TU and BM's checks leave of the duties of cards, of the slots and of the send queue, while the reports of a
step are taken (R16, R17, R152 to R166). -/

namespace Sys2Proof.Machine

/-! ### The relation -/

/-- A row after TU's reports and BM's checks: its card duties and its develop duty stand, and so do tether duties that are
all final; a HELD row may lose chains, and may settle when its duties are final. -/
structure Row.Bears (r z : Row) : Prop where
  number : z.number = r.number
  discarding : z.discarding = r.discarding
  cards : z.cards = r.cards
  develop : z.develop = r.develop
  tethers : (∀ d ∈ r.tethers, d.state.isFinal = true) → z.tethers = r.tethers
  apart : r.life ≠ .held → z.life = r.life ∧ z.outcome = r.outcome ∧ z.raw = r.raw ∧ z.proof = r.proof
  held : r.life = .held → (z.life = .held ∧ z.outcome = r.outcome) ∨
    ((∀ d ∈ r.cards, d.state.isFinal = true) ∧ r.develop.isFinal = true)

/-- A slot but for the reads that wait and the operation on its channel. -/
def Slot.sansReads (x : Slot) : Slot := { x with op := .idle, reads := [] }

/-- A slot after TU has asked for reads: only its reads change, and none is taken in FAULT (R140). -/
structure Slot.Bears (x y : Slot) : Prop where
  reads : y.sansReads = x.sansReads
  fault : x.state = .fault → y = x

/-- The entry is, in its kind and its row, one of a list. -/
def Entry.Of (l : List Entry) (e : Entry) : Prop := ∃ f ∈ l, e.kind = f.kind ∧ e.row = f.row

/-- TU and BM's checks have acted. -/
structure Work.Bears (w v : Work) : Prop where
  de : v.de = w.de
  rows : ∀ j, Option.Rel Row.Bears (w.bm.row? j) (v.bm.row? j)
  slots : ∀ i, (w.cw.slot i).Bears (v.cw.slot i)
  stopped : v.cw.stopped = w.cw.stopped
  queue : ∀ e ∈ v.tu.queue, e.Of w.tu.queue
  sent : ∀ o ∈ w.sent, o ∈ v.sent

theorem Row.Bears.refl (r : Row) : r.Bears r :=
  ⟨rfl, rfl, rfl, rfl, fun _ => rfl, fun _ => ⟨rfl, rfl, rfl, rfl⟩, fun h => .inl ⟨h, rfl⟩⟩

theorem Row.Bears.trans {r y z : Row} (h : r.Bears y) (g : y.Bears z) : r.Bears z where
  number := g.number.trans h.number
  discarding := g.discarding.trans h.discarding
  cards := g.cards.trans h.cards
  develop := g.develop.trans h.develop
  tethers hr := (g.tethers (by rw [h.tethers hr]; exact hr)).trans (h.tethers hr)
  apart hr := by
    obtain ⟨h1, h2, h3, h4⟩ := h.apart hr
    obtain ⟨g1, g2, g3, g4⟩ := g.apart (h1 ▸ hr)
    exact ⟨g1.trans h1, g2.trans h2, g3.trans h3, g4.trans h4⟩
  held hr := by
    rcases h.held hr with ⟨h1, h2⟩ | h1
    · rcases g.held h1 with ⟨g1, g2⟩ | ⟨g1, g2⟩
      · exact .inl ⟨g1, g2.trans h2⟩
      · exact .inr ⟨h.cards ▸ g1, h.develop ▸ g2⟩
    · exact .inr h1

theorem Slot.Bears.refl (x : Slot) : x.Bears x := ⟨rfl, fun _ => rfl⟩

theorem Slot.Bears.trans {x y z : Slot} (h : x.Bears y) (g : y.Bears z) : x.Bears z where
  reads := g.reads.trans h.reads
  fault hx := by rw [g.fault (by rw [h.fault hx]; exact hx), h.fault hx]

theorem Entry.of_mem {l : List Entry} {e : Entry} (h : e ∈ l) : e.Of l := ⟨e, h, rfl, rfl⟩

theorem Entry.Of.trans {l m : List Entry} {e : Entry} (h : e.Of l) (g : ∀ f ∈ l, f.Of m) : e.Of m := by
  obtain ⟨f, hf, hk, hr⟩ := h
  obtain ⟨x, hx, hk2, hr2⟩ := g f hf
  exact ⟨x, hx, hk.trans hk2, hr.trans hr2⟩

theorem Option.Rel.comp {α : Type} {P : α → α → Prop} (hP : ∀ a b c, P a b → P b c → P a c) {a b c : Option α}
    (h : Option.Rel P a b) (g : Option.Rel P b c) : Option.Rel P a c := by
  cases h with
  | none => cases g; exact .none
  | some h => cases g with | some g => exact .some (hP _ _ _ h g)

theorem Work.rows_refl (b : Bm) (j : Nat) : Option.Rel Row.Bears (b.row? j) (b.row? j) := by
  cases b.row? j <;> constructor
  exact .refl _

theorem Work.Bears.refl (w : Work) : w.Bears w :=
  ⟨rfl, fun j => Work.rows_refl w.bm j, fun _ => .refl _, rfl, fun _ h => Entry.of_mem h, fun _ h => h⟩

theorem Work.Bears.trans {u v w : Work} (h : u.Bears v) (g : v.Bears w) : u.Bears w where
  de := g.de.trans h.de
  rows j := Option.Rel.comp (P := Row.Bears) (fun _ _ _ => Row.Bears.trans) (h.rows j) (g.rows j)
  slots i := (h.slots i).trans (g.slots i)
  stopped := g.stopped.trans h.stopped
  queue e he := (g.queue e he).trans h.queue
  sent o ho := g.sent o (h.sent o ho)

section
variable {u v w : Work}

/-- What neither the table, the engine, the slots nor the send queue hold may change. -/
theorem Work.Bears.set (h : u.Bears v) (hde : w.de = v.de) (hbm : w.bm = v.bm) (hcw : w.cw = v.cw)
    (hq : w.tu.queue = v.tu.queue) (hs : w.sent = v.sent) : u.Bears w := by
  refine h.trans ⟨hde, fun j => ?_, fun i => ?_, by rw [hcw], fun e he => ?_, fun o ho => by rw [hs]; exact ho⟩
  · rw [hbm]
    exact Work.rows_refl v.bm j
  · rw [hcw]
    exact .refl _
  · rw [hq] at he
    exact Entry.of_mem he

/-- A change of the send queue. -/
theorem Work.Bears.setQueue (h : u.Bears v) {t : Tu} (hq : ∀ e ∈ t.queue, e.Of u.tu.queue) : u.Bears { v with tu := t } :=
  ⟨h.de, h.rows, h.slots, h.stopped, hq, h.sent⟩

/-- A change of TU that leaves the send queue. -/
theorem Work.Bears.setTu (h : u.Bears v) {t : Tu} (hq : t.queue = v.tu.queue) : u.Bears { v with tu := t } :=
  h.setQueue (by rw [hq]; exact h.queue)

theorem Work.Bears.post (h : u.Bears v) (r : Report) : u.Bears (v.post r) := h.set rfl rfl rfl rfl rfl
theorem Work.Bears.raise (h : u.Bears v) (k : Notice) (l : List Byte) : u.Bears (v.raise k l) := h.set rfl rfl rfl rfl rfl
theorem Work.Bears.emit (h : u.Bears v) (o : Output) : u.Bears (v.emit o) :=
  ⟨h.de, h.rows, h.slots, h.stopped, h.queue, fun x hx => List.mem_cons_of_mem _ (h.sent x hx)⟩

theorem Work.Bears.foldl {α : Type} {f : Work → α → Work} : ∀ (l : List α), (∀ v, ∀ x ∈ l, u.Bears v → u.Bears (f v x)) →
    ∀ {v : Work}, u.Bears v → u.Bears (l.foldl f v)
  | [], _, _, h => h
  | x :: l, hf, _, h =>
    Work.Bears.foldl l (fun v y hy => hf v y (List.mem_cons_of_mem _ hy)) (hf _ x List.mem_cons_self h)

/-- A change of the rows with an index that every such row bears. -/
theorem Work.Bears.mapRow (h : u.Bears v) (i : Nat) {f : Row → Row} (hi : ∀ r, (f r).index = r.index)
    (hf : ∀ r, v.bm.row? i = some r → r.Bears (f r)) (hde : w.de = v.de) (hrows : w.bm.rows = (v.bm.mapRow i f).rows)
    (hcw : w.cw = v.cw) (hq : w.tu.queue = v.tu.queue) (hs : w.sent = v.sent) : u.Bears w := by
  refine h.trans ⟨hde, fun j => ?_, fun k => by rw [hcw]; exact .refl _, by rw [hcw],
    fun e he => Entry.of_mem (by rw [hq] at he; exact he), fun o ho => by rw [hs]; exact ho⟩
  have hj : w.bm.row? j = (v.bm.mapRow i f).row? j := by rw [Bm.row?, hrows, ← Bm.row?]
  rw [hj, Bm.row?_mapRow _ _ _ hi]
  cases hx : v.bm.row? j with
  | none => exact .none
  | some x =>
    refine .some ?_
    dsimp only
    split
    · next he =>
      subst he
      exact hf x hx
    · exact .refl x

/-! ### BM's checks (R16, R17) -/

theorem Row.bears_raw {r : Row} (hl : r.life = .held) : r.Bears { r with raw := none } :=
  ⟨rfl, rfl, rfl, rfl, fun _ => rfl, fun hn => absurd hl hn, fun h => .inl ⟨h, rfl⟩⟩

theorem Row.bears_proof {r : Row} (hl : r.life = .held) : r.Bears { r with proof := none } :=
  ⟨rfl, rfl, rfl, rfl, fun _ => rfl, fun hn => absurd hl hn, fun h => .inl ⟨h, rfl⟩⟩

theorem Work.Bears.releaseRaw (h : u.Bears v) {i : Nat} {r : Row} (hr : v.bm.row? i = some r) (hl : r.life = .held) :
    u.Bears (v.releaseRaw i) := by
  unfold Work.releaseRaw
  split
  · refine h.mapRow i (f := fun x => { x with raw := none }) (fun _ => rfl) (fun x hx => ?_) rfl rfl rfl rfl rfl
    rw [hr] at hx
    cases hx
    exact Row.bears_raw hl
  · exact h

theorem Work.Bears.releaseProof (h : u.Bears v) {i : Nat} {r : Row} (hr : v.bm.row? i = some r) (hl : r.life = .held) :
    u.Bears (v.releaseProof i) := by
  unfold Work.releaseProof
  split
  · refine h.mapRow i (f := fun x => { x with proof := none }) (fun _ => rfl) (fun x hx => ?_) rfl rfl rfl rfl rfl
    rw [hr] at hx
    cases hx
    exact Row.bears_proof hl
  · exact h

theorem Work.releaseRaw_held {i : Nat} {r : Row} (hr : v.bm.row? i = some r) (hl : r.life = .held) :
    ∃ z, (v.releaseRaw i).bm.row? i = some z ∧ z.life = .held := by
  unfold Work.releaseRaw
  split
  · exact ⟨{ r with raw := none }, Bm.row?_mapRow_same (f := fun x => { x with raw := none }) hr fun _ => rfl, hl⟩
  · exact ⟨r, hr, hl⟩

theorem Work.Bears.releaseCheck (h : u.Bears v) (i : Nat) : u.Bears (v.releaseCheck i) := by
  unfold Work.releaseCheck
  split
  · next r hr =>
    split
    · next hl =>
      dsimp only
      obtain ⟨z, hz, hzl⟩ := Work.releaseRaw_held hr hl
      split <;> split
      · exact h
      · exact h.releaseRaw hr hl
      · exact h.releaseProof hr hl
      · exact (h.releaseRaw hr hl).releaseProof hz hzl
    · exact h
  · exact h

theorem Row.closed_of_openDuties {r : Row} (h : r.openDuties = 0) :
    (∀ d ∈ r.cards, d.state.isFinal = true) ∧ r.develop.isFinal = true := by
  refine ⟨fun d hd => ?_, Row.develop_final_of_openDuties h⟩
  by_contra hf
  exact Row.openDuties_of_card hd (Bool.eq_false_iff.2 hf) h

theorem Work.Bears.settleCheck (h : u.Bears v) (i : Nat) : u.Bears (v.settleCheck i) := by
  unfold Work.settleCheck
  split
  · next r hr =>
    split
    · next hset =>
      obtain ⟨hl, hopen, hraw, hproof⟩ := r.settles_iff.1 hset
      refine h.mapRow i (f := fun x => { x with life := .settled, outcome := some r.settledOutcome }) (fun _ => rfl)
        (fun x hx => ?_) rfl rfl rfl rfl rfl
      rw [hr] at hx
      cases hx
      exact ⟨rfl, rfl, rfl, rfl, fun _ => rfl, fun hn => absurd hl hn, fun _ => .inr (Row.closed_of_openDuties hopen)⟩
    · exact h
  · exact h

theorem Work.Bears.check (h : u.Bears v) (i : Nat) : u.Bears (v.check i) := (h.releaseCheck i).settleCheck i

/-! ### Reads (R140) -/

theorem Work.Bears.mapSlot (h : u.Bears v) (i : SlotId) {f : Slot → Slot} (hf : (v.cw.slot i).Bears (f (v.cw.slot i))) :
    u.Bears (v.mapSlot i f) := by
  refine h.trans ⟨by cases i <;> rfl, fun j => by rw [Work.mapSlot_bm]; exact Work.rows_refl v.bm j, fun k => ?_,
    by cases i <;> rfl, fun e he => Entry.of_mem (by cases i <;> exact he), fun o ho => by cases i <;> exact ho⟩
  by_cases hk : k = i
  · subst hk
    rw [Cw.slot_mapSlot]
    exact hf
  · cases k <;> cases i <;> first | exact absurd rfl hk | exact .refl _

theorem Slot.bears_read {x : Slot} (hs : x.state ≠ .fault) (op : ChannelOp) (l : List ReadRequest) :
    x.Bears { x with op := op, reads := l } := ⟨rfl, fun h => absurd h hs⟩

theorem Work.Bears.startRead (h : u.Bears v) (i : SlotId) (hs : (v.cw.slot i).state ≠ .fault) : u.Bears (v.startRead i) := by
  unfold Work.startRead
  split
  · split
    · exact h
    · exact h.mapSlot i (Slot.bears_read hs _ _)
  · exact h

theorem Work.Bears.askRead (h : u.Bears v) (i : SlotId) (r : ReadRequest) : u.Bears (v.askRead i r) := by
  have hjoin (hs : (v.cw.slot i).state ≠ .fault) : u.Bears (v.mapSlot i fun x => { x with reads := x.reads ++ [r] }) :=
    h.mapSlot i (Slot.bears_read hs _ _)
  have hstate : ((v.mapSlot i fun x => { x with reads := x.reads ++ [r] }).cw.slot i).state = (v.cw.slot i).state := by
    rw [Cw.slot_mapSlot]
  unfold Work.askRead
  dsimp only
  cases hst : (v.cw.slot i).state with
  | absent | present | fault => exact h.post _
  | ready | locked =>
    have hne : (v.cw.slot i).state ≠ .fault := by rw [hst]; exact fun h => SlotState.noConfusion h
    dsimp only
    split_ifs
    · exact h.post _
    · exact (hjoin hne).startRead _ (by rw [hstate]; exact hne)
  | writing | suspended =>
    dsimp only
    split_ifs
    · exact h.post _
    · exact hjoin (by rw [hst]; exact fun h => SlotState.noConfusion h)

end

end Sys2Proof.Machine
end

section
/-! PROOF. The operations of TU that the reports of a step bring, one by one (R152 to R166). -/

namespace Sys2Proof.Machine

section
variable {u v : Work}

/-! ### The link and the frames -/

theorem Work.Bears.bump (h : u.Bears v) (k : CounterKind) : u.Bears (v.bump k) := by
  unfold Work.bump
  dsimp only
  split
  · exact (h.setTu (t := { v.tu with counters := v.tu.counters.rise k }) rfl).raise _ _
  · exact h.setTu rfl

theorem Work.Bears.enterLink (h : u.Bears v) (l : Link) : u.Bears (v.enterLink l) := by
  unfold Work.enterLink
  split
  · exact h
  · exact (h.setTu (t := { v.tu with link := l }) rfl).raise _ _

theorem Work.Bears.sendDesk (h : u.Bears v) (kind : Byte) (fields : List Byte) : u.Bears (v.sendDesk kind fields) := h.emit _

theorem Work.Bears.loseDesk (h : u.Bears v) : u.Bears v.loseDesk := by
  unfold Work.loseDesk Work.enterUnbound
  dsimp only
  have hlink : u.Bears (({ v with tu := v.tu.unbind } : Work).enterLink .unbound) :=
    (h.setTu (t := v.tu.unbind) rfl).enterLink .unbound
  split
  · exact hlink
  · exact (hlink.setTu (t := { (({ v with tu := v.tu.unbind } : Work).enterLink .unbound).tu with helloTimer := true }) rfl).emit _

theorem Work.Bears.updateWait (h : u.Bears v) : u.Bears v.updateWait := h.setTu rfl

/-! ### The send queue -/

theorem Entry.of_filter {l m : List Entry} {p : Entry → Bool} (h : ∀ e ∈ l, e.Of m) : ∀ e ∈ l.filter p, e.Of m :=
  fun e he => h e (List.mem_filter.1 he).1

theorem Entry.of_mapEntry {l m : List Entry} {x : Entry} {n : Nat} {c : Chain} (h : ∀ e ∈ l, e.Of m) (hx : x.Of m) :
    ∀ e ∈ l.map (fun e => if e.is n c then x else e), e.Of m := by
  intro e he
  obtain ⟨y, hy, rfl⟩ := List.mem_map.1 he
  split
  · exact hx
  · exact h y hy

theorem mem_insertFront {e x : Entry} : ∀ {l : List Entry}, x ∈ insertFront e l → x = e ∨ x ∈ l
  | [], h => .inl (List.mem_singleton.1 h)
  | y :: l, h => by
    unfold insertFront at h
    split at h
    · rcases List.mem_cons.1 h with rfl | h
      · exact .inr List.mem_cons_self
      · exact (mem_insertFront h).imp_right (List.mem_cons_of_mem y)
    · rcases List.mem_cons.1 h with h | h
      · exact .inl h
      · exact .inr h

theorem mem_insertTail {e x : Entry} : ∀ {l : List Entry}, x ∈ insertTail e l → x = e ∨ x ∈ l
  | [], h => .inl (List.mem_singleton.1 h)
  | y :: l, h => by
    unfold insertTail at h
    split at h
    · rcases List.mem_cons.1 h with rfl | h
      · exact .inr List.mem_cons_self
      · exact (mem_insertTail h).imp_right (List.mem_cons_of_mem y)
    · rcases List.mem_cons.1 h with h | h
      · exact .inl h
      · exact .inr h

theorem Tu.active?_mem {t : Tu} {e : Entry} (h : t.active? = some e) : e ∈ t.queue := by
  obtain ⟨x, -, hx⟩ := Option.bind_eq_some_iff.1 h
  exact List.mem_of_find?_eq_some hx

/-- A change of the tether duties of a row that leaves the final ones. -/
theorem Work.Bears.mapTether (h : u.Bears v) (i : Nat) (c : Chain) (f : TetherDuty → TetherDuty) :
    u.Bears (v.mapTether i c f) := by
  refine h.mapRow i (f := fun r => { r with tethers := r.tethers.map fun d =>
    if d.chain = c ∧ d.state.isFinal = false then f d else d }) (fun _ => rfl) (fun r _ => ?_) rfl rfl rfl rfl rfl
  refine ⟨rfl, rfl, rfl, rfl, fun hall => ?_, fun _ => ⟨rfl, rfl, rfl, rfl⟩, fun h => .inl ⟨h, rfl⟩⟩
  refine (List.map_congr_left fun d hd => ?_).trans (List.map_id _)
  exact if_neg fun hc => Bool.false_ne_true (hc.2.symm.trans (hall d hd))

theorem Work.Bears.mirror (h : u.Bears v) (e : Entry) : u.Bears (v.mirror e) := by
  unfold Work.mirror
  split
  · exact (h.mapTether _ _ _).check _
  · exact h

theorem Work.Bears.endEntry (h : u.Bears v) (e : Entry) (st : TetherState) (cause : Option TetherCause) :
    u.Bears (v.endEntry e st cause) := by
  have hdrop : u.Bears { v with tu := v.tu.dropEntry e.number e.chain } := h.setQueue (Entry.of_filter h.queue)
  have hrow : u.Bears (match e.row with
      | some i => (({ v with tu := v.tu.dropEntry e.number e.chain } : Work).mapTether i e.chain fun d =>
          { d with state := st, cause := cause }).check i
      | none => { v with tu := v.tu.dropEntry e.number e.chain }) := by
    split
    · exact (hdrop.mapTether _ _ _).check _
    · exact hdrop
  unfold Work.endEntry
  dsimp only
  split
  · exact hrow.raise _ _
  · exact hrow.raise _ _
  · exact hrow

theorem Work.Bears.demote (h : u.Bears v) {e : Entry} (he : e.Of u.tu.queue) : u.Bears (v.demote e) := by
  unfold Work.demote
  split
  · split
    · split
      · refine Work.Bears.mirror (h.setQueue ?_) _
        exact Entry.of_mapEntry h.queue he
      · exact h
    · exact h
  · exact h

theorem Work.Bears.demoteAll (h : u.Bears v) : u.Bears v.demoteAll :=
  .foldl _ (fun _ e he hw => hw.demote (h.queue e he)) h

/-! ### Reads and transfers -/

theorem Work.Bears.askOne (h : u.Bears v) {w : Work} (hw : v.askOne = some w) : u.Bears w := by
  unfold Work.askOne at hw
  split at hw
  · dsimp only at hw
    split at hw
    · split at hw
      · cases hw
      · cases hw
        exact Work.Bears.askRead (h.setTu (by exact rfl)) _ _
    · cases hw
  · cases hw

theorem Work.Bears.askReads : ∀ (k : Nat) {v : Work}, u.Bears v → u.Bears (Work.askReads k v)
  | 0, _, h => h
  | k + 1, v, h => by
    unfold Work.askReads
    split
    · next hw => exact Work.Bears.askReads k (h.askOne hw)
    · exact h

theorem Work.Bears.startTransfer (h : u.Bears v) {e : Entry} (he : e.Of u.tu.queue) : u.Bears (v.startTransfer e) := by
  have hmirror : u.Bears (({ v with tu := v.tu.mapEntry e.number e.chain fun _ => { e with sending := true } } : Work).mirror
      { e with sending := true }) := (h.setQueue (Entry.of_mapEntry (x := { e with sending := true }) h.queue he)).mirror _
  unfold Work.startTransfer
  exact (Work.Bears.askReads 8 ((Work.Bears.sendDesk (hmirror.setTu (by exact rfl)) _ _).enterLink _)).updateWait

theorem Work.Bears.selectEntry (h : u.Bears v) : u.Bears v.selectEntry := by
  unfold Work.selectEntry
  split
  · split
    · next e he => exact h.startTransfer (h.queue e (List.mem_of_find?_eq_some he))
    · exact h
  · exact h

theorem Work.Bears.returnEntry (h : u.Bears v) {e : Entry} (he : e.Of u.tu.queue) (front early : Bool) :
    u.Bears (v.returnEntry e front early) := by
  have hjoin : u.Bears (({ v with tu := { v.tu.dropEntry e.number e.chain with
      queue := if front then insertFront { e with sending := false, early := early } (v.tu.dropEntry e.number e.chain).queue
        else insertTail { e with sending := false, early := early } (v.tu.dropEntry e.number e.chain).queue } } : Work).mirror
      { e with sending := false, early := early }) := by
    refine Work.Bears.mirror (h.setQueue fun x hx => ?_) _
    have hmem : x = { e with sending := false, early := early } ∨ x ∈ (v.tu.dropEntry e.number e.chain).queue := by
      dsimp only at hx
      split at hx
      · exact mem_insertFront hx
      · exact mem_insertTail hx
    rcases hmem with rfl | hmem
    · exact he
    · exact Entry.of_filter h.queue x hmem
  unfold Work.returnEntry
  dsimp only
  split
  · exact hjoin.demote he
  · exact hjoin

theorem Work.Bears.settleEntry (h : u.Bears v) {e : Entry} (he : e.Of u.tu.queue) (x : TransferEnd) :
    u.Bears (v.settleEntry x e) := by
  unfold Work.settleEntry
  cases x with
  | good | rejected | sourceLost | reset | cancel => exact h.endEntry _ _ _
  | underrun | timeout | linkDown | deskLoss | disable | warning => exact h.returnEntry he _ _

theorem Work.Bears.linkAfter (h : u.Bears v) (x : TransferEnd) : u.Bears (v.linkAfter x) := by
  cases x with
  | good | rejected | sourceLost | underrun | cancel => exact (h.enterLink _).post _
  | timeout => exact h.loseDesk
  | warning => exact h.enterLink _
  | linkDown | deskLoss | disable | reset => exact h

theorem Work.Bears.endTransfer (h : u.Bears v) (x : TransferEnd) : u.Bears (v.endTransfer x) := by
  unfold Work.endTransfer
  split
  · next t e _ hact =>
    have he : e.Of u.tu.queue := h.queue e (Tu.active?_mem hact)
    have h1 : u.Bears (match x.abort with
        | some c => v.sendDesk 0x09 (leBytes 2 t.id ++ [c.byte])
        | none => v) := by
      split
      · exact h.sendDesk _ _
      · exact h
    have h2 (w : Work) (hw : u.Bears w) : u.Bears (match x.counter with
        | some k => w.bump k
        | none => w) := by
      split
      · exact hw.bump _
      · exact hw
    exact ((h2 _ (h1.setTu (by exact rfl))).settleEntry he _).linkAfter _
  · exact h

theorem Work.Bears.takeRead (h : u.Bears v) (b : Nat) (data : Option (List Byte)) : u.Bears (v.takeRead b data) := by
  unfold Work.takeRead
  dsimp only
  split
  · exact h.setTu rfl
  · exact Work.Bears.endTransfer (h.setTu (by exact rfl)) _
  · exact Work.Bears.askReads 8 (h.setTu (by exact rfl))
  · exact h

theorem Work.Bears.tetherProofLost (h : u.Bears v) (i : Nat) : u.Bears (v.tetherProofLost i) := by
  refine .foldl _ (fun w e _ hw => ?_) h
  split
  · split
    · exact hw.endTransfer _
    · exact hw.endEntry _ _ _
  · exact hw

/-! ### What TU takes of a report -/

theorem Work.Bears.takeReclaim (h : u.Bears v) (up : Bool) : u.Bears (v.takeReclaim up) := by
  have hset : u.Bears { v with tu := { v.tu with reclaim := up } } := h.setTu rfl
  unfold Work.takeReclaim
  dsimp only
  split
  · exact hset.demoteAll
  · exact hset

theorem Work.Bears.takeCardDone (h : u.Bears v) (i : Nat) (c : Chain) : u.Bears (v.takeCardDone i c) := by
  unfold Work.takeCardDone
  split
  · refine .foldl _ (fun w e he hw => ?_) h
    split
    · exact hw.demote (h.queue e he)
    · exact hw
  · exact h

theorem Work.Bears.takeDevelop (h : u.Bears v) (i : Nat) : u.Bears (v.takeDevelop i) := by
  unfold Work.takeDevelop
  split
  · exact h.selectEntry.updateWait
  · exact h

end

end Sys2Proof.Machine
end

section
/-! PROOF. What the reports of a step leave, all together (R93, R100, R101): DE may start the job at the head of its queue. -/

namespace Sys2Proof.Machine

/-- Reports have been taken: the slots, the card duties and the send queue are as TU leaves them, a running job goes on, and a
row that waits for no job is borne. -/
structure Work.Drains (w v : Work) : Prop where
  running : w.de.engine = .running → v.de = w.de
  duties : ∀ q, v.duty? q = w.duty? q
  slots : ∀ i, (w.cw.slot i).Bears (v.cw.slot i)
  stopped : v.cw.stopped = w.cw.stopped
  queue : ∀ e ∈ v.tu.queue, e.Of w.tu.queue
  sent : ∀ o ∈ w.sent, o ∈ v.sent
  rows : ∀ j, j ∉ w.de.urgent → j ∉ w.de.normal →
    (j ∉ v.de.urgent ∧ j ∉ v.de.normal) ∧ Option.Rel Row.Bears (w.bm.row? j) (v.bm.row? j)

section
variable {u v w : Work}

theorem Work.Drains.refl (w : Work) : w.Drains w :=
  ⟨fun _ => rfl, fun _ => rfl, fun _ => .refl _, rfl, fun _ h => Entry.of_mem h, fun _ h => h,
    fun j hu hn => ⟨⟨hu, hn⟩, Work.rows_refl w.bm j⟩⟩

theorem Work.Drains.trans (h : u.Drains v) (g : v.Drains w) : u.Drains w where
  running hr := (g.running (by rw [h.running hr]; exact hr)).trans (h.running hr)
  duties q := (g.duties q).trans (h.duties q)
  slots i := (h.slots i).trans (g.slots i)
  stopped := g.stopped.trans h.stopped
  queue e he := (g.queue e he).trans h.queue
  sent o ho := g.sent o (h.sent o ho)
  rows j hu hn := by
    obtain ⟨⟨hu1, hn1⟩, h1⟩ := h.rows j hu hn
    obtain ⟨hd, h2⟩ := g.rows j hu1 hn1
    exact ⟨hd, Option.Rel.comp (P := Row.Bears) (fun _ _ _ => Row.Bears.trans) h1 h2⟩

theorem Work.Bears.duties (h : u.Bears v) (q : DutyRef) : v.duty? q = u.duty? q := by
  have hrow := h.rows q.row
  unfold Work.duty?
  revert hrow
  generalize u.bm.row? q.row = a, v.bm.row? q.row = b
  rintro (⟨hab⟩ | _)
  · rw [Option.bind_some, Option.bind_some, hab.cards]
  · rfl

theorem Work.Bears.drains (h : u.Bears v) : u.Drains v :=
  ⟨fun _ => h.de, h.duties, h.slots, h.stopped, h.queue, h.sent, fun j hu hn =>
    ⟨⟨by rw [h.de]; exact hu, by rw [h.de]; exact hn⟩, h.rows j⟩⟩

/-- A change of the rows with the index of a job that waits, but for their card duties. -/
theorem Work.Drains.mapRow (h : u.Drains v) {k : Nat} {f : Row → Row} (hk : k ∈ u.de.urgent ∨ k ∈ u.de.normal)
    (hi : ∀ r, (f r).index = r.index) (hc : ∀ r, (f r).cards = r.cards) (hrows : w.bm.rows = (v.bm.mapRow k f).rows)
    (hde : w.de = v.de) (hcw : w.cw = v.cw) (hq : w.tu.queue = v.tu.queue) (hs : w.sent = v.sent) : u.Drains w := by
  have hrow (j : Nat) : w.bm.row? j = (v.bm.row? j).map fun r => if j = k then f r else r := by
    rw [← Bm.row?_mapRow _ _ _ hi, Bm.row?, hrows, ← Bm.row?]
  refine ⟨fun hr => hde.trans (h.running hr), fun q => ?_, by rw [hcw]; exact h.slots, hcw ▸ h.stopped, by rw [hq]; exact h.queue,
    by rw [hs]; exact h.sent, fun j hu hn => ?_⟩
  · rw [← h.duties q, Work.duty?, Work.duty?, hrow, Option.bind_map]
    refine Option.bind_congr fun r _ => ?_
    show (if q.row = k then f r else r).cards[q.place]? = _
    split
    · rw [hc]
    · rfl
  · obtain ⟨hd, h1⟩ := h.rows j hu hn
    have hne : j ≠ k := fun he => hk.elim (fun hm => hu (he ▸ hm)) fun hm => hn (he ▸ hm)
    refine ⟨by rw [hde]; exact hd, ?_⟩
    rw [hrow]
    simp only [hne, if_false, Option.map_id']
    exact h1

/-- A change of DE while no job runs, which adds none to its queue. -/
theorem Work.Drains.setDe (h : u.Drains v) (hidle : u.de.engine ≠ .running) (hu : ∀ j ∈ w.de.urgent, j ∈ v.de.urgent)
    (hn : ∀ j ∈ w.de.normal, j ∈ v.de.normal) (hbm : w.bm = v.bm) (hcw : w.cw = v.cw) (hq : w.tu.queue = v.tu.queue)
    (hs : w.sent = v.sent) : u.Drains w := by
  refine ⟨fun hr => absurd hr hidle, fun q => ?_, by rw [hcw]; exact h.slots, hcw ▸ h.stopped, by rw [hq]; exact h.queue,
    by rw [hs]; exact h.sent, fun j hju hjn => ?_⟩
  · rw [← h.duties q, Work.duty?, Work.duty?, hbm]
  · obtain ⟨⟨h1, h2⟩, h3⟩ := h.rows j hju hjn
    exact ⟨⟨fun hm => h1 (hu j hm), fun hm => h2 (hn j hm)⟩, by rw [hbm]; exact h3⟩

theorem Work.Drains.startJob (h : u.Drains v) {k : Nat} (hk : k ∈ u.de.urgent ∨ k ∈ u.de.normal)
    (hidle : u.de.engine ≠ .running) : u.Drains (v.startJob k) := by
  unfold Work.startJob
  split
  · have hset : u.Drains (v.setDevelop k .running) :=
      h.mapRow hk (f := fun r => if r.develop.isFinal && !Decidable.decide (r.develop = .absent) then r else { r with develop := .running })
        (fun r => by split <;> rfl) (fun r => by split <;> rfl) rfl rfl rfl rfl rfl
    dsimp only
    exact hset.setDe hidle (fun j hj => (List.mem_filter.1 hj).1) (fun j hj => (List.mem_filter.1 hj).1) rfl rfl rfl rfl
  · exact h

theorem Work.drains_lookHead (w : Work) : w.Drains w.lookHead := by
  have hlook (hidle : w.de.engine ≠ .running) : w.Drains (match w.de.head? with
      | some i =>
        match w.proofAlloc i with
        | some w1 => w1.startJob i
        | none => { w with de := { w.de with engine := .starved } }
      | none => { w with de := { w.de with engine := .idle } }) := by
    split
    · next k hk =>
      split
      · next w1 hw1 =>
        refine Work.Drains.startJob ?_ (List.mem_append.1 (De.head?_mem hk)) hidle
        unfold Work.proofAlloc at hw1
        split at hw1
        · cases hw1
          exact (Work.Drains.refl w).mapRow (f := fun r => { r with proof := some { pages := w.bm.free.take Config.proofPages, length := Config.proofLength, frontier := 0 } })
            (List.mem_append.1 (De.head?_mem hk)) (fun _ => rfl) (fun _ => rfl) rfl rfl rfl rfl rfl
        · cases hw1
      · exact (Work.Drains.refl w).setDe hidle (fun _ h => h) (fun _ h => h) rfl rfl rfl rfl
    · exact (Work.Drains.refl w).setDe hidle (fun _ h => h) (fun _ h => h) rfl rfl rfl rfl
  unfold Work.lookHead
  split
  · next he => exact hlook (by rw [he]; exact fun h => Engine.noConfusion h)
  · next he => exact hlook (by rw [he]; exact fun h => Engine.noConfusion h)
  · exact .refl w
  · exact .refl w

/-! ### Taking the reports -/

theorem Work.handle_drains {r : Report} (hr : r.isBack = true) (w : Work) : w.Drains (w.handle r) := by
  cases r with
  | deLook => exact w.drains_lookHead
  | reclaim up => exact ((Work.Bears.refl w).takeReclaim up).drains
  | readEnded b d => exact ((Work.Bears.refl w).takeRead b d).drains
  | cardDone i c => exact ((Work.Bears.refl w).takeCardDone i c).drains
  | developChanged i => exact ((Work.Bears.refl w).takeDevelop i).drains
  | frontier i => exact (Work.Bears.refl w).updateWait.drains
  | proofLost i => exact ((Work.Bears.refl w).tetherProofLost i).drains
  | select => exact (Work.Bears.refl w).selectEntry.drains
  | focus g => exact Bool.noConfusion hr
  | rowEnded i l n => exact Bool.noConfusion hr

theorem Work.drain_drains (k : Nat) : ∀ w : Work, w.calm = true → w.Drains (Work.drain k w) := by
  induction k with
  | zero => exact fun w _ => .refl w
  | succ k ih =>
    intro w hcalm
    unfold Work.drain
    split
    · exact .refl w
    · next r rest hb =>
      have hall : r.isBack = true ∧ rest.all Report.isBack = true := by
        rw [← Bool.and_eq_true, ← List.all_cons, ← hb]
        exact hcalm
      have hrest : w.Drains { w with bus := rest } :=
        ((Work.Bears.refl w).set (w := { w with bus := rest }) rfl rfl rfl rfl rfl).drains
      exact (hrest.trans (Work.handle_drains hall.1 _)).trans (ih _ ((Work.handle_calm r _ hall.1).trans hall.2))

theorem Work.settle_drains (h : w.calm = true) : w.Drains w.settle := w.drain_drains 4096 h

end

end Sys2Proof.Machine
end

section
/-! PROOF. What the failure of one duty leaves of the others, and of the slot that failed (R134, R137, R142). -/

namespace Sys2Proof.Machine

section
variable {w v u : Work} {i : SlotId} {P : DutyRef → Prop} {p q : DutyRef}

/-! ### The duties -/

theorem Work.duty?_mapDuty (f : CardDuty → CardDuty) : (w.mapDuty q f).duty? p =
    (w.duty? p).map fun x => if p = q ∧ x.state.isFinal = false then f x else x := by
  have hrow : (w.mapDuty q f).bm.row? p.row = (w.bm.row? p.row).map fun r => if p.row = q.row then { r with
      cards := r.cards.modify q.place fun x => if x.state.isFinal then x else f x } else r :=
    Bm.row?_mapRow (f := fun r => { r with cards := r.cards.modify q.place fun x => if x.state.isFinal then x else f x })
      w.bm q.row p.row fun _ => rfl
  rw [Work.duty?, Work.duty?, hrow, Option.bind_map, Option.map_bind]
  refine Option.bind_congr fun r _ => ?_
  show (if p.row = q.row then _ else r).cards[p.place]? = (r.cards[p.place]?).map _
  by_cases hr : p.row = q.row
  · rw [if_pos hr, List.getElem?_modify]
    refine Option.map_congr fun x _ => ?_
    by_cases hp : q.place = p.place
    · have hpq : p = q := by cases p; cases q; cases hr; cases hp; rfl
      cases hf : x.state.isFinal <;> simp [hpq]
    · have hpq : p ≠ q := fun h => hp (congrArg DutyRef.place h).symm
      simp [hpq, hp]
  · have hpq : p ≠ q := fun h => hr (congrArg DutyRef.row h)
    rw [if_neg hr]
    simp [hpq]

/-- A duty while others are dealt with: a final one stands, and an open one stays open. -/
structure CardDuty.Bides (x y : CardDuty) : Prop where
  slot : y.slot = x.slot
  final : x.state.isFinal = true → y = x
  open_ : x.state.isFinal = false → y.state.isFinal = false

theorem CardDuty.Bides.refl (x : CardDuty) : x.Bides x := ⟨rfl, fun _ => rfl, id⟩

theorem CardDuty.Bides.trans {x y z : CardDuty} (h : x.Bides y) (g : y.Bides z) : x.Bides z where
  slot := g.slot.trans h.slot
  final hx := by rw [g.final (by rw [h.final hx]; exact hx), h.final hx]
  open_ hx := g.open_ (h.open_ hx)

/-- The slot stands, the duties for which `P` holds bide, and the reports are for the back half. -/
structure Work.Bides (i : SlotId) (P : DutyRef → Prop) (w v : Work) : Prop where
  slot : v.cw.slot i = w.cw.slot i
  stopped : v.cw.stopped = w.cw.stopped
  duties : ∀ q, P q → ∀ x, w.duty? q = some x → ∃ y, v.duty? q = some y ∧ x.Bides y
  calm : v.calm = w.calm

theorem Work.Bides.refl (w : Work) : Work.Bides i P w w :=
  ⟨rfl, rfl, fun _ _ x hx => ⟨x, hx, .refl x⟩, rfl⟩

theorem Work.Bides.trans (h : Work.Bides i P u v) (g : Work.Bides i P v w) : Work.Bides i P u w where
  slot := g.slot.trans h.slot
  stopped := g.stopped.trans h.stopped
  duties q hq x hx := by
    obtain ⟨y, hy, hxy⟩ := h.duties q hq x hx
    obtain ⟨z, hz, hyz⟩ := g.duties q hq y hy
    exact ⟨z, hz, hxy.trans hyz⟩
  calm := g.calm.trans h.calm

/-- What leaves the duties and the slot. -/
theorem Work.Bides.set (h : Work.Bides i P u v) (hs : w.cw.slot i = v.cw.slot i) (ht : w.cw.stopped = v.cw.stopped)
    (hd : ∀ q x, v.duty? q = some x → w.duty? q = some x) (hc : w.calm = v.calm) : Work.Bides i P u w :=
  h.trans ⟨hs, ht, fun q _ x hx => ⟨x, hd q x hx, .refl x⟩, hc⟩

theorem Work.Bides.mapDuty (h : Work.Bides i P u v) {f : CardDuty → CardDuty}
    (hf : P q → ∀ x, (f x).slot = x.slot ∧ (f x).state.isFinal = false) : Work.Bides i P u (v.mapDuty q f) := by
  refine h.trans ⟨rfl, rfl, fun p hp x hx => ?_, rfl⟩
  refine ⟨_, by rw [Work.duty?_mapDuty, hx, Option.map_some], ?_⟩
  by_cases hpq : p = q ∧ x.state.isFinal = false
  · obtain ⟨rfl, hx⟩ := hpq
    rw [if_pos ⟨rfl, hx⟩]
    exact ⟨(hf hp x).1, fun hfin => absurd (hx.symm.trans hfin) Bool.false_ne_true, fun _ => (hf hp x).2⟩
  · rw [if_neg hpq]
    exact .refl x

theorem Work.Bides.check (h : Work.Bides i P u v) (j : Nat) : Work.Bides i P u (v.check j) := by
  have hb := (Work.Bears.refl v).check j
  have hcw : (v.check j).cw = v.cw := congrArg (fun x => x.2.2.2.2.1) (Work.check_rest (w := v) (i := j))
  exact h.set (by rw [hcw]) (by rw [hcw]) (fun q x hx => (hb.duties q).trans hx) (by simp)

theorem Work.Bides.raise (h : Work.Bides i P u v) (k : Notice) (l : List Byte) : Work.Bides i P u (v.raise k l) :=
  h.set rfl rfl (fun _ _ hx => hx) rfl

/-! ### A selection on the other slot (R132) -/

/-- The slots other than the one that acts. -/
theorem Work.Bides.mapSlot (h : Work.Bides .a P u v) (f : Slot → Slot) : Work.Bides .a P u (v.mapSlot .b f) :=
  h.set rfl rfl (fun _ _ hx => hx) rfl

theorem Work.Bides.walk : ∀ (l : List DutyRef) {v : Work}, Work.Bides .a P u v → Work.Bides .a P u (Work.walk .b l v).2
  | [], _, h => h
  | d :: l, v, h => by
    unfold Work.walk
    split
    · split
      · exact h
      · refine Work.Bides.walk l ?_
        split
        · exact h.mapDuty fun _ x => ⟨rfl, rfl⟩
        · exact h
    · exact Work.Bides.walk l h

theorem Work.Bides.setExtents (h : Work.Bides .a P u v) (l : List Piece) : Work.Bides .a P u (v.setExtents .b l) := by
  unfold Work.setExtents
  dsimp only
  split
  · exact (h.mapSlot _).raise _ _
  · exact h.mapSlot _

theorem Work.Bides.startRun (h : Work.Bides .a P u v) : Work.Bides .a P u (v.startRun .b) := by
  unfold Work.startRun
  split
  · split
    · split
      · exact h.mapSlot _
      · exact h
    · exact h
  · exact h

theorem Work.Bides.beginChain (h : Work.Bides .a P u v) (d : DutyRef) : Work.Bides .a P u (v.beginChain .b d) := by
  unfold Work.beginChain
  split
  · next x _ =>
    generalize takePieces (sectorNeed x.chain) (v.cw.slot .b).extents = t
    exact (((h.mapDuty (f := fun y => { y with state := .writing, pieces := t.1 }) fun _ x => ⟨rfl, rfl⟩).setExtents t.2).mapSlot _).startRun
  · exact h

theorem Work.Bides.selectDuty (h : Work.Bides .a P u v) : Work.Bides .a P u (v.selectDuty .b) := by
  have hwalk := Work.Bides.walk (v.cw.slot .b).writeQ h
  unfold Work.selectDuty
  split
  · split
    · next hw =>
      rw [hw] at hwalk
      exact (hwalk.beginChain _).raise _ _
    · next hw =>
      rw [hw] at hwalk
      exact hwalk
  · exact h

/-! ### The failure of a duty (R134, R142) -/

/-- A card duty as it joins its row. -/
def CardDuty.joins (s : SlotId) (c : Chain) (st : CardState) (again : Bool) : CardDuty :=
  { slot := s, chain := c, state := st, pieces := [], spoiled := false, cause := none, reassigned := again }

theorem Work.duty?_addCard {j : Nat} {s : SlotId} {c : Chain} {st : CardState} {again : Bool} {x : CardDuty}
    (hx : w.duty? p = some x) : (w.addCard j s c st again).duty? p = some x := by
  have hrow : (w.addCard j s c st again).bm.row? p.row = (w.bm.row? p.row).map fun r =>
      if p.row = j then { r with cards := r.cards ++ [.joins s c st again] } else r :=
    Bm.row?_mapRow (f := fun r => { r with cards := r.cards ++ [.joins s c st again] }) w.bm j p.row fun _ => rfl
  obtain ⟨r, hr, hc⟩ := Option.bind_eq_some_iff.1 hx
  rw [Work.duty?, hrow, hr, Option.map_some, Option.bind_some]
  obtain ⟨hlt, hget⟩ := List.getElem?_eq_some_iff.1 hc
  split
  · show (r.cards ++ _)[p.place]? = _
    rw [List.getElem?_append_left hlt, hc]
  · exact hc

/-- What comes after the entry of a duty that fails is stored. -/
theorem Work.failDuty_open {x : CardDuty} {cause : CardCause} {spoiled : Bool} (hx : w.duty? q = some x)
    (hf : x.state.isFinal = false) (hre : ∀ r, w.bm.row? q.row = some r → i = .b → w.reassigns r x cause = false) :
    Work.Bides i (fun _ => True) (w.mapDuty q (CardDuty.lost cause spoiled)) (w.failDuty q cause spoiled) := by
  obtain ⟨r, hr, -⟩ := Option.bind_eq_some_iff.1 hx
  have hmap : Work.Bides i (fun _ => True) (w.mapDuty q (CardDuty.lost cause spoiled))
      ((w.mapDuty q (CardDuty.lost cause spoiled)).raise .storeFailed
        (leBytes 3 (r.number.getD 0) ++ [slotByte x.slot, cause.byte])) := (Work.Bides.refl _).raise _ _
  unfold Work.failDuty Work.storeFail
  rw [hr, hx]
  dsimp only
  rw [hf, if_neg Bool.false_ne_true]
  cases hr2 : w.reassigns r x cause with
  | false =>
    rw [if_neg Bool.false_ne_true, if_neg (fun h => Bool.false_ne_true h.1)]
    exact hmap.check _
  | true =>
    cases i with
    | b => exact absurd ((hre r hr rfl).symm.trans hr2) Bool.false_ne_true
    | a =>
      rw [if_pos rfl, if_pos ⟨rfl, rfl⟩]
      refine Work.Bides.selectDuty (Work.Bides.check (Work.Bides.mapSlot ?_ _) _)
      exact hmap.set rfl rfl (fun _ _ hx => Work.duty?_addCard hx) rfl

/-- A duty that is not there, or final, does not fail again. -/
theorem Work.failDuty_closed {cause : CardCause} {spoiled : Bool} (h : ∀ x, w.duty? q = some x → x.state.isFinal = true) :
    Work.Bides i (fun _ => True) w (w.failDuty q cause spoiled) := by
  unfold Work.failDuty
  split
  · next r x hr hx =>
    have hf := h x hx
    unfold Work.storeFail
    rw [hr, hx]
    dsimp only
    rw [hf, if_pos rfl, if_neg (fun h => Bool.false_ne_true h.2.symm)]
    exact (Work.Bides.refl w).check _
  · exact .refl w

theorem Work.Bides.mono {Q : DutyRef → Prop} (h : Work.Bides i P u v) (hq : ∀ q, Q q → P q) : Work.Bides i Q u v :=
  ⟨h.slot, h.stopped, fun q hQ => h.duties q (hq q hQ), h.calm⟩

/-- A duty fails: every other bides, and so does a slot that failover does not reach. -/
theorem Work.bides_failDuty {cause : CardCause} {spoiled : Bool}
    (hre : ∀ r x, w.bm.row? q.row = some r → w.duty? q = some x → i = .b → w.reassigns r x cause = false) :
    Work.Bides i (· ≠ q) w (w.failDuty q cause spoiled) := by
  by_cases h : ∀ x, w.duty? q = some x → x.state.isFinal = true
  · exact (Work.failDuty_closed h).mono fun _ _ => trivial
  · obtain ⟨x, hx⟩ := Classical.not_forall.1 h
    obtain ⟨hx, hf⟩ := Classical.not_imp.1 hx
    exact Work.Bides.trans ((Work.Bides.refl w).mapDuty fun hq => absurd rfl hq)
      ((Work.failDuty_open hx (Bool.eq_false_iff.2 hf) fun r hr => hre r x hr hx).mono fun _ _ => trivial)

/-! ### A queue fails with FAULT (R137) -/

/-- Every duty of a list has failed, as far as it was open, and every final one stands. -/
structure Work.FaultsAll (i : SlotId) (l : List DutyRef) (w v : Work) : Prop where
  slot : v.cw.slot i = w.cw.slot i
  calm : v.calm = w.calm
  final : ∀ q x, w.duty? q = some x → x.state.isFinal = true → v.duty? q = some x
  fails : ∀ q ∈ l, ∀ x, w.duty? q = some x → x.state.isFinal = false → ∃ y : CardDuty, v.duty? q = some (y.lost .fault false)

theorem Work.foldl_faultsAll : ∀ (l : List DutyRef) {w : Work}, (w.cw.slot i).state = .fault →
    Work.FaultsAll i l w (l.foldl (fun v d => v.failDuty d .fault false) w)
  | [], w, _ => ⟨rfl, rfl, fun _ _ hx _ => hx, fun _ hq => absurd hq List.not_mem_nil⟩
  | a :: l, w, hst => by
    have hre (r : Row) (x : CardDuty) (_ : w.bm.row? a.row = some r) (_ : w.duty? a = some x) (hi : i = .b) :
        w.reassigns r x .fault = false := by
      subst hi
      have hb : w.cw.b.writable = false := by rw [Slot.writable, show w.cw.b.state = .fault from hst]
      rw [Work.reassigns, hb, Bool.and_false]
      rfl
    have hother : Work.Bides i (· ≠ a) w (w.failDuty a .fault false) := Work.bides_failDuty hre
    have hnext := Work.foldl_faultsAll l (w := w.failDuty a .fault false) (by rw [hother.slot]; exact hst)
    have hfinal (q : DutyRef) (x : CardDuty) (hx : w.duty? q = some x) (hf : x.state.isFinal = true) :
        (w.failDuty a .fault false).duty? q = some x := by
      by_cases hq : q = a
      · subst hq
        obtain ⟨y, hy, hxy⟩ := (Work.failDuty_closed (i := i) (cause := .fault) (spoiled := false) fun z hz => by
          rw [hx] at hz
          cases hz
          exact hf).duties q trivial x hx
        rw [hy, hxy.final hf]
      · obtain ⟨y, hy, hxy⟩ := hother.duties q hq x hx
        rw [hy, hxy.final hf]
    refine ⟨hnext.slot.trans hother.slot, hnext.calm.trans hother.calm, fun q x hx hf => hnext.final q x (hfinal q x hx hf) hf,
      fun q hq x hx hf => ?_⟩
    by_cases hqa : q = a
    · subst hqa
      obtain ⟨y, hy, hxy⟩ := (Work.failDuty_open (i := i) (cause := .fault) (spoiled := false) hx hf
        fun r hr => hre r x hr hx).duties q trivial (x.lost .fault false) (by
          rw [Work.duty?_mapDuty, hx, Option.map_some, if_pos ⟨rfl, hf⟩])
      exact ⟨x, hnext.final q _ (by rw [hy, hxy.final rfl]) rfl⟩
    · obtain ⟨y, hy, hxy⟩ := hother.duties q hqa x hx
      exact hnext.fails q ((List.mem_cons.1 hq).resolve_left hqa) y hy (hxy.open_ hf)

/-- The reads of a slot whose channel carries nothing fail (R137). -/
theorem Work.failReads_idle (hop : (w.cw.slot i).op = .idle) : ((w.failReads i).cw.slot i = { w.cw.slot i with reads := [] }) ∧
    (w.failReads i).bm = w.bm := by
  have hposts (l : List ReadRequest) : ∀ u : Work, (l.foldl (fun v r => v.post (.readEnded r.buffer none)) u).toState = u.toState := by
    induction l with
    | nil => exact fun _ => rfl
    | cons r l ih => exact fun u => ih (u.post (.readEnded r.buffer none))
  unfold Work.failReads
  dsimp only
  rw [hop]
  dsimp only
  rw [hposts]
  rw [← hop]
  exact ⟨Cw.slot_mapSlot w i fun x => { x with reads := [] }, Work.mapSlot_bm _ _ _⟩

/-- A slot enters FAULT with no operation on its channel: its write queue fails, and its reads (R137). -/
theorem Work.enterFault_fails (hst : (w.cw.slot i).state ≠ .fault) (hop : (w.cw.slot i).op = .idle)
    (hstop : w.cw.stopped = false) :
    (w.enterFault i).cw.slot i = { w.cw.slot i with state := .fault, writeQ := [], reads := [] } ∧
    (w.enterFault i).calm = w.calm ∧ ∀ e ∈ (w.cw.slot i).writeQ, ∀ x, w.duty? e = some x → x.state.isFinal = false →
      ∃ y : CardDuty, (w.enterFault i).duty? e = some (y.lost .fault false) := by
  obtain ⟨v, hv⟩ : ∃ v, v = (w.enterSlot i .fault).mapSlot i fun x => { x with writeQ := [] } := ⟨_, rfl⟩
  have henter : w.enterSlot i .fault = (w.mapSlot i fun x => { x with state := .fault }).slotChanged := by
    unfold Work.enterSlot
    exact if_neg hst
  have hslot : (w.enterSlot i .fault).cw.slot i = { w.cw.slot i with state := .fault } := by
    rw [henter]
    exact Cw.slot_mapSlot w i fun x => { x with state := .fault }
  have hvslot : v.cw.slot i = { w.cw.slot i with state := .fault, writeQ := [] } := by
    rw [hv, Cw.slot_mapSlot, hslot]
  have hduty (e : DutyRef) : v.duty? e = w.duty? e := by
    rw [hv, henter, Work.duty?, Work.duty?, Work.mapSlot_bm]
    show ((w.mapSlot i _).bm.row? e.row).bind _ = _
    rw [Work.mapSlot_bm]
  have hqueue : (w.enterSlot i .fault).failQueue i .fault =
      (w.cw.slot i).writeQ.foldl (fun v d => v.failDuty d .fault false) v := by
    rw [hv]
    refine Work.failQueue_eq ?_ (by rw [hslot])
    rw [henter]
    cases i <;> exact hstop
  have hall := Work.foldl_faultsAll (i := i) (w.cw.slot i).writeQ (w := v) (by rw [hvslot])
  obtain ⟨hreads, hbm⟩ := Work.failReads_idle (i := i) (w := (w.enterSlot i .fault).failQueue i .fault) (by
    rw [hqueue, hall.slot, hvslot]
    exact hop)
  refine ⟨?_, by simp, fun e he x hx hf => ?_⟩
  · rw [Work.enterFault, hreads, hqueue, hall.slot, hvslot]
  · obtain ⟨y, hy⟩ := hall.fails e he x ((hduty e).trans hx) hf
    refine ⟨y, ?_⟩
    rw [Work.enterFault, Work.duty?, hbm, hqueue]
    exact hy

end

end Sys2Proof.Machine
end

section
/-! PROOF. The ends of a run as the statement gives them (R133 to R142). -/

namespace Sys2Proof.Machine

section
variable {s t : State} {c : Instr}

theorem State.steady_none (h : s.pwc.responses = none) (hp : t.pwc = s.pwc) : t.steady := fun r hr =>
  absurd ((hp ▸ hr : s.pwc.responses = some r).symm.trans h) (Option.some_ne_none r)

/-- A command that acts on the cards while no response to a warning is awaited. -/
theorem exec_cards (op : Work → Work) (hop : exec c s = .next (run op s)) (hn : s.pwc.responses = none)
    (hp : t.pwc = s.pwc) (h : op { toState := s, bus := [] } = { toState := t, bus := [] }) : exec c s = .next t :=
  exec_comes op hop (State.steady_none hn hp) (by rw [h]; exact .done _)

theorem Work.handle_cardDone_empty {w : Work} {j : Nat} {ch : Chain} (h : w.tu.queue = []) :
    w.handle (.cardDone j ch) = w := by
  show w.takeCardDone j ch = w
  unfold Work.takeCardDone
  rw [h]
  exact ite_self w

/-- The same, where a duty has become DONE and the send queue is empty. -/
theorem exec_cardDone {j : Nat} {ch : Chain} (op : Work → Work) (hop : exec c s = .next (run op s))
    (hn : s.pwc.responses = none) (hp : t.pwc = s.pwc) (hq : t.tu.queue = [])
    (h : op { toState := s, bus := [] } = { toState := t, bus := [.cardDone j ch] }) : exec c s = .next t := by
  refine exec_comes op hop (State.steady_none hn hp) ?_
  rw [h]
  exact .skip (Work.handle_cardDone_empty hq) (.done _)

theorem State.nextSlot_ready_nil {i : SlotId} {y : Slot} {b : List Report} (hstops : y.stops = []) (hfail : y.failRun ≠ 3)
    (hstop : s.cw.stopped = false) (hw : y.writing = none) (hq : y.writeQ = []) (hr : y.reads = [])
    (hst : y.state ≠ .ready) :
    Work.nextSlot i (s.with_ i y b) = { toState := (s.setSlot i { y with state := .ready }).slotChange, bus := b } := by
  rw [State.nextSlot_ready (by rw [hstops]; rfl) hfail (by rw [hstops]; rfl) hstop hw hq hr hst, ← hstops]

theorem Work.Comes.same {u : State} {n : Nat} (h : t = u) : Work.Comes { toState := t, bus := [] } n u := h ▸ .done _

/-- A row that settles as its last duty ends. -/
theorem State.withCards_settled (j : Nat) (r : Row) (fs : List CardDuty) (c : RawChain) (o : ShotOutcome) :
    (s.withCards j fs).rowSettled j r c o = ({ s with bm := { (s.bm.mapRow j fun z => { z with
        cards := fs, raw := none, life := .settled, outcome := some o }) with
      free := c.pages.foldr insertPage s.bm.free } } : State).raised .shotSettled (leBytes 3 (r.number.getD 0)) := by
  have hbm : (s.bm.mapRow j fun z => { z with cards := fs }).mapRow j (fun x => { x with
      raw := none, life := .settled, outcome := some o }) = s.bm.mapRow j fun z => { z with
        cards := fs, raw := none, life := .settled, outcome := some o } :=
    Bm.mapRow_mapRow (f := fun z => { z with cards := fs }) s.bm j fun _ => rfl
  exact congrArg (fun b : Bm => ({ s with bm := { b with free := c.pages.foldr insertPage s.bm.free } } : State).raised
    .shotSettled (leBytes 3 (r.number.getD 0))) hbm

theorem State.dutyFailed_settled (i : SlotId) (q : DutyRef) (r z : Row) (d : CardDuty) (c : RawChain) (o : ShotOutcome)
    (cause : CardCause) : (s.dutyFailed i q r d cause).rowSettled q.row z c o = (({ s with
      bm := { (s.bm.mapRow q.row fun z => { z with
          cards := r.cards.set q.place (d.lost cause true), raw := none, life := .settled, outcome := some o }) with
        free := c.pages.foldr insertPage s.bm.free } } : State).raised .storeFailed
          (leBytes 3 (r.number.getD 0) ++ [slotByte i, cause.byte])).raised .shotSettled (leBytes 3 (z.number.getD 0)) :=
  congrArg (fun t : State => { t with
      cp := (s.cp.raise .storeFailed (leBytes 3 (r.number.getD 0) ++ [slotByte i, cause.byte])).raise .shotSettled
        (leBytes 3 (z.number.getD 0)) })
    (State.withCards_settled q.row r (r.cards.set q.place (d.lost cause true)) c o)

/-- The work in which the slot is READY and the pages of a settled row are told of comes to the state with them free. -/
theorem State.discarded_comes {i : SlotId} {y : Slot} {c : RawChain} {rest : List Report} {n : Nat} {u : State}
    (hstops : y.stops = [.discarded]) (hfail : y.failRun ≠ 3) (hstop : t.cw.stopped = false) (hw : y.writing = none)
    (hq : y.writeQ = []) (hr : y.reads = []) (hst : y.state = .writing) (hidle : t.backIdle)
    (hc : Work.Comes { toState := { (t.setSlot i { y with stops := [], state := .ready }).slotChange with tu := { t.tu with
      reclaim := decide ((c.pages.foldr insertPage s.bm.free).length < s.bm.threshold) } }, bus := rest } n u) :
    (Work.nextSlot i (t.with_ i y (s.freesPages c.pages ++ rest))).Comes (n + 2) u := by
  rw [State.nextSlot_ready (by rw [hstops]; rfl) hfail (by rw [hstops]; rfl) hstop hw hq hr (by rw [hst]; decide)]
  have htu : (t.setSlot i { y with stops := [], state := .ready }).slotChange.tu = t.tu := by cases i <;> rfl
  refine .freesPages (by cases i <;> exact hidle) ?_
  rw [htu]
  exact hc

/-- A command that ends a writing duty after a supply warning. -/
theorem exec_ended {p : Prop} [Decidable p] (op : Work → Work) (hop : exec c s = .next (run op s))
    (hresp : s.pwc.responses = some (Responses.delivered false)) (hp : t.pwc = s.pwc) (hq : t.cw.quiet = true ↔ p)
    (h : (op { toState := s, bus := [] }).Comes 4096 t) :
    exec c s = .next (if p then { t with pwc := { s.pwc with power := .failsafe, responses := none } } else t) := by
  have hsettle : (op { toState := s, bus := [] }).settle = { toState := t, bus := [] } := h
  rw [← hp] at hresp
  rw [hop, run, hsettle, ← hp]
  by_cases hpp : p
  · rw [if_pos hpp, Work.finishWarning_delivered (w := { toState := t, bus := [] }) hresp (hq.2 hpp)]
  · refine congrArg _ ((congrArg (fun w : Work => w.toState) (Work.finishWarning_steady { toState := t, bus := [] } fun r hr => ?_)).trans
      (if_neg hpp).symm)
    rw [show t.pwc.responses = _ from hresp] at hr
    cases hr
    exact ⟨rfl, Bool.eq_false_iff.2 fun g => hpp (hq.1 g)⟩

/-- A slot that writes nothing any more: CW is done once the other slot is. -/
theorem State.quiet_ended {i : SlotId} {y : Slot} (hy : y.writing = none) : (s.setSlot i y).cw.quiet = true ↔
    (match i with | .a => s.cw.b.writing | .b => s.cw.a.writing) = none := by
  cases i with
  | a =>
    show (y.writing.isNone && s.cw.b.writing.isNone) = true ↔ _
    rw [hy, ← Option.isNone_iff_eq_none]
    exact Iff.rfl
  | b =>
    show (s.cw.a.writing.isNone && y.writing.isNone) = true ↔ _
    rw [hy, Option.isNone_none, Bool.and_true]
    exact Option.isNone_iff_eq_none

theorem Work.finishWarning_rest (w : Work) : w.finishWarning.cw = w.cw ∧ w.finishWarning.bm = w.bm := by
  unfold Work.finishWarning
  split
  · dsimp only
    split <;> exact ⟨rfl, rfl⟩
  · exact ⟨rfl, rfl⟩

/-- The third failure in a row: the slot is in FAULT and all that waited in its write queue has failed (R137). -/
theorem State.faults_all {i : SlotId} {y : Slot} {wr : Writing} {r : Row} {d : CardDuty} (op : Work → Work)
    (hop : exec c s = .next (run op s))
    (hact : op { toState := s, bus := [] } = Work.nextSlot i (Work.failDuty wr.duty .write true (s.with_ i y [])))
    (hstops : y.stops.contains .detached = false) (hfail : y.failRun = 3) (hst : y.state = .writing) (hidle : y.op = .idle)
    (hslot : d.slot = i) (hr : s.bm.row? wr.duty.row = some r) (hd : r.cards[wr.duty.place]? = some d)
    (hstop : s.cw.stopped = false) :
    ∃ t, exec c s = .next t ∧ t.cw.slot i = { y with stops := [], state := .fault, writeQ := [], reads := [] } ∧
      ∀ e ∈ y.writeQ, e ≠ wr.duty → ∀ z x, s.bm.row? e.row = some z → z.cards[e.place]? = some x →
        x.state.isFinal = false → ∃ z' x' : _, t.bm.row? e.row = some z' ∧ z'.cards[e.place]? = some x' ∧
          x'.state = .failed ∧ x'.cause = some .fault ∧ x'.spoiled = false := by
  obtain ⟨v, hv⟩ : ∃ v, v = Work.failDuty wr.duty .write true (s.with_ i y []) := ⟨_, rfl⟩
  have hduty (q : DutyRef) : (s.with_ i y []).duty? q = (s.bm.row? q.row).bind fun z => z.cards[q.place]? := by
    rw [Work.duty?, State.with_bm]
  have hb : Work.Bides i (· ≠ wr.duty) (s.with_ i y []) v := by
    rw [hv]
    refine Work.bides_failDuty fun r' x hr' hx hi => ?_
    rw [State.with_bm, hr] at hr'
    cases hr'
    rw [hduty, hr, Option.bind_some, hd] at hx
    cases hx
    rw [Work.reassigns, hslot, hi, decide_eq_false (fun h => SlotId.noConfusion h), Bool.and_false]
    rfl
  have hself : v = v.toState.with_ i y v.bus := State.with_self (by rw [hb.slot, State.with_slot])
  have hnext : Work.nextSlot i v = Work.enterFault i (v.toState.with_ i { y with stops := [] } v.bus) :=
    (congrArg (Work.nextSlot i) hself).trans (State.nextSlot_fault hstops hfail)
  obtain ⟨hf1, hf2, hf3⟩ := Work.enterFault_fails (i := i) (w := v.toState.with_ i { y with stops := [] } v.bus)
    (by rw [State.with_slot]; show y.state ≠ _; rw [hst]; exact SlotState.noConfusion) (by rw [State.with_slot]; exact hidle)
    (by rw [State.with_stopped, hb.stopped, State.with_stopped, hstop])
  rw [State.with_slot] at hf1 hf3
  have hcalm : (Work.nextSlot i v).calm = true := by
    rw [Work.nextSlot_calm, hb.calm]
    rfl
  rw [← hnext] at hf1 hf3
  have hdr := Work.settle_drains hcalm
  obtain ⟨hcw, hbm⟩ := Work.finishWarning_rest (Work.nextSlot i v).settle
  refine ⟨_, exec_acts op hop (hact.trans (by rw [← hv])), ?_, fun e he hne z x hz hx hf => ?_⟩
  · rw [hcw, (hdr.slots i).fault (by rw [hf1]), hf1]
  · obtain ⟨x1, hx1, hxx⟩ := hb.duties e hne x (by rw [hduty, hz]; exact hx)
    obtain ⟨x2, hx2⟩ := hf3 e he x1 (by rw [Work.duty?, State.with_bm]; exact hx1) (hxx.open_ hf)
    obtain ⟨z', hz', hx'⟩ := Option.bind_eq_some_iff.1 ((hdr.duties e).trans hx2)
    exact ⟨z', _, (congrArg (fun b : Bm => b.row? e.row) hbm).trans hz', hx', rfl, rfl, rfl⟩

end

/-- Settles O51: each end of a run is one selection of the slot's next state. -/
theorem runsEndAsTheyGo : Obligations.RunsEndAsTheyGo := by
  unfold Obligations.RunsEndAsTheyGo
  intro i x s hs hx
  have hself : ({ toState := s, bus := [] } : Work) = s.with_ i x [] := State.with_self hx
  refine ⟨exec_same (Work.takeAnswer ⟨i, true⟩ fun slot => Work.runEnd slot none) rfl hs rfl,
    exec_same (Work.takeAnswer ⟨i, true⟩ fun slot => Work.runEnd slot (some .runFail)) rfl hs rfl, fun hop => ?_,
    fun hst hc => ⟨fun hl hstops => ?_, fun hl st hstops hnot => ?_⟩, fun wr r d hw hr hd hf hslot => ?_⟩
  · have hidle : ({ toState := s, bus := [] } : Work).cw.slot i = x := hx
    refine ⟨exec_same (Work.takeAnswer ⟨i, false⟩ fun slot => Work.runEnd slot none) rfl hs ?_,
      exec_same (Work.takeAnswer ⟨i, false⟩ fun slot => Work.runEnd slot (some .runFail)) rfl hs ?_,
      exec_same (Work.runEnd i (some .timeout)) rfl hs ?_, exec_same (Work.runSourceLost i) rfl hs ?_⟩
    · exact Work.runEnd_idle (k := none) (by rw [hidle]; exact hop)
    · exact Work.runEnd_idle (k := some .runFail) (by rw [hidle]; exact hop)
    · exact Work.runEnd_idle (by rw [hidle]; exact hop)
    · unfold Work.runSourceLost
      rw [hidle, hop]
  · refine exec_comes (Work.lockLine i true) rfl (State.steady_setSlot hs hx rfl) ?_
    rw [hself]
    unfold Work.lockLine
    rw [State.with_slot]
    dsimp only
    rw [if_neg (by rw [hc, hl]; exact fun h => h.elim Bool.noConfusion Bool.noConfusion), hst]
    dsimp only
    rw [if_pos rfl, State.with_mapSlot, Work.askStop, State.with_slot, State.with_mapSlot]
    dsimp only
    rw [if_neg (by rw [hst]; exact fun h => SlotState.noConfusion h), hstops, ← hst]
    exact .done _
  · refine exec_comes (Work.lockLine i false) rfl (State.steady_setSlot hs hx rfl) ?_
    have hfilter : x.stops.filter (fun c => !decide (c = .locked)) = st := by
      rw [hstops]
      show st.filter _ = st
      refine List.filter_eq_self.2 fun c hc => ?_
      rw [Bool.not_eq_true', decide_eq_false_iff_not]
      exact fun h => hnot (h ▸ hc)
    rw [hself]
    unfold Work.lockLine
    rw [State.with_slot]
    dsimp only
    rw [if_neg (by rw [hc, hl]; exact fun h => h.elim Bool.noConfusion Bool.noConfusion), hst]
    dsimp only
    rw [if_neg Bool.false_ne_true, State.with_mapSlot, State.with_mapSlot]
    dsimp only
    rw [hfilter, ← hst]
    exact .done _
  intro runs chain after failed said stopped
  have hnotices (cause : CardCause) (hcause : cause.reassigns = false ∨ r.policy ≠ some .overflow) (w : Work) :
      w.reassigns r d cause = false := by
    rcases hcause with h | h
    · exact Work.reassigns_of_cause h
    · rw [Work.reassigns, decide_eq_false h, Bool.and_false]
      rfl
  have hne (st : SlotState) (h : st ≠ .writing) (hst : x.state = .writing) : x.state ≠ st := by
    rw [hst]
    exact h.symm
  refine ⟨fun hstop hn => ⟨fun st n data hop hst => ?_, fun hst => ?_, fun st n data c hop hst hstops hreads hq hfr hidle hnd hch hl hdisc hdev hraw hproof hall htet => ?_,
    fun st n data cause hpow hop hst hc hchain hpol hreads hq htu hcause => ?_⟩, fun st n data hstop hresp hstops hop hst hfr hchain htu => ?_⟩
  · intro ran missed
    have hok : Work.runEnd i none { toState := s, bus := [] } = Work.decideRun i
        (decide (sectorNeed d.chain ≤ wr.written + n)) false
          (s.with_ i { ran with writing := some { wr with written := wr.written + n } } []) := by
      rw [hself, State.runEnd_ok hop hw hr hd]
    have hfails (k : FailKind) (hfr : x.failRun < 3) : Work.runEnd i (some k) { toState := s, bus := [] } =
        Work.decideRun i false true (s.with_ i (missed k) []) := by
      rw [hself, State.runEnd_fails hop hw, show min 3 (x.failRun + 1) = x.failRun + 1 by omega]
    refine ⟨fun hmore hstops hfr => ?_, fun hchain hreads hq htu => ?_, fun hstops hfr => ?_⟩
    · have hnext : Work.runEnd i none { toState := s, bus := [] } =
          Work.nextSlot i (s.with_ i { ran with writing := some { wr with written := wr.written + n } } []) := by
        rw [hok, decide_eq_false (by omega)]
        exact State.decideRun_on (y := { ran with writing := some { wr with written := wr.written + n } })
          (wr := { wr with written := wr.written + n }) rfl hstops
      have hf3 : x.failRun ≠ 3 := by omega
      have hdet : x.stops.contains .detached = false := by rw [hstops]; rfl
      refine ⟨fun p hreads hp => ?_, fun q qs hreads => ?_⟩
      · refine exec_cards (Work.takeAnswer ⟨i, false⟩ fun slot => Work.runEnd slot none) rfl hn (by cases i <;> rfl) ?_
        exact hnext.trans (State.nextSlot_runs (y := { ran with writing := some { wr with written := wr.written + n } }) (wr := { wr with written := wr.written + n }) hdet hf3 hstops hstop rfl hreads hr hd hp)
      · refine exec_cards (Work.takeAnswer ⟨i, false⟩ fun slot => Work.runEnd slot none) rfl hn (by cases i <;> rfl) ?_
        exact hnext.trans (State.nextSlot_suspends (y := { ran with writing := some { wr with written := wr.written + n } }) hdet hf3 hstops hstop rfl hreads rfl rfl (hne _ (by decide) hst))
    · obtain ⟨hnd, hraw, hl, hdev, -, hproof⟩ := hchain
      have hneed : sectorNeed d.chain = 82032 := by rw [hraw]; rfl
      have hmiss (k : FailKind) (hfr : x.failRun < 2) (hstops : x.stops = []) (hpol : r.policy ≠ some .overflow) :
          Work.runEnd i (some k) { toState := s, bus := [] } =
            { toState := said .write (after { missed k with state := .ready } (failed .write)), bus := [] } := by
        refine (hfails k (by omega)).trans ((State.decideRun_fails (y := missed k) hw hstops).trans
          ((congrArg (Work.nextSlot i) (State.failDuty_stays hnd hr hd hf hdev hproof hslot (hnotices .write (.inr hpol)))).trans
            ((State.nextSlot_ready_nil (s := s.dutyFailed i wr.duty r d .write) (y := { missed k with writing := none }) hstops (by show x.failRun + 1 ≠ 3; omega) hstop rfl hq
              hreads (hne _ (by decide) hst)).trans ?_)))
        cases i <;> rfl
      refine ⟨fun hdone hstops => ?_, fun hpol hstops hfr => ?_, fun hpol hstops hfr => ?_, fun hstops hfr => ?_,
        fun sto hsto hstops hfr hpol hlow => ?_, fun hi hpol hdisc hstops hfr hb => ?_⟩
      · refine exec_cardDone (Work.takeAnswer ⟨i, false⟩ fun slot => Work.runEnd slot none) rfl hn (by cases i <;> rfl)
          (by cases i <;> exact htu) (j := wr.duty.row) (ch := d.chain) (hok.trans ?_)
        rw [decide_eq_true (by omega)]
        refine (State.decideRun_done_stays (y := { ran with writing := some { wr with written := wr.written + n } })
          (wr := { wr with written := wr.written + n }) hnd hr hd hf hdev hproof rfl).trans
            ((State.nextSlot_ready_nil (s := s.withCards wr.duty.row (r.cards.set wr.duty.place { d with state := .done }))
              (y := { ran with failRun := 0, writing := none }) hstops (show (0 : Nat) ≠ 3 by decide) hstop rfl hq hreads
                (hne _ (by decide) hst)).trans ?_)
        cases i <;> rfl
      · exact ⟨exec_cards (Work.takeAnswer ⟨i, false⟩ fun slot => Work.runEnd slot (some .runFail)) rfl hn (by cases i <;> rfl)
          (hmiss .runFail hfr hstops hpol), exec_cards (Work.runEnd i (some .timeout)) rfl hn (by cases i <;> rfl)
          (hmiss .timeout hfr hstops hpol)⟩
      · have hfault (k : FailKind) : Work.runEnd i (some k) { toState := s, bus := [] } =
            { toState := said .write (after { missed k with state := .fault } (failed .write)), bus := [] } := by
          refine (hfails k (by omega)).trans ((State.decideRun_fails (y := missed k) hw hstops).trans
            ((congrArg (Work.nextSlot i) (State.failDuty_stays hnd hr hd hf hdev hproof hslot (hnotices .write (.inr hpol)))).trans
              ((State.nextSlot_fault (s := s.dutyFailed i wr.duty r d .write) (y := { missed k with writing := none })
                (by show x.stops.contains .detached = false; rw [hstops]; rfl) (by show x.failRun + 1 = 3; omega)).trans
              ((State.enterFault_none (s := s.dutyFailed i wr.duty r d .write) (y := { missed k with writing := none, stops := [] })
                hq hreads rfl (hne _ (by decide) hst)).trans ?_))))
          rw [← hstops]
          cases i <;> rfl
        exact ⟨exec_cards (Work.takeAnswer ⟨i, false⟩ fun slot => Work.runEnd slot (some .runFail)) rfl hn (by cases i <;> rfl)
          (hfault .runFail), exec_cards (Work.runEnd i (some .timeout)) rfl hn (by cases i <;> rfl) (hfault .timeout)⟩
      · refine exec_cards (Work.runSourceLost i) rfl hn (by cases i <;> rfl) ?_
        rw [hself]
        refine (State.runSourceLost_fails hw hop).trans
          ((congrArg (Work.nextSlot i) (State.failDuty_stays hnd hr hd hf hdev hproof hslot (hnotices .sourceLost (.inl rfl)))).trans
            ((State.nextSlot_ready_nil (s := s.dutyFailed i wr.duty r d .sourceLost) (y := { x with op := .idle, writing := none })
              hstops (by show x.failRun ≠ 3; omega) hstop rfl hq hreads (hne _ (by decide) hst)).trans ?_))
        cases i <;> rfl
      · have hcause : ∀ w : Work, w.reassigns r d sto.cause = false := hnotices _ (.inr hpol)
        have hnext (t : State) (ht : t.cw.stopped = false) (y : Slot) (b : List Report) (hy : y.stops = [sto]) (hy3 : y.failRun ≠ 3)
            (hyw : y.writing = none) (hyq : y.writeQ = []) (hyr : y.reads = []) (hyo : y.op = .idle) (hys : y.state = .writing)
            (hyl : y.queued < 164064) :
            Work.nextSlot i (t.with_ i y b) = { toState := (t.setSlot i (stopped sto y)).slotChange, bus := b } := by
          rcases hsto with rfl | rfl
          · exact State.nextSlot_detached (by rw [hy]; rfl) hyq hyr hyo (by rw [hys]; decide) hyl
          · exact State.nextSlot_locked (by rw [hy]; rfl) hy3 (by rw [hy]; rfl) hyq (.inl hyr) (by rw [hys]; decide)
        have hstopped (y : Slot) : { stopped sto y with writing := none } = stopped sto { y with writing := none } := by
          rcases hsto with rfl | rfl <;> rfl
        have hstop2 (k : FailKind) : Work.runEnd i (some k) { toState := s, bus := [] } =
            { toState := said sto.cause (after (stopped sto (missed k)) (failed sto.cause)), bus := [] } := by
          refine (hfails k (by omega)).trans ((State.decideRun_stops (y := missed k) hw hstops).trans
            ((congrArg (Work.nextSlot i) (State.failDuty_stays hnd hr hd hf hdev hproof hslot hcause)).trans
              ((hnext (s.dutyFailed i wr.duty r d sto.cause) hstop { missed k with writing := none } [] hstops
                (by show x.failRun + 1 ≠ 3; omega) rfl hq hreads rfl hst hlow).trans ?_)))
          dsimp only [after]
          rw [hstopped]
          cases i <;> rfl
        refine ⟨fun hmore => ?_, fun hdone => ?_,
          exec_cards (Work.takeAnswer ⟨i, false⟩ fun slot => Work.runEnd slot (some .runFail)) rfl hn (by cases i <;> rfl)
            (hstop2 .runFail)⟩
        · refine exec_cards (Work.takeAnswer ⟨i, false⟩ fun slot => Work.runEnd slot none) rfl hn (by cases i <;> rfl)
            (hok.trans ?_)
          rw [decide_eq_false (by omega)]
          refine (State.decideRun_stops (y := { ran with writing := some { wr with written := wr.written + n } })
            (wr := { wr with written := wr.written + n }) rfl hstops).trans
            ((congrArg (Work.nextSlot i) (State.failDuty_stays hnd hr hd hf hdev hproof hslot hcause)).trans
              ((hnext (s.dutyFailed i wr.duty r d sto.cause) hstop { ran with writing := none } [] hstops
                (by show x.failRun ≠ 3; omega) rfl hq hreads rfl hst hlow).trans ?_))
          dsimp only [after]
          rw [hstopped]
          cases i <;> rfl
        · refine exec_cardDone (Work.takeAnswer ⟨i, false⟩ fun slot => Work.runEnd slot none) rfl hn (by cases i <;> rfl)
            (by cases i <;> exact htu) (j := wr.duty.row) (ch := d.chain) (hok.trans ?_)
          rw [decide_eq_true (by omega)]
          refine (State.decideRun_done_stays (y := { ran with writing := some { wr with written := wr.written + n } })
            (wr := { wr with written := wr.written + n }) hnd hr hd hf hdev hproof rfl).trans
              ((hnext (s.withCards wr.duty.row (r.cards.set wr.duty.place { d with state := .done })) hstop
                { ran with failRun := 0, writing := none } _ hstops (show (0 : Nat) ≠ 3 by decide) rfl hq hreads rfl hst hlow).trans ?_)
          dsimp only [after]
          rw [hstopped]
          cases i <;> rfl
      · subst hi
        refine exec_cards (Work.takeAnswer ⟨.a, false⟩ fun slot => Work.runEnd slot (some .runFail)) rfl hn rfl ?_
        refine (hfails .runFail (by omega)).trans ((State.decideRun_fails (y := missed .runFail) hw hstops).trans
          ((congrArg (Work.nextSlot .a) (State.failDuty_toB_with (y := { missed .runFail with writing := none }) hnd hr hd hf hdev hproof
            hslot hraw hpol hdisc rfl hstop hb)).trans
            ((State.nextSlot_ready_nil (y := { missed .runFail with writing := none }) hstops (by show x.failRun + 1 ≠ 3; omega)
              (by exact hstop) rfl hq hreads (hne _ (by decide) hst)).trans rfl)))
    · have hact : Work.takeAnswer ⟨i, false⟩ (fun slot => Work.runEnd slot (some .runFail)) { toState := s, bus := [] } =
          Work.nextSlot i (Work.failDuty wr.duty .write true (s.with_ i { missed .runFail with writing := none } [])) :=
        (hfails .runFail (by omega)).trans (State.decideRun_fails (y := missed .runFail) hw hstops)
      obtain ⟨t, ht, hslot', hall⟩ := State.faults_all (c := .runFail ⟨i, false⟩) (y := { missed .runFail with writing := none })
        (Work.takeAnswer ⟨i, false⟩ fun slot => Work.runEnd slot (some .runFail)) rfl hact
        (by show x.stops.contains .detached = false; rw [hstops]; rfl) (by show x.failRun + 1 = 3; omega) hst rfl hslot hr hd hstop
      refine ⟨t, ht, ?_⟩
      rw [hslot']
      exact ⟨rfl, rfl, rfl, rfl, rfl, rfl, by show x.failRun + 1 = 3; omega,
        fun e he hne z y hz hy hf _ => hall e he hne z y hz hy hf⟩
  · refine ⟨fun q k n hop hbuf htr => ?_, fun hchain hstops hq hfr htu hpol hc hl hopne => ?_⟩
    · intro freed
      have hread (t : State) (ht : t.tu = s.tu) : Work.handle (.readEnded q.buffer none) { toState := t, bus := [] } =
          { toState := { t with tu := { s.tu with buffers := s.tu.buffers.set q.buffer .free } }, bus := [] } := by
        rw [← ht] at hbuf htr ⊢
        exact Work.takeRead_stale (w := { toState := t, bus := [] }) none hbuf htr
      refine ⟨fun q2 qs hserved hreads => ?_, fun p hserved hp => ?_⟩
      · refine exec_comes (Work.takeAnswer ⟨i, false⟩ fun slot => Work.readEnd slot none) rfl
          (State.steady_none hn (by cases i <;> rfl)) ?_
        rw [hself]
        show (Work.readEnd i none (s.with_ i x [])).Comes 4096 _
        rw [State.readEnd_serves hop hst hserved hreads hstop]
        exact .step (hread _ (by cases i <;> rfl)) (.same (by cases i <;> rfl))
      · refine exec_comes (Work.takeAnswer ⟨i, false⟩ fun slot => Work.readEnd slot none) rfl
          (State.steady_none hn (by cases i <;> rfl)) ?_
        rw [hself]
        show (Work.readEnd i none (s.with_ i x [])).Comes 4096 _
        rw [State.readEnd_resumes hop hst hserved hw hr hd hp]
        exact .step (hread _ (by cases i <;> rfl)) (.same (by cases i <;> rfl))
    · obtain ⟨hnd, hraw, hlife, hdev, -, hproof⟩ := hchain
      refine exec_cards (Work.lockLine i true) rfl hn (by cases i <;> rfl) ?_
      rw [hself]
      unfold Work.lockLine
      rw [State.with_slot]
      dsimp only
      rw [if_neg (by rw [hc, hl]; exact fun h => h.elim Bool.noConfusion Bool.noConfusion), hst]
      dsimp only
      rw [if_pos rfl, State.with_mapSlot, Work.askStop, State.with_slot, State.with_mapSlot]
      dsimp only
      rw [if_pos hst, hstops]
      refine (State.decideRun_stops (y := { x with lockOn := true, stops := [.locked] }) hw rfl).trans
        ((congrArg (Work.nextSlot i) (State.failDuty_stays hnd hr hd hf hdev hproof hslot (hnotices .locked (.inr hpol)))).trans
          ((State.nextSlot_locked (s := s.dutyFailed i wr.duty r d .locked)
            (y := { x with lockOn := true, stops := [.locked], writing := none }) rfl (by show x.failRun ≠ 3; omega) rfl hq (.inr hopne)
              (by show x.state ≠ .locked; rw [hst]; exact fun h => SlotState.noConfusion h)).trans ?_))
      rw [← hstops]
      cases i <;> rfl
  · intro settled report ends
    have hneed : sectorNeed d.chain = 82032 := by rw [hch]; rfl
    have hout (fs : List CardDuty) : Row.settledOutcome { r with cards := fs } = .discarded := if_pos hdisc
    have hlost : (d.lost .discarded true).state.isFinal = true := rfl
    have hdone : ({ d with state := .done } : CardDuty).state.isFinal = true := rfl
    have hends (z : Slot) (wo : Option Writing) (failed' : Bool) (hyw : wo.map Writing.duty = some wr.duty)
        (hy : z.stops = [.discarded]) (hy3 : z.failRun ≠ 3) (hyq : z.writeQ = []) (hyr : z.reads = []) (hys : z.state = .writing) :
        (Work.decideRun i false failed' (s.with_ i { z with op := .idle, runsSince := 1, writing := wo } [])).Comes 4096
          (ends (report (settled z (failed .discarded)))) := by
      obtain ⟨wr2, hw2, hduty⟩ := Option.map_eq_some_iff.1 hyw
      subst hw2
      rw [State.decideRun_stops (y := { z with op := .idle, runsSince := 1, writing := some wr2 }) rfl hy, hduty, show Stop.discarded.cause = .discarded from rfl,
        State.failDuty_with hnd hr hd hf hslot (hnotices .discarded (.inl rfl)),
        State.check_settles_with (s := s.dutyFailed i wr.duty r d .discarded) (j := wr.duty.row)
          (r := { r with cards := r.cards.set wr.duty.place (d.lost .discarded true) }) (State.withCards_row hr _) hl hraw hproof hdev
          (Row.cards_closed hall hlost) htet (hout _)]
      refine State.discarded_comes (s := s.dutyFailed i wr.duty r d .discarded) (rest := []) (n := 4094) hy hy3 hstop rfl hyq hyr hys hidle (.same ?_)
      rw [State.dutyFailed_settled]
      cases i <;> rfl
    refine ⟨fun hmore => ?_, fun hwritten => ?_, ?_⟩
    · refine exec_comes (Work.takeAnswer ⟨i, false⟩ fun slot => Work.runEnd slot none) rfl (State.steady_none hn (by cases i <;> rfl)) ?_
      rw [hself]
      show (Work.runEnd i none (s.with_ i x [])).Comes 4096 _
      rw [State.runEnd_ok hop hw hr hd, decide_eq_false (by omega)]
      exact hends x (some { wr with written := wr.written + n }) false rfl hstops (by omega) hq hreads hst
    · refine exec_comes (Work.takeAnswer ⟨i, false⟩ fun slot => Work.runEnd slot none) rfl (State.steady_none hn (by cases i <;> rfl)) ?_
      rw [hself]
      show (Work.runEnd i none (s.with_ i x [])).Comes 4096 _
      rw [State.runEnd_ok hop hw hr hd, decide_eq_true (by omega),
        State.decideRun_done (y := { x with op := .idle, runsSince := 1, writing := some { wr with written := wr.written + n } })
          (wr := { wr with written := wr.written + n }) hnd hr hd hf rfl,
        State.check_settles_with (s := s.withCards wr.duty.row (r.cards.set wr.duty.place { d with state := .done })) (j := wr.duty.row)
          (r := { r with cards := r.cards.set wr.duty.place { d with state := .done } }) (State.withCards_row hr _) hl hraw hproof hdev
          (Row.cards_closed hall hdone) htet (hout _), State.with_post]
      refine State.discarded_comes (s := s.withCards wr.duty.row (r.cards.set wr.duty.place { d with state := .done }))
        (rest := [.cardDone wr.duty.row d.chain]) (n := 4094) hstops (show (0 : Nat) ≠ 3 by decide) hstop rfl hq hreads hst hidle
        (.skip (Work.handle_cardDone_empty (by cases i <;> exact hidle.1)) (.same ?_))
      rw [State.withCards_settled]
      cases i <;> rfl
    · refine exec_comes (Work.takeAnswer ⟨i, false⟩ fun slot => Work.runEnd slot (some .runFail)) rfl
        (State.steady_none hn (by cases i <;> rfl)) ?_
      rw [hself]
      show (Work.runEnd i (some .runFail) (s.with_ i x [])).Comes 4096 _
      rw [State.runEnd_fails hop hw, show min 3 (x.failRun + 1) = x.failRun + 1 by omega]
      exact hends { x with failRun := x.failRun + 1, lastFail := some .runFail } x.writing true (by rw [hw]; rfl) hstops
        (by show x.failRun + 1 ≠ 3; omega) hq hreads hst
  · obtain ⟨hnd, hraw, hl, hdev, -, hproof⟩ := hchain
    intro t
    have hhead : (x.stops.head?.map Stop.cause).getD .removed = cause := by
      rw [hcause]
      cases x.stops <;> rfl
    refine exec_cards (Work.cardEvent i false) rfl hn ?_ ?_
    · exact (State.lowAfter_kept t x.queued).1.trans (by cases i <;> rfl)
    · rw [show Work.cardEvent i false { toState := s, bus := [] } = Work.cardLine i false { toState := s, bus := [] } from
        if_neg fun h => hpow h.1, hself]
      refine (State.cardLine_writing (t := s.dutyFailed i wr.duty r d cause) hc hop hw hreads hq (hne _ (by decide) hst) hhead
        (State.failDuty_stays hnd hr hd hf hdev hproof hslot (hnotices cause (.inr hpol)))).trans ?_
      cases i <;> rfl
  · obtain ⟨hnd, hraw, hl, hdev, -, hproof⟩ := hchain
    intro ended ran
    have hneed : sectorNeed d.chain = 82032 := by rw [hraw]; rfl
    have hpower (t : State) (ht : t.cw.stopped = true) (y : Slot) (b : List Report) (hy : y.stops = [.power]) (hy3 : y.failRun ≠ 3)
        (hys : y.state = .writing) :
        Work.nextSlot i (t.with_ i y b) = { toState := (t.setSlot i (stopped .power y)).slotChange, bus := b } :=
      State.nextSlot_stopped (by rw [hy]; rfl) hy3 (by rw [hy]; rfl) ht (by rw [hys]; decide)
    have hquiet (y : Slot) (t : State) (ht : t.cw = (s.setSlot i { stopped .power y with writing := none }).cw) :
        t.cw.quiet = true ↔ (match i with | .a => s.cw.b.writing | .b => s.cw.a.writing) = none := by
      rw [ht]
      exact State.quiet_ended rfl
    have hends (y : Slot) (failed' : Bool) (hyw : y.writing.map Writing.duty = some wr.duty) (hy : y.stops = [.power])
        (hy3 : y.failRun ≠ 3) (hys : y.state = .writing) :
        Work.decideRun i false failed' (s.with_ i y []) =
          { toState := said .power (after (stopped .power y) (failed .power)), bus := [] } := by
      obtain ⟨wr2, hw2, hduty⟩ := Option.map_eq_some_iff.1 hyw
      rw [State.decideRun_stops hw2 hy, hduty]
      refine (congrArg (Work.nextSlot i) (State.failDuty_stays hnd hr hd hf hdev hproof hslot (hnotices .power (.inl rfl)))).trans
        ((hpower (s.dutyFailed i wr.duty r d .power) hstop { y with writing := none } [] hy hy3 hys).trans ?_)
      cases i <;> rfl
    refine ⟨fun hmore => ?_, fun hdone => ?_, ?_⟩
    · refine exec_ended (Work.takeAnswer ⟨i, false⟩ fun slot => Work.runEnd slot none) rfl hresp (by cases i <;> rfl)
        (hquiet ran _ (by cases i <;> rfl)) ?_
      rw [hself]
      show (Work.runEnd i none (s.with_ i x [])).Comes 4096 _
      rw [State.runEnd_ok hop hw hr hd, decide_eq_false (by omega),
        hends { ran with writing := some { wr with written := wr.written + n } } false rfl hstops (by show x.failRun ≠ 3; omega) hst]
      exact .same (by cases i <;> rfl)
    · refine exec_ended (Work.takeAnswer ⟨i, false⟩ fun slot => Work.runEnd slot none) rfl hresp (by cases i <;> rfl)
        (hquiet { ran with failRun := 0 } _ (by cases i <;> rfl)) ?_
      rw [hself]
      show (Work.runEnd i none (s.with_ i x [])).Comes 4096 _
      rw [State.runEnd_ok hop hw hr hd, decide_eq_true (by omega),
        State.decideRun_done_stays (wr := { wr with written := wr.written + n }) hnd hr hd hf hdev hproof rfl]
      rw [hpower (s.withCards wr.duty.row (r.cards.set wr.duty.place { d with state := .done })) hstop
        { ran with failRun := 0, writing := none } _ hstops (show (0 : Nat) ≠ 3 by decide) hst]
      exact .skip (Work.handle_cardDone_empty (by cases i <;> exact htu)) (.same (by cases i <;> rfl))
    · refine exec_ended (Work.takeAnswer ⟨i, false⟩ fun slot => Work.runEnd slot (some .runFail)) rfl hresp (by cases i <;> rfl)
        (hquiet { ran with failRun := x.failRun + 1, lastFail := some .runFail } _ (by cases i <;> rfl)) ?_
      rw [hself]
      show (Work.runEnd i (some .runFail) (s.with_ i x [])).Comes 4096 _
      rw [State.runEnd_fails hop hw, show min 3 (x.failRun + 1) = x.failRun + 1 by omega,
        hends { ran with failRun := x.failRun + 1, lastFail := some .runFail } true (by show x.writing.map _ = _; rw [hw]; rfl) hstops
          (by show x.failRun + 1 ≠ 3; omega) hst]
      exact .done _

end Sys2Proof.Machine
end

section
/-! PROOF. A row that SHOT_DISCARD falls on, while its duties end (R16, R17, R19). -/

namespace Sys2Proof.Machine

/-- Every duty of the row is final. -/
structure Row.Closed (r : Row) : Prop where
  develop : r.develop.isFinal = true
  cards : ∀ d ∈ r.cards, d.state.isFinal = true
  tethers : ∀ d ∈ r.tethers, d.state.isFinal = true

/-- A row being discarded, whose number, flags and duties are given: it is HELD, or has settled with every duty final. -/
structure Row.Falls (ρ z : Row) : Prop where
  same : z.sansChains = ρ.sansChains
  life : (z.life = .held ∧ z.outcome = ρ.outcome) ∨
    (z.life = .settled ∧ z.outcome = some .discarded ∧ z.raw = none ∧ z.proof = none ∧ ρ.Closed)

/-- The row with an index falls. -/
def Work.Falls (i : Nat) (ρ : Row) (w : Work) : Prop := ∃ z, w.bm.row? i = some z ∧ ρ.Falls z

theorem Row.closed_iff {r : Row} : r.Closed ↔ r.openDuties = 0 := by
  refine ⟨fun h => Row.openDuties_closed h.develop h.cards h.tethers, fun h => ?_⟩
  obtain ⟨hc, hd⟩ := Row.closed_of_openDuties h
  refine ⟨hd, hc, fun d hmem => ?_⟩
  by_contra hf
  exact Row.openDuties_of_tether hmem (Bool.eq_false_iff.2 hf) h

section
variable {r x y z ρ σ : Row} {w v : Work} {i : Nat}

theorem Row.Closed.congr (h : x.sansChains = y.sansChains) (hx : x.Closed) : y.Closed := by
  have hd : x.develop = y.develop := Row.develop_of_sansChains h
  have hc : x.cards = y.cards := Row.cards_of_sansChains h
  have ht : x.tethers = y.tethers := by
    have h2 := congrArg Row.tethers h
    exact h2
  exact ⟨hd ▸ hx.develop, hc ▸ hx.cards, ht ▸ hx.tethers⟩

theorem Row.discarding_of_sansChains (h : x.sansChains = y.sansChains) : x.discarding = y.discarding := by
  have hd := congrArg Row.discarding h
  exact hd

theorem Work.Falls.set (h : w.Falls i ρ) (hbm : v.bm.rows = w.bm.rows) : v.Falls i ρ := by
  obtain ⟨z, hz, hf⟩ := h
  exact ⟨z, by rw [Bm.row?, hbm, ← Bm.row?, hz], hf⟩

/-- A change of the row. -/
theorem Work.Falls.mapRow (h : w.Falls i ρ) {f : Row → Row} (hi : ∀ x, (f x).index = x.index)
    (hf : ∀ z, ρ.Falls z → σ.Falls (f z)) (hrows : v.bm.rows = (w.bm.mapRow i f).rows) : v.Falls i σ := by
  obtain ⟨z, hz, hfalls⟩ := h
  exact ⟨f z, by rw [Bm.row?, hrows, ← Bm.row?]; exact Bm.row?_mapRow_same (f := f) hz hi, hf z hfalls⟩

/-! ### The checks -/

theorem Work.Falls.releaseRaw (h : w.Falls i ρ) : (w.releaseRaw i).Falls i ρ := by
  unfold Work.releaseRaw
  split
  · exact h.mapRow (f := fun x => { x with raw := none }) (fun _ => rfl)
      (fun z hz => ⟨hz.same, hz.life.imp_right fun ⟨h1, h2, _, h4, h5⟩ => ⟨h1, h2, rfl, h4, h5⟩⟩) rfl
  · exact h

theorem Work.Falls.releaseProof (h : w.Falls i ρ) : (w.releaseProof i).Falls i ρ := by
  unfold Work.releaseProof
  split
  · exact h.mapRow (f := fun x => { x with proof := none }) (fun _ => rfl)
      (fun z hz => ⟨hz.same, hz.life.imp_right fun ⟨h1, h2, h3, _, h5⟩ => ⟨h1, h2, h3, rfl, h5⟩⟩) rfl
  · exact h

theorem Work.Falls.releaseCheck (h : w.Falls i ρ) : (w.releaseCheck i).Falls i ρ := by
  unfold Work.releaseCheck
  split
  · split
    · dsimp only
      split <;> split
      · exact h
      · exact h.releaseRaw
      · exact h.releaseProof
      · exact h.releaseRaw.releaseProof
    · exact h
  · exact h

theorem Work.Falls.settleCheck (h : w.Falls i ρ) (hd : ρ.discarding = true) : (w.settleCheck i).Falls i ρ := by
  unfold Work.settleCheck
  split
  · next r hr =>
    split
    · next hset =>
      obtain ⟨z, hz, hfalls⟩ := h
      rw [hr] at hz
      cases hz
      obtain ⟨-, hopen, hraw, hproof⟩ := r.settles_iff.1 hset
      have hout : r.settledOutcome = .discarded := if_pos ((Row.discarding_of_sansChains hfalls.same).trans hd)
      refine ⟨_, Bm.row?_mapRow_same (f := fun x => { x with life := .settled, outcome := some r.settledOutcome }) hr fun _ => rfl,
        hfalls.same, .inr ⟨rfl, congrArg some hout, hraw, hproof, (Row.closed_iff.2 hopen).congr hfalls.same⟩⟩
    · exact h
  · exact h

theorem Work.Falls.check (h : w.Falls i ρ) (hd : ρ.discarding = true) : (w.check i).Falls i ρ := h.releaseCheck.settleCheck hd

theorem Work.releaseRaw_row (hr : w.bm.row? i = some r) : (w.releaseRaw i).bm.row? i = some { r with raw := none } := by
  unfold Work.releaseRaw
  rw [hr, Option.bind_some]
  cases hc : r.raw with
  | none =>
    dsimp only
    rw [hr, ← hc]
  | some c => exact Bm.row?_mapRow_same (f := fun x => { x with raw := none }) hr fun _ => rfl

theorem Work.releaseProof_row (hr : w.bm.row? i = some r) : (w.releaseProof i).bm.row? i = some { r with proof := none } := by
  unfold Work.releaseProof
  rw [hr, Option.bind_some]
  cases hc : r.proof with
  | none =>
    dsimp only
    rw [hr, ← hc]
  | some c => exact Bm.row?_mapRow_same (f := fun x => { x with proof := none }) hr fun _ => rfl

theorem Row.proofRead_closed (h : r.Closed) : r.proofRead = false := by
  have hcards : r.cards.any (fun d => decide (d.chain = .proof) && !d.state.isFinal) = false :=
    List.any_eq_false.2 fun d hd => by rw [h.cards d hd, Bool.not_true, Bool.and_false]; exact Bool.false_ne_true
  have htethers : r.tethers.any (fun d => decide (d.chain = .proof) && !d.state.isFinal && decide (d.source = .buffer)) = false :=
    List.any_eq_false.2 fun d hd => by
      rw [h.tethers d hd, Bool.not_true, Bool.and_false, Bool.false_and]
      exact Bool.false_ne_true
  have hdev := h.develop
  unfold Row.proofRead
  split
  · next hrun =>
    rw [hrun] at hdev
    exact absurd hdev Bool.false_ne_true
  · rw [hcards, htethers]
    rfl
  all_goals
    refine List.any_eq_false.2 fun d hd hs => ?_
    have hfin := h.tethers d hd
    simp only [Bool.and_eq_true, decide_eq_true_eq] at hs
    rw [hs.1.2] at hfin
    exact Bool.false_ne_true hfin

/-- With every duty final a check settles the row. -/
theorem Work.Falls.settles (h : w.Falls i ρ) (hd : ρ.discarding = true) (hclosed : ρ.Closed) :
    ∃ z, (w.check i).bm.row? i = some z ∧ ρ.Falls z ∧ z.life = .settled := by
  obtain ⟨z, hz, hfalls⟩ := h.check hd
  refine ⟨z, hz, hfalls, ?_⟩
  obtain ⟨r, hr, hf⟩ := h
  have hc : r.Closed := hclosed.congr hf.same.symm
  rcases hf.life with ⟨hl, -⟩ | ⟨hl, -⟩
  · have hraw : r.rawRead = false := Row.rawRead_closed hc.develop hc.cards hc.tethers
    have hrow : (w.releaseCheck i).bm.row? i = some { r with raw := none, proof := none } := by
      unfold Work.releaseCheck
      rw [hr]
      dsimp only
      rw [if_pos hl, hraw, Row.proofRead_closed hc, if_neg Bool.false_ne_true, if_neg Bool.false_ne_true]
      exact Work.releaseProof_row (Work.releaseRaw_row hr)
    have hset : Row.settles { r with raw := none, proof := none } = true :=
      (Row.settles_iff _).2 ⟨hl, Row.closed_iff.1 ⟨hc.develop, hc.cards, hc.tethers⟩, rfl, rfl⟩
    have hsettled : ∃ x, (w.check i).bm.row? i = some x ∧ x.life = .settled := by
      unfold Work.check Work.settleCheck
      rw [hrow]
      dsimp only
      rw [if_pos hset]
      generalize Row.settledOutcome { r with raw := none, proof := none } = o
      exact ⟨_, Bm.row?_mapRow_same (f := fun x => { x with life := .settled, outcome := some o }) hrow fun _ => rfl, rfl⟩
    obtain ⟨x, hx, hxl⟩ := hsettled
    rw [hz] at hx
    cases hx
    exact hxl
  · have hrelease : w.releaseCheck i = w := by
      unfold Work.releaseCheck
      rw [hr]
      exact if_neg (by rw [hl]; exact fun h => Life.noConfusion h)
    have hset : Row.settles r = false := by
      rw [Row.settles, decide_eq_false (by rw [hl]; exact fun h => Life.noConfusion h)]
      rfl
    rw [Work.check, hrelease, Work.settleCheck_same hr hset, hr] at hz
    cases hz
    exact hl

end

end Sys2Proof.Machine
end

section
/-! PROOF. The develop duty and the card duties of a row that SHOT_DISCARD falls on (R19). -/

namespace Sys2Proof.Machine

/-- The reports that ask for no selection of the send queue. -/
def Report.isMild : Report → Bool
  | .deLook | .reclaim _ | .developChanged _ => true
  | .readEnded _ _ | .cardDone _ _ | .frontier _ | .proofLost _ | .select | .focus _ | .rowEnded _ _ _ => false

/-- TU, DE and the outputs stand, no slot changes its state or forgets a stop, and mild reports alone are posted. -/
structure Work.Ebbs (w v : Work) : Prop where
  tu : v.tu = w.tu
  de : v.de = w.de
  sent : v.sent = w.sent
  slots : ∀ k, (v.cw.slot k).state = (w.cw.slot k).state ∧ ∀ st ∈ (w.cw.slot k).stops, st ∈ (v.cw.slot k).stops
  mild : ∀ r ∈ v.bus, r ∈ w.bus ∨ r.isMild = true

section
variable {u v w : Work} {i : Nat} {d : DutyRef}

theorem Work.Ebbs.refl (w : Work) : w.Ebbs w := ⟨rfl, rfl, rfl, fun _ => ⟨rfl, fun _ h => h⟩, fun _ h => .inl h⟩

theorem Work.Ebbs.trans (h : u.Ebbs v) (g : v.Ebbs w) : u.Ebbs w where
  tu := g.tu.trans h.tu
  de := g.de.trans h.de
  sent := g.sent.trans h.sent
  slots k := ⟨(g.slots k).1.trans (h.slots k).1, fun st hst => (g.slots k).2 st ((h.slots k).2 st hst)⟩
  mild r hr := (g.mild r hr).elim (h.mild r) .inr

/-- What touches BM and CP alone. -/
theorem Work.Ebbs.set (h : u.Ebbs v) (htu : w.tu = v.tu) (hde : w.de = v.de) (hs : w.sent = v.sent) (hcw : w.cw = v.cw)
    (hb : w.bus = v.bus) : u.Ebbs w :=
  h.trans ⟨htu, hde, hs, fun k => by rw [hcw]; exact ⟨rfl, fun _ h => h⟩, fun r hr => .inl (by rw [← hb]; exact hr)⟩

theorem Work.Ebbs.post (h : u.Ebbs v) {r : Report} (hr : r.isMild = true) : u.Ebbs (v.post r) :=
  h.trans ⟨rfl, rfl, rfl, fun _ => ⟨rfl, fun _ h => h⟩, fun x hx => (List.mem_append.1 hx).imp_right fun hx => by
    rw [List.mem_singleton.1 hx, hr]⟩

theorem Work.Ebbs.mapSlot (h : u.Ebbs v) (i : SlotId) {f : Slot → Slot}
    (hf : ∀ x, (f x).state = x.state ∧ ∀ st ∈ x.stops, st ∈ (f x).stops) : u.Ebbs (v.mapSlot i f) := by
  refine h.trans ⟨by cases i <;> rfl, by cases i <;> rfl, by cases i <;> rfl, fun k => ?_, fun r hr => .inl (by cases i <;> exact hr)⟩
  by_cases hk : k = i
  · subst hk
    rw [Cw.slot_mapSlot]
    exact hf _
  · cases k <;> cases i <;> first | exact absurd rfl hk | exact ⟨rfl, fun _ h => h⟩

theorem Work.Ebbs.freePages (h : u.Ebbs v) (ps : List Nat) : u.Ebbs (v.freePages ps) :=
  ((h.set (w := { v with bm := { v.bm with free := ps.foldr insertPage v.bm.free } }) rfl rfl rfl rfl rfl).post rfl).post rfl

theorem Work.Ebbs.releaseRaw (h : u.Ebbs v) (i : Nat) : u.Ebbs (v.releaseRaw i) := by
  unfold Work.releaseRaw
  split
  · exact Work.Ebbs.freePages (h.set (w := v.mapRow i fun r => { r with raw := none }) rfl rfl rfl rfl rfl) _
  · exact h

theorem Work.Ebbs.releaseProof (h : u.Ebbs v) (i : Nat) : u.Ebbs (v.releaseProof i) := by
  unfold Work.releaseProof
  split
  · exact Work.Ebbs.freePages (h.set (w := v.mapRow i fun r => { r with proof := none }) rfl rfl rfl rfl rfl) _
  · exact h

theorem Work.Ebbs.check (h : u.Ebbs v) (i : Nat) : u.Ebbs (v.check i) := by
  have hrelease : u.Ebbs (v.releaseCheck i) := by
    unfold Work.releaseCheck
    split
    · split
      · dsimp only
        split <;> split
        · exact h
        · exact h.releaseRaw i
        · exact h.releaseProof i
        · exact (h.releaseRaw i).releaseProof i
      · exact h
    · exact h
  unfold Work.check Work.settleCheck
  split
  · split
    · exact hrelease.set rfl rfl rfl rfl rfl
    · exact hrelease
  · exact hrelease

theorem Work.Ebbs.unlist (h : u.Ebbs v) (d : DutyRef) : u.Ebbs (v.unlist d) := by
  unfold Work.unlist
  split
  · exact h.mapSlot _ fun _ => ⟨rfl, fun _ h => h⟩
  · exact h

/-! ### One card duty -/

/-- A card duty of a row that is discarded: the one that is written goes on (R19). -/
def CardDuty.discarded (x : CardDuty) : CardDuty :=
  if x.state.isFinal = true ∨ x.state = .writing then x else x.lost .discarded false

/-- What a discard does to one card duty. -/
def Work.discardCard (d : DutyRef) (v : Work) : Work :=
  match v.duty? d with
  | some x =>
    if x.state = .writing then v.askStop x.slot .discarded
    else if x.state.isFinal then v
    else (v.unlist d).failDuty d .discarded false
  | none => v

theorem Work.discardCards_eq {r : Row} (hr : w.bm.row? i = some r) :
    w.discardCards i = r.openCards.foldl (fun v d => v.discardCard d) w := by
  unfold Work.discardCards
  rw [hr]
  rfl

section
variable {ρ : Row} {x : CardDuty}

theorem Row.Closed.modify (h : ρ.Closed) {k : Nat} {f : CardDuty → CardDuty} (hf : ∀ x, x.state.isFinal = true → f x = x) :
    ({ ρ with cards := ρ.cards.modify k f } : Row).Closed := by
  refine ⟨h.develop, fun d hd => ?_, h.tethers⟩
  have hsame : ρ.cards.modify k f = ρ.cards := by
    cases hx : ρ.cards[k]? with
    | none => exact List.modify_eq_self (List.getElem?_eq_none_iff.1 hx)
    | some x => rw [List.modify_congr (g := id) hx (hf x (h.cards x (List.mem_of_getElem? hx))), List.modify_id]
  exact h.cards d (hsame ▸ hd)

theorem Row.Falls.cards {z : Row} (h : ρ.Falls z) {k : Nat} {f : CardDuty → CardDuty}
    (hf : ∀ x, x.state.isFinal = true → f x = x) :
    Row.Falls { ρ with cards := ρ.cards.modify k f } { z with cards := z.cards.modify k f } := by
  refine ⟨?_, h.life.imp_right fun ⟨h1, h2, h3, h4, h5⟩ => ⟨h1, h2, h3, h4, h5.modify hf⟩⟩
  have hc : z.cards = ρ.cards := Row.cards_of_sansChains h.same
  rw [hc]
  have hs := congrArg (fun y : Row => { y with cards := ρ.cards.modify k f }) h.same
  exact hs

/-- The duty of a falling row fails (R134). -/
theorem Work.Falls.failDuty (h : w.Falls d.row ρ) (hd : ρ.discarding = true) (hx : ρ.cards[d.place]? = some x)
    (hf : x.state.isFinal = false) {cause : CardCause} (hc : cause.reassigns = false) :
    (w.failDuty d cause false).Falls d.row { ρ with cards := ρ.cards.modify d.place (CardDuty.fail cause) } ∧
      w.Ebbs (w.failDuty d cause false) := by
  obtain ⟨z, hz, hfalls⟩ := h
  have hcards : z.cards = ρ.cards := Row.cards_of_sansChains hfalls.same
  rw [Work.failDuty_eq hz (by rw [hcards]; exact hx) hf (Work.reassigns_of_cause hc)]
  refine ⟨Work.Falls.check (Work.Falls.mapRow (w := w) ⟨z, hz, hfalls⟩ (f := fun r => { r with cards := r.cards.modify d.place (CardDuty.fail cause) })
    (fun _ => rfl) (fun y hy => hy.cards fun x hx => if_pos hx) rfl) hd, Work.Ebbs.check ?_ _⟩
  exact (Work.Ebbs.refl w).set rfl rfl rfl rfl rfl

theorem CardDuty.discarded_of_open (hf : x.state.isFinal = false) (hw : x.state ≠ .writing) :
    x.discarded = x.lost .discarded false :=
  if_neg fun h => h.elim (fun h => Bool.false_ne_true (hf.symm.trans h)) hw

/-- One card duty of a falling row. -/
theorem Work.Falls.discardCard (h : w.Falls d.row ρ) (hd : ρ.discarding = true)
    (hslot : ∀ x, ρ.cards[d.place]? = some x → x.state = .writing → (w.cw.slot x.slot).state = .writing) :
    (w.discardCard d).Falls d.row { ρ with cards := ρ.cards.modify d.place CardDuty.discarded } ∧ w.Ebbs (w.discardCard d) ∧
      ∀ x, ρ.cards[d.place]? = some x → x.state = .writing → Stop.discarded ∈ ((w.discardCard d).cw.slot x.slot).stops := by
  obtain ⟨z, hz, hfalls⟩ := id h
  have hcards : z.cards = ρ.cards := Row.cards_of_sansChains hfalls.same
  have hduty : w.duty? d = ρ.cards[d.place]? := by rw [Work.duty?_row hz, hcards]
  have hstays (x : CardDuty) (hx : ρ.cards[d.place]? = some x) (hsame : x.discarded = x) :
      ({ ρ with cards := ρ.cards.modify d.place CardDuty.discarded } : Row) = ρ := by
    rw [List.modify_congr (g := id) hx hsame, List.modify_id]
  unfold Work.discardCard
  rw [hduty]
  cases hx : ρ.cards[d.place]? with
  | none =>
    rw [List.modify_eq_self (List.getElem?_eq_none_iff.1 hx)]
    exact ⟨h, .refl w, fun _ h => absurd h (by simp)⟩
  | some x =>
    dsimp only
    by_cases hw : x.state = .writing
    · rw [if_pos hw, hstays x hx (if_pos (.inr hw)), Work.askStop, if_neg (by
        rw [hslot x hx hw]; exact fun h => SlotState.noConfusion h)]
      have hadd (y : Slot) (st : Stop) (hst : st ∈ y.stops) :
          st ∈ if y.stops.contains .discarded then y.stops else y.stops ++ [Stop.discarded] := by
        split
        · exact hst
        · exact List.mem_append_left _ hst
      refine ⟨h.set (by rw [Work.mapSlot_bm]), (Work.Ebbs.refl w).mapSlot _ fun y => ⟨rfl, hadd y⟩, fun y hy _ => ?_⟩
      cases hy
      rw [Cw.slot_mapSlot]
      dsimp only
      split
      · next hc => exact List.contains_iff_mem.1 hc
      · exact List.mem_append_right _ (List.mem_singleton.2 rfl)
    · rw [if_neg hw]
      cases hf : x.state.isFinal with
      | true =>
        rw [if_pos rfl, hstays x hx (if_pos (.inl hf))]
        exact ⟨h, .refl w, fun y hy hyw => absurd hyw (by cases hy; exact hw)⟩
      | false =>
        have hunlist : (w.unlist d).Falls d.row ρ := h.set (by rw [Work.unlist_bm])
        obtain ⟨hfail, hebbs⟩ := hunlist.failDuty hd hx hf (cause := .discarded) rfl
        have hcong : ρ.cards.modify d.place CardDuty.discarded = ρ.cards.modify d.place (CardDuty.fail .discarded) :=
          List.modify_congr hx (by rw [CardDuty.discarded_of_open hf hw, CardDuty.fail, hf, if_neg Bool.false_ne_true])
        rw [if_neg Bool.false_ne_true, hcong]
        exact ⟨hfail, Work.Ebbs.trans ((Work.Ebbs.refl w).unlist d) hebbs, fun y hy hyw => absurd hyw (by cases hy; exact hw)⟩

end

/-- The card duties of a falling row, one after the other. -/
theorem Work.foldl_discardCard (l : List DutyRef) {w : Work} {ρ : Row} (hl : ∀ d ∈ l, d.row = i) (h : w.Falls i ρ)
    (hd : ρ.discarding = true)
    (hslot : ∀ (k : Nat) (x : CardDuty), ρ.cards[k]? = some x → x.state = .writing → (w.cw.slot x.slot).state = .writing) :
    (l.foldl (fun v d => v.discardCard d) w).Falls i
      { ρ with cards := (l.map DutyRef.place).foldl (fun l k => l.modify k CardDuty.discarded) ρ.cards } ∧
    w.Ebbs (l.foldl (fun v d => v.discardCard d) w) ∧
    ∀ d ∈ l, ∀ x, ρ.cards[d.place]? = some x → x.state = .writing →
      Stop.discarded ∈ ((l.foldl (fun v d => v.discardCard d) w).cw.slot x.slot).stops := by
  induction l generalizing w ρ with
  | nil => exact ⟨h, .refl w, fun _ hd => absurd hd List.not_mem_nil⟩
  | cons q l ih =>
    have hq : q.row = i := hl q List.mem_cons_self
    subst hq
    obtain ⟨h1, hebbs, hstop⟩ := h.discardCard hd (hslot q.place)
    have hcard (k : Nat) (x : CardDuty) (hx : (ρ.cards.modify q.place CardDuty.discarded)[k]? = some x)
        (hw : x.state = .writing) : ρ.cards[k]? = some x := by
      rw [List.getElem?_modify] at hx
      obtain ⟨y, hy, hyx⟩ := Option.map_eq_some_iff.1 hx
      rw [hy]
      split at hyx
      · unfold CardDuty.discarded at hyx
        split at hyx
        · exact congrArg some hyx
        · rw [← hyx] at hw
          exact CardState.noConfusion hw
      · exact congrArg some hyx
    obtain ⟨h2, hebbs2, hstop2⟩ := ih (fun e he => hl e (List.mem_cons_of_mem _ he)) h1 hd
      fun k x hx hw => by rw [(hebbs.slots _).1]; exact hslot k x (hcard k x hx hw) hw
    refine ⟨h2, hebbs.trans hebbs2, fun e he x hx hw => ?_⟩
    rcases List.mem_cons.1 he with rfl | he
    · exact (hebbs2.slots _).2 _ (hstop x hx hw)
    · refine hstop2 e he x ?_ hw
      show (ρ.cards.modify q.place CardDuty.discarded)[e.place]? = _
      rw [List.getElem?_modify, hx]
      show some (if q.place = e.place then x.discarded else x) = _
      rw [show x.discarded = x from if_pos (.inr hw), ite_self]

/-- The card duties of a row that SHOT_DISCARD falls on (R19). -/
theorem Work.Falls.discardCards {ρ : Row} (h : w.Falls i ρ) (hd : ρ.discarding = true)
    (hslot : ∀ x ∈ ρ.cards, x.state = .writing → (w.cw.slot x.slot).state = .writing) :
    (w.discardCards i).Falls i { ρ with cards := ρ.cards.map CardDuty.discarded } ∧ w.Ebbs (w.discardCards i) ∧
      ∀ x ∈ ρ.cards, x.state = .writing → Stop.discarded ∈ ((w.discardCards i).cw.slot x.slot).stops := by
  obtain ⟨z, hz, hfalls⟩ := id h
  have hcards : z.cards = ρ.cards := Row.cards_of_sansChains hfalls.same
  have hrefs : ∀ d ∈ z.openCards, d.row = i := by
    intro d hd
    obtain ⟨k, -, rfl⟩ := List.mem_map.1 hd
    exact (Bm.row?_some hz).2
  obtain ⟨h1, h2, h3⟩ := Work.foldl_discardCard z.openCards hrefs h hd fun k x hx => hslot x (List.mem_of_getElem? hx)
  rw [Work.discardCards_eq hz]
  refine ⟨?_, h2, fun x hx hw => ?_⟩
  · rw [← hcards, Row.openCards_foldl (f := CardDuty.discarded) fun d _ hf => if_pos (.inl hf), hcards] at h1
    exact h1
  · obtain ⟨k, hk⟩ := List.getElem?_of_mem hx
    refine h3 { row := z.index, place := k } (List.mem_map.2 ⟨k, List.mem_filter.2 ⟨?_, ?_⟩, rfl⟩) x hk hw
    · rw [hcards]
      exact List.mem_range.2 (List.getElem?_eq_some_iff.1 hk).1
    · rw [hcards, hk]
      show (!x.state.isFinal) = true
      rw [hw]
      rfl

end

end Sys2Proof.Machine
end

section
/-! PROOF. The send queue under a SHOT_DISCARD: the entries of the row leave it, and a transfer of one of them ends with an
ABORT (R19, R155, R162). -/

namespace Sys2Proof.Machine

/-- What names an entry. -/
def Entry.key (e : Entry) : Nat × Chain := (e.number, e.chain)

/-- The entry carries a duty of the row with an index. -/
def Entry.servesRow (i : Nat) (e : Entry) : Bool := decide (e.kind = .duty ∧ e.row = some i)

/-- A tether duty of a row whose entries of some chains have been cancelled. -/
def TetherDuty.cut (cs : List Chain) (d : TetherDuty) : TetherDuty :=
  if d.state.isFinal = false ∧ d.chain ∈ cs then { d with state := .cancelled, cause := none } else d

/-- The ABORT that cancels a transfer (R162). -/
def Tu.abort (t : Tu) (x : Transfer) : Output :=
  .desk (wireFrame (t.bound.getD 0) (t.settings.ownMac.getD 0) t.settings.etherType 0x09 (leBytes 2 x.id ++ [0]))

section
variable {t : Tu} {e f : Entry} {w : Work} {i : Nat} {ρ : Row}

theorem Entry.is_iff {n : Nat} {c : Chain} : e.is n c = true ↔ e.key = (n, c) := by
  rw [Entry.is, Bool.and_eq_true, decide_eq_true_iff, decide_eq_true_iff, Entry.key, Prod.mk.injEq]

theorem Entry.is_key : e.is f.number f.chain = true ↔ e.key = f.key := Entry.is_iff

/-- The entry of the active transfer is not the one that leaves. -/
theorem Tu.active?_dropEntry (h : t.active? = some f) (hne : f.key ≠ e.key) :
    (t.dropEntry e.number e.chain).active? = some f := by
  obtain ⟨x, hx, hf⟩ := Option.bind_eq_some_iff.1 h
  refine Option.bind_eq_some_iff.2 ⟨x, hx, ?_⟩
  have hkey : f.key = (x.number, x.chain) := Entry.is_iff.1 (List.find?_some (p := fun y : Entry => y.is x.number x.chain) (l := t.queue) hf)
  show (t.queue.filter _).find? _ = _
  rw [List.find?_filter, ← hf, Tu.entry?]
  refine congrArg (fun p : Entry → Bool => t.queue.find? p) (funext fun y => ?_)
  cases hy : y.is x.number x.chain with
  | false => rw [decide_eq_false (by simp [hy])]
  | true =>
    have hyk : y.key ≠ e.key := by rw [Entry.is_iff.1 hy, ← hkey]; exact hne
    have hye : y.is e.number e.chain = false := Bool.eq_false_iff.2 fun h => hyk (Entry.is_key.1 h)
    exact decide_eq_true (by simp [hye])

theorem TetherDuty.cut_cut (c : Chain) (cs : List Chain) (d : TetherDuty) : (d.cut [c]).cut cs = d.cut (c :: cs) := by
  by_cases hf : d.state.isFinal = false
  · by_cases hc : d.chain = c
    · have h1 : d.cut [c] = { d with state := .cancelled, cause := none } := if_pos ⟨hf, by rw [hc]; exact .head _⟩
      have h2 : d.cut (c :: cs) = { d with state := .cancelled, cause := none } := if_pos ⟨hf, by rw [hc]; exact .head _⟩
      rw [h1, h2]
      exact if_neg fun h => Bool.false_ne_true h.1.symm
    · have h1 : d.cut [c] = d := if_neg fun h => hc (List.mem_singleton.1 h.2)
      rw [h1]
      unfold TetherDuty.cut
      simp only [List.mem_cons, hc, false_or]
  · have hstays (l : List Chain) : d.cut l = d := if_neg fun h => hf h.1
    rw [hstays, hstays, hstays]

theorem Row.Falls.tethers {z : Row} (h : ρ.Falls z) (c : Chain) :
    Row.Falls { ρ with tethers := ρ.tethers.map (TetherDuty.cut [c]) } { z with tethers := z.tethers.map (TetherDuty.cut [c]) } := by
  have ht : z.tethers = ρ.tethers := by
    have h2 := congrArg Row.tethers h.same
    exact h2
  refine ⟨?_, h.life.imp_right fun ⟨h1, h2, h3, h4, h5⟩ => ⟨h1, h2, h3, h4, h5.develop, h5.cards, fun d hd => ?_⟩⟩
  · rw [ht]
    have hs := congrArg (fun y : Row => { y with tethers := ρ.tethers.map (TetherDuty.cut [c]) }) h.same
    exact hs
  · obtain ⟨x, hx, rfl⟩ := List.mem_map.1 hd
    have hfin := h5.tethers x hx
    have hcut : x.cut [c] = x := if_neg fun h => Bool.false_ne_true (h.1.symm.trans hfin)
    rw [hcut, hfin]

/-! ### One entry -/

/-- An entry of the row is cancelled: it leaves the queue, and its duty ends (R155). -/
theorem Work.Falls.endEntry (h : w.Falls i ρ) (hd : ρ.discarding = true) (he : e.row = some i) :
    (w.endEntry e .cancelled none).Falls i { ρ with tethers := ρ.tethers.map (TetherDuty.cut [e.chain]) } := by
  have hdrop : Work.Falls i ρ { w with tu := w.tu.dropEntry e.number e.chain } := h.set rfl
  have hcut (x : TetherDuty) : (if x.chain = e.chain ∧ x.state.isFinal = false then { x with
      state := .cancelled, cause := none } else x) = x.cut [e.chain] := by
    unfold TetherDuty.cut
    simp only [List.mem_singleton, and_comm]
  unfold Work.endEntry
  rw [he]
  dsimp only
  refine Work.Falls.check (Work.Falls.mapRow hdrop (f := fun r => { r with tethers := r.tethers.map (TetherDuty.cut [e.chain]) })
    (fun _ => rfl) (fun z hz => hz.tethers e.chain) ?_) hd
  rw [← funext hcut]
  rfl

theorem Work.endEntry_ebbs (he : e.row = some i) : (w.endEntry e .cancelled none).tu = w.tu.dropEntry e.number e.chain ∧
    (w.endEntry e .cancelled none).de = w.de ∧ (w.endEntry e .cancelled none).sent = w.sent ∧
    (w.endEntry e .cancelled none).cw = w.cw ∧
    ∀ r ∈ (w.endEntry e .cancelled none).bus, r ∈ w.bus ∨ r.isMild = true := by
  obtain ⟨v, hv⟩ : ∃ v : Work, v = ({ w with tu := w.tu.dropEntry e.number e.chain } : Work).mapTether i e.chain fun d =>
      { d with state := .cancelled, cause := none } := ⟨_, rfl⟩
  have hend : w.endEntry e .cancelled none = v.check i := by
    unfold Work.endEntry
    rw [he, hv]
  have hebbs := (Work.Ebbs.refl v).check i
  have hcw : (v.check i).cw = v.cw := congrArg (fun x => x.2.2.2.2.1) (Work.check_rest (w := v) (i := i))
  rw [hend]
  refine ⟨hebbs.tu.trans (by rw [hv]; rfl), hebbs.de.trans (by rw [hv]; rfl), hebbs.sent.trans (by rw [hv]; rfl),
    hcw.trans (by rw [hv]; rfl), fun r hr => (hebbs.mild r hr).imp_left fun h => ?_⟩
  rw [hv] at h
  exact h

/-- The transfer in progress is cancelled (R162). -/
theorem Work.endTransfer_cancel (ha : w.tu.active? = some e) : ∃ x, w.tu.transfer = some x ∧ w.endTransfer .cancel =
    ((Work.endEntry e .cancelled none { w.emit (w.tu.abort x) with tu := w.tu.close }).enterLink .boundIdle).post .select := by
  obtain ⟨x, hx, -⟩ := Option.bind_eq_some_iff.1 ha
  refine ⟨x, hx, ?_⟩
  unfold Work.endTransfer
  rw [hx, ha]
  rfl

theorem Work.enterLink_rest (l : Link) : (w.enterLink l).bm = w.bm ∧ (w.enterLink l).de = w.de ∧ (w.enterLink l).cw = w.cw ∧
    (w.enterLink l).sent = w.sent ∧ (w.enterLink l).tu.queue = w.tu.queue := by
  unfold Work.enterLink
  split <;> exact ⟨rfl, rfl, rfl, rfl, rfl⟩

/-! ### The entries of the row, one after the other -/

/-- The entries of the row in a list have been cancelled. -/
structure Work.Cuts (i : Nat) (l : List Entry) (w v : Work) : Prop where
  de : v.de = w.de
  cw : v.cw = w.cw
  sent : ∀ o ∈ w.sent, o ∈ v.sent
  queue : v.tu.queue = w.tu.queue.filter fun x => !(l.any fun e => e.servesRow i && Decidable.decide (e.key = x.key))
  idle : (∀ e ∈ l, e.servesRow i = true → e.sending = false) →
    v.tu.link = w.tu.link ∧ ∀ r ∈ v.bus, r ∈ w.bus ∨ r.isMild = true
  abort : ∀ e ∈ l, e.servesRow i = true → e.sending = true → ∀ x, w.tu.transfer = some x → w.tu.abort x ∈ v.sent

/-- What a discard does with one entry. -/
def Work.cutEntry (i : Nat) (e : Entry) (v : Work) : Work :=
  if e.kind = .duty ∧ e.row = some i then v.cancelEntry e else v

theorem Entry.servesRow_iff : e.servesRow i = true ↔ e.kind = .duty ∧ e.row = some i := decide_eq_true_iff

theorem Entry.drop_filter (e : Entry) (l : List Entry) (q : List Entry) (he : e.servesRow i = true) :
    (q.filter fun x => !x.is e.number e.chain).filter (fun x => !(l.any fun f => f.servesRow i && Decidable.decide (f.key = x.key))) =
      q.filter fun x => !((e :: l).any fun f => f.servesRow i && Decidable.decide (f.key = x.key)) := by
  rw [List.filter_filter]
  refine List.filter_congr fun x _ => ?_
  have hx : x.is e.number e.chain = decide (e.key = x.key) :=
    Bool.eq_iff_iff.2 (Entry.is_key.trans ⟨fun h => decide_eq_true h.symm, fun h => (of_decide_eq_true h).symm⟩)
  rw [List.any_cons, he, Bool.true_and, Bool.not_or, hx, Bool.and_comm]

theorem Work.foldl_cutEntry (l : List Entry) {w : Work} {ρ : Row} (hl : (l.map Entry.key).Nodup) (h : w.Falls i ρ)
    (hd : ρ.discarding = true)
    (ha : ∀ e ∈ l, e.servesRow i = true → e.sending = true → w.tu.active? = some e) :
    (l.foldl (fun v e => v.cutEntry i e) w).Falls i
      { ρ with tethers := ρ.tethers.map (TetherDuty.cut ((l.filter (Entry.servesRow i)).map Entry.chain)) } ∧
    Work.Cuts i l w (l.foldl (fun v e => v.cutEntry i e) w) := by
  induction l generalizing w ρ with
  | nil =>
    have hnil (d : TetherDuty) : d.cut [] = d := if_neg fun h => List.not_mem_nil h.2
    refine ⟨?_, rfl, rfl, fun _ h => h, ?_, fun _ => ⟨rfl, fun _ h => .inl h⟩, fun _ h => absurd h List.not_mem_nil⟩
    · rw [List.filter_nil, List.map_nil, funext hnil]
      rw [List.map_id']
      exact h
    · exact (List.filter_eq_self.2 fun _ _ => rfl).symm
  | cons e l ih =>
    obtain ⟨hkey, hl⟩ := List.nodup_cons.1 (List.map_cons ▸ hl)
    have hne (f : Entry) (hf : f ∈ l) : f.key ≠ e.key := fun h => hkey (h ▸ List.mem_map.2 ⟨f, hf, rfl⟩)
    rw [List.foldl_cons]
    cases hs : e.servesRow i with
    | false =>
      have hstay : w.cutEntry i e = w := if_neg fun h => Bool.false_ne_true (hs.symm.trans (Entry.servesRow_iff.2 h))
      obtain ⟨h1, h2⟩ := ih hl h hd fun f hf => ha f (List.mem_cons_of_mem _ hf)
      rw [hstay, List.filter_cons_of_neg (by rw [hs]; exact Bool.false_ne_true)]
      refine ⟨h1, h2.de, h2.cw, h2.sent, ?_, fun hidle => h2.idle fun f hf => hidle f (List.mem_cons_of_mem _ hf), fun f hf hfs => ?_⟩
      · rw [h2.queue]
        simp only [List.any_cons, hs, Bool.false_and, Bool.false_or]
      · rcases List.mem_cons.1 hf with rfl | hf
        · exact absurd (hs.symm.trans hfs) Bool.false_ne_true
        · exact h2.abort f hf hfs
    | true =>
      have hrow : e.row = some i := (Entry.servesRow_iff.1 hs).2
      have hcut : w.cutEntry i e = w.cancelEntry e := if_pos (Entry.servesRow_iff.1 hs)
      have hmaps : (ρ.tethers.map (TetherDuty.cut [e.chain])).map (TetherDuty.cut ((l.filter (Entry.servesRow i)).map Entry.chain)) =
          ρ.tethers.map (TetherDuty.cut (((e :: l).filter (Entry.servesRow i)).map Entry.chain)) := by
        rw [List.filter_cons_of_pos hs, List.map_cons, List.map_map]
        exact List.map_congr_left fun d _ => TetherDuty.cut_cut _ _ _
      rw [hcut, ← hmaps]
      unfold Work.cancelEntry
      cases hsend : e.sending with
      | false =>
        rw [if_neg Bool.false_ne_true]
        obtain ⟨htu, hde, hsent, hcw, hmild⟩ := Work.endEntry_ebbs (w := w) hrow
        obtain ⟨h1, h2⟩ := ih hl (h.endEntry hd hrow) hd fun f hf hfs hfsend => by
          rw [htu]
          exact Tu.active?_dropEntry (ha f (List.mem_cons_of_mem _ hf) hfs hfsend) (hne f hf)
        refine ⟨h1, h2.de.trans hde, h2.cw.trans hcw, fun o ho => h2.sent o (by rw [hsent]; exact ho), ?_, fun hidle => ?_,
          fun f hf hfs hfsend x hx => ?_⟩
        · rw [h2.queue, htu]
          exact Entry.drop_filter e l w.tu.queue hs
        · obtain ⟨hlink, hbus⟩ := h2.idle fun f hf => hidle f (List.mem_cons_of_mem _ hf)
          exact ⟨hlink.trans (by rw [htu]; rfl), fun r hr => (hbus r hr).elim (hmild r) .inr⟩
        · rcases List.mem_cons.1 hf with rfl | hf
          · exact absurd (hsend.symm.trans hfsend) Bool.false_ne_true
          · have hab := h2.abort f hf hfs hfsend x (by rw [htu]; exact hx)
            rw [htu] at hab
            exact hab
      | true =>
        rw [if_pos rfl]
        obtain ⟨x, hx, hend⟩ := Work.endTransfer_cancel (ha e List.mem_cons_self hs hsend)
        obtain ⟨u, hu⟩ : ∃ u : Work, u = { w.emit (w.tu.abort x) with tu := w.tu.close } := ⟨_, rfl⟩
        have hufalls : u.Falls i ρ := h.set (by rw [hu]; rfl)
        obtain ⟨htu, hde, hsent, hcw, -⟩ := Work.endEntry_ebbs (w := u) hrow
        obtain ⟨hbm', hde', hcw', hsent', hqueue'⟩ := Work.enterLink_rest (w := u.endEntry e .cancelled none) .boundIdle
        rw [hend, ← hu]
        have hother (f : Entry) (hf : f ∈ l) (hfs : f.servesRow i = true) (hfsend : f.sending = true) : False := by
          have hfe := (ha f (List.mem_cons_of_mem _ hf) hfs hfsend).symm.trans (ha e List.mem_cons_self hs hsend)
          exact hne f hf (congrArg Entry.key (Option.some.inj hfe))
        obtain ⟨h1, h2⟩ := ih hl (w := ((u.endEntry e .cancelled none).enterLink .boundIdle).post .select)
          ((hufalls.endEntry hd hrow).set (congrArg Bm.rows hbm')) hd
          fun f hf hfs hfsend => (hother f hf hfs hfsend).elim
        have habort : w.tu.abort x ∈ (((u.endEntry e .cancelled none).enterLink .boundIdle).post .select).sent := by
          show _ ∈ ((u.endEntry e .cancelled none).enterLink .boundIdle).sent
          rw [hsent', hsent, hu]
          exact List.mem_cons_self
        refine ⟨h1, h2.de.trans (hde'.trans (hde.trans (by rw [hu]; rfl))), h2.cw.trans (hcw'.trans (hcw.trans (by rw [hu]; rfl))),
          fun o ho => h2.sent o ?_, ?_, fun hidle => absurd (hidle e List.mem_cons_self hs) (by rw [hsend]; exact Bool.noConfusion),
          fun f hf hfs hfsend y hy => ?_⟩
        · show _ ∈ ((u.endEntry e .cancelled none).enterLink .boundIdle).sent
          rw [hsent', hsent, hu]
          exact List.mem_cons_of_mem _ ho
        · rw [h2.queue]
          show (((u.endEntry e .cancelled none).enterLink .boundIdle).tu.queue).filter _ = _
          rw [hqueue', htu, hu]
          exact Entry.drop_filter e l w.tu.queue hs
        · rcases List.mem_cons.1 hf with rfl | hf
          · rw [hx] at hy
            cases hy
            exact h2.sent _ habort
          · exact (hother f hf hfs hfsend).elim

end

end Sys2Proof.Machine
end

section
/-! PROOF. Reports that ask for no selection leave the entries of the send queue in their places while the link is not
BOUND_IDLE (R5, R101, R156, R166). -/

namespace Sys2Proof.Machine

/-- The link and the names of the entries stand, and mild reports lead to mild reports. -/
structure Work.Keeps (w v : Work) : Prop where
  link : v.tu.link = w.tu.link
  keys : v.tu.queue.map Entry.key = w.tu.queue.map Entry.key
  mild : (∀ r ∈ w.bus, r.isMild = true) → ∀ r ∈ v.bus, r.isMild = true

section
variable {u v w : Work} {i : Nat} {e : Entry}

theorem Work.Keeps.refl (w : Work) : w.Keeps w := ⟨rfl, rfl, id⟩

theorem Work.Keeps.trans (h : u.Keeps v) (g : v.Keeps w) : u.Keeps w :=
  ⟨g.link.trans h.link, g.keys.trans h.keys, fun hu => g.mild (h.mild hu)⟩

theorem Work.Keeps.set (h : u.Keeps v) (hl : w.tu.link = v.tu.link) (hq : w.tu.queue.map Entry.key = v.tu.queue.map Entry.key)
    (hb : w.bus = v.bus) : u.Keeps w :=
  h.trans ⟨hl, hq, fun hv => by rw [hb]; exact hv⟩

theorem Work.Keeps.post (h : u.Keeps v) {r : Report} (hr : r.isMild = true) : u.Keeps (v.post r) :=
  h.trans ⟨rfl, rfl, fun hv x hx => (List.mem_append.1 hx).elim (hv x) fun hx => by rw [List.mem_singleton.1 hx, hr]⟩

theorem Work.Ebbs.keeps (h : w.Ebbs v) : w.Keeps v :=
  ⟨by rw [h.tu], by rw [h.tu], fun hw r hr => (h.mild r hr).elim (hw r) id⟩

theorem Work.Keeps.check (h : u.Keeps v) (i : Nat) : u.Keeps (v.check i) := h.trans ((Work.Ebbs.refl v).check i).keeps

theorem Work.Keeps.mirror (h : u.Keeps v) (e : Entry) : u.Keeps (v.mirror e) := by
  unfold Work.mirror
  split
  · refine Work.Keeps.check ?_ _
    exact h.set rfl rfl rfl
  · exact h

theorem Work.Keeps.demote (h : u.Keeps v) (e : Entry) : u.Keeps (v.demote e) := by
  unfold Work.demote
  split
  · split
    · split
      · refine Work.Keeps.mirror ?_ _
        refine h.set rfl ?_ rfl
        show (v.tu.queue.map _).map Entry.key = _
        rw [List.map_map]
        refine List.map_congr_left fun x _ => ?_
        rw [Function.comp_apply]
        split
        · next hx => exact (Entry.is_key.1 hx).symm
        · rfl
      · exact h
    · exact h
  · exact h

theorem Work.Keeps.foldl_demote : ∀ (l : List Entry) {v : Work}, u.Keeps v → u.Keeps (l.foldl (fun v e => v.demote e) v)
  | [], _, h => h
  | e :: l, _, h => Work.Keeps.foldl_demote l (h.demote e)

theorem Work.Keeps.takePages (h : u.Keeps v) (n : Nat) : u.Keeps (v.takePages n) := by
  unfold Work.takePages
  refine Work.Keeps.post ?_ rfl
  exact h.set rfl rfl rfl

theorem Work.Keeps.startJob (h : u.Keeps v) (i : Nat) : u.Keeps (v.startJob i) := by
  have hdev : u.Keeps (v.setDevelop i .running) := by
    unfold Work.setDevelop
    refine Work.Keeps.post ?_ rfl
    exact h.set rfl rfl rfl
  unfold Work.startJob
  split
  · exact hdev.set rfl rfl rfl
  · exact h

theorem Work.Keeps.lookHead (h : u.Keeps v) : u.Keeps v.lookHead := by
  unfold Work.lookHead
  split
  on_goal 3 => exact h
  on_goal 3 => exact h
  all_goals
    split
    · split
      · next hw1 =>
        unfold Work.proofAlloc at hw1
        split at hw1
        · cases hw1
          refine Work.Keeps.startJob ?_ _
          exact (h.takePages _).set rfl rfl rfl
        · exact absurd hw1.symm (Option.some_ne_none _)
      · exact h.set rfl rfl rfl
    · exact h.set rfl rfl rfl

/-- A mild report is taken. -/
theorem Work.handle_keeps {r : Report} (hr : r.isMild = true) (hl : w.tu.link ≠ .boundIdle) : w.Keeps (w.handle r) := by
  cases r with
  | deLook => exact (Work.Keeps.refl w).lookHead
  | reclaim up =>
    have hup : w.Keeps { w with tu := { w.tu with reclaim := up } } := (Work.Keeps.refl w).set rfl rfl rfl
    show w.Keeps (w.takeReclaim up)
    unfold Work.takeReclaim
    dsimp only
    split
    · exact Work.Keeps.foldl_demote _ hup
    · exact hup
  | developChanged i =>
    show w.Keeps (w.takeDevelop i)
    unfold Work.takeDevelop
    split
    · rw [Work.selectEntry, if_neg fun h => hl h.1]
      exact (Work.Keeps.refl w).set rfl rfl rfl
    · exact .refl w
  | readEnded _ _ | cardDone _ _ | frontier _ | proofLost _ | select | focus _ | rowEnded _ _ _ =>
    exact absurd hr Bool.false_ne_true

theorem Work.drain_keeps (k : Nat) (w : Work) (hb : ∀ r ∈ w.bus, r.isMild = true) (hl : w.tu.link ≠ .boundIdle) :
    w.Keeps (Work.drain k w) := by
  induction k generalizing w with
  | zero => exact .refl w
  | succ k ih =>
    unfold Work.drain
    split
    · exact .refl w
    · next r rest hbus =>
      have hpop : Work.Keeps { w with bus := rest } (({ w with bus := rest } : Work).handle r) :=
        Work.handle_keeps (hb r (by rw [hbus]; exact .head _)) hl
      have hrest : ∀ x ∈ rest, x.isMild = true := fun x hx => hb x (by rw [hbus]; exact List.mem_cons_of_mem _ hx)
      have hnext := ih (({ w with bus := rest } : Work).handle r) (hpop.mild hrest) (by rw [hpop.link]; exact hl)
      exact ⟨hnext.link.trans hpop.link, hnext.keys.trans hpop.keys, fun _ => hnext.mild (hpop.mild hrest)⟩

end

end Sys2Proof.Machine
end

section
/-! PROOF. What SHOT_DISCARD does to a row, its jobs, its stops and its entries, all together (R19). -/

namespace Sys2Proof.Machine

/-- The row as its discard leaves it, but for its life and its chains (R19). -/
def Row.doomed (r : Row) : Row :=
  { r with
    discarding := true
    develop := if r.develop = .pending then .cancelled else r.develop
    cards := r.cards.map CardDuty.discarded
    tethers := r.tethers.map fun d => if d.state.isFinal then d else { d with state := .cancelled, cause := none } }

section
variable {w : Work} {i : Nat} {ρ r z : Row}

/-! ### The develop duty -/

theorem Row.Falls.cancels (h : ρ.Falls z) (hp : ρ.develop = .pending) :
    Row.Falls { ρ with develop := .cancelled } { z with develop := .cancelled } := by
  refine ⟨?_, h.life.imp_right fun ⟨_, _, _, _, h5⟩ => ?_⟩
  · have hs := congrArg (fun y : Row => { y with develop := .cancelled }) h.same
    exact hs
  · have hfin := h5.develop
    rw [hp] at hfin
    exact absurd hfin Bool.false_ne_true

/-- The develop duty of a falling row (R19, R113). -/
structure Work.Undevelops (i : Nat) (st : DevelopState) (w v : Work) : Prop where
  tu : v.tu = w.tu
  cw : v.cw = w.cw
  sent : v.sent = w.sent
  mild : ∀ r ∈ v.bus, r ∈ w.bus ∨ r.isMild = true
  pending : st = .pending → v.de = w.de.drop i
  running : st = .running → v.de = { w.de with
    job := w.de.job.map fun j => if j.row = i then { j with discard := true } else j }
  other : st ≠ .pending → st ≠ .running → v.de = w.de

theorem Work.Falls.discardDevelop (h : w.Falls i ρ) (hd : ρ.discarding = true) :
    (w.discardDevelop i).Falls i { ρ with develop := if ρ.develop = .pending then .cancelled else ρ.develop } ∧
      Work.Undevelops i ρ.develop w (w.discardDevelop i) := by
  obtain ⟨z, hz, hfalls⟩ := id h
  have hdev : z.develop = ρ.develop := Row.develop_of_sansChains hfalls.same
  have hstays (hne : ρ.develop ≠ .pending) :
      ({ ρ with develop := if ρ.develop = .pending then .cancelled else ρ.develop } : Row) = ρ := by rw [if_neg hne]
  by_cases hp : ρ.develop = .pending
  · obtain ⟨v, hv⟩ : ∃ v : Work, v = Work.setDevelop i .cancelled { w with de := w.de.drop i } := ⟨_, rfl⟩
    have hact : w.discardDevelop i = (v.check i).post .deLook := by
      unfold Work.discardDevelop
      rw [hz]
      dsimp only
      rw [hdev, hp, hv]
    have hvfalls : v.Falls i { ρ with develop := .cancelled } := by
      refine Work.Falls.mapRow (w := w) ⟨z, hz, hfalls⟩ (f := fun r =>
        if r.develop.isFinal && !Decidable.decide (r.develop = .absent) then r else { r with develop := .cancelled })
        (fun r => by split <;> rfl) (fun y hy => ?_) (by rw [hv]; rfl)
      have hyd : y.develop = .pending := (Row.develop_of_sansChains hy.same).trans hp
      rw [hyd, if_neg (by exact Bool.false_ne_true)]
      exact hy.cancels hp
    have hebbs := (Work.Ebbs.refl v).check i
    have hcw : (v.check i).cw = v.cw := congrArg (fun x => x.2.2.2.2.1) (Work.check_rest (w := v) (i := i))
    rw [hact, hp, if_pos rfl]
    refine ⟨Work.Falls.set (hvfalls.check hd) rfl, hebbs.tu.trans (by rw [hv]; rfl), hcw.trans (by rw [hv]; rfl),
      hebbs.sent.trans (by rw [hv]; rfl), fun x hx => ?_, fun _ => hebbs.de.trans (by rw [hv]; rfl),
      fun h => DevelopState.noConfusion h, fun h => absurd rfl h⟩
    rcases List.mem_append.1 hx with hx | hx
    · refine (hebbs.mild x hx).elim (fun hx => ?_) .inr
      rw [hv] at hx
      exact (List.mem_append.1 hx).imp_right fun hx => by rw [List.mem_singleton.1 hx]; rfl
    · exact .inr (by rw [List.mem_singleton.1 hx]; rfl)
  · rw [hstays hp]
    by_cases hrun : ρ.develop = .running
    · have hact : w.discardDevelop i = { w with de := { w.de with
          job := w.de.job.map fun j => if j.row = i then { j with discard := true } else j } } := by
        unfold Work.discardDevelop
        rw [hz]
        dsimp only
        rw [hdev, hrun]
      rw [hact]
      exact ⟨h.set rfl, rfl, rfl, rfl, fun _ hx => .inl hx, fun h => absurd h hp, fun _ => rfl, fun _ h => absurd hrun h⟩
    · have hact : w.discardDevelop i = w := by
        unfold Work.discardDevelop
        rw [hz]
        dsimp only
        split
        · next hx => exact absurd (hdev.symm.trans hx) hp
        · next hx => exact absurd (hdev.symm.trans hx) hrun
        all_goals rfl
      rw [hact]
      exact ⟨h, rfl, rfl, rfl, fun _ hx => .inl hx, fun h => absurd h hp, fun h => absurd h hrun, fun _ _ => rfl⟩

/-! ### The whole discard -/

/-- A row that can be discarded, in a state where its job, its runs and its entries are as they stand in a run. -/
structure Work.Discards (r : Row) (w : Work) : Prop where
  row : w.bm.row? r.index = some r
  held : r.life = .held
  idle : r.develop ≠ .pending → r.index ∉ w.de.urgent ∧ r.index ∉ w.de.normal
  writes : ∀ d ∈ r.cards, d.state = .writing → (w.cw.slot d.slot).state = .writing
  keys : (w.tu.queue.map Entry.key).Nodup
  sends : ∀ d ∈ r.tethers, d.state.isFinal = false → ∃ e ∈ w.tu.queue, e.servesRow r.index = true ∧ e.chain = d.chain
  active : ∀ e ∈ w.tu.queue, e.servesRow r.index = true → e.sending = true → w.tu.active? = some e

/-- What the discard of a row leaves. -/
structure Work.Discarded (r : Row) (w v : Work) : Prop where
  row : ∃ z, v.bm.row? r.index = some z ∧ r.doomed.Falls z ∧ (r.doomed.Closed → z.life = .settled)
  unqueued : r.index ∉ v.de.urgent ∧ r.index ∉ v.de.normal
  job : r.develop = .running → v.de = { w.de with
    job := w.de.job.map fun j => if j.row = r.index then { j with discard := true } else j }
  stops : ∀ d ∈ r.cards, d.state = .writing → Stop.discarded ∈ (v.cw.slot d.slot).stops
  queue : v.tu.queue = w.tu.queue.filter fun e => !e.servesRow r.index
  idle : (∀ e ∈ w.tu.queue, e.servesRow r.index = true → e.sending = false) →
    v.tu.link = w.tu.link ∧ ∀ x ∈ v.bus, x ∈ w.bus ∨ x.isMild = true
  abort : ∀ e ∈ w.tu.queue, e.servesRow r.index = true → e.sending = true → ∀ x, w.tu.transfer = some x →
    w.tu.abort x ∈ v.sent

theorem De.not_mem_drop (d : De) (i : Nat) : i ∉ (d.drop i).urgent ∧ i ∉ (d.drop i).normal :=
  ⟨fun h => absurd (List.mem_filter.1 h).2 (by simp), fun h => absurd (List.mem_filter.1 h).2 (by simp)⟩

/-- In a queue whose entries have names of their own the entries with the names of the row's are the row's. -/
theorem Entry.filter_servesRow {q : List Entry} (hq : (q.map Entry.key).Nodup) :
    (q.filter fun x => !(q.any fun e => e.servesRow i && decide (e.key = x.key))) = q.filter fun e => !e.servesRow i := by
  refine List.filter_congr fun x hx => congrArg not (Bool.eq_iff_iff.2 ⟨fun h => ?_, fun h => ?_⟩)
  · obtain ⟨e, he, hex⟩ := List.any_eq_true.1 h
    obtain ⟨hs, hkey⟩ := Bool.and_eq_true_iff.1 hex
    rw [List.inj_on_of_nodup_map hq hx he (of_decide_eq_true hkey).symm]
    exact hs
  · exact List.any_eq_true.2 ⟨x, hx, by rw [h]; simp⟩

theorem Work.Discards.discards (h : w.Discards r) : Work.Discarded r w (w.discardRow r.index) := by
  obtain ⟨w1, hw1⟩ : ∃ w1 : Work, w1 = w.mapRow r.index fun x => { x with discarding := true } := ⟨_, rfl⟩
  have hfalls1 : w1.Falls r.index { r with discarding := true } := by
    refine ⟨{ r with discarding := true }, ?_, rfl, .inl ⟨h.held, rfl⟩⟩
    rw [hw1]
    exact Bm.row?_mapRow_same (f := fun x => { x with discarding := true }) h.row fun _ => rfl
  obtain ⟨hfalls2, hdev⟩ := hfalls1.discardDevelop rfl
  obtain ⟨w2, hw2⟩ : ∃ w2, w2 = w1.discardDevelop r.index := ⟨_, rfl⟩
  rw [← hw2] at hfalls2 hdev
  obtain ⟨hfalls3, hebbs, hstops⟩ := hfalls2.discardCards rfl fun d hd hw => by
    rw [hdev.cw, hw1]
    exact h.writes d hd hw
  obtain ⟨w3, hw3⟩ : ∃ w3, w3 = w2.discardCards r.index := ⟨_, rfl⟩
  rw [← hw3] at hfalls3 hebbs hstops
  have htu : w3.tu = w.tu := hebbs.tu.trans (hdev.tu.trans (by rw [hw1]; rfl))
  obtain ⟨hfalls4, hcuts⟩ := Work.foldl_cutEntry (i := r.index) w3.tu.queue (by rw [htu]; exact h.keys) hfalls3 rfl (by
    rw [htu]
    exact h.active)
  obtain ⟨w4, hw4⟩ : ∃ w4, w4 = w3.discardTethers r.index := ⟨_, rfl⟩
  rw [show w3.tu.queue.foldl (fun v e => v.cutEntry r.index e) w3 = w4 from hw4.symm] at hfalls4 hcuts
  have hdoom : w4.Falls r.index r.doomed := by
    refine (congrArg (fun l => w4.Falls r.index { r.doomed with tethers := l }) (List.map_congr_left fun d hd => ?_)).mp hfalls4
    cases hf : d.state.isFinal with
    | true =>
      rw [if_pos rfl]
      exact if_neg fun h => Bool.false_ne_true (h.1.symm.trans hf)
    | false =>
      obtain ⟨e, he, hs, hc⟩ := h.sends d hd hf
      rw [if_neg Bool.false_ne_true]
      exact if_pos ⟨hf, List.mem_map.2 ⟨e, List.mem_filter.2 ⟨by rw [htu]; exact he, hs⟩, hc⟩⟩
  have hact : w.discardRow r.index = w4.check r.index := by rw [hw4, hw3, hw2, hw1]; rfl
  have hebbs5 := (Work.Ebbs.refl w4).check r.index
  have hde : (w4.check r.index).de = w2.de := hebbs5.de.trans (hcuts.de.trans hebbs.de)
  rw [hact]
  refine ⟨?_, ?_, fun hrun => ?_, fun d hd hw => ?_, ?_, fun hidle => ?_, fun e he hs hsend x hx => ?_⟩
  · by_cases hclosed : r.doomed.Closed
    · obtain ⟨z, hz, hzf, hl⟩ := hdoom.settles rfl hclosed
      exact ⟨z, hz, hzf, fun _ => hl⟩
    · obtain ⟨z, hz, hzf⟩ := hdoom.check rfl
      exact ⟨z, hz, hzf, fun h => absurd h hclosed⟩
  · rw [hde]
    by_cases hp : r.develop = .pending
    · rw [hdev.pending hp]
      exact De.not_mem_drop _ _
    · have hout := h.idle hp
      by_cases hrun : r.develop = .running
      · rw [hdev.running hrun, hw1]
        exact hout
      · rw [hdev.other hp hrun, hw1]
        exact hout
  · rw [hde, hdev.running hrun, hw1]
    rfl
  · refine (hebbs5.slots d.slot).2 _ ?_
    rw [hcuts.cw]
    exact hstops d hd hw
  · rw [hebbs5.tu, hcuts.queue, htu]
    exact Entry.filter_servesRow h.keys
  · obtain ⟨hlink, hbus⟩ := hcuts.idle (by rw [htu]; exact hidle)
    refine ⟨(congrArg Tu.link hebbs5.tu).trans (hlink.trans (by rw [htu])), fun x hx => ?_⟩
    refine (hebbs5.mild x hx).elim (fun hx => (hbus x hx).elim (fun hx => ?_) .inr) .inr
    refine (hebbs.mild x hx).elim (fun hx => (hdev.mild x hx).imp_left fun hx => ?_) .inr
    rw [hw1] at hx
    exact hx
  · rw [hebbs5.sent]
    have hab := hcuts.abort e (by rw [htu]; exact he) hs hsend x (by rw [htu]; exact hx)
    rw [htu] at hab
    exact hab

end

end Sys2Proof.Machine
end

section
/-! PROOF. SHOT_DISCARD (R16, R17, R19, R20). -/

namespace Sys2Proof.Machine

section
variable {w v : Work} {r z : Row} {n : Nat}

/-- How SHOT_DISCARD is judged (R19). -/
theorem answerShotDiscard_eq (hn : n < 16777216) : answerShotDiscard (leBytes 3 n) w =
    match w.bm.numbered? n with
    | none => .refused .noSuchShot
    | some r =>
      if r.life ≠ .held then .refused .state
      else if r.protect then .refused .protect
      else
        let w1 := if r.discarding then w else w.discardRow r.index
        .taken w1 [BitVec.ofNat 8 (w1.stoppingOf r.index)] := by
  unfold answerShotDiscard
  rw [fieldAt_number hn] <;> rfl

theorem answerShotDiscard_taken (hn : n < 16777216) (hr : w.bm.numbered? n = some r) (hl : r.life = .held)
    (hp : r.protect = false) (hd : r.discarding = false) : answerShotDiscard (leBytes 3 n) w =
      .taken (w.discardRow r.index) [BitVec.ofNat 8 ((w.discardRow r.index).stoppingOf r.index)] := by
  rw [answerShotDiscard_eq hn, hr]
  dsimp only
  rw [if_neg (not_not_intro hl), hp, if_neg Bool.false_ne_true, hd, if_neg Bool.false_ne_true]

theorem Work.finishWarning_eq (w : Work) : ∃ p, w.finishWarning = { w with pwc := p } := by
  unfold Work.finishWarning
  split
  · dsimp only
    split <;> exact ⟨_, rfl⟩
  · exact ⟨_, rfl⟩

/-- What the reports of a request leave, with its reply among them. -/
theorem Work.reply_drains (hc : v.calm = true) (k tag : Byte) (p : List Byte) :
    v.Drains (v.settle.reply k tag p).settle.finishWarning ∧
      OutFrame.reply k tag p ∈ (v.settle.reply k tag p).settle.finishWarning.cp.queue := by
  obtain ⟨-, hcs⟩ := Work.settle_still hc
  have h := Work.settle_drains hc
  have h1 : v.Drains (v.settle.reply k tag p) := ⟨h.running, h.duties, h.slots, h.stopped, h.queue, h.sent, h.rows⟩
  have h2 := h1.trans (Work.settle_drains (w := v.settle.reply k tag p) hcs)
  obtain ⟨hs2, -⟩ := Work.settle_still (w := v.settle.reply k tag p) hcs
  obtain ⟨q, hq⟩ := Work.finishWarning_eq (v.settle.reply k tag p).settle
  have hmem : OutFrame.reply k tag p ∈ (v.settle.reply k tag p).cp.queue.filter OutFrame.isReply :=
    List.mem_filter.2 ⟨List.mem_append_right _ (.head _), rfl⟩
  rw [← hs2.replies] at hmem
  rw [hq]
  exact ⟨⟨h2.running, h2.duties, h2.slots, h2.stopped, h2.queue, h2.sent, h2.rows⟩, (List.mem_filter.1 hmem).1⟩

/-- With mild reports alone and a link that is not BOUND_IDLE the entries of the send queue keep their places. -/
theorem Work.reply_keeps (hb : ∀ x ∈ v.bus, x.isMild = true) (hl : v.tu.link ≠ .boundIdle) (k tag : Byte) (p : List Byte) :
    v.Keeps (v.settle.reply k tag p).settle.finishWarning := by
  have h1 : v.Keeps v.settle := v.drain_keeps 4096 hb hl
  have h2 := Work.drain_keeps 4096 (v.settle.reply k tag p) (h1.mild hb) (h1.link ▸ hl)
  obtain ⟨q, hq⟩ := Work.finishWarning_eq (v.settle.reply k tag p).settle
  rw [hq]
  exact ⟨h2.link.trans h1.link, h2.keys.trans h1.keys, fun _ => h2.mild (h1.mild hb)⟩

/-! ### The row at the end of the step -/

theorem CardDuty.discarded_writing (d : CardDuty) : (d.discarded.state = .writing) ↔ d.state = .writing := by
  unfold CardDuty.discarded
  split
  · exact Iff.rfl
  · next h => exact ⟨fun h2 => CardState.noConfusion h2, fun h2 => absurd (.inr h2) h⟩

/-- The duties that a discard waits for (R19). -/
def Row.waits (r : Row) : Nat :=
  (if r.develop = .running then 1 else 0) + (r.cards.filter fun d => decide (d.state = .writing)).length

theorem Row.doomed_stopping (h : z.sansChains = r.doomed.sansChains) : z.stopping = r.waits := by
  have hdev : z.develop = if r.develop = .pending then .cancelled else r.develop := Row.develop_of_sansChains h
  have hcards : z.cards = r.cards.map CardDuty.discarded := Row.cards_of_sansChains h
  have htethers : z.tethers = r.doomed.tethers := by
    have h2 := congrArg Row.tethers h
    exact h2
  have h1 : (if z.develop = .running then 1 else 0) = if r.develop = .running then 1 else 0 := by
    rw [hdev]
    by_cases hp : r.develop = .pending
    · rw [if_pos hp, hp]
      rfl
    · rw [if_neg hp]
  have h2 : (z.cards.filter fun d => d.state = .writing).length =
      (r.cards.filter fun d => decide (d.state = .writing)).length := by
    rw [hcards, List.filter_map, List.length_map]
    exact congrArg List.length (List.filter_congr fun d _ => decide_eq_decide.2 d.discarded_writing)
  have h3 : (z.tethers.filter fun d => d.state = .sending) = [] := by
    rw [htethers]
    refine List.filter_eq_nil_iff.2 fun d hd hs => ?_
    obtain ⟨x, -, rfl⟩ := List.mem_map.1 hd
    have hs := of_decide_eq_true hs
    split at hs
    · next hf =>
      rw [hs] at hf
      exact Bool.false_ne_true hf
    · exact TetherState.noConfusion hs
  rw [Row.stopping, h1, h2, h3]
  rfl

theorem Row.doomed_tethers_final (d : TetherDuty) (hd : d ∈ r.doomed.tethers) : d.state.isFinal = true := by
  obtain ⟨x, -, rfl⟩ := List.mem_map.1 hd
  split
  · next hf => exact hf
  · rfl

theorem Row.doomed_closed (h : r.waits = 0) : r.doomed.Closed := by
  obtain ⟨hrun, hcards⟩ := Nat.add_eq_zero_iff.1 h
  have hnot : r.develop ≠ .running := fun he => absurd hrun (by rw [if_pos he]; exact Nat.one_ne_zero)
  refine ⟨?_, fun d hd => ?_, fun d hd => Row.doomed_tethers_final d hd⟩
  · show DevelopState.isFinal (if r.develop = .pending then .cancelled else r.develop) = true
    split
    · rfl
    · next hp => cases hdev : r.develop <;> first | rfl | exact absurd hdev hp | exact absurd hdev hnot
  · obtain ⟨x, hx, rfl⟩ := List.mem_map.1 hd
    have hw : x.state ≠ .writing := fun hw =>
      absurd (List.mem_filter.2 ⟨hx, decide_eq_true hw⟩) (by rw [List.length_eq_zero_iff.1 hcards]; exact List.not_mem_nil)
    cases hf : x.state.isFinal with
    | true => rw [show x.discarded = x from if_pos (.inl hf), hf]
    | false =>
      rw [CardDuty.discarded_of_open hf hw]
      rfl

theorem Row.doomed_open (h : r.waits ≠ 0) : ¬ ((∀ d ∈ r.doomed.cards, d.state.isFinal = true) ∧ r.doomed.develop.isFinal = true) := by
  rintro ⟨hc, hdev⟩
  refine h (Nat.add_eq_zero_iff.2 ⟨if_neg fun hrun => ?_, List.length_eq_zero_iff.2 (List.filter_eq_nil_iff.2 fun d hd hw => ?_)⟩)
  · have hsame : r.doomed.develop = r.develop := if_neg (by rw [hrun]; exact fun h => DevelopState.noConfusion h)
    rw [hsame, hrun] at hdev
    exact Bool.false_ne_true hdev
  · have hw := of_decide_eq_true hw
    have hfin := hc d.discarded (List.mem_map.2 ⟨d, hd, rfl⟩)
    rw [show d.discarded = d from if_pos (.inr hw), hw] at hfin
    exact Bool.false_ne_true hfin

/-- The state in which a row that only a develop duty kept has been discarded; the reclaim signal is not yet told. -/
def State.rowDiscarded (s : State) (r : Row) (c : RawChain) : State :=
  ({ s with
    bm := { (s.bm.mapRow r.index fun x => { x with
        discarding := true, develop := .cancelled, raw := none, life := .settled, outcome := some .discarded })
      with free := c.pages.foldr insertPage s.bm.free }
    de := s.de.drop r.index } : State).raised .shotSettled (leBytes 3 (r.number.getD 0))

/-- A row with every duty final but its develop duty, which waits, settles at once. -/
theorem Work.discardRow_settles {s : State} {c : RawChain} (hnd : (s.bm.rows.map Row.index).Nodup)
    (hr : s.bm.row? r.index = some r) (hl : r.life = .held) (hdev : r.develop = .pending)
    (hcards : ∀ d ∈ r.cards, d.state.isFinal = true) (htethers : ∀ d ∈ r.tethers, d.state.isFinal = true)
    (hraw : r.raw = some c) (hproof : r.proof = none) (hq : s.tu.queue = []) :
    Work.discardRow r.index { toState := s, bus := [] } = {
      toState := s.rowDiscarded r c
      bus := [.developChanged r.index, .deLook,
        .reclaim (Decidable.decide ((c.pages.foldr insertPage s.bm.free).length < s.bm.threshold)), .deLook] } ∧
    Work.stoppingOf (Work.discardRow r.index { toState := s, bus := [] }) r.index = 0 := by
  obtain ⟨f, hf⟩ : ∃ f : Row → Row, f = fun x => { x with discarding := true, develop := .cancelled } := ⟨_, rfl⟩
  obtain ⟨D, hD⟩ : ∃ D : State, D = { s with bm := s.bm.mapRow r.index f, de := s.de.drop r.index } := ⟨_, rfl⟩
  have hbm : ((s.bm.mapRow r.index fun x => { x with discarding := true }).mapRow r.index fun x =>
      if x.develop.isFinal && !Decidable.decide (x.develop = .absent) then x else { x with develop := .cancelled }) =
        s.bm.mapRow r.index f := by
    rw [Bm.mapRow_mapRow (f := fun x => { x with discarding := true }) s.bm r.index fun _ => rfl]
    refine Bm.mapRow_congr hnd hr ?_
    dsimp only
    rw [hdev, hf]
    exact if_neg Bool.false_ne_true
  have hfi (x : Row) : (f x).index = x.index := by rw [hf]
  have hDrow : D.bm.row? r.index = some (f r) := by
    rw [hD]
    exact Bm.row?_mapRow_same (f := f) hr hfi
  have hdevelop : Work.setDevelop r.index .cancelled { ({ toState := s, bus := [] } : Work).mapRow r.index fun x => { x with
      discarding := true } with de := s.de.drop r.index } = { toState := D, bus := [.developChanged r.index] } := by
    rw [hD, ← hbm]
    rfl
  have hcheck : Work.check r.index { toState := D, bus := [.developChanged r.index] } = {
      toState := D.rowSettled r.index (f r) c .discarded
      bus := [.developChanged r.index, .deLook,
        .reclaim (Decidable.decide ((c.pages.foldr insertPage s.bm.free).length < s.bm.threshold))] } := by
    rw [Work.check_settles (w := { toState := D, bus := [.developChanged r.index] }) hDrow (by rw [hf]; exact hl)
      (by rw [hf]; exact hraw) (by rw [hf]; exact hproof) (by rw [hf]; rfl) (by rw [hf]; exact hcards)
      (by rw [hf]; exact htethers) (o := .discarded) (by rw [hf]; rfl), hD]
    rfl
  obtain ⟨E, hE⟩ : ∃ E : Work, E = {
      toState := D.rowSettled r.index (f r) c .discarded
      bus := [.developChanged r.index, .deLook,
        .reclaim (Decidable.decide ((c.pages.foldr insertPage s.bm.free).length < s.bm.threshold)), .deLook] } := ⟨_, rfl⟩
  have hEdev : (({ toState := s, bus := [] } : Work).mapRow r.index fun x => { x with discarding := true }).discardDevelop r.index =
      E := by
    have hrow : (({ toState := s, bus := [] } : Work).mapRow r.index fun x => { x with discarding := true }).bm.row? r.index =
        some { r with discarding := true } := Bm.row?_mapRow_same (f := fun x => { x with discarding := true }) hr fun _ => rfl
    unfold Work.discardDevelop
    rw [hrow]
    dsimp only
    rw [hdev]
    refine (congrArg (fun w => Work.post .deLook (w.check r.index)) hdevelop).trans ?_
    rw [hcheck, hE]
    rfl
  obtain ⟨z, hz⟩ : ∃ z : Row, z = { f r with raw := none, life := .settled, outcome := some .discarded } := ⟨_, rfl⟩
  have hErow : E.bm.row? r.index = some z := by
    rw [hE, hz]
    exact Bm.row?_mapRow_same (f := fun x => { x with raw := none, life := .settled, outcome := some .discarded }) hDrow fun _ => rfl
  have hEcards : E.discardCards r.index = E := by
    have hopen : z.openCards = [] := by
      refine List.map_eq_nil_iff.2 (List.filter_eq_nil_iff.2 fun k _ hk => ?_)
      rw [show z.cards = r.cards by rw [hz, hf]] at hk
      cases hd : r.cards[k]? with
      | none =>
        rw [hd] at hk
        exact Bool.false_ne_true hk
      | some d =>
        rw [hd, Option.any_some, hcards d (List.mem_of_getElem? hd)] at hk
        exact Bool.false_ne_true hk
    rw [Work.discardCards_eq hErow, hopen]
    rfl
  have hEtethers : E.discardTethers r.index = E := by
    have hEq : E.tu.queue = [] := by
      rw [hE]
      show D.tu.queue = []
      rw [hD]
      exact hq
    rw [Work.discardTethers, hEq]
    rfl
  have hEcheck : E.check r.index = E := by
    have hrelease : E.releaseCheck r.index = E := by
      unfold Work.releaseCheck
      rw [hErow]
      exact if_neg (by rw [hz]; exact fun h => Life.noConfusion h)
    rw [Work.check, hrelease, Work.settleCheck_same hErow (by rw [hz]; rfl)]
  have hact : Work.discardRow r.index { toState := s, bus := [] } = E := by
    show (((Work.discardDevelop r.index _).discardCards r.index).discardTethers r.index).check r.index = _
    rw [hEdev, hEcards, hEtethers, hEcheck]
  have hDs : D.rowSettled r.index (f r) c .discarded = s.rowDiscarded r c := by
    have hbm2 : (s.bm.mapRow r.index f).mapRow r.index (fun x => { x with
        raw := none, life := .settled, outcome := some .discarded }) = s.bm.mapRow r.index fun x => { x with
          discarding := true, develop := .cancelled, raw := none, life := .settled, outcome := some .discarded } := by
      rw [Bm.mapRow_mapRow s.bm r.index hfi, hf]
    have hnum : (f r).number = r.number := by rw [hf]
    rw [State.rowSettled, hnum, hD]
    exact congrArg (fun b : Bm => ({ s with
      bm := { b with free := c.pages.foldr insertPage s.bm.free }
      de := s.de.drop r.index } : State).raised .shotSettled (leBytes 3 (r.number.getD 0))) hbm2
  refine ⟨by rw [hact, hE, hDs], ?_⟩
  have hcz : z.cards.filter (fun d => d.state = .writing) = [] := by
    refine List.filter_eq_nil_iff.2 fun d hd hw => ?_
    have hfin := hcards d (by rw [hz, hf] at hd; exact hd)
    rw [of_decide_eq_true hw] at hfin
    exact Bool.false_ne_true hfin
  have htz : z.tethers.filter (fun d => d.state = .sending) = [] := by
    refine List.filter_eq_nil_iff.2 fun d hd hw => ?_
    have hfin := htethers d (by rw [hz, hf] at hd; exact hd)
    rw [of_decide_eq_true hw] at hfin
    exact Bool.false_ne_true hfin
  rw [hact, Work.stoppingOf, hErow]
  show z.stopping = 0
  rw [Row.stopping, hcz, htz, if_neg (by rw [hz, hf]; exact fun h => DevelopState.noConfusion h)]
  rfl

end

/-- Settles O34: a discard ends or stops every duty of the row, and the row settles when none is left. -/
theorem shotDiscardSettlesTheRow : Obligations.ShotDiscardSettlesTheRow := by
  unfold Obligations.ShotDiscardSettlesTheRow
  intro tag n s hs hn
  have hlen : (leBytes 3 n).length = Request.shotDiscard.size := leBytes_length 3 n
  refine ⟨fun hr => ?_, fun r hnd hr => ?_⟩
  · exact request_turned .shotDiscard .noSuchShot rfl hs hlen fun cp sent => by
      show answerShotDiscard _ _ = _
      rw [answerShotDiscard_eq hn]
      dsimp only
      rw [hr]
  intro stopping ours
  have hrow : s.bm.row? r.index = some r := Bm.row?_numbered hnd hr
  have hnum : r.number = some n := (Bm.numbered?_some hr).2
  have hstate : s.hears .shotDiscard = { s with cp := (s.hears .shotDiscard).cp, sent := (s.hears .shotDiscard).sent } :=
    State.hears_eq s .shotDiscard
  refine ⟨fun hl hp hd => ?_, fun hl hp hd hjob hidle hwrites hkeys hsends hactive => ?_, fun hl => ?_, fun hl hp => ?_,
    fun c hl hp hd hdev hcards htethers hraw hproof hrun hq => ?_⟩
  · refine (request_posts .shotDiscard hs hlen fun cp sent => ?_).trans rfl
    show answerShotDiscard _ _ = _
    rw [answerShotDiscard_eq hn]
    dsimp only
    rw [hr]
    dsimp only
    rw [if_neg (not_not_intro hl), hp, if_neg Bool.false_ne_true, hd, if_pos rfl, Work.stoppingOf]
    dsimp only
    rw [hrow]
    rfl
  · obtain ⟨w, hw⟩ : ∃ w : Work, w = { toState := s.hears .shotDiscard, bus := [] } := ⟨_, rfl⟩
    have hwtu : w.tu = s.tu := by rw [hw, hstate]
    have hwde : w.de = s.de := by rw [hw, hstate]
    have hwbm : w.bm = s.bm := by rw [hw, hstate]
    have hwcw : w.cw = s.cw := by rw [hw, hstate]
    have hdis : w.Discards r := by
      refine ⟨by rw [hwbm]; exact hrow, hl, by rw [hwde]; exact hidle, by rw [hwcw]; exact hwrites, ?_, ?_, ?_⟩
      · rw [hwtu]
        exact hkeys
      · rw [hwtu]
        exact hsends
      · rw [hwtu]
        exact hactive
    have hout := hdis.discards
    obtain ⟨v, hv⟩ : ∃ v, v = w.discardRow r.index := ⟨_, rfl⟩
    rw [← hv] at hout
    obtain ⟨y, hy, hfalls, hsettled⟩ := hout.row
    have hstopping : v.stoppingOf r.index = stopping := by
      rw [Work.stoppingOf, hy]
      exact Row.doomed_stopping hfalls.same
    have howner : Request.shotDiscard.owner (leBytes 3 n) { toState := s.hears .shotDiscard, bus := [] } =
        .taken v [BitVec.ofNat 8 stopping] := by
      rw [← hw, ← hstopping, hv]
      exact answerShotDiscard_taken hn (by rw [hwbm]; exact hr) hl hp hd
    have hcalm : v.calm = true := by
      rw [hv, hw]
      simp [Work.discardRow]
      rfl
    obtain ⟨t, ht⟩ : ∃ t, t = (v.settle.reply (replyKind Request.shotDiscard.kind) tag
      (0 :: [BitVec.ofNat 8 stopping])).settle.finishWarning := ⟨_, rfl⟩
    obtain ⟨hdrains, hreply⟩ := Work.reply_drains hcalm (replyKind Request.shotDiscard.kind) tag (0 :: [BitVec.ofNat 8 stopping])
    rw [← ht] at hdrains hreply
    obtain ⟨z, hz, hbears⟩ : ∃ z, t.bm.row? r.index = some z ∧ y.Bears z := by
      have hrel := (hdrains.rows r.index hout.unqueued.1 hout.unqueued.2).2
      rw [hy] at hrel
      generalize t.bm.row? r.index = o at hrel
      cases hrel with
      | some h => exact ⟨_, rfl, h⟩
    have hdevz : z.develop = r.doomed.develop := hbears.develop.trans (Row.develop_of_sansChains hfalls.same)
    have hcardz : z.cards = r.doomed.cards := hbears.cards.trans (Row.cards_of_sansChains hfalls.same)
    have htethery : y.tethers = r.doomed.tethers := by
      have h2 := congrArg Row.tethers hfalls.same
      exact h2
    have hnumy : y.number = r.number := by
      have h2 := congrArg Row.number hfalls.same
      exact h2
    refine ⟨t.toState, z, (request_run .shotDiscard tag hs hlen howner).trans (by rw [ht]), hz,
      hbears.number.trans (hnumy.trans hnum), hbears.discarding.trans (Row.discarding_of_sansChains hfalls.same), hdevz, hcardz,
      (hbears.tethers fun d hd => ?_).trans htethery, fun hstop => ?_, fun hstop => ?_, fun hrun => ?_, fun d hd hwr => ?_,
      fun e he => ?_, fun hlink hsend => ?_, fun e x m desk _ hx ha hours hsend hm hdesk => ?_, hreply⟩
    · exact Row.doomed_tethers_final d (htethery ▸ hd)
    · have hsl := hsettled (Row.doomed_closed hstop)
      obtain ⟨hlz, hoz, hrz, hpz⟩ := hbears.apart (by rw [hsl]; exact fun h => Life.noConfusion h)
      rcases hfalls.life with ⟨hheld, -⟩ | ⟨-, ho, hra, hpr, -⟩
      · rw [hsl] at hheld
        exact Life.noConfusion hheld
      · exact ⟨hlz.trans hsl, hoz.trans ho, hrz.trans hra, hpz.trans hpr⟩
    · have hopen := Row.doomed_open hstop
      rcases hfalls.life with ⟨hheld, ho⟩ | ⟨-, -, -, -, hclosed⟩
      · rcases hbears.held hheld with ⟨hlz, hoz⟩ | ⟨hc, hdv⟩
        · exact ⟨hlz, hoz.trans ho⟩
        · refine absurd ⟨?_, ?_⟩ hopen
          · rw [← Row.cards_of_sansChains hfalls.same]
            exact hc
          · rw [← Row.develop_of_sansChains hfalls.same]
            exact hdv
      · exact absurd ⟨hclosed.cards, hclosed.develop⟩ hopen
    · obtain ⟨hengine, hany⟩ := hjob hrun
      have hde := hout.job hrun
      rw [hdrains.running (by rw [hde, hwde]; exact hengine), hde, hwde]
      cases hj : s.de.job with
      | none => rfl
      | some j =>
        rw [hj] at hany
        exact congrArg some (if_pos (of_decide_eq_true hany))
    · have hslot := congrArg Slot.stops (hdrains.slots d.slot).reads
      have hstops : (t.cw.slot d.slot).stops = (v.cw.slot d.slot).stops := hslot
      rw [hstops]
      exact hout.stops d hd hwr
    · obtain ⟨f, hf, hk, hrw⟩ := hdrains.queue e he
      rw [hout.queue] at hf
      have hno := (List.mem_filter.1 hf).2
      rw [Bool.not_eq_true'] at hno
      show decide (e.kind = .duty ∧ e.row = some r.index) = false
      rw [hk, hrw]
      exact hno
    · obtain ⟨hvl, hmild⟩ := hout.idle (by rw [hwtu]; exact hsend)
      have hkeeps := Work.reply_keeps (v := v) (fun x hx => (hmild x hx).elim (fun h => by
        rw [hw] at h
        exact absurd h List.not_mem_nil) id) (by rw [hvl, hwtu]; exact hlink) (replyKind Request.shotDiscard.kind) tag
          (0 :: [BitVec.ofNat 8 stopping])
      rw [← ht] at hkeeps
      have hk := hkeeps.keys
      rw [hout.queue, hwtu] at hk
      exact hk
    · have hab := hout.abort e (by rw [hwtu]; exact Tu.active?_mem ha) hours hsend x (by rw [hwtu]; exact hx)
      rw [hwtu, Tu.abort, hm, hdesk] at hab
      exact hdrains.sent _ hab
  · exact request_turned .shotDiscard .state rfl hs hlen fun cp sent => by
      show answerShotDiscard _ _ = _
      rw [answerShotDiscard_eq hn]
      dsimp only
      rw [hr]
      exact if_pos hl
  · exact request_turned .shotDiscard .protect rfl hs hlen fun cp sent => by
      show answerShotDiscard _ _ = _
      rw [answerShotDiscard_eq hn]
      dsimp only
      rw [hr]
      dsimp only
      rw [if_neg (not_not_intro hl), hp, if_pos rfl]
  · refine request_comes .shotDiscard (body := [0]) (fun x => ({ x with
          bm := { (s.bm.mapRow r.index fun x => { x with
              discarding := true, develop := .cancelled, raw := none, life := .settled, outcome := some .discarded })
            with free := c.pages.foldr insertPage s.bm.free },
          de := s.de.drop r.index,
          tu := { s.tu with
            reclaim := decide ((c.pages.foldr insertPage s.bm.free).length < s.bm.threshold) } } : State).raised
          .shotSettled (leBytes 3 n)) hs hlen (fun cp sent => State.steady_congr (s := s) rfl rfl hs.2.1) fun cp sent => ?_
    obtain ⟨hact, hstop⟩ := Work.discardRow_settles (s := { s with cp := cp, sent := sent }) hnd hrow hl hdev hcards htethers hraw
      hproof hq
    refine ⟨_, (answerShotDiscard_taken hn hr hl hp hd).trans (by rw [hstop]; rfl), ?_⟩
    rw [hact]
    have hnumber : r.number.getD 0 = n := by rw [hnum]; rfl
    rw [State.rowDiscarded, hnumber]
    refine .skip (Work.handle_developChanged _ _ fun e he => ?_) (.skip (Work.handle_deLook _ (.inl hrun))
      (.step (Work.handle_reclaim_empty _ _ hq) (.skip (Work.handle_deLook _ (.inl hrun)) (.done _))))
    have hmem : e ∈ s.tu.queue := he
    rw [hq] at hmem
    exact absurd hmem List.not_mem_nil

end Sys2Proof.Machine
end

section
/-! PROOF. The duties of a row that enters HELD, one kind after the other (R15, R128, R129). -/

namespace Sys2Proof.Machine

/-! ### A row in its table -/

section
variable {b : Bm} {i : Nat} {r z : Row}

theorem Bm.mapRow_put (hz : z.index = i) (f : Row → Row) :
    (b.mapRow i fun _ => z).mapRow i f = b.mapRow i fun _ => f z := by
  simp only [Bm.mapRow, List.map_map]
  congr 1
  refine List.map_congr_left fun x _ => ?_
  simp only [Function.comp_apply]
  split <;> rfl

theorem Bm.row?_put (hr : b.row? i = some r) (hz : z.index = i) : (b.mapRow i fun _ => z).row? i = some z := by
  obtain ⟨hmem, hri⟩ := Bm.row?_some hr
  have hrel : ∀ (l : List Row), r ∈ l →
      (l.map fun x => if x.index = i then z else x).find? (fun x => decide (x.index = i)) = some z := by
    intro l hl
    induction l with
    | nil => exact absurd hl List.not_mem_nil
    | cons x l ih =>
      rw [List.map_cons]
      by_cases hx : x.index = i
      · rw [if_pos hx, List.find?_cons_of_pos (p := fun x : Row => decide (x.index = i)) (decide_eq_true hz)]
      · rw [if_neg hx, List.find?_cons_of_neg (p := fun x : Row => decide (x.index = i)) (by simpa using hx)]
        exact ih ((List.mem_cons.1 hl).resolve_left fun h => hx (h ▸ hri))
  exact hrel b.rows hmem

end

/-! ### The step at work on the duties -/

/-- The work in which a row stands in its place, with the blocks that its duties reach. -/
def State.holding (s : State) (i : Nat) (z : Row) (c : Cw) (d : De) (t : Tu) (p : Cp) (b : List Report) : Work :=
  { toState := { s with bm := s.bm.mapRow i fun _ => z, cw := c, de := d, tu := t, cp := p }, bus := b }

/-- The slots with one of them changed. -/
def Cw.mapOne (c : Cw) (k : SlotId) (f : Slot → Slot) : Cw :=
  match k with
  | .a => { c with a := f c.a }
  | .b => { c with b := f c.b }

/-- The slot has no card of the part. -/
def Slot.waits (y : Slot) : Bool := decide (y.state = .absent ∨ y.state = .present)

/-- The slot with a duty that waits for the card, or in its write queue (R129). -/
def Slot.joined (y : Slot) (q : DutyRef) : Slot :=
  if y.waits then { y with waitQ := y.waitQ ++ [q] } else { y with writeQ := y.writeQ ++ [q] }

/-- A card RAW duty in its first state (R129). -/
def Slot.firstCard (y : Slot) (k : SlotId) : CardDuty := .joins k .raw (if y.waits then .waitingSlot else .pending) false

section
variable {s : State} {i : Nat} {r z : Row} {c : Cw} {d : De} {t : Tu} {p : Cp} {b : List Report} {k : SlotId}

theorem State.holding_mapRow (hz : z.index = i) (f : Row → Row) :
    (s.holding i z c d t p b).mapRow i f = s.holding i (f z) c d t p b := by
  show ({ toState := { s with bm := (s.bm.mapRow i fun _ => z).mapRow i f, cw := c, de := d, tu := t, cp := p }, bus := b } : Work) = _
  rw [Bm.mapRow_put hz]
  rfl

theorem State.holding_row (hr : s.bm.row? i = some r) (hz : z.index = i) :
    (s.holding i z c d t p b).bm.row? i = some z := Bm.row?_put hr hz

theorem State.holding_addCard (hz : z.index = i) (h : Chain) (st : CardState) (again : Bool) :
    (s.holding i z c d t p b).addCard i k h st again =
      s.holding i { z with cards := z.cards ++ [.joins k h st again] } c d t p b :=
  State.holding_mapRow hz fun r => { r with cards := r.cards ++ [.joins k h st again] }

theorem State.holding_mapSlot (f : Slot → Slot) :
    (s.holding i z c d t p b).mapSlot k f = s.holding i z (c.mapOne k f) d t p b := by
  cases k <;> rfl

theorem List.modify_append_last {α : Type} (l : List α) (x : α) (f : α → α) :
    (l ++ [x]).modify l.length f = l ++ [f x] := by
  refine List.ext_getElem? fun j => ?_
  rw [List.getElem?_modify]
  rcases Nat.lt_trichotomy j l.length with h | h | h
  · rw [List.getElem?_append_left h, List.getElem?_append_left h]
    simp [Nat.ne_of_gt h]
  · subst h
    simp
  · rw [List.getElem?_eq_none (by simp; omega), List.getElem?_eq_none (by simp; omega)]
    rfl

/-- The last duty of the row changes. -/
theorem State.holding_mapDuty (hz : z.index = i) {l : List CardDuty} {x : CardDuty} (hc : z.cards = l ++ [x])
    (hx : x.state.isFinal = false) (f : CardDuty → CardDuty) :
    (s.holding i z c d t p b).mapDuty { row := i, place := l.length } f =
      s.holding i { z with cards := l ++ [f x] } c d t p b := by
  obtain ⟨g, hg⟩ : ∃ g : CardDuty → CardDuty, g = fun x => if x.state.isFinal then x else f x := ⟨_, rfl⟩
  have hmap : (s.holding i z c d t p b).mapDuty { row := i, place := l.length } f =
      s.holding i { z with cards := z.cards.modify l.length g } c d t p b := by
    rw [hg]
    exact State.holding_mapRow hz _
  have hgx : g x = f x := by rw [hg]; exact if_neg (by rw [hx]; exact Bool.false_ne_true)
  rw [hmap, hc, List.modify_append_last, hgx]

theorem State.holding_duty (hr : s.bm.row? i = some r) (hz : z.index = i) {l : List CardDuty} {x : CardDuty}
    (hc : z.cards = l ++ [x]) : (s.holding i z c d t p b).duty? { row := i, place := l.length } = some x := by
  rw [Work.duty?, State.holding_row hr hz, Option.bind_some, hc]
  simp

/-- The first state of a duty whose slot waits for a card (R129). -/
theorem Work.firstState_waits {w : Work} {q : DutyRef} {x : CardDuty} (hx : w.duty? q = some x)
    (hst : (w.cw.slot x.slot).state = .absent ∨ (w.cw.slot x.slot).state = .present) :
    w.firstState q = (w.mapDuty q fun y => { y with state := .waitingSlot }).mapSlot x.slot fun y =>
      { y with waitQ := y.waitQ ++ [q] } := by
  unfold Work.firstState
  rw [hx]
  dsimp only
  rcases hst with h | h <;> rw [h]

/-- The first state of a duty whose slot writes (R129). -/
theorem Work.firstState_joins {w : Work} {q : DutyRef} {x : CardDuty} (hx : w.duty? q = some x)
    (hst : (w.cw.slot x.slot).state = .writing ∨ (w.cw.slot x.slot).state = .suspended) :
    w.firstState q = (w.mapDuty q fun y => { y with state := .pending }).mapSlot x.slot fun y =>
      { y with writeQ := y.writeQ ++ [q] } := by
  have hnot : ((w.mapDuty q fun y => { y with state := .pending }).mapSlot x.slot fun y =>
      { y with writeQ := y.writeQ ++ [q] }).selectDuty x.slot = (w.mapDuty q fun y => { y with state := .pending }).mapSlot x.slot
        fun y => { y with writeQ := y.writeQ ++ [q] } := by
    refine if_neg fun h => ?_
    have hready := h.1
    rw [Cw.slot_mapSlot] at hready
    rcases hst with h | h <;> exact SlotState.noConfusion (h.symm.trans hready)
  rw [← hnot]
  unfold Work.firstState
  rw [hx]
  dsimp only
  rcases hst with h | h <;> rw [h]

theorem State.holding_cw : (s.holding i z c d t p b).cw = c := rfl

/-- A RAW duty of a slot that is ABSENT or PRESENT, or that writes (R15 step 1, R129). -/
theorem State.holding_giveRaw (hr : s.bm.row? i = some r) (hz : z.index = i)
    (hst : (c.slot k).state ∈ [SlotState.absent, .present, .writing, .suspended]) :
    (s.holding i z c d t p b).giveRaw i k = s.holding i { z with cards := z.cards ++ [(c.slot k).firstCard k] }
      (c.mapOne k fun y => y.joined { row := i, place := z.cards.length }) d t p b := by
  have hplace : (((s.holding i z c d t p b).bm.row? i).map fun r => r.cards.length).getD 0 = z.cards.length := by
    rw [State.holding_row hr hz]
    rfl
  obtain ⟨x, hx⟩ : ∃ x : CardDuty, x = .joins k .raw .waitingSource false := ⟨_, rfl⟩
  obtain ⟨z1, hz1⟩ : ∃ z1 : Row, z1 = { z with cards := z.cards ++ [x] } := ⟨_, rfl⟩
  have hz1i : z1.index = i := by rw [hz1]; exact hz
  have hcards : z1.cards = z.cards ++ [x] := by rw [hz1]
  have hxs : x.slot = k := by rw [hx]; rfl
  have hxf : x.state.isFinal = false := by rw [hx]; rfl
  have hduty := State.holding_duty (c := c) (d := d) (t := t) (p := p) (b := b) hr hz1i hcards
  have hmap (f : CardDuty → CardDuty) := State.holding_mapDuty (s := s) (c := c) (d := d) (t := t) (p := p) (b := b) hz1i hcards hxf f
  have hone (f : Slot → Slot) (hf : f (c.slot k) = (c.slot k).joined { row := i, place := z.cards.length }) :
      c.mapOne k f = c.mapOne k fun y => y.joined { row := i, place := z.cards.length } := by
    cases k
    · exact congrArg (fun y => { c with a := y }) hf
    · exact congrArg (fun y => { c with b := y }) hf
  have hact : (s.holding i z c d t p b).giveRaw i k =
      (s.holding i z1 c d t p b).firstState { row := i, place := z.cards.length } := by
    rw [hz1, hx, ← State.holding_addCard hz]
    unfold Work.giveRaw
    rw [hplace]
  rw [hact]
  cases hw : (c.slot k).waits with
  | true =>
    have hs : (c.slot k).state = .absent ∨ (c.slot k).state = .present := of_decide_eq_true hw
    rw [Work.firstState_waits hduty (by rw [hxs]; exact hs), hmap, hxs, State.holding_mapSlot, hone _ (if_pos hw).symm,
      Slot.firstCard, hw, hx, hz1]
    rfl
  | false =>
    have hs : (c.slot k).state = .writing ∨ (c.slot k).state = .suspended := by
      have hnot := of_decide_eq_false hw
      simp only [List.mem_cons, List.not_mem_nil, or_false] at hst
      tauto
    rw [Work.firstState_joins hduty (by rw [hxs]; exact hs), hmap, hxs, State.holding_mapSlot,
      hone _ (if_neg (by rw [hw]; exact Bool.false_ne_true)).symm, Slot.firstCard, hw, hx, hz1]
    rfl

/-! ### The RAW duties of a policy -/

/-- A slot with the RAW duty of the row, where the list holds it. -/
def Cw.joinedOf (c : Cw) (i : Nat) (l : List SlotId) (k : SlotId) : Slot :=
  if k ∉ l then c.slot k else (c.slot k).joined { row := i, place := l.findIdx (· = k) }

/-- The RAW duties of a row without duties. -/
theorem State.holding_giveRaws (hr : s.bm.row? i = some r) (hz : z.index = i) (hc : z.cards = [])
    (ha : c.a.state ∈ [SlotState.absent, .present, .writing, .suspended])
    (hb : c.b.state ∈ [SlotState.absent, .present, .writing, .suspended]) {l : List SlotId}
    (hl : l = [.a] ∨ l = [.b] ∨ l = [.a, .b]) :
    l.foldl (fun v k => v.giveRaw i k) (s.holding i z c d t p b) =
      s.holding i { z with cards := l.map fun k => (c.slot k).firstCard k }
        { c with a := c.joinedOf i l .a, b := c.joinedOf i l .b } d t p b := by
  have hlen : z.cards.length = 0 := by rw [hc]; rfl
  have hz1 : ({ z with cards := z.cards ++ [c.a.firstCard .a] } : Row).index = i := hz
  rcases hl with rfl | rfl | rfl
  · rw [List.foldl_cons, List.foldl_nil, State.holding_giveRaw (k := .a) hr hz ha, hlen, hc]
    rfl
  · rw [List.foldl_cons, List.foldl_nil, State.holding_giveRaw (k := .b) hr hz hb, hlen, hc]
    rfl
  · rw [List.foldl_cons, List.foldl_cons, List.foldl_nil, State.holding_giveRaw (k := .a) hr hz ha,
      State.holding_giveRaw (k := .b) hr (by exact hz) (by exact hb), hlen, hc]
    rfl

/-! ### The develop duty, the PROOF duties and the send of the proof -/

theorem State.holding_createDevelop (hz : z.index = i) (hd : z.develop = .absent) :
    (s.holding i z c d t p b).createDevelop i .normal = s.holding i { z with cls := .normal, develop := .pending } c
      { d with normal := d.normal ++ [i] } t p (b ++ [.developChanged i] ++ [.deLook]) := by
  obtain ⟨f, hf⟩ : ∃ f : Row → Row, f = fun r =>
      if r.develop.isFinal && !decide (r.develop = .absent) then r else { r with develop := .pending } := ⟨_, rfl⟩
  have hmap1 : (s.holding i z c d t p b).mapRow i (fun r => { r with cls := .normal }) =
      s.holding i { z with cls := .normal } c d t p b := State.holding_mapRow hz _
  have hmap2 : (s.holding i { z with cls := .normal } c d t p b).mapRow i f =
      s.holding i { z with cls := .normal, develop := .pending } c d t p b := by
    rw [State.holding_mapRow (by exact hz), hf]
    dsimp only
    rw [hd]
    rfl
  unfold Work.createDevelop Work.setDevelop
  rw [hmap1, ← hf, hmap2]
  rfl

theorem State.holding_addProofs (l : List SlotId) : ∀ {z : Row}, z.index = i →
    l.foldl (fun v k => v.addCard i k .proof .waitingSource false) (s.holding i z c d t p b) =
      s.holding i { z with cards := z.cards ++ l.map fun k => .joins k .proof .waitingSource false } c d t p b := by
  induction l with
  | nil =>
    intro z _
    rw [List.map_nil, List.append_nil]
    rfl
  | cons k l ih =>
    intro z hz
    rw [List.foldl_cons, State.holding_addCard hz, ih (by exact hz), List.map_cons, List.append_assoc]
    rfl

/-- The tether duty that ALL_PROOFS makes (R15 step 4, R169). -/
def allProofsDuty (full : Bool) : TetherDuty :=
  { chain := .proof, state := if full then .failed else .pending, source := .buffer, prio := 1, early := true,
    cause := if full then some .full else none }

/-- The entry that carries it. -/
def allProofsEntry (i n : Nat) : Entry :=
  { number := n, chain := .proof, kind := .duty, row := some i, sending := false, source := .buffer, copy := none,
    prio := 1, early := true }

theorem State.holding_send_full {n : Nat} (hr : s.bm.row? i = some r) (hz : z.index = i) (he : t.entry? n .proof = none)
    (hq : 64 ≤ t.queue.length) : (s.holding i z c d t p b).giveProofSend i n 1 =
      s.holding i { z with tethers := z.tethers ++ [allProofsDuty true] } c d t (p.raise .sendFailed (leBytes 3 n ++ [1, 2])) b := by
  have htu : (s.holding i z c d t p b).tu = t := rfl
  unfold Work.giveProofSend
  rw [State.holding_row hr hz, htu]
  dsimp only
  rw [he, if_neg (by exact Bool.false_ne_true), if_pos (by exact hq)]
  unfold Work.failFull
  dsimp only
  rw [State.holding_mapRow hz]
  rfl

theorem State.holding_send_joins {n : Nat} (hr : s.bm.row? i = some r) (hz : z.index = i) (he : t.entry? n .proof = none)
    (hq : t.queue.length < 64) (hd : z.develop = .pending) (hcls : z.cls = .normal) :
    (s.holding i z c d t p b).giveProofSend i n 1 =
      s.holding i { z with tethers := z.tethers ++ [allProofsDuty false], cls := .urgent } c ((d.drop i).join i .urgent)
        { t with queue := insertTail (allProofsEntry i n) t.queue } p (b ++ [.deLook] ++ [.select]) := by
  subst hz
  have htu : (s.holding z.index z c d t p b).tu = t := rfl
  obtain ⟨t1, ht1⟩ : ∃ t1 : Tu, t1 = { t with queue := insertTail (allProofsEntry z.index n) t.queue } := ⟨_, rfl⟩
  obtain ⟨z1, hz1⟩ : ∃ z1 : Row, z1 = { z with tethers := z.tethers ++ [allProofsDuty false] } := ⟨_, rfl⟩
  have hz1i : z1.index = z.index := by rw [hz1]
  have hmap : (s.holding z.index z c d t1 p b).mapRow z.index (fun r => { r with tethers := r.tethers ++ [allProofsDuty false] }) =
      s.holding z.index z1 c d t1 p b := by
    rw [hz1]
    exact State.holding_mapRow rfl _
  obtain ⟨z2, hz2⟩ : ∃ z2 : Row, z2 = { z1 with cls := .urgent } := ⟨_, rfl⟩
  have hpromote : (s.holding z.index z1 c d t1 p b).promoteJob z.index =
      s.holding z.index z2 c ((d.drop z.index).join z.index .urgent) t1 p (b ++ [.deLook]) := by
    have hmap2 : (s.holding z.index z1 c d t1 p b).mapRow z.index (fun x => { x with cls := .urgent }) =
        s.holding z.index z2 c d t1 p b := by
      rw [hz2]
      exact State.holding_mapRow hz1i _
    unfold Work.promoteJob
    rw [State.holding_row hr hz1i]
    dsimp only
    rw [show z1.develop = .pending by rw [hz1]; exact hd]
    dsimp only
    rw [if_pos (by rw [hz1]; exact hcls), hmap2]
    rfl
  unfold Work.giveProofSend
  rw [State.holding_row hr rfl, htu]
  dsimp only
  rw [he, if_neg (by exact Bool.false_ne_true), if_neg (by exact Nat.not_le.2 hq)]
  unfold Work.joinSend
  dsimp only
  rw [if_pos rfl, if_pos ⟨rfl, rfl, rfl⟩]
  refine (congrArg (fun w : Work => (w.promoteJob z.index).post .select) ?_).trans ((congrArg (Work.post .select) hpromote).trans ?_)
  · rw [← hmap, ht1]
    rfl
  · rw [hz2, hz1, ht1]
    rfl

end

end Sys2Proof.Machine
end

section
/-! PROOF. All the duties of a row that enters HELD, and the end of its capture for RDU (R12, R15, R39). -/

namespace Sys2Proof.Machine

section
variable {s : State} {i n : Nat} {r z : Row} {c : Cw} {d : De} {t : Tu} {p : Cp}

theorem Cw.rawSlots_forms (c : Cw) : c.rawSlots = [.a] ∨ c.rawSlots = [.b] ∨ c.rawSlots = [.a, .b] := by
  unfold Cw.rawSlots
  split
  · exact .inr (.inr rfl)
  · split
    · exact .inl rfl
    · exact .inr (.inl rfl)
  · exact .inl rfl
  · exact .inl rfl
  · exact .inr (.inl rfl)

/-- A report that DE and TU have no use for, with a job running and the link not BOUND_IDLE. -/
def Report.isSpent (i : Nat) (x : Report) : Prop := x = .developChanged i ∨ x = .deLook ∨ x = .select

/-- The Bools in which the statement of a row's duties is told (R15, R169). -/
structure DutyPlan (c : Cw) (d : De) (t : Tu) (n : Nat) (develops wanted sends full : Bool) : Prop where
  develop : develops = (d.auto || decide (c.policy = .split) || c.proofs || decide (t.auto = .allProofs))
  want : wanted = decide (t.auto = .allProofs ∧ t.entry? n .proof = none)
  send : sends = (wanted && decide (t.queue.length < 64))
  fill : full = (wanted && decide (64 ≤ t.queue.length))

/-- The row with the duties of its entry to HELD. -/
def Row.withDuties (z : Row) (c : Cw) (l m : List SlotId) (develops wanted sends full : Bool) : Row :=
  { z with
    policy := some c.policy
    cards := (l.map fun k => (c.slot k).firstCard k) ++ m.map fun k => .joins k .proof .waitingSource false
    develop := if develops then .pending else .absent
    cls := if sends then .urgent else if develops then .normal else z.cls
    tethers := if wanted then [allProofsDuty full] else [] }

/-- The duties before the checks (R15). -/
theorem State.holding_duties (hr : s.bm.row? i = some r) (hz : z.index = i) (hc : z.cards = []) (ht : z.tethers = [])
    (hdev : z.develop = .absent) (ha : c.a.state ∈ [SlotState.absent, .present, .writing, .suspended])
    (hb : c.b.state ∈ [SlotState.absent, .present, .writing, .suspended]) (hout : i ∉ d.normal ++ d.urgent)
    {develops wanted sends full : Bool} (hplan : DutyPlan c d t n develops wanted sends full) :
    ∃ l, l.length ≤ 4 ∧ (∀ x ∈ l, Report.isSpent i x) ∧ (s.holding i z c d t p []).createDuties i n =
      (s.holding i (z.withDuties c c.rawSlots (c.proofSlots c.rawSlots) develops wanted sends full)
        { c with a := c.joinedOf i c.rawSlots .a, b := c.joinedOf i c.rawSlots .b }
        { d with
          normal := if develops && !sends then d.normal ++ [i] else d.normal
          urgent := if sends then d.urgent ++ [i] else d.urgent }
        { t with queue := if sends then insertTail (allProofsEntry i n) t.queue else t.queue }
        (if full then p.raise .sendFailed (leBytes 3 n ++ [1, 2]) else p) l).check i := by
  obtain ⟨z0, hz0⟩ : ∃ z0 : Row, z0 = { z with policy := some c.policy } := ⟨_, rfl⟩
  have hz0i : z0.index = i := by rw [hz0]; exact hz
  obtain ⟨z1, hz1⟩ : ∃ z1 : Row, z1 = { z0 with cards := c.rawSlots.map fun k => (c.slot k).firstCard k } := ⟨_, rfl⟩
  have hz1i : z1.index = i := by rw [hz1]; exact hz0i
  obtain ⟨c1, hc1⟩ : ∃ c1 : Cw, c1 = { c with a := c.joinedOf i c.rawSlots .a, b := c.joinedOf i c.rawSlots .b } := ⟨_, rfl⟩
  have hpolicy : (s.holding i z c d t p []).mapRow i (fun r => { r with policy := some c.policy }) = s.holding i z0 c d t p [] := by
    rw [hz0]
    exact State.holding_mapRow hz _
  have hraws : c.rawSlots.foldl (fun v k => v.giveRaw i k) (s.holding i z0 c d t p []) = s.holding i z1 c1 d t p [] := by
    rw [State.holding_giveRaws hr hz0i (by rw [hz0]; exact hc) ha hb c.rawSlots_forms, hz1, hc1]
  have hwants : (s.holding i z c d t p []).wantsDevelop = develops := hplan.develop.symm
  obtain ⟨z2, hz2⟩ : ∃ z2 : Row, z2 = if develops then { z1 with cls := .normal, develop := .pending } else z1 := ⟨_, rfl⟩
  have hz2i : z2.index = i := by rw [hz2]; split <;> exact hz1i
  obtain ⟨b2, hb2⟩ : ∃ b2 : List Report, b2 = if develops then [.developChanged i, .deLook] else [] := ⟨_, rfl⟩
  have hb2l : b2.length ≤ 2 := by
    rw [hb2]
    split
    · exact Nat.le_refl 2
    · exact Nat.zero_le 2
  have hb2i : ∀ x ∈ b2, Report.isSpent i x := by
    intro x hx
    rw [hb2] at hx
    split at hx
    · rcases List.mem_cons.1 hx with rfl | hx
      · exact .inl rfl
      · exact .inr (.inl (List.mem_singleton.1 hx))
    · exact absurd hx List.not_mem_nil
  obtain ⟨d2, hd2⟩ : ∃ d2 : De, d2 = if develops then { d with normal := d.normal ++ [i] } else d := ⟨_, rfl⟩
  have hdevelop : (if develops then (s.holding i z1 c1 d t p []).createDevelop i .normal else s.holding i z1 c1 d t p []) =
      s.holding i z2 c1 d2 t p b2 := by
    rw [hz2, hd2, hb2]
    cases develops with
    | true =>
      rw [if_pos rfl, State.holding_createDevelop hz1i (by rw [hz1, hz0]; exact hdev)]
      rfl
    | false => rfl
  obtain ⟨z3, hz3⟩ : ∃ z3 : Row, z3 = { z2 with
    cards := z2.cards ++ (c.proofSlots c.rawSlots).map fun k => .joins k .proof .waitingSource false } := ⟨_, rfl⟩
  have hz3i : z3.index = i := by rw [hz3]; exact hz2i
  have hproofs : (c.proofSlots c.rawSlots).foldl (fun v k => v.addCard i k .proof .waitingSource false)
      (s.holding i z2 c1 d2 t p b2) = s.holding i z3 c1 d2 t p b2 := by
    rw [State.holding_addProofs _ hz2i, hz3]
  have hact {w : Work}
      (hw : (if t.auto = .allProofs then (s.holding i z3 c1 d2 t p b2).giveProofSend i n 1 else s.holding i z3 c1 d2 t p b2) = w) :
      (s.holding i z c d t p []).createDuties i n = w.check i := by
    unfold Work.createDuties
    dsimp only
    rw [hwants, State.holding_cw, hpolicy, hraws, hdevelop, hproofs]
    exact congrArg (Work.check i) hw
  have hz3t : z3.tethers = [] := by
    rw [hz3, hz2, hz1, hz0]
    cases develops <;> exact ht
  rw [← hc1]
  cases hwant : wanted with
  | false =>
    have hsend : sends = false := by rw [hplan.send, hwant]; rfl
    have hfull : full = false := by rw [hplan.fill, hwant]; rfl
    have hsame : (if t.auto = .allProofs then (s.holding i z3 c1 d2 t p b2).giveProofSend i n 1
        else s.holding i z3 c1 d2 t p b2) = s.holding i z3 c1 d2 t p b2 := by
      split
      · next ha =>
        have hno := of_decide_eq_false (hplan.want.symm.trans hwant)
        have htu : (s.holding i z3 c1 d2 t p b2).tu = t := rfl
        unfold Work.giveProofSend
        rw [State.holding_row hr hz3i, htu]
        dsimp only
        exact if_pos (Option.isSome_iff_ne_none.2 fun he => hno ⟨ha, he⟩)
      · rfl
    refine ⟨b2, by omega, hb2i, (hact hsame).trans (congrArg (Work.check i) ?_)⟩
    have hrow : z.withDuties c c.rawSlots (c.proofSlots c.rawSlots) develops false false false = z3 := by
      rw [hz3, hz2, hz1, hz0, Row.withDuties]
      cases develops with
      | true => exact congrArg (fun l => ({ z with
          policy := some c.policy
          cards := (c.rawSlots.map fun k => (c.slot k).firstCard k) ++
            (c.proofSlots c.rawSlots).map fun k => .joins k .proof .waitingSource false
          develop := .pending
          cls := .normal
          tethers := l } : Row)) ht.symm
      | false =>
        have hrest : ({ z with develop := .absent, tethers := [] } : Row) = z := by rw [← hdev, ← ht]
        conv_rhs => rw [← hrest]
        rfl
    rw [hsend, hfull, hrow, hd2]
    cases develops <;> rfl
  | true =>
    obtain ⟨ha, he⟩ := of_decide_eq_true (hplan.want.symm.trans hwant)
    have hdevs : develops = true := by rw [hplan.develop, ha]; simp
    have hz3d : z3.develop = .pending ∧ z3.cls = .normal := by
      rw [hz3, hz2, hdevs]
      exact ⟨rfl, rfl⟩
    by_cases hq : t.queue.length < 64
    · have hsend : sends = true := by rw [hplan.send, hwant, decide_eq_true hq]; rfl
      have hfull : full = false := by rw [hplan.fill, hwant, decide_eq_false (by omega)]; rfl
      have hjoin := State.holding_send_joins (n := n) (c := c1) (d := d2) (t := t) (p := p) (b := b2) hr hz3i he hq hz3d.1 hz3d.2
      refine ⟨b2 ++ [.deLook] ++ [.select], by rw [List.length_append, List.length_append]; exact Nat.add_le_add_right hb2l 2, ?_, (hact ((if_pos ha).trans hjoin)).trans (congrArg (Work.check i) ?_)⟩
      · intro x hx
        rcases List.mem_append.1 hx with hx | hx
        · rcases List.mem_append.1 hx with hx | hx
          · exact hb2i x hx
          · exact .inr (.inl (List.mem_singleton.1 hx))
        · exact .inr (.inr (List.mem_singleton.1 hx))
      · have hde : (d2.drop i).join i .urgent = { d with normal := d.normal, urgent := d.urgent ++ [i] } := by
          have hkeep (l : List Nat) (hl : i ∉ l) : l.filter (fun j => !(j == i)) = l :=
            List.filter_eq_self.2 fun j hj => by
              rw [Bool.not_eq_true', beq_eq_false_iff_ne]
              exact fun h => hl (h ▸ hj)
          have hn : i ∉ d.normal := fun h => hout (List.mem_append_left _ h)
          have hu : i ∉ d.urgent := fun h => hout (List.mem_append_right _ h)
          have hlast : (d.normal ++ [i]).filter (fun j => !(j == i)) = d.normal := by
            rw [List.filter_append, hkeep _ hn]
            simp
          rw [hd2, hdevs]
          show ({ d with
            normal := (d.normal ++ [i]).filter fun j => !(j == i)
            urgent := (d.urgent.filter fun j => !(j == i)) ++ [i] } : De) = _
          rw [hlast, hkeep _ hu]
        have hrow : z.withDuties c c.rawSlots (c.proofSlots c.rawSlots) true true true false =
            { z3 with tethers := z3.tethers ++ [allProofsDuty false], cls := .urgent } := by
          rw [hz3t, hz3, hz2, hz1, hz0, hdevs]
          rfl
        rw [hsend, hfull, hdevs, hrow, hde]
        rfl
    · have hsend : sends = false := by rw [hplan.send, hwant, decide_eq_false hq]; rfl
      have hfull : full = true := by rw [hplan.fill, hwant, decide_eq_true (by omega)]; rfl
      have hfail := State.holding_send_full (n := n) (c := c1) (d := d2) (t := t) (p := p) (b := b2) hr hz3i he (by omega)
      refine ⟨b2, by omega, hb2i, (hact ((if_pos ha).trans hfail)).trans (congrArg (Work.check i) ?_)⟩
      have hrow : z.withDuties c c.rawSlots (c.proofSlots c.rawSlots) true true false true =
          { z3 with tethers := z3.tethers ++ [allProofsDuty true] } := by
        rw [hz3t, hz3, hz2, hz1, hz0, hdevs]
        rfl
      rw [hsend, hfull, hdevs, hrow, hd2, hdevs]
      rfl

/-- A row with an open RAW duty and no proof stands (R16, R17). -/
theorem State.holding_check {b : List Report} (hr : s.bm.row? i = some r) (hz : z.index = i) {x : CardDuty} (hx : x ∈ z.cards)
    (hc : x.chain = .raw) (hf : x.state.isFinal = false) (hp : z.proof = none) :
    (s.holding i z c d t p b).check i = s.holding i z c d t p b := by
  rw [Work.check, Work.releaseCheck_same (State.holding_row hr hz) (.inl (Row.rawRead_of_card hx hc hf)) (.inr hp)]
  exact Work.settleCheck_same (State.holding_row hr hz) (Row.settles_of_open (Row.openDuties_of_card hx hf))

theorem Slot.firstCard_open (y : Slot) (k : SlotId) : (y.firstCard k).chain = .raw ∧ (y.firstCard k).state.isFinal = false := by
  refine ⟨rfl, ?_⟩
  show CardState.isFinal (if y.waits then .waitingSlot else .pending) = false
  split <;> rfl

end

end Sys2Proof.Machine
end

section
/-! PROOF. The end of a complete capture: the frame is closed, the row goes into the ring, out of the table or to HELD, and RDU
takes the end (R10, R12, R39, R61). -/

namespace Sys2Proof.Machine

/-- The state in which the frame of a capture is closed: its focus record and its chain header are written (R61). -/
def State.frameClosed (s : State) (o : Readout) (r : Row) (c : RawChain) (f : FocusRecord) : State :=
  { s with
    sru := { s.sru with readout := none, startTimer := false, endTimer := false }
    bm := s.bm.mapRow o.row fun y => { y with focus := some f }
    mem := chainWrite s.mem c.pages 0 (headerBytesOf r f.position f.moving f.state) }

section
variable {s : State} {o : Readout} {r : Row} {c : RawChain} {w : Work} {i : Nat}

theorem Work.frameEnds_closes {n : Nat} (ho : w.sru.readout = some o) (hread : o.reading = true) (hk : o.kind = .capture)
    (hl : o.lines = 4000) (hn : 4000 ≤ n) : w.frameEnds n = w.closeFrame o := by
  unfold Work.frameEnds
  rw [ho]
  dsimp only
  rw [if_pos hread, if_pos ⟨hk, hl, hn⟩]

theorem State.closeFrame_eq (hr : s.bm.row? o.row = some r) (hc : r.raw = some c) :
    Work.closeFrame o { toState := s, bus := [] } = Work.frameEndRow o.row
      { toState := s.frameClosed o r c (Work.focusRecord { toState := s, bus := [] } o), bus := [] } := by
  obtain ⟨f, hf⟩ : ∃ f, f = Work.focusRecord { toState := s, bus := [] } o := ⟨_, rfl⟩
  have hrow : (s.bm.mapRow o.row fun y => { y with focus := some f }).row? o.row = some { r with focus := some f } :=
    Bm.row?_mapRow_same (f := fun y => { y with focus := some f }) hr fun _ => rfl
  have hpages : Row.pagesOf { r with focus := some f } .raw = c.pages := by
    show (r.raw.map RawChain.pages).getD [] = _
    rw [hc]
    rfl
  unfold Work.closeFrame
  dsimp only
  rw [← hf]
  show (match (s.bm.mapRow o.row fun y => { y with focus := some f }).row? o.row with | some x => _ | none => _) = _
  rw [hrow]
  dsimp only
  rw [hpages]
  rfl

/-! ### The ends of the row -/

theorem Work.frameEndRow_pre (hr : w.bm.row? i = some r) (hl : r.life = .exposing) (hm : r.mark = some .opened) :
    w.frameEndRow i = (w.mapRow i fun x => { x with life := .pre, mark := none }).post (.rowEnded i (some .pre) none) := by
  unfold Work.frameEndRow
  rw [hr]
  dsimp only
  rw [if_pos hl, hm]

theorem Work.frameEndRow_removes (hr : w.bm.row? i = some r) (hl : r.life = .exposing) (hm : r.mark = some .dropped)
    (hc : r.raw = some c) : w.frameEndRow i = { w with
      bm := { w.bm.remove i with free := c.pages.foldr insertPage w.bm.free }
      bus := w.bus ++ [.deLook] ++ [.reclaim (Decidable.decide ((c.pages.foldr insertPage w.bm.free).length < w.bm.threshold))] ++
        [.rowEnded i none none] } := by
  have hrel : w.releaseRaw i = (w.mapRow i fun r => { r with raw := none }).freePages c.pages := by
    rw [Work.releaseRaw, hr, Option.bind_some, hc]
  unfold Work.frameEndRow
  rw [hr]
  dsimp only
  rw [if_pos hl, hm]
  dsimp only
  rw [hrel, ← Bm.remove_mapRow w.bm i (f := fun r => { r with raw := none }) (fun _ => rfl)]
  rfl

theorem Work.frameEndRow_holds (hr : w.bm.row? i = some r) (hl : r.life = .exposing) (ho : r.mark ≠ some .opened)
    (hd : r.mark ≠ some .dropped) :
    w.frameEndRow i = (w.hold i).post (.rowEnded i (some .held) (some w.bm.pickNumber)) := by
  unfold Work.frameEndRow
  rw [hr]
  dsimp only
  rw [if_pos hl]
  split
  · next h => exact absurd h ho
  · next h => exact absurd h hd
  · rfl
  · rfl

/-! ### RDU (R39, R40) -/

theorem Work.handle_rowEnded_pre (hc : w.rdu.capture = some { row := i, ofBurst := false }) (ho : w.rdu.openRow = some i) :
    w.handle (.rowEnded i (some .pre) none) =
      { w with rdu := { w.rdu with capture := none, openRow := none, ring := w.rdu.ring ++ [i] } } := by
  unfold Work.handle Work.captureEnds
  dsimp only
  rw [hc]
  dsimp only
  rw [if_pos rfl, if_pos ho]
  rfl

theorem Work.handle_rowEnded_held {x : Release} {b : BurstRecord} {n : Nat}
    (hc : w.rdu.capture = some { row := i, ofBurst := true }) (ho : w.rdu.openRow = none) (hr : w.rdu.release = some x)
    (hs : x.single = false) (horg : x.origin = .release) (he : x.ending = none) (hl : w.rdu.active.limit = 0)
    (hrec : w.rdu.record = some b) (hb : b.firstShot = 0) : w.handle (.rowEnded i (some .held) (some n)) =
      { w with rdu := { w.rdu with capture := none, record := some { b with firstShot := n } } } := by
  unfold Work.handle Work.captureEnds
  dsimp only
  rw [hc]
  dsimp only
  rw [if_pos rfl, if_neg (by rw [ho]; exact fun h => Option.noConfusion rfl (heq_of_eq h)), hr]
  dsimp only
  rw [if_pos rfl, Work.burstCaptureEnds, hs, if_neg Bool.false_ne_true, horg]
  refine (if_neg (show ¬ (Origin.release.isRemote = true ∧ w.rdu.remoteCount = 0) from fun h => Bool.noConfusion h.1)).trans ?_
  refine (if_neg (show ¬ (w.rdu.active.limit ≠ 0 ∧ w.rdu.active.limit ≤ w.rdu.counter) from fun h => h.1 hl)).trans ?_
  rw [he]
  dsimp only [Work.withRdu]
  rw [hrec, hr]
  show ({ w with rdu := { w.rdu with
    capture := none, release := some x, record := some (if some Life.held = some .held ∧ b.firstShot = 0 then _ else b) } } : Work) = _
  rw [if_pos ⟨rfl, hb⟩, ← hr]
  rfl

end

end Sys2Proof.Machine
end

section
/-! PROOF. The end of a complete capture as the statement gives it (R10, R12, R15, R61, R128, R129). -/

namespace Sys2Proof.Machine

section
variable {s : State} {o : Readout} {r z : Row} {c : RawChain} {i : Nat}

theorem Bm.numbered?_mapRow_none {b : Bm} {n : Nat} {f : Row → Row} (h : b.numbered? n = none)
    (hf : ∀ x, (f x).number = x.number) : (b.mapRow i f).numbered? n = none := by
  refine List.find?_eq_none.2 fun x hx hn => ?_
  obtain ⟨y, hy, hyx⟩ := List.mem_map.1 hx
  have hno := List.find?_eq_none.1 h y hy
  have hnum : x.number = y.number := by
    rw [← hyx]
    split
    · exact hf y
    · rfl
  rw [hnum] at hn
  exact hno hn

theorem Bm.pickNumber_free {b : Bm} (h : b.numbered? b.nextNumber = none) : b.pickNumber = b.nextNumber := by
  rw [Bm.pickNumber, Bm.freeNumber, h]
  rfl

/-- The state in which the frame of a capture is closed and a number is given out, its bytes in the chain header (R12), beside
the row that takes it. -/
def State.numbers (s : State) (o : Readout) (r : Row) (c : RawChain) (f : FocusRecord) (n : Nat) : State :=
  { s with
    sru := { s.sru with readout := none, startTimer := false, endTimer := false }
    bm := { s.bm with nextNumber := numberAfter n }
    mem := chainWrite (chainWrite s.mem c.pages 0 (headerBytesOf r f.position f.moving f.state)) c.pages 2 (leBytes 3 n) }

/-- The row of a complete frame as it enters HELD (R10, R12). -/
def Row.entersHeld (r : Row) (f : FocusRecord) (n : Nat) : Row :=
  { r with focus := some f, number := some n, life := .held, mark := none }

/-- A closed frame's row enters HELD. -/
theorem State.holds {f : FocusRecord} (hnd : (s.bm.rows.map Row.index).Nodup) (hr : s.bm.row? o.row = some r)
    (hc : r.raw = some c) (hn : s.bm.numbered? s.bm.nextNumber = none) :
    Work.hold o.row { toState := s.frameClosed o r c f, bus := [] } = Work.createDuties o.row s.bm.nextNumber
      ((s.numbers o r c f s.bm.nextNumber).holding o.row (r.entersHeld f s.bm.nextNumber)
        s.cw s.de s.tu (s.cp.raise .shotHeld (leBytes 3 s.bm.nextNumber)) []) := by
  obtain ⟨w, hw⟩ : ∃ w : Work, w = { toState := s.frameClosed o r c f, bus := [] } := ⟨_, rfl⟩
  have hbm : w.bm = s.bm.mapRow o.row fun y => { y with focus := some f } := by rw [hw]; rfl
  have hrow : w.bm.row? o.row = some { r with focus := some f } := by
    rw [hbm]
    exact Bm.row?_mapRow_same (f := fun y => { y with focus := some f }) hr fun _ => rfl
  have hnext : w.bm.nextNumber = s.bm.nextNumber := by rw [hbm]; rfl
  have hpick : w.bm.pickNumber = s.bm.nextNumber := by
    rw [← hnext]
    refine Bm.pickNumber_free ?_
    rw [hnext, hbm]
    exact Bm.numbered?_mapRow_none hn fun _ => rfl
  have hpages : (((w.bm.row? o.row).bind (·.raw)).map RawChain.pages).getD [] = c.pages := by
    rw [hrow, Option.bind_some]
    exact congrArg (fun x : Option RawChain => (x.map RawChain.pages).getD []) hc
  have hrows : ((w.bm.mapRow o.row fun y => { y with number := some s.bm.nextNumber }).mapRow o.row fun y =>
      { y with life := .held, mark := none }) = s.bm.mapRow o.row fun _ => r.entersHeld f s.bm.nextNumber := by
    rw [hbm, Bm.mapRow_mapRow s.bm o.row (f := fun y => { y with focus := some f }) fun _ => rfl,
      Bm.mapRow_mapRow s.bm o.row (f := fun y => { y with focus := some f, number := some s.bm.nextNumber }) fun _ => rfl]
    exact Bm.mapRow_congr hnd hr rfl
  rw [← hw]
  unfold Work.hold Work.numberRow
  dsimp only
  rw [hpick, hpages]
  refine congrArg (Work.createDuties o.row s.bm.nextNumber) ?_
  refine Eq.trans ?_ (congrArg (fun b : Bm => ({
    toState := { s.numbers o r c f s.bm.nextNumber with
      bm := { b with nextNumber := numberAfter s.bm.nextNumber }
      cw := s.cw
      de := s.de
      tu := s.tu
      cp := s.cp.raise .shotHeld (leBytes 3 s.bm.nextNumber) }
    bus := [] } : Work)) hrows)
  rw [hw]
  rfl

end

end Sys2Proof.Machine
end

section
/-! PROOF. The reports of a row's duties find nothing to do, and the end of a ring frame (R10, R39, R61). -/

namespace Sys2Proof.Machine

section
variable {s t : State} {o : Readout} {r : Row} {c : RawChain} {i : Nat}

/-- DE runs a job, and TU has no transfer and no bound link to look for one. -/
def State.busyBack (s : State) : Prop :=
  s.de.engine = .running ∧ s.tu.link ≠ .boundIdle ∧ s.tu.transfer = none ∧ s.tu.underTimer = false

theorem Work.handle_developChanged_unbound {w : Work} (h : w.toState.busyBack) (i : Nat) :
    w.handle (.developChanged i) = w := by
  obtain ⟨-, hl, ht, hu⟩ := h
  have hsel : w.selectEntry = w := Work.handle_select w hl
  show w.takeDevelop i = w
  unfold Work.takeDevelop
  split
  · have hfront : w.atFrontier = false := by
      unfold Work.atFrontier
      rw [ht]
      cases w.tu.link <;> rfl
    rw [hsel, Work.updateWait, hfront]
    exact congrArg (fun u => ({ w with tu := { w.tu with underTimer := u } } : Work)) hu.symm
  · rfl

theorem Work.handle_spent {w : Work} (h : w.toState.busyBack) {x : Report} (hx : x.isSpent i) : w.handle x = w := by
  rcases hx with rfl | rfl | rfl
  · exact Work.handle_developChanged_unbound h i
  · exact Work.handle_deLook w (.inl h.1)
  · exact Work.handle_select w h.2.1

theorem Work.Comes.spent (h : s.busyBack) {rest : List Report} {n : Nat}
    (hc : Work.Comes { toState := s, bus := rest } n t) {l : List Report} (hl : ∀ x ∈ l, Report.isSpent i x) :
    Work.Comes { toState := s, bus := l ++ rest } (l.length + n) t := by
  induction l with
  | nil => rw [List.nil_append, List.length_nil, Nat.zero_add]; exact hc
  | cons x l ih =>
    rw [List.length_cons, Nat.add_right_comm]
    exact .skip (Work.handle_spent (w := { toState := s, bus := l ++ rest }) h (hl x List.mem_cons_self))
      (ih fun y hy => hl y (List.mem_cons_of_mem x hy))

/-! ### Ring frames -/

/-- A ring frame that stands becomes PRE (R10, R40). -/
theorem exec_frameEnd_pre {n : BitVec 16} (hs : s.steady) (ho : s.sru.readout = some o) (hread : o.reading = true)
    (hk : o.kind = .capture) (hl : o.lines = 4000) (hn : 4000 ≤ n.toNat) (hr : s.bm.row? o.row = some r)
    (hlife : r.life = .exposing) (hc : r.raw = some c) (hm : r.mark = some .opened) (hopen : s.rdu.openRow = some o.row)
    (hcap : s.rdu.capture = some { row := o.row, ofBurst := false }) {f : FocusRecord}
    (hf : f = Work.focusRecord { toState := s, bus := [] } o) :
    exec (.frameEnd n) s = .next { s.frameClosed o r c f with
      rdu := { s.rdu with capture := none, openRow := none, ring := s.rdu.ring ++ [o.row] }
      bm := s.bm.mapRow o.row fun y => { y with focus := some f, life := .pre, mark := none } } := by
  have hrow : (s.frameClosed o r c f).bm.row? o.row = some { r with focus := some f } :=
    Bm.row?_mapRow_same (f := fun y => { y with focus := some f }) hr fun _ => rfl
  refine exec_comes (Work.frameEnds n.toNat) rfl (State.steady_congr (s := s) rfl rfl hs) ?_
  rw [Work.frameEnds_closes ho hread hk hl hn, State.closeFrame_eq hr hc, ← hf, Work.frameEndRow_pre (r := { r with focus := some f }) hrow hlife hm]
  refine .step (Work.handle_rowEnded_pre hcap hopen) (Work.Comes.same ?_)
  exact congrArg (fun b : Bm => ({ s.frameClosed o r c f with
    rdu := { s.rdu with capture := none, openRow := none, ring := s.rdu.ring ++ [o.row] }
    bm := b } : State)) (Bm.mapRow_mapRow s.bm o.row (f := fun y => { y with focus := some f }) fun _ => rfl)

/-- A ring frame that was dropped leaves the table (R10, R43). -/
theorem exec_frameEnd_removes {n : BitVec 16} (hs : s.steady) (ho : s.sru.readout = some o) (hread : o.reading = true)
    (hk : o.kind = .capture) (hl : o.lines = 4000) (hn : 4000 ≤ n.toNat) (hr : s.bm.row? o.row = some r)
    (hlife : r.life = .exposing) (hc : r.raw = some c) (hm : r.mark = some .dropped) (hopen : s.rdu.openRow = none)
    (hcap : s.rdu.capture = some { row := o.row, ofBurst := false }) (hb : s.backIdle) {f : FocusRecord}
    (hf : f = Work.focusRecord { toState := s, bus := [] } o) :
    exec (.frameEnd n) s = .next (({ s.frameClosed o r c f with
      rdu := { s.rdu with capture := none }
      bm := s.bm.remove o.row } : State).freed c.pages) := by
  have hrow : (s.frameClosed o r c f).bm.row? o.row = some { r with focus := some f } :=
    Bm.row?_mapRow_same (f := fun y => { y with focus := some f }) hr fun _ => rfl
  refine exec_comes (Work.frameEnds n.toNat) rfl (State.steady_congr (s := s) rfl rfl hs) ?_
  rw [Work.frameEnds_closes ho hread hk hl hn, State.closeFrame_eq hr hc, ← hf, Work.frameEndRow_removes (r := { r with focus := some f }) hrow hlife hm hc]
  refine Work.Comes.freed (by exact hb) (.step (Work.handle_rowEnded_dropped hcap hopen) (Work.Comes.same ?_))
  exact congrArg (fun b : Bm => (({ s.frameClosed o r c f with
    rdu := { s.rdu with capture := none }
    bm := b } : State).freed c.pages)) (Bm.remove_mapRow s.bm o.row (f := fun y => { y with focus := some f }) fun _ => rfl)

end

end Sys2Proof.Machine
end

section
/-! PROOF. The end of a complete capture whose row enters HELD with duties (R10, R12, R15, R39). -/

namespace Sys2Proof.Machine

/-- The frame end of a complete capture whose row enters HELD: what the statement supposes of the readout and the row. -/
structure State.EndsHeld (s : State) (o : Readout) (r : Row) (c : RawChain) : Prop where
  readout : s.sru.readout = some o
  reading : o.reading = true
  kind : o.kind = .capture
  lines : o.lines = 4000
  nodup : (s.bm.rows.map Row.index).Nodup
  row : s.bm.row? o.row = some r
  index : r.index = o.row
  life : r.life = .exposing
  raw : r.raw = some c
  notOpened : r.mark ≠ some .opened
  notDropped : r.mark ≠ some .dropped
  free : s.bm.numbered? s.bm.nextNumber = none

/-- The end is one of a burst that goes on, and the first of its shots (R39). -/
structure State.FirstOfBurst (s : State) (o : Readout) (b : BurstRecord) : Prop where
  closed : s.rdu.openRow = none
  capture : s.rdu.capture = some { row := o.row, ofBurst := true }
  release : ∃ x, s.rdu.release = some x ∧ x.single = false ∧ x.origin = .release ∧ x.ending = none
  limit : s.rdu.active.limit = 0
  record : s.rdu.record = some b
  first : b.firstShot = 0

/-- RDU when the capture has ended and its shot is the first of the burst. -/
def Rdu.firstHeld (d : Rdu) (b : BurstRecord) (n : Nat) : Rdu :=
  { d with capture := none, record := some { b with firstShot := n } }

section
variable {s t : State} {o : Readout} {r z : Row} {c : RawChain} {b : BurstRecord} {f : FocusRecord} {n : BitVec 16}

theorem State.frameClosed_pickNumber (hn : s.bm.numbered? s.bm.nextNumber = none) :
    (s.frameClosed o r c f).bm.pickNumber = s.bm.nextNumber :=
  Bm.pickNumber_free (b := (s.frameClosed o r c f).bm) (Bm.numbered?_mapRow_none hn fun _ => rfl)

/-- The step comes to what the duties and RDU make of it. -/
theorem State.EndsHeld.exec_frameEnd (h : s.EndsHeld o r c) (hn : 4000 ≤ n.toNat) (hf : f = Work.focusRecord { toState := s, bus := [] } o)
    (ht : t.steady) (hc : (Work.post (.rowEnded o.row (some .held) (some s.bm.nextNumber))
      (Work.createDuties o.row s.bm.nextNumber ((s.numbers o r c f s.bm.nextNumber).holding o.row
        (r.entersHeld f s.bm.nextNumber) s.cw s.de s.tu (s.cp.raise .shotHeld (leBytes 3 s.bm.nextNumber)) []))).Comes
      4096 t) : exec (.frameEnd n) s = .next t := by
  have hrow : (s.frameClosed o r c f).bm.row? o.row = some { r with focus := some f } :=
    Bm.row?_mapRow_same (f := fun y => { y with focus := some f }) h.row fun _ => rfl
  refine exec_comes (Work.frameEnds n.toNat) rfl ht ?_
  rw [Work.frameEnds_closes h.readout h.reading h.kind h.lines hn, State.closeFrame_eq h.row h.raw, ← hf,
    Work.frameEndRow_holds (r := { r with focus := some f }) hrow h.life h.notOpened h.notDropped,
    State.holds h.nodup h.row h.raw h.free, State.frameClosed_pickNumber h.free]
  exact hc

theorem Cw.joinedOf_writing (c : Cw) (i : Nat) (l : List SlotId) (k : SlotId) :
    (c.joinedOf i l k).writing = (c.slot k).writing := by
  unfold Cw.joinedOf Slot.joined
  split
  · rfl
  · split <;> rfl

theorem State.FirstOfBurst.handle {w : Work} (h : s.FirstOfBurst o b) (hw : w.rdu = s.rdu) (m : Nat) :
    w.handle (.rowEnded o.row (some .held) (some m)) = { w with rdu := s.rdu.firstHeld b m } := by
  obtain ⟨hclosed, hcap, ⟨x, hrel, hsingle, horg, hend⟩, hlim, hrec, hfirst⟩ := h
  rw [← hw] at hclosed hcap hrel hlim hrec ⊢
  exact Work.handle_rowEnded_held hcap hclosed hrel hsingle horg hend hlim hrec hfirst

/-- The row takes its duties and stands, as a RAW duty of it is open. -/
theorem State.EndsHeld.exec_duties (h : s.EndsHeld o r c) (hn : 4000 ≤ n.toNat)
    (hf : f = Work.focusRecord { toState := s, bus := [] } o) (hs : s.steady) (hb : s.FirstOfBurst o b)
    (hcards : r.cards = []) (htethers : r.tethers = []) (hdev : r.develop = .absent) (hproof : r.proof = none)
    (ha : s.cw.a.state ∈ [SlotState.absent, .present, .writing, .suspended])
    (hbs : s.cw.b.state ∈ [SlotState.absent, .present, .writing, .suspended])
    (hout : o.row ∉ s.de.normal ++ s.de.urgent) (hbusy : s.busyBack) {develops wanted sends full : Bool}
    (hplan : DutyPlan s.cw s.de s.tu s.bm.nextNumber develops wanted sends full)
    (ht : t = { ((s.numbers o r c f s.bm.nextNumber).holding o.row
        ((r.entersHeld f s.bm.nextNumber).withDuties s.cw s.cw.rawSlots (s.cw.proofSlots s.cw.rawSlots) develops wanted sends full)
        { s.cw with a := s.cw.joinedOf o.row s.cw.rawSlots .a, b := s.cw.joinedOf o.row s.cw.rawSlots .b }
        { s.de with
          normal := if develops && !sends then s.de.normal ++ [o.row] else s.de.normal
          urgent := if sends then s.de.urgent ++ [o.row] else s.de.urgent }
        { s.tu with queue := if sends then insertTail (allProofsEntry o.row s.bm.nextNumber) s.tu.queue else s.tu.queue }
        (if full then (s.cp.raise .shotHeld (leBytes 3 s.bm.nextNumber)).raise .sendFailed
          (leBytes 3 s.bm.nextNumber ++ [1, 2]) else s.cp.raise .shotHeld (leBytes 3 s.bm.nextNumber)) []).toState with
      rdu := s.rdu.firstHeld b s.bm.nextNumber }) :
    exec (.frameEnd n) s = .next t := by
  obtain ⟨u, hu⟩ : ∃ u : State, u = s.numbers o r c f s.bm.nextNumber := ⟨_, rfl⟩
  have hur : u.bm.row? o.row = some r := by rw [hu]; exact h.row
  obtain ⟨z, hz⟩ : ∃ z : Row, z = r.entersHeld f s.bm.nextNumber := ⟨_, rfl⟩
  have hzi : z.index = o.row := by rw [hz]; exact h.index
  obtain ⟨l, hl, hspent, heq⟩ := State.holding_duties (s := u) (p := s.cp.raise .shotHeld (leBytes 3 s.bm.nextNumber)) hur hzi
    (by rw [hz]; exact hcards) (by rw [hz]; exact htethers) (by rw [hz]; exact hdev) ha hbs hout hplan
  obtain ⟨z1, hz1⟩ : ∃ z1 : Row, z1 = z.withDuties s.cw s.cw.rawSlots (s.cw.proofSlots s.cw.rawSlots) develops wanted sends full :=
    ⟨_, rfl⟩
  have hz1i : z1.index = o.row := by rw [hz1]; exact hzi
  have hz1p : z1.proof = none := by rw [hz1, hz]; exact hproof
  obtain ⟨k, hk⟩ : ∃ k, k ∈ s.cw.rawSlots := by
    rcases s.cw.rawSlots_forms with h | h | h <;> rw [h] <;> exact ⟨_, List.mem_cons_self⟩
  have hmem : (s.cw.slot k).firstCard k ∈ z1.cards := by
    rw [hz1]
    exact List.mem_append_left _ (List.mem_map_of_mem hk)
  have hopen := Slot.firstCard_open (s.cw.slot k) k
  have hcheck := State.holding_check (s := u)
    (c := { s.cw with a := s.cw.joinedOf o.row s.cw.rawSlots .a, b := s.cw.joinedOf o.row s.cw.rawSlots .b })
    (d := { s.de with
          normal := if develops && !sends then s.de.normal ++ [o.row] else s.de.normal
          urgent := if sends then s.de.urgent ++ [o.row] else s.de.urgent })
    (t := { s.tu with queue := if sends then insertTail (allProofsEntry o.row s.bm.nextNumber) s.tu.queue else s.tu.queue })
    (p := if full then (s.cp.raise .shotHeld (leBytes 3 s.bm.nextNumber)).raise .sendFailed
          (leBytes 3 s.bm.nextNumber ++ [1, 2]) else s.cp.raise .shotHeld (leBytes 3 s.bm.nextNumber)) (b := l)
    hur hz1i hmem hopen.1 hopen.2 hz1p
  have hsteady : t.steady := by
    intro x hx
    obtain ⟨hresp, hquiet⟩ := hs x (by rw [ht] at hx; exact hx)
    refine ⟨hresp, ?_⟩
    rw [ht, ← hquiet]
    show ((s.cw.joinedOf o.row s.cw.rawSlots .a).writing.isNone && (s.cw.joinedOf o.row s.cw.rawSlots .b).writing.isNone) =
      s.cw.quiet
    rw [Cw.joinedOf_writing, Cw.joinedOf_writing]
    rfl
  refine h.exec_frameEnd hn hf hsteady ?_
  rw [← hu, ← hz] at ht ⊢
  rw [heq, ← hz1, hcheck]
  rw [← hz1] at ht
  refine (?_ : Work.Comes { toState := _, bus := l ++ [.rowEnded o.row (some .held) (some s.bm.nextNumber)] } 4096 t)
  have hcount : l.length + (4096 - l.length) = 4096 := by omega
  rw [← hcount]
  refine Work.Comes.spent (i := o.row) (by rw [hu]; exact hbusy) ?_ hspent
  obtain ⟨k, hk⟩ : ∃ k, 4096 - l.length = k + 1 := ⟨4095 - l.length, by omega⟩
  rw [hk]
  refine .step (hb.handle (by rw [hu]; rfl) s.bm.nextNumber) (Work.Comes.same ?_)
  rw [ht]
  rfl

end

end Sys2Proof.Machine
end

section
/-! PROOF. The end of a complete capture whose row enters HELD and settles at once, as its slot takes no card duty and nothing
is to be developed (R15, R17, R129). -/

namespace Sys2Proof.Machine

/-- The slot fails the duties it is given, with this cause (R129). -/
def Slot.refuses (y : Slot) (cause : CardCause) : Prop :=
  (y.state = .locked ∧ cause = .locked) ∨ (y.state = .fault ∧ cause = .fault)

/-- The card duty that such a slot has failed. -/
def Slot.failedCard (k : SlotId) (cause : CardCause) : CardDuty :=
  { slot := k, chain := .raw, state := .failed, pieces := [], spoiled := false, cause := some cause, reassigned := false }

/-- A row that has settled without a copy on a card. -/
def Row.noCopy (z : Row) (k : SlotId) (cause : CardCause) : Row :=
  { z with cards := [Slot.failedCard k cause], raw := none, life := .settled, outcome := some .noCopy }

section
variable {s t : State} {o : Readout} {r z : Row} {c : RawChain} {b : BurstRecord} {f : FocusRecord} {n : BitVec 16} {i m : Nat}
  {w : Work} {q : DutyRef} {x : CardDuty} {k : SlotId} {cause : CardCause} {d : De} {u : Tu} {p : Cp} {cw : Cw}

/-- The first state of a duty whose slot refuses it (R129). -/
theorem Work.firstState_refused (hx : w.duty? q = some x) (hst : (w.cw.slot x.slot).refuses cause) :
    w.firstState q = w.storeFail q cause false := by
  unfold Work.firstState
  rw [hx]
  dsimp only
  rcases hst with ⟨h, hc⟩ | ⟨h, hc⟩ <;> rw [h, hc]

theorem Work.storeFail_eq (hr : w.bm.row? q.row = some r) (hx : w.duty? q = some x) (hf : x.state.isFinal = false)
    (hre : w.reassigns r x cause = false) : w.storeFail q cause false =
      (w.mapDuty q (CardDuty.lost cause false)).raise .storeFailed (leBytes 3 (r.number.getD 0) ++ [slotByte x.slot, cause.byte]) := by
  unfold Work.storeFail
  rw [hr, hx]
  dsimp only
  rw [hf, if_neg Bool.false_ne_true, hre, if_neg Bool.false_ne_true]
  rfl

/-- The RAW duty of a row under a policy without failover fails where its slot refuses it. -/
theorem State.holding_giveRaw_refused (hr : s.bm.row? i = some r) (hz : z.index = i) (hc : z.cards = [])
    (hn : z.number = some m) (hpol : z.policy ≠ some .overflow) (hst : (cw.slot k).refuses cause) :
    (s.holding i z cw d u p []).giveRaw i k = s.holding i { z with cards := [Slot.failedCard k cause] } cw d u
      (p.raise .storeFailed (leBytes 3 m ++ [slotByte k, cause.byte])) [] := by
  obtain ⟨x, hx⟩ : ∃ x : CardDuty, x = .joins k .raw .waitingSource false := ⟨_, rfl⟩
  obtain ⟨z1, hz1⟩ : ∃ z1 : Row, z1 = { z with cards := z.cards ++ [x] } := ⟨_, rfl⟩
  have hz1i : z1.index = i := by rw [hz1]; exact hz
  have hcards : z1.cards = [] ++ [x] := by rw [hz1, hc]
  have hxs : x.slot = k := by rw [hx]; rfl
  have hxf : x.state.isFinal = false := by rw [hx]; rfl
  have hduty : (s.holding i z1 cw d u p []).duty? { row := i, place := 0 } = some x := State.holding_duty hr hz1i hcards
  have hmap : (s.holding i z1 cw d u p []).mapDuty { row := i, place := 0 } (CardDuty.lost cause false) =
      s.holding i { z1 with cards := [] ++ [CardDuty.lost cause false x] } cw d u p [] :=
    State.holding_mapDuty hz1i hcards hxf _
  have hrow := State.holding_row (c := cw) (d := d) (t := u) (p := p) (b := []) hr hz1i
  have hplace : (((s.holding i z cw d u p []).bm.row? i).map fun r => r.cards.length).getD 0 = 0 := by
    rw [State.holding_row hr hz]
    exact congrArg List.length hc
  have hact : (s.holding i z cw d u p []).giveRaw i k = (s.holding i z1 cw d u p []).firstState { row := i, place := 0 } := by
    rw [hz1, hx, ← State.holding_addCard hz]
    unfold Work.giveRaw
    rw [hplace]
  have hre : (s.holding i z1 cw d u p []).reassigns z1 x cause = false := by
    rw [Work.reassigns, decide_eq_false (p := z1.policy = some .overflow) (by rw [hz1]; exact hpol)]
    simp only [Bool.and_false, Bool.false_and]
  have hno : z1.number.getD 0 = m := by
    rw [hz1]
    exact congrArg (fun y : Option Nat => y.getD 0) hn
  have hlost : [] ++ [CardDuty.lost cause false x] = [Slot.failedCard k cause] := by rw [hx]; rfl
  rw [hact, Work.firstState_refused hduty (by rw [hxs]; exact hst), Work.storeFail_eq hrow hduty hxf hre,
    hmap, hno, hxs, hlost, hz1]
  rfl

/-- Under a policy of one slot with proofs-to-card off and nothing to develop, the duties of a row are that one. -/
theorem State.holding_duties_refused (hr : s.bm.row? i = some r) (hz : z.index = i) (hl : z.life = .held)
    (hc : z.cards = []) (hn : z.number = some m) (hraw : z.raw = some c) (hp : z.proof = none) (hdev : z.develop = .absent)
    (ht : z.tethers = []) (hdis : z.discarding = false) (hslots : cw.rawSlots = [k]) (hov : cw.policy ≠ .overflow)
    (hsplit : cw.policy ≠ .split) (hproofs : cw.proofs = false) (hauto : d.auto = false) (hall : u.auto ≠ .allProofs)
    (hst : (cw.slot k).refuses cause) :
    (s.holding i z cw d u p []).createDuties i m = { toState := { (s.holding i
        (Row.noCopy { z with policy := some cw.policy } k cause) cw d u
        ((p.raise .storeFailed (leBytes 3 m ++ [slotByte k, cause.byte])).raise .shotSettled (leBytes 3 m)) []).toState with
      bm := { (s.bm.mapRow i fun _ => Row.noCopy { z with policy := some cw.policy } k cause) with
        free := c.pages.foldr insertPage s.bm.free } }, bus := s.freesPages c.pages } := by
  obtain ⟨z0, hz0⟩ : ∃ z0 : Row, z0 = { z with policy := some cw.policy } := ⟨_, rfl⟩
  have hz0i : z0.index = i := by rw [hz0]; exact hz
  obtain ⟨z1, hz1⟩ : ∃ z1 : Row, z1 = { z0 with cards := [Slot.failedCard k cause] } := ⟨_, rfl⟩
  have hz1i : z1.index = i := by rw [hz1]; exact hz0i
  have hpolicy : (s.holding i z cw d u p []).mapRow i (fun r => { r with policy := some cw.policy }) =
      s.holding i z0 cw d u p [] := by
    rw [hz0]
    exact State.holding_mapRow hz _
  have hgive : (s.holding i z0 cw d u p []).giveRaw i k = s.holding i z1 cw d u
      (p.raise .storeFailed (leBytes 3 m ++ [slotByte k, cause.byte])) [] := by
    rw [hz1]
    exact State.holding_giveRaw_refused hr hz0i (by rw [hz0]; exact hc) (by rw [hz0]; exact hn)
      (by rw [hz0]; exact fun h => hov (Option.some.inj h)) hst
  have hwants : (s.holding i z cw d u p []).wantsDevelop = false := by
    show (d.auto || Decidable.decide (cw.policy = .split) || cw.proofs || Decidable.decide (u.auto = .allProofs)) = false
    rw [hauto, hproofs, decide_eq_false hsplit, decide_eq_false hall]
    rfl
  have hnoproofs : cw.proofSlots [k] = [] := by
    rw [Cw.proofSlots, if_neg hsplit, hproofs]
    rfl
  have hact : (s.holding i z cw d u p []).createDuties i m = (s.holding i z1 cw d u
      (p.raise .storeFailed (leBytes 3 m ++ [slotByte k, cause.byte])) []).check i := by
    unfold Work.createDuties
    dsimp only
    rw [hwants, State.holding_cw, hpolicy, hslots, hnoproofs, List.foldl_cons, List.foldl_nil, hgive]
    exact congrArg (Work.check i) (if_neg hall)
  have hfinal : ∀ y ∈ z1.cards, y.state.isFinal = true := by
    rw [hz1]
    exact fun y hy => by rw [List.mem_singleton.1 hy]; rfl
  have houtcome : z1.settledOutcome = .noCopy := by
    rw [hz1, hz0]
    unfold Row.settledOutcome
    rw [if_neg (by rw [hdis]; exact Bool.false_ne_true)]
    exact if_pos rfl
  rw [hact, Work.check_settles (r := z1) (c := c) (State.holding_row hr hz1i) (by rw [hz1, hz0]; exact hl)
    (by rw [hz1, hz0]; exact hraw) (by rw [hz1, hz0]; exact hp) (by rw [hz1, hz0]; exact congrArg DevelopState.isFinal hdev)
    hfinal (by rw [hz1, hz0, ht]; exact fun y hy => absurd hy List.not_mem_nil) houtcome]
  have hno : z1.number.getD 0 = m := by
    rw [hz1, hz0]
    exact congrArg (fun y : Option Nat => y.getD 0) hn
  have hbm := Bm.mapRow_put (b := s.bm) hz1i fun y => { y with raw := none, life := .settled, outcome := some .noCopy }
  unfold State.rowSettled State.raised
  rw [hno]
  refine (congrArg (fun y : Bm => ({ toState := { (s.holding i z1 cw d u
      ((p.raise .storeFailed (leBytes 3 m ++ [slotByte k, cause.byte])).raise .shotSettled (leBytes 3 m)) []).toState with
      bm := { y with free := c.pages.foldr insertPage s.bm.free } }, bus := s.freesPages c.pages } : Work)) hbm).trans ?_
  rw [hz1, hz0]
  rfl

/-- The row settles at once. -/
theorem State.EndsHeld.exec_settles (h : s.EndsHeld o r c) (hn : 4000 ≤ n.toNat)
    (hf : f = Work.focusRecord { toState := s, bus := [] } o) (hs : s.steady) (hb : s.FirstOfBurst o b)
    (hcards : r.cards = []) (htethers : r.tethers = []) (hdev : r.develop = .absent) (hproof : r.proof = none)
    (hdis : r.discarding = false) (hslots : s.cw.rawSlots = [k]) (hov : s.cw.policy ≠ .overflow)
    (hsplit : s.cw.policy ≠ .split) (hproofs : s.cw.proofs = false) (hauto : s.de.auto = false)
    (hall : s.tu.auto ≠ .allProofs) (hst : (s.cw.slot k).refuses cause) (hidle : s.backIdle)
    (ht : t = { ((s.numbers o r c f s.bm.nextNumber).holding o.row
        (Row.noCopy { r.entersHeld f s.bm.nextNumber with policy := some s.cw.policy } k cause) s.cw s.de
        { s.tu with reclaim := decide ((c.pages.foldr insertPage s.bm.free).length < s.bm.threshold) }
        (((s.cp.raise .shotHeld (leBytes 3 s.bm.nextNumber)).raise .storeFailed (leBytes 3 s.bm.nextNumber ++
          [slotByte k, cause.byte])).raise .shotSettled (leBytes 3 s.bm.nextNumber)) []).toState with
      rdu := s.rdu.firstHeld b s.bm.nextNumber
      bm := { (s.bm.mapRow o.row fun _ => Row.noCopy { r.entersHeld f s.bm.nextNumber with
          policy := some s.cw.policy } k cause) with
        nextNumber := numberAfter s.bm.nextNumber
        free := c.pages.foldr insertPage s.bm.free } }) :
    exec (.frameEnd n) s = .next t := by
  obtain ⟨v, hv⟩ : ∃ v : State, v = s.numbers o r c f s.bm.nextNumber := ⟨_, rfl⟩
  have hvr : v.bm.row? o.row = some r := by rw [hv]; exact h.row
  have hduties := State.holding_duties_refused (s := v) (z := r.entersHeld f s.bm.nextNumber) (d := s.de) (u := s.tu)
    (p := s.cp.raise .shotHeld (leBytes 3 s.bm.nextNumber)) hvr h.index rfl hcards rfl h.raw hproof hdev htethers hdis
    hslots hov hsplit hproofs hauto hall hst
  refine h.exec_frameEnd hn hf (State.steady_congr (s := s) (by rw [ht]; rfl) (by rw [ht]; rfl) hs) ?_
  rw [← hv, hduties]
  refine Work.Comes.freed (by rw [hv]; exact hidle) (.step (hb.handle (by rw [hv]; rfl) s.bm.nextNumber) (Work.Comes.same ?_))
  rw [ht, hv]
  rfl

end

end Sys2Proof.Machine
end

section
/-! PROOF. The end of a complete capture as the statement gives it (R10, R12, R15, R61, R128, R129). -/

namespace Sys2Proof.Machine

/-- A row gets card PROOF duties under SPLIT and with proofs-to-card on (R15 step 3). -/
theorem Cw.proofSlots_ne_nil (c : Cw) :
    decide (c.proofSlots c.rawSlots ≠ []) = (decide (c.policy = .split) || c.proofs) := by
  have hraw : c.rawSlots ≠ [] := by
    rcases c.rawSlots_forms with h | h | h <;> rw [h] <;> exact List.cons_ne_nil _ _
  by_cases hp : c.policy = .split
  · rw [Cw.proofSlots_of_split hp, decide_eq_true hp]
    rfl
  · rw [Cw.proofSlots_of_ne_split hp, decide_eq_false hp]
    cases c.proofs with
    | true => exact decide_eq_true hraw
    | false => rfl

theorem State.raised_if {t : State} {p : Cp} {full : Bool} {k : Notice} {l : List Byte} (hp : t.cp = p) :
    ({ t with cp := if full then p.raise k l else p } : State) = if full then t.raised k l else t := by
  subst hp
  cases full <;> rfl

/-- Settles O40: the frame is closed, and its row goes the way of its mark; into HELD with the duties of R15. -/
theorem completeFramesEnterHeldOrTheRing : Obligations.CompleteFramesEnterHeldOrTheRing := by
  intro s n o r c hs hnd ho hread hk hl hn hr hri hlife hc f header closed
  have hf : f = Work.focusRecord { toState := s, bus := [] } o := rfl
  refine ⟨fun hm hopen hcap => ?_, fun hm hopen hcap hb => ?_, ?_⟩
  · exact exec_frameEnd_pre hs ho hread hk hl hn hr hlife hc hm hopen hcap hf
  · exact exec_frameEnd_removes hs ho hread hk hl hn hr hlife hc hm hopen hcap hb hf
  · intro x b hm1 hm2 hopen hcap hfree hdev hproof hcards htethers hrel hsingle horg hend hlim hrec hfirst shot held
    have hends : s.EndsHeld o r c := ⟨ho, hread, hk, hl, hnd, hr, hri, hlife, hc, hm1, hm2, hfree⟩
    have hburst : s.FirstOfBurst o b := ⟨hopen, hcap, ⟨x, hrel, hsingle, horg, hend⟩, hlim, hrec, hfirst⟩
    clear_value f
    refine ⟨fun ha hb heng hout hlink htr hund => ?duties, fun k hk2 hproofs hauto hall hidle hdis cause hcause => ?settles⟩
    case duties =>
      intro slots
      have hslots : slots = s.cw.rawSlots := by
        cases hp : s.cw.policy with
        | mirror =>
          rw [Cw.rawSlots_of_mirror hp]
          dsimp only [slots]
          rw [hp]
        | overflow =>
          have hready : s.cw.a.state ≠ .ready := fun h => by
            rw [h] at ha
            exact absurd ha (by decide)
          rw [Cw.rawSlots_of_overflow hp]
          dsimp only [slots]
          rw [hp]
          simp only [hready, false_or]
        | split =>
          rw [Cw.rawSlots_of_split hp]
          dsimp only [slots]
          rw [hp]
        | singleA =>
          rw [Cw.rawSlots_of_singleA hp]
          dsimp only [slots]
          rw [hp]
        | singleB =>
          rw [Cw.rawSlots_of_singleB hp]
          dsimp only [slots]
          rw [hp]
      clear_value slots
      subst hslots
      intro proofs wanted sends full develops waits card joined e t
      have hplan : DutyPlan s.cw s.de s.tu s.bm.nextNumber develops wanted sends full := by
        refine ⟨?_, rfl, rfl, rfl⟩
        show (s.de.auto || decide (s.cw.proofSlots s.cw.rawSlots ≠ []) || decide (s.tu.auto = .allProofs)) = _
        rw [Cw.proofSlots_ne_nil, ← Bool.or_assoc s.de.auto]
      have hrow : (s.bm.mapRow o.row fun _ => (r.entersHeld f s.bm.nextNumber).withDuties s.cw s.cw.rawSlots
          (s.cw.proofSlots s.cw.rawSlots) develops wanted sends full) = s.bm.mapRow o.row fun y => { y with
            focus := some f, number := some shot, life := .held, mark := none, policy := some s.cw.policy
            cards := (s.cw.rawSlots.map fun i => card i .raw (if waits i then .waitingSlot else .pending)) ++
              (proofs.map fun i => card i .proof .waitingSource)
            develop := if develops then .pending else .absent
            cls := if sends then .urgent else if develops then .normal else y.cls
            tethers := if wanted then [{ chain := .proof, state := if full then .failed else .pending, source := .buffer,
                                         prio := 1, early := true, cause := if full then some .full else none }]
              else [] } := Bm.mapRow_congr hnd hr rfl
      refine (hends.exec_duties hn hf hs hburst hcards htethers hdev hproof ha hb hout ⟨heng, hlink, htr, hund⟩ hplan rfl).trans ?_
      refine (congrArg (fun y : Bm => Host.Outcome.next ({ t with
        bm := { y with nextNumber := numberAfter shot }
        cp := if full then (s.cp.raise .shotHeld (leBytes 3 shot)).raise .sendFailed (leBytes 3 shot ++ [1, 2])
          else s.cp.raise .shotHeld (leBytes 3 shot) } : State)) hrow).trans ?_
      exact congrArg Host.Outcome.next (State.raised_if (t := t) (full := full) rfl)
    case settles =>
      have hcard : (s.cw.slot k).refuses cause := hcause
      have hpol : s.cw.policy ≠ .overflow ∧ s.cw.policy ≠ .split ∧ s.cw.rawSlots = [k] := by
        rcases hk2 with ⟨hp, rfl⟩ | ⟨hp, rfl⟩
        · exact ⟨fun h => Policy.noConfusion (hp.symm.trans h), fun h => Policy.noConfusion (hp.symm.trans h),
            Cw.rawSlots_of_singleA hp⟩
        · exact ⟨fun h => Policy.noConfusion (hp.symm.trans h), fun h => Policy.noConfusion (hp.symm.trans h),
            Cw.rawSlots_of_singleB hp⟩
      obtain ⟨hov, hsplit, hslots⟩ := hpol
      have hrow : (s.bm.mapRow o.row fun _ => Row.noCopy { r.entersHeld f s.bm.nextNumber with policy := some s.cw.policy } k
          cause) = s.bm.mapRow o.row fun y => { y with
            focus := some f, number := some shot, mark := none, policy := some s.cw.policy
            life := .settled, raw := none, outcome := some .noCopy
            cards := [{ slot := k, chain := .raw, state := .failed, pieces := [], spoiled := false, cause := some cause,
                        reassigned := false }] } := Bm.mapRow_congr hnd hr rfl
      refine (hends.exec_settles hn hf hs hburst hcards htethers hdev hproof hdis hslots hov hsplit hproofs hauto hall hcard hidle
        rfl).trans ?_
      refine (congrArg (fun y : Bm => Host.Outcome.next ({ ((s.numbers o r c f s.bm.nextNumber).holding o.row
          (Row.noCopy { r.entersHeld f s.bm.nextNumber with policy := some s.cw.policy } k cause) s.cw s.de
          { s.tu with reclaim := decide ((c.pages.foldr insertPage s.bm.free).length < s.bm.threshold) }
          (((s.cp.raise .shotHeld (leBytes 3 s.bm.nextNumber)).raise .storeFailed (leBytes 3 s.bm.nextNumber ++
            [slotByte k, cause.byte])).raise .shotSettled (leBytes 3 s.bm.nextNumber)) []).toState with
        rdu := s.rdu.firstHeld b s.bm.nextNumber
        bm := { y with nextNumber := numberAfter s.bm.nextNumber, free := c.pages.foldr insertPage s.bm.free } } : State))
        hrow).trans ?_
      rfl

end Sys2Proof.Machine
end
